-- ==== Sys2Proof/Word.lean ====
section
/-!
DEFINITION. The words the manual uses: bytes, 32-bit register words and the
plainest arithmetic on naturals read as unsigned or two's-complement fields
(spec/00_scope.md, "Numbers and units").
-/
namespace Sys2Proof

/-- One byte of memory, of a packet or of a dictionary value. -/
abbrev Byte := BitVec 8

/-- One BAR0 register word (R3). -/
abbrev Word := BitVec 32

/-- A value of varying length, lowest byte first. -/
abbrev Bytes := List Byte

end Sys2Proof
end

