-- ==== Sys2Proof/Machine/Arith.lean ====
section
/-!
DEFINITION. Bit fields, two's complement, byte order and the rounding functions of the manual
(spec/06_ray_model_and_optics.md R190: rsh, rdiv, floor_div; spec/00_scope.md: little-endian values).
-/
namespace Sys2Proof.Machine

/-- Bits `hi:lo` of a natural. -/
def bits (v hi lo : Nat) : Nat := v / 2 ^ lo % 2 ^ (hi + 1 - lo)

/-- Bit `n` of a natural, as a Bool. -/
def bit (v n : Nat) : Bool := v / 2 ^ n % 2 == 1

/-- 1 for true, 0 for false. -/
def b2n (b : Bool) : Nat := if b then 1 else 0

/-- A `w`-bit field read as two's complement. -/
def sInt (w v : Nat) : Int :=
  if v % 2 ^ w < 2 ^ (w - 1) then (v % 2 ^ w : Int) else (v % 2 ^ w : Int) - 2 ^ w

/-- An integer stored in `w` bits, two's complement. -/
def uNat (w : Nat) (i : Int) : Nat := (i % (2 ^ w : Int)).toNat

/-- floor_div of R190. -/
def floorDiv (a b : Int) : Int := Int.fdiv a b

/-- rsh of R190: arithmetic shift right by `k`, rounding to nearest, ties toward plus infinity; `k = 0` shifts nothing. -/
def rsh (x : Int) (k : Nat) : Int := if k = 0 then x else Int.fdiv (x + 2 ^ (k - 1)) (2 ^ k)

/-- rdiv of R190: quotient rounded to nearest, ties away from zero. -/
def rdiv (n d : Int) : Int :=
  let q : Int := ((2 * n.natAbs + d.natAbs) / (2 * d.natAbs) : Nat)
  if (decide (n < 0)) == (decide (d < 0)) then q else -q

/-- An integer limited to a range. -/
def clampI (x lo hi : Int) : Int := if x < lo then lo else if x > hi then hi else x

/-- Saturating natural. -/
def satN (v max : Nat) : Nat := if v > max then max else v

/-- Rounded-up quotient. -/
def ceilDiv (a b : Nat) : Nat := (a + b - 1) / b

/-- `n` bytes of a natural, lowest byte first. -/
def toLE : Nat → Nat → Bytes
  | 0, _ => []
  | n + 1, v => BitVec.ofNat 8 v :: toLE n (v / 256)

/-- A natural from bytes, lowest byte first. -/
def fromLE : Bytes → Nat
  | [] => 0
  | b :: bs => b.toNat + 256 * fromLE bs

/-- `n` bytes of a list from offset `o`, missing bytes read as 0. -/
def slice (bs : Bytes) (o n : Nat) : Bytes :=
  let t := (bs.drop o).take n
  t ++ List.replicate (n - t.length) 0

/-- The little-endian field of `n` bytes at offset `o`. -/
def fieldLE (bs : Bytes) (o n : Nat) : Nat := fromLE (slice bs o n)

/-- The same field read as two's complement. -/
def fieldLES (bs : Bytes) (o n : Nat) : Int := sInt (8 * n) (fieldLE bs o n)

/-- Replace the bytes of `bs` from offset `o` by `v` (missing bytes before `o` are 0). -/
def splice (bs : Bytes) (o : Nat) (v : Bytes) : Bytes :=
  slice bs 0 o ++ v ++ bs.drop (o + v.length)

/-- Number of set bits among the low `n`. -/
def popcount (n v : Nat) : Nat := ((List.range n).filter (bit v ·)).length

/-- The set bits among the low `n`, ascending. -/
def bitList (n v : Nat) : List Nat := (List.range n).filter (bit v ·)

/-- Set bit `k` of `v`. -/
def setBit (v k : Nat) : Nat := if bit v k then v else v + 2 ^ k

/-- Clear bit `k` of `v`. -/
def clrBit (v k : Nat) : Nat := if bit v k then v - 2 ^ k else v

/-- Write bit `k` of `v`. -/
def putBit (v k : Nat) (b : Bool) : Nat := if b then setBit v k else clrBit v k

/-- The natural whose set bits are those below `n` that satisfy `p`. -/
def maskOf (n : Nat) (p : Nat → Bool) : Nat :=
  (List.range n).foldl (fun a k => if p k then a + 2 ^ k else a) 0

/-- First index below `n` that satisfies `p`. -/
def firstIdx (n : Nat) (p : Nat → Bool) : Option Nat := (List.range n).find? p

/-- Maximum of a list of naturals, 0 when empty. -/
def maxN (l : List Nat) : Nat := l.foldl Nat.max 0

/-- Sum of a list of naturals. -/
def sumN (l : List Nat) : Nat := l.foldl (· + ·) 0

/-- Replace element `i` of a list. -/
def setAt {α : Type} (l : List α) (i : Nat) (a : α) : List α := l.set i a

/-- Element `i` of a list or a default. -/
def getAt {α : Type} (l : List α) (i : Nat) (d : α) : α := l.getD i d

/-- Apply a function to element `i`. -/
def modAt {α : Type} (l : List α) (i : Nat) (f : α → α) : List α := l.modify i f

/-- Put an element before the first one whose key is not greater. -/
def insDesc {α : Type} (key : α → Nat) (a : α) : List α → List α
  | [] => [a]
  | b :: l => if key b ≤ key a then a :: b :: l else b :: insDesc key a l

/-- A list with falling keys. -/
def sortDesc {α : Type} (key : α → Nat) (l : List α) : List α := l.foldr (insDesc key) []

end Sys2Proof.Machine
end

