-- ==== Sys2Proof/Machine/SMap.lean ====
section
/-!
DEFINITION. Sparse maps from naturals as plain data: a list of (key, value) pairs, keys strictly rising, and no entry
that equals what an unlisted key reads as. Registers, dictionary values and DRAM bytes are held so.
-/
namespace Sys2Proof.Machine

/-- A sparse map. -/
abbrev SMap (α : Type) := List (Nat × α)

/-- The value listed under `k`. -/
def SMap.look {α : Type} : SMap α → Nat → Option α
  | [], _ => none
  | (k', v) :: m, k => if k' = k then some v else SMap.look m k

/-- The value under `k`, `d` where none is listed. -/
def SMap.get {α : Type} (d : α) (m : SMap α) (k : Nat) : α := (SMap.look m k).getD d

/-- Remove key `k`. -/
def SMap.del {α : Type} : SMap α → Nat → SMap α
  | [], _ => []
  | (k', v) :: m, k => if k' = k then SMap.del m k else (k', v) :: SMap.del m k

/-- List `v` under `k`, keys rising. -/
def SMap.ins {α : Type} : SMap α → Nat → α → SMap α
  | [], k, v => [(k, v)]
  | (k', v') :: m, k, v =>
    if k < k' then (k, v) :: (k', v') :: m
    else if k' = k then (k, v) :: m
    else (k', v') :: SMap.ins m k v

/-- Write `v` under `k` where an unlisted key reads as `d`. -/
def SMap.put {α : Type} [DecidableEq α] (d : α) (m : SMap α) (k : Nat) (v : α) : SMap α :=
  if v = d then SMap.del m k else SMap.ins m k v

/-- Keys strictly rising above `lo`. -/
def SMap.rising {α : Type} : Nat → SMap α → Bool
  | _, [] => true
  | lo, (k, _) :: m => decide (lo < k) && SMap.rising k m

/-- The canonical form: keys strictly rising and no value equal to `d`. -/
def SMap.wf {α : Type} [DecidableEq α] (d : α) (m : SMap α) : Bool :=
  (match m with
   | [] => true
   | (k, _) :: m' => SMap.rising k m') && m.all (fun p => decide (p.2 ≠ d))

/-- Keep the entries whose key satisfies `p`. -/
def SMap.keep {α : Type} (m : SMap α) (p : Nat → Bool) : SMap α := m.filter (fun e => p e.1)

end Sys2Proof.Machine
end

