-- ==== Sys2Proof/Machine/Types.lean ====
section
/-!
DEFINITION. The principals, outputs and operand types that commands carry (spec/03_object_dictionary.md R66,
spec/21_health_faults_and_counters.md R716-R717, spec/22_clock_crossing_and_reset.md).
-/
namespace Sys2Proof.Machine

/-- The principals of R66. -/
inductive Principal where
  | bed | fw | host | net
  deriving DecidableEq, Repr

/-- The bit of a principal in an access mask: BED 0, FW 1, HOST 2, NET 3 (R66). -/
def Principal.bit : Principal → Nat
  | .bed => 0
  | .fw => 1
  | .host => 2
  | .net => 3

/-- What the device sends out while it carries out one command. Each constructor names the interface. -/
inductive Out where
  /-- A MSI-X message: address and data of the vector's table entry (R487). -/
  | msix (vec addr data : Nat)
  /-- A write to host memory (completion entries, DMA). -/
  | hostWrite (addr : Nat) (data : List Byte)
  /-- A register or window read's answer. -/
  | read (v : Nat)
  /-- Data of a DRAM read, whether any of it is poisoned, and whether it lay beyond capacity. -/
  | dram (master : Nat) (bad range : Bool) (data : List Byte)
  /-- A reply to a dictionary request, with its status code and value. -/
  | dict (code : Nat) (v : List Byte)
  /-- A UDP datagram of the management Ethernet port. -/
  | udp (v6 : Bool) (addr port : Nat) (data : List Byte)
  /-- A Vein bundle message: kind (0 frame start, 1 frame abort, 2 frame end, 3 span codes, ...) and fields. -/
  | vein (bundle kind : Nat) (data : List Nat)
  /-- A unit on one lane. -/
  | lane (lane kind : Nat) (data : List Nat)
  /-- A packet or unit on a Passage link. -/
  | passage (link kind : Nat) (data : List Nat)
  /-- A PTP message of a domain. -/
  | ptp (domain kind : Nat) (data : List Nat)
  /-- A level or pulse on a pin, by its number in the pin table of R750 on. -/
  | pin (pin level : Nat)
  /-- A message of the bistable label interface. -/
  | label (kind : Nat) (data : List Nat)
  /-- A unit of work given to an engine of the device whose end a later command reports. -/
  | start (what unit : Nat)
  deriving DecidableEq, Repr

/-! ## MSI-X (spec/14_host_interface_and_dma.md R487, R488) -/

/-- The MSI-X table (words 0 to 255: address low, address high, data, vector control of each vector), the pending bits and
the function mask. -/
structure Msix where
  tab   : SMap Nat
  pba   : Nat
  fmask : Bool
  deriving DecidableEq, Repr

/-! ## Modes (spec/02_operating_modes.md) -/

/-- An immediate transition in progress (R41, R56): where it goes, the timing entry and cause it takes, the mode it
started from, whether it answers a request (R59), whether it waits for lane training, and whether that wait is over. -/
structure Imm where
  target : Nat
  entry  : Nat
  cause  : Nat
  start  : Nat
  isReq  : Bool
  train  : Bool
  ready  : Bool
  deriving DecidableEq, Repr

/-- A tick-aligned transition not yet in force (R41, R51): `wait` ticks pass before the tick it is due at. -/
structure Due where
  target : Nat
  entry  : Nat
  cause  : Nat
  isReq  : Bool
  wait   : Nat
  deriving DecidableEq, Repr

/-- The mode controller's own state (R41-R54). -/
structure ModeCtl where
  imm       : Option Imm
  due       : Option Due
  latchedM0 : Bool
  latchedWk : Bool
  losing    : List Nat          -- causes of forcing events that lost under R50, to be acted on later
  left      : Option (Nat × Nat) -- mode and entry a thermal trip left (R48)
  trips     : List Nat          -- instants (s) of the trips of the last 3,600 s (R48)
  rayBlack  : Bool              -- R47: no scene frame carries the ray field
  deadline  : Bool              -- the coming tick's commit deadline has passed (R17)
  firstTick : Bool              -- a tick has been issued since CORE was released
  pfwLow    : Bool              -- PFW_N is low (R49)
  grantHold : Bool              -- PFW_N has risen, and no side grant is given before the next tick (R560)
  off       : Bool              -- CORE does not run: M0, or a CORE reset not yet released (R35, R744)
  rstCause  : Nat               -- the cause the next release of CORE reports (R749)
  deriving DecidableEq, Repr

/-! ## Vault (spec/19_vault_persistent_state.md) -/

/-- Who a record request answers to when it ends (R645, R661). -/
inductive VBy where
  | reg | store | fclass | sump | retire | hours | pfw | fabric | label | rollback | vcp | dose
  deriving DecidableEq, Repr

/-- A record's payload: bytes, or the DRAM range the request registers name until the record opens (R661). -/
inductive VPay where
  | bytes (b : List Byte)
  | dram (addr len : Nat)
  deriving DecidableEq, Repr

/-- A record request that is held or open (R646). -/
structure VReq where
  typ : Nat
  key : Nat
  pay : VPay
  by_ : VBy
  deriving DecidableEq, Repr

/-- A committed record (R643): `bad` is set where its CRC is wrong on every device. -/
structure VRec where
  seq : Nat
  typ : Nat
  key : Nat
  pay : List Byte
  bad : Bool
  deriving DecidableEq, Repr

/-- A journal sector of both devices (R642). `erased`: blank, with a valid header, ahead of the head. -/
structure VSector where
  ring     : Nat
  erase    : Nat
  erasedAt : Nat
  valid    : Bool
  erased   : Bool
  retired  : Bool
  used     : Nat
  recs     : List VRec
  deriving DecidableEq, Repr

/-- A stored VCP area (R641, R655). -/
structure VcpArea where
  data  : List Byte
  whole : Bool
  deriving DecidableEq, Repr

/-- The Vault controller and the two NOR devices behind it. -/
structure Vault where
  sectors : List VSector
  head    : Nat
  tail    : Nat
  held    : List VReq            -- not yet open, in arrival order (R646)
  opened  : Option VReq
  erasing : Option (Nat × Bool)  -- sector under erase, and whether one attempt has failed (R649)
  suspended : Bool               -- the erase is suspended (R650)
  failRun : Nat × Nat            -- consecutive failed operations per device (R649)
  devOk   : Nat                  -- bit n: device n serviceable
  replayHours : Nat × Nat        -- operating and panel-on time below a whole second, 2^-16 ns
  cycles  : Nat                  -- power cycles (R652)
  areaA   : VcpArea
  areaB   : VcpArea
  storeLost : Bool               -- a STORE lost records at PFW_N (R650)
  pfwHours : Bool                -- the HOURS record of R650 is still to open
  oscSec  : Nat                  -- seconds (LANT count) of the last VCP commit (R648)
  deriving DecidableEq, Repr

/-! ## Health (spec/21_health_faults_and_counters.md) -/

/-- One Sump entry (R703), with whether its coalescing window is open and when it was opened (R704). -/
structure SumpE where
  seq    : Nat
  tick   : Nat
  rtc    : Nat
  kind   : Nat
  flags  : Nat
  unit   : Nat
  code   : Nat
  weight : Nat
  level  : Nat
  count  : Nat
  detail : Nat
  opened : Nat
  window : Bool
  deriving DecidableEq, Repr

/-- Dripstone's three targets (R707): DRAM, GROTTO, NOR. -/
structure DripT where
  inPass  : Bool
  elapsed : Bool      -- the period has run since the pass began
  granted : Bool
  step    : Bool      -- a step is in progress
  paused  : Bool
  deriving DecidableEq, Repr

/-- Buckets, ledger, Dripstone and telemetry (R697-R723). -/
structure Hlth where
  level   : SMap Nat             -- bucket level by kind * 65536 + unit
  retired : SMap Nat             -- 1 where the unit is retired
  sump    : List SumpE           -- newest first, at most 4096
  nextSeq : Nat
  allowance : Nat
  drip    : List DripT
  pulse   : SMap Nat             -- accumulators of the crossings into CD35 by event number (R739, R740)
  pulseOv : SMap Nat             -- 1 where the transfer's overflow bit is set
  perfHi  : SMap Nat             -- held VALUE_HI of counter n (R719)
  perfLatch : SMap Nat           -- latched _HI by principal * 2^32 + register offset (R719)
  recNo   : Nat                  -- telemetry record number (R723)
  deriving DecidableEq, Repr

/-! ## Chimney and thermal monitor (spec/16_power_and_thermal.md) -/

/-- A side grant (R554-R558): class, holder within the class, tokens, arrival order of its request, whether its tokens are in
force, and whether it was refused renewal or revoked and holds its tokens only until its pause point. -/
structure Grant where
  cls    : Nat
  holder : Nat
  tok    : Nat
  arr    : Nat
  live   : Bool
  ending : Bool
  deriving DecidableEq, Repr

/-- A waiting request (R556, R557). -/
structure CReq where
  cls    : Nat
  holder : Nat
  tok    : Nat
  arr    : Nat
  passed : Nat
  deriving DecidableEq, Repr

/-- Chimney's ledger: grants oldest first, requests in arrival order, the pool in force. -/
structure Chim where
  grants  : List Grant
  waits   : List CReq
  nextArr : Nat
  pool    : Nat
  deriving DecidableEq, Repr

/-- A sensor's running counts (R564). -/
structure SensC where
  apart : Nat
  agree : Nat
  deriving DecidableEq, Repr

/-- The thermal monitor (R562-R571). Times are in sixteenths of a millisecond. -/
structure Thrm where
  sens     : List SensC
  hist     : List (Int × Nat) -- reported maxima, newest first, each with the time since the one before it
  fastRise : Bool           -- acting as at THROTTLE through the rate of rise (R566)
  calm     : Nat            -- how long the rate has stayed at or below 20 K/s
  warn     : Bool
  throttle : Bool
  stepDown : Bool
  edge     : Bool
  tripMask : Nat            -- sources at or above 158 C at the last sample (R571)
  tripSrc  : Nat            -- sensor that fired the last trip
  armed    : Bool
  sinceStep : Nat           -- time since the last step down while STEP_DOWN held (R569)
  stepped  : Option Nat     -- the stepped entry in force below the requested one (R570)
  reqEntry : Nat            -- the requested entry (R570)
  stepDue  : Option Nat     -- entry a step takes at the coming tick
  subMs    : Nat            -- sixteenths of ms towards throttle_ms
  comp     : Int            -- temperature compensation of the oscillator trims, in steps (R572)
  deriving DecidableEq, Repr

/-! ## Lanes (spec/10_vein_and_lanes.md) -/

/-- Coefficients kept for a generation (R365, R380 lane_coeffs). -/
structure Coef where
  pre  : Nat
  post : Nat
  ctle : Nat
  deriving DecidableEq, Repr

/-- What a lane holds beside its registers. -/
structure Lane where
  target   : Nat             -- generation training aims at
  kept     : List (Option Coef) -- coefficients kept for V1, V2, V3
  attempts : Nat             -- attempts begun in this training
  fast     : Bool            -- on the fast path (R365)
  required : Bool            -- training the mode or entry requires: no Chimney grant (R370)
  wait     : Bool            -- waits for its quad's grant
  answered : Bool            -- in BLIND: the partner has answered
  ended    : Bool            -- in BLIND after the last failed attempt (R364)
  back     : Option (Nat × Coef) -- generation and coefficients to return to (R369)
  tap      : Option (Nat × Nat)  -- PRE, POST to apply at the next tick (R367)
  tapTick  : Bool            -- a tap request was accepted since the last tick
  leave    : Bool            -- leaves the mask at the next tick (R370)
  rejoin   : Bool            -- joining the mask reports LANE_REJOINED (R372)
  early    : Bool            -- was READY at the commit deadline (R372)
  partnerEye : Bool          -- forward eye within the limits in this attempt
  partnerTap : Nat           -- preset the partner named in TS2
  only     : Nat             -- the one generation the lane is serviceable at (R364, R369), 0 for any
  deriving DecidableEq, Repr

/-! ## Scan-out (spec/09_scanout_and_panel_driving.md) -/

/-- Scan-out's own state. `frame` is 0 where no raster frame has begun at the last tick, 1 while one is in progress, 2 after
an abort, 3 after its last line. -/
structure Scan where
  frame    : Nat
  frameTick : Nat
  nextY    : Nat             -- active line of the next span demand
  nextQ    : Nat             -- its span slot
  nextK    : Nat             -- its bundle
  phi      : Bool            -- Lantern-held (R323)
  masks    : List Nat        -- lane mask of the last frame-start per bundle (R353)
  crcs     : List Nat        -- running line CRC per bundle (R332)
  lineCrcs : List (Nat × Nat × Nat) -- (bundle, active line, CRC) of the lines sent whole, newest first
  mism     : Nat             -- Echo mismatches of the current band (R334)
  mismBand : Nat
  lpEntry  : Nat             -- entry whose raster M1 and M2 run (R327)
  waking   : List Nat        -- bundles a change of rectangles or region wakes in M1 and M2 (R328)
  echoMode : Nat             -- echo mode of the current line (R333)
  spur     : List Nat        -- bundles whose first checked line after a restart at a V1 entry is to come (R787)
  lastEntry : Nat            -- the timing entry that governed at the last tick (R202)
  deriving DecidableEq, Repr

/-! ## DRAM controller (spec/13_memory_dram.md) -/

/-- A bank: its open row, and its row-hammer table of rows and activate counts (R457, R459). -/
structure DBank where
  row   : Option Nat
  table : List (Nat × Nat)
  deriving DecidableEq, Repr

/-- A channel's own state: the set points still to train, the attempt under way, whether it waits for a grant, what training
is for (true: a set-point change or boot, which reverts or fails as R461 and R464 say). -/
structure DChan where
  banks   : List DBank
  queue   : List Nat          -- set points to train, the one under way first
  attempt : Nat
  wait    : Bool
  rfm     : Bool              -- the fitted DRAM reports that it supports RFM (R460)
  dq      : Int               -- read DQ delay, taps (R463)
  deriving DecidableEq, Repr

/-- The DRAM controller. -/
structure Dram where
  chans   : List DChan
  change  : Option (Nat × Nat) -- set-point change in progress: new and old set point (R464)
  walk    : Option Nat         -- lines the remap walk has still to move (R469)
  walkOld : Nat                -- mask of the channels of the old map while a walk runs
  second  : List Nat           -- channels that crossed during a walk (R471)
  poison  : SMap Nat           -- 1 for each 32-byte block with POISON set (R451)
  qused   : List Nat           -- bytes each quota class has moved in this frame (R466)
  kept    : Bool               -- contents survive a passage through M0 (R39, R465)
  typ     : Nat                -- dram_type and channel_density in force since M3 (R447)
  density : Nat
  deriving DecidableEq, Repr

/-! ## Calibration (spec/17_calibration.md) -/

/-- The calibration controller's own state: requested kinds that wait for ENABLE (R598), the run of CAL_PPS edges and the
CAL_REFCLK cycles they span (R583), ramp targets (R586), doses by zone node and channel in 2^-16 cd/m2 h (R588), the last dose
generation and the dose records still to be requested (R653). -/
structure Cal where
  waiting  : Nat
  edges    : Nat
  cycles   : Nat
  oscGoal  : Option Int
  sensGoal : List (Option Int)
  dose     : SMap Nat
  shown    : SMap Nat        -- the doses as last committed, which dose_map shows (R588)
  doseGen  : Nat
  dosePend : List VReq
  vcp      : Option (Nat × List Byte)  -- operation of R595 in progress (1 export, 2 store, 3 restore) and its VCP
  deriving DecidableEq, Repr

/-! ## Bedrock and the firmware images (spec/18_firmware_trust_and_live_update.md) -/

/-- An image slot of both NOR devices (R608, R609): header and payload where the model holds the bytes, whether the image it
holds passed the checks of R610 that rest on its bytes, and its header fields. -/
structure Slot where
  img  : Option (List Byte × List Byte)
  ok   : Bool
  key  : Nat
  step : Nat
  ver  : Nat
  deriving DecidableEq, Repr

/-- A switch not yet taken (R622): the slot, and the ticks to pass before the one it is due at. -/
structure Switch where
  slot : Nat
  wait : Nat
  deriving DecidableEq, Repr

/-- Bedrock's own state. `await`: 0 nothing, 1 the check-in after boot, 2 after a switch, 3 after a revert or restart (R625). -/
structure Sec where
  slots    : List Slot                    -- stage 2 A, B, main A, B
  sel      : List (Option (Nat × Nat × Nat)) -- the boot selector's copies: sequence, stage-2 slot, main slot (R611)
  fwDue    : Option Switch
  bedDue   : Option Switch
  bedGo    : Bool                         -- PFW_N was high at the last commit deadline (R628)
  absent   : Bool                         -- the deadline before a main switch has passed (R622)
  install  : Option (Nat × Nat × List Byte × List Byte)
  prevFw   : Nat                          -- slot a revert returns to (R625)
  prevBed  : Nat
  await    : Nat
  cores    : Bool                         -- the main cores run
  quiesced : Bool
  handover : List Byte                    -- R622 CHECKOUT
  nonce    : Option (List Byte × Nat)     -- release challenge and the RTC second it was drawn (R631)
  log      : List (Nat × Nat × Nat × Nat) -- firewall_log rows, newest first
  sig7     : Nat                          -- R614: run of failing frames of signature region 7
  sinceNs  : Nat                          -- R637: time since the last kick
  swap     : Option (Nat × Nat)           -- spare_swap due at the coming tick: kind, unit (R630)
  swap2    : Option (Nat × Nat)           -- and at the following one
  roll     : List (Nat × Nat × Bool × Bool) -- counters to advance: kind, step, VDD_FUSE present, a mailbox command waits (R617)
  ext      : List (List Byte)             -- the dictionary extension descriptors of the image in force (R612)
  deriving DecidableEq, Repr

/-! ## Passage (spec/11_passage_fabric.md) -/

/-- A packet: traffic class, kind, destination (an address, or the rectangle bits of R390 where `mcast`), source address, link
sequence, remaining hops, the DETOUR flag and the payload. -/
structure Packet where
  cls    : Nat
  kind   : Nat
  mcast  : Bool
  dest   : Nat
  src    : Nat
  lseq   : Nat
  hops   : Nat
  detour : Bool
  data   : List Byte
  deriving DecidableEq, Repr

/-- A link's own state: whether a HELLO was seen within 5 ms, the mask the partner announced, link sequences, unacknowledged
packets oldest first, packets that wait for credits, credits by class and channel (2 * class + channel), and the measured delay. -/
structure PLink where
  hello   : Bool
  partner : Nat
  txSeq   : Nat
  rxSeq   : Nat
  unacked : List Packet
  waiting : List Packet
  credits : List Nat
  delay   : Nat
  deriving DecidableEq, Repr

/-- A scene claim at the leader (R402). -/
structure Claim where
  src  : Nat
  seq  : Nat
  cont : Bool
  deriving DecidableEq, Repr

/-- The fabric router and its part in the election. Die identifiers are 128-bit numbers. -/
structure Pass where
  links    : List PLink
  cand     : Option Nat              -- candidate for leader (R395)
  epochMax : Nat                     -- highest epoch seen
  rel      : Option (Int × Int)      -- relative coordinate (R396)
  reports  : List (Nat × Int × Int × Nat) -- at the leader: die_id, coordinate, stored address
  ident    : Option (Nat × Nat × Nat)     -- stored fabric identity: fabric_id, address, epoch (R409)
  ident0   : Option (Nat × Nat × Nat)     -- the same as it stood when this node took office (R396)
  map      : SMap Nat                -- link-state map: PE weight + 16 * PS weight by address (R398)
  mapDirty : Bool
  claims   : List Claim              -- at the leader, waiting
  granted  : Option Claim            -- at the leader, granted
  claim    : Option Nat              -- this node's own claim: the sequence
  headOut  : Bool                    -- the claimed frame's head has been sent
  send     : List Nat                -- own frames to be sent through the fabric, oldest first
  merge    : Option Nat              -- a lower leader seen over a link between two parts (R411)
  timeSeq  : Nat
  stamp    : Option Nat              -- fabric time at the last TIME unit, in 2^-16 ns (R401)
  timeLink : Nat                     -- the link it came on
  deriving DecidableEq, Repr

/-! ## Time (spec/12_time.md) -/

/-- A master heard in Announce messages of a domain: its dataset in comparison order (priority1, clockClass, accuracy, variance,
priority2, grandmaster identity, stepsRemoved, sender), and the messages heard. -/
structure Master where
  data  : List Nat
  count : Nat
  deriving DecidableEq, Repr

/-- A PTP domain (R423-R425). Stamps and corrections are in 2^-16 ns. -/
structure Dom where
  masters : List Master
  best    : Option Nat               -- sender of the selected master
  wait    : Option (Nat × Int × Int) -- two-step Sync that waits for its Follow_Up: sequence, receive stamp, correction
  sync    : Option (Int × Int × Int) -- origin, receive stamp, corrections of the newest whole Sync
  req     : Option (Nat × Int)       -- Delay_Req under way: sequence, transmit stamp
  seq     : Nat
  offs    : List Int                 -- newest offsets first, at most 8
  grants  : List (Nat × Int × Nat)   -- unicast grants: message type, log interval, seconds
  deriving DecidableEq, Repr

/-- A trigger's own state (R436, R437): the next firing's number or instant, the last instant fired, firings since armed. -/
structure Trig where
  next  : Option Int
  last  : Option Int
  fired : Nat
  deriving DecidableEq, Repr

/-- The time unit. `now` is the time in force in 2^-16 ns (R420); `n` the schedule index of the present tick (R430). -/
structure Tim where
  now   : Int
  n     : Int
  rate  : Nat × Nat
  doms  : List Dom            -- A, B, and the fabric, which has offsets only
  fabOk : Bool                -- the fabric's offsets agree (R425 applied to R401)
  was   : Bool                -- locked at least once since M3
  hist  : List Int            -- newest adjustments first, at most 64
  pend  : Option (Nat × Int)  -- source and step due at the coming tick (R428)
  unitAt : Option Int         -- time in force at the last TIME unit (R416)
  trigs : List Trig
  deriving DecidableEq, Repr

/-! ## Scene frames and the Flowstone decoder (spec/04_mbaudel_scene_format.md, spec/05_flowstone_decoder.md) -/

/-- A tile of a slab (R112): class, cost, depth bounds, whether its payload is in place and whole (R132). -/
structure MTile where
  off  : Nat
  len  : Nat
  cls  : Nat
  cost : Nat
  dmin : Int
  dmax : Int
  here : Bool
  deriving DecidableEq, Repr

/-- A slab entry (R108): `pose` holds the ten F32 words of bytes 16 to 55, `freq` the four frequency tables, `src` the sequence
of the frame that last carried it as REPLACE. -/
structure MSlab where
  id    : Nat
  pers  : Nat
  fmt   : Nat
  itv   : Nat
  w     : Nat
  h     : Nat
  idx   : Nat
  pose  : List Nat
  freq  : List (List Nat)
  src   : Nat
  tiles : List MTile
  deriving DecidableEq, Repr

/-- A tile's key and row (R144): sequence of the frame that carried it, slab_id, tile number, row. -/
structure RowKey where
  src  : Nat
  slab : Nat
  tile : Nat
  row  : Nat
  deriving DecidableEq, Repr

/-- A bad segment (R158): its row that failed, the last row decoded correctly before it, the code, the lane that decoded it, and
whether a retry has been made. -/
structure BadSeg where
  slab  : Nat
  tile  : Nat
  seg   : Nat
  row   : Nat
  code  : Nat
  lane  : Nat
  tried : Bool
  deriving DecidableEq, Repr

/-- A candidate of a cell (R224, R227): slab_id, its hit-parameter range, its cost in sixteenths, and whether it occludes. -/
structure Cand where
  slab : Nat
  lo   : Int
  hi   : Int
  cost : Nat
  occ  : Bool
  deriving DecidableEq, Repr

/-- What the band walk finds for one band (R224, R226): the cells that have candidates, and the rows of non-EMPTY tiles. -/
structure BandPlan where
  cells : List (List Cand)
  rows  : List RowKey
  deriving DecidableEq, Repr

/-- A scene frame in the queue. `st`: 0 RECEIVING, 1 COMPLETE, 2 ADMITTED, 3 CURRENT, 4 BASE_ONLY (R139). -/
structure Frame where
  seq    : Nat
  ver    : Nat
  flags  : Nat
  base   : Nat
  launch : Int
  bytes  : Nat
  white  : Nat
  tcount : Nat
  poff   : Nat
  nslab  : Nat
  path   : Nat
  addr   : Nat
  st     : Nat
  got    : Nat                -- bytes received in stream order, or for a FABRIC frame in all
  crc    : Nat                -- running CRC-32C of the bytes received in stream order
  slabs  : List MSlab
  tail   : Bool               -- the end has arrived
  v1cost : Nat                -- msf_v1_cost when the header was accepted (R136)
  legacy : Option (Int × Nat) -- R438: twice the earliest instant of its tick, and the ticks it is delayed
  due    : Option Nat         -- R438: delay ticks left once that tick has been issued
  geom   : List Byte          -- R405: the geometry block a FABRIC frame came with
  head   : List (Nat × List Byte) -- FABRIC head fragments not yet in one piece
  parts  : List (Nat × Nat × Nat) -- FABRIC payload fragments received: tile, offset, length
  bad    : List BadSeg        -- newest first, at most 1,024
  plan   : Option (List BandPlan) -- the band plan (R225)
  walk   : Bool               -- a walk is running
  planOpt : Bool              -- the walk, or plan, is for the pending optics set (R225)
  plan2  : Option (List BandPlan) -- plan under the pending optics set (R225)
  checked : Nat               -- segments pre-checked in tile order (R160)
  deriving DecidableEq, Repr

/-- A reception path (R141-R143): the frame it receives, or the bytes still to drop (none: to the next start of frame) and
whether any was dropped. -/
structure RxPath where
  rx   : Option Nat
  drop : Option (Option Nat × Bool)
  deriving DecidableEq, Repr

/-- A tile context (R148). -/
structure Ctx where
  num    : Nat
  src    : Nat
  slab   : Nat
  tile   : Nat
  states : List Nat
  tick   : Nat
  pool   : Nat
  pinned : Bool
  bad    : Nat
  two    : Bool
  fmt    : Nat
  itv    : Nat
  pred   : Nat
  next   : Nat
  segEnd : Nat
  pos    : Nat
  base   : Nat
  deriving DecidableEq, Repr

/-- A demand (R144): row, band, requester (0 lookahead, 1 Helictite), arrival order, lane, and whether its segment was begun at
the entry point for it (step 3 of R146). -/
structure Demand where
  key  : RowKey
  band : Nat
  req  : Nat
  arr  : Nat
  lane : Option Nat
  re   : Bool
  deriving DecidableEq, Repr

/-- The scene queue and Flowstone. -/
structure Flow where
  frames   : List Frame
  mark     : Option Nat      -- newest sequence accepted since the queue was emptied (R105)
  paths    : List RxPath     -- HOST, FABRIC
  missed   : List Int        -- launch times of refused or discarded frames whose due tick is to come (R32)
  ctxs     : List Ctx
  demands  : List Demand
  nextArr  : Nat
  bg       : List (Nat × Nat × Nat × Nat) -- background work: frame, slab, tile, segment (R160)
  bgGrant  : Bool
  deriving DecidableEq, Repr

/-! ## Helictite and Grotto (spec/06_ray_model_and_optics.md, spec/07_helictite_synthesis.md) -/

/-- A row resident in Grotto (R217): slot, 64 texel words, and its place in the order of release, none while it is held. -/
structure GRow where
  key   : RowKey
  slot  : Nat
  words : List Nat
  rel   : Option Nat
  deriving DecidableEq, Repr

/-- A slab set up in the panel frame (R192), every number in its format of R190. -/
structure Setup where
  slab : Nat
  src  : Nat
  fmt  : Nat
  w    : Nat
  h    : Nat
  ox   : Int
  oy   : Int
  oz   : Int
  nx   : Int
  ny   : Int
  nz   : Int
  ux   : Int
  uy   : Int
  uz   : Int
  vx   : Int
  vy   : Int
  vz   : Int
  step : Int
  deriving DecidableEq, Repr

/-- A bundle held by an engine (R213). `st`: 1 TRACING, 2 WAIT_ROW, 3 DONE. `rays`: ACC_C, ACC_A, SUBST of each ray once DONE. -/
structure Bundle where
  eng   : Nat
  line  : Nat
  n     : Nat
  st    : Nat
  rays  : List (Nat × Nat × Bool)
  again : Bool   -- computed again for an engine that failed (R234)
  lvl   : Nat    -- the highest governor level it has been under (R231)
  deriving DecidableEq, Repr

/-- An engine's place in scan order and its governor level (R212, R231). -/
structure Eng where
  line  : Nat
  n     : Nat
  level : Nat
  deriving DecidableEq, Repr

/-- Where the governor cut a ray short (R231): hits that took refinement steps, and hits taken in all. -/
structure Cut where
  steps : Nat
  hits  : Nat
  deriving DecidableEq, Repr

/-- Helictite, Grotto and the lookahead. -/
structure Hel where
  rows    : List GRow
  relNo   : Nat
  bundles : List Bundle
  engs    : List Eng           -- by engine identifier
  setups  : List Setup
  mi      : Int × Int × Int × Int -- inverse basis of the set in force (R190)
  everSet : Bool               -- a valid set has been in force (R202)
  keep    : Option Bool        -- outcome of the deadline's check of a pending set: applied or held (R201)
  held    : Bool
  maps    : List Nat           -- states of the pending or in-force LCT, RSA, RSB (R208)
  mapOk   : List Bool          -- maps in force whose dimensions match (R199)
  band    : Nat                -- the band under trace: those below are DONE in every engine, those to band + 1 are demanded (R219)
  spent   : SMap Nat           -- samples issued by band of the frame (R232)
  failBand : Option Nat        -- first band whose re-check failed (R230)
  accrued : Nat                -- slots of the frame counted ACCRUED (R237)
  layout  : Nat × Nat          -- Gallery MiB and active banks the partitions are laid out for (R218)
  black   : Bool               -- R45, R47, R135: the ray field is black
  deriving DecidableEq, Repr

/-! ## Gallery (spec/08_gallery_composition.md) -/

/-- A snapshot of the Gallery shadow set (R257): token, shadowed fields by register key, layer_read_limit, node counts written of the
uniformity and aging maps (0: none), images of DEPTH layers loaded so far by layer, and the layers still loading (R260). -/
structure GSnap where
  tok   : Nat
  regs  : SMap Nat
  limit : Nat
  cnt   : List Nat
  depth : List (Nat × List Byte)
  load  : List Nat
  deriving DecidableEq, Repr

/-- A snapshot of the protected set (R274), with the image copied into Gallery's own store. -/
structure PlSnap where
  tok   : Nat
  regs  : SMap Nat
  image : List Byte
  deriving DecidableEq, Repr

/-- A view tap capture in progress (R286, R287): ring buffer, tick, scene sequence, the pixel words captured so far by
4 * pixel + channel, and the end of its frame: 0 not yet, 1 after its last line, 2 aborted. -/
structure Capture where
  buf   : Nat
  tick  : Nat
  seq   : Nat
  pix   : SMap Nat
  fin   : Nat
  deriving DecidableEq, Repr

/-- One subpixel through the pipeline: composed working value, 12-bit code after gain, 10-bit code. -/
structure SubOut where
  w     : Nat
  pre   : Nat
  post  : Nat
  deriving DecidableEq, Repr

/-- Gallery. -/
structure Gal where
  force   : GSnap
  pend    : Option GSnap
  defer   : Option GSnap
  cnt     : List Nat               -- shadow node counts of the two maps
  gain    : SMap Nat               -- gains in force by (map * 8160 + node) * 3 + channel, 0x4000 where unlisted (R281)
  settled : Bool
  plForce : PlSnap
  plPend  : Option PlSnap
  plDefer : Option PlSnap
  line    : SMap (List SubOut)     -- spans of the active line composed so far, by span of the line
  late    : List Nat               -- SCREEN layers that are late on that line (R270)
  sums    : SMap Nat               -- running zone sums by node * 3 + channel (R283)
  sigs    : List Nat               -- running signatures of the eight regions (R284)
  tap     : Option Capture
  tapBuf  : Nat                    -- ring buffer of the next capture
  deriving DecidableEq, Repr

/-! ## Lantern (spec/20_lantern_and_label.md) -/

/-- A label waveform requested or under way (R679): kind as run (0 PARTIAL, 1 FULL, 2 CLEAR_REDRAW, 3 the clear half alone), latched
band, old and new image, the table it is driven by, the half of CLEAR_REDRAW, the next frame's phase and frame, whether it is the
recovery of R681, whether its DIRTY record is committed, whether a slip was found, and the seconds count at its start. -/
structure LRun where
  kind  : Nat
  band  : Nat
  old   : List Byte
  new   : List Byte
  tab   : List Byte
  half  : Nat
  phase : Nat
  frame : Nat
  again : Bool
  ok    : Bool
  slip  : Bool
  start : Nat
  deriving DecidableEq, Repr

/-- What Lantern holds beside its registers (R665): the label images, whether they are valid, the update under way, the
newest LABEL record replayed, the two power outputs' sequence (0 on, 1 OFF_DELAY, 2 off, 3 waking, 4 waiting for a retry) and the glow
buffer, with the glow copy of Grotto that waits for a tick. -/
structure Lant where
  target   : List Byte
  current  : List Byte
  targetOk : Bool                 -- the target was written for the geometry in force, with the power kept since
  currentOk : Bool
  run      : Option LRun
  leave    : Bool                 -- abandoned at the next frame boundary (R682)
  stop     : Bool                 -- force-stopped at the next frame boundary (R683)
  count    : Nat                  -- updates begun
  record   : Option (List Byte)   -- the LABEL record found at the last replay
  recover  : Bool                 -- R681 is to be carried out in M4 or M5
  power    : Nat
  rtcHi    : Nat                  -- value last written to RTC_SEC_HI (R693)
  sub      : Nat                  -- time within the second of the real-time count, 2^-16 ns
  glow     : SMap (BitVec 8)
  copy     : Option (SMap (BitVec 8))
  load     : Bool                 -- a glow image is to be read from DRAM (R687)
  bad      : List Nat             -- 64-bit words of the glow buffer found bad (R686)
  quar     : Option Nat           -- quarantine flag: INTEG_CAUSE of a trip that left M11 (R46)
  deriving DecidableEq, Repr

/-! ## Host interface, DMA and side engines (spec/14_host_interface_and_dma.md, spec/15_blit_crc_deflate.md) -/

/-- The scene submission ring (R489-R494): fetched descriptors not yet completed in ring order, whether the first one's bytes have begun
to be read, completion entries (with their descriptor's IRQ bit) that wait for room, the phase bit of
the present pass through the completion ring, the BAR4 size in force (R485), and whether PERST# is high. -/
structure HostIf where
  frags : List (List Byte)
  begun : Bool
  wait  : List (List Byte × Bool)
  phase : Bool
  bar4  : Nat
  perst : Bool
  deriving DecidableEq, Repr

/-- A DMA channel's own state (R496-R504): whether a run is active, its descriptor at CUR once fetched, whether its last descriptor has
completed, descriptors reached, and whether one access has timed out. -/
structure DmaChan where
  active : Bool
  desc   : Option (List Byte)
  last   : Bool
  walked : Nat
  tmo    : Bool
  deriving DecidableEq, Repr

/-- An accepted job (R515): its number, the principal that submitted it, and the staging registers as they stood. -/
structure Job where
  num : Nat
  who : Principal
  img : List Byte
  deriving DecidableEq, Repr

/-- The blit or the DEFLATE engine: jobs in order of acceptance, whether the first is running or waits for its grant, whether
its work has begun, and whether one of its accesses has timed out. -/
structure Side where
  jobs : List Job
  busy : Bool
  begun : Bool
  tmo  : Bool
  deriving DecidableEq, Repr

/-- A CRC unit (R535-R538): the principal, CRC, feed and source of its run, whether the snooped run has begun, the held high half of
VALUE, and whether one access has timed out. -/
structure CrcUnit where
  who  : Principal
  poly : Nat
  snoop : Bool
  src  : Nat
  hi   : Nat
  tmo  : Bool
  deriving DecidableEq, Repr

/-! ## The object dictionary and IDP (spec/03_object_dictionary.md) -/

/-- Who a dictionary request came from, and what its reply needs: a port; a BAR2 slot; a UDP datagram with its request header
(R85, R96); a DICT_REQ with the ingress address, the ingress tag and the request header (R407). -/
inductive Origin where
  | port (p : Principal)
  | slot (n : Nat)
  | udp (v6 : Bool) (addr port : Nat) (hdr : List Byte)
  | fabric (ingress tag : Nat) (hdr : List Byte)
  deriving DecidableEq, Repr

/-- A dictionary request as it reaches the device (R66, R81, R84): at Bedrock's or firmware's port, with entry address, block offset and
value; the GO write of a BAR2 slot, with its IRQ bit; or a datagram at the management Ethernet port, with its source. -/
inductive DReq where
  | port (p : Principal) (ix sb off : Nat) (data : List Byte)
  | slot (n : Nat) (irq : Bool)
  | idp (v6 : Bool) (addr port : Nat) (bytes : List Byte)
  deriving DecidableEq, Repr

/-- A staged WRITE_BLOCK value (R82): its entry, declared length and the parts so far. -/
structure Stage where
  ix    : Nat
  sb    : Nat
  total : Nat
  data  : List Byte
  deriving DecidableEq, Repr

/-- A BAR2 request slot's data area and staged value (R81, R82). -/
structure DSlot where
  data  : List Byte
  stage : Option Stage
  deriving DecidableEq, Repr

/-- An IDP session (R88-R91): number, key slot, session key, highest SEQUENCE accepted, the ones seen within 32 below it, the
replies to the last 8 accepted, newest first, the staged value, and whether it closes after SEQUENCE 0xFFFF. -/
structure Sess where
  num   : Nat
  slot  : Nat
  key   : List Byte
  top   : Option Nat
  seen  : List Nat
  cache : List (Nat × List Byte)
  stage : Option Stage
  deriving DecidableEq, Repr

/-- Where a subscription reports: over UDP; or by NOTIFY_RELAY to an ingress node and its slot; or, at the ingress node, for a target
whose reports arrive there (R92-R94, R407). -/
inductive SubTo where
  | udp (v6 : Bool) (addr port : Nat)
  | relay (ingress slot : Nat)
  | remote (v6 : Bool) (addr port node : Nat)
  deriving DecidableEq, Repr

/-- A subscription (R92): where it reports, entry, period, ticks since the last report, the value last seen, and its report count. -/
structure Sub where
  to_    : SubTo
  ix     : Nat
  sb     : Nat
  period : Nat
  ticks  : Nat
  last   : List Byte
  count  : Nat
  deriving DecidableEq, Repr

/-- A request this node has forwarded (R94, R407). -/
structure Remote where
  tag : Nat
  org : Origin
  deriving DecidableEq, Repr

/-- A STORE in progress (R75, R76): records not yet requested, records requested and not yet committed, and who asked. -/
structure StoreOp where
  pend : List VReq
  open_ : Nat
  org  : Origin
  deriving DecidableEq, Repr

/-- What the dictionary engine holds beside the values. `gen` gives the generation of a TABLE by entry key (R65); `subs` has 64 places. -/
structure Dic where
  slots   : List DSlot
  sess    : List Sess
  nonces  : List (List Byte × Nat)      -- unused device nonces and the RTC second each was drawn (R88)
  subs    : List (Option Sub)
  remote  : List Remote
  nextTag : Nat
  store   : Option StoreOp
  gen     : SMap Nat
  ceil1   : Option Nat                  -- chimney_ceiling held for the coming tick (R551)
  ceil2   : Option Nat                  -- and for the following one
  deriving DecidableEq, Repr

end Sys2Proof.Machine
end

