-- ==== Sys2Proof/Syntax.lean ====
section
/-!
DEFINITION. The commands of the UTH-9400, one constructor per row of spec/opcode_table.json, in the table's order. A constructor's
operands are what the command brings from outside the device; spec/opcode_table.json gives none of them bits, so each is
written as the text of its rule needs it.
-/
namespace Sys2Proof

open Sys2Proof.Machine

/-- A command: a write or read of a register, a message or unit that arrives, a job's end, an instant that comes. -/
inductive Instr where
  /-- R16: The time unit issues the tick at its scheduled instant and performs the five ordered tick actions. -/
  | tick
  /-- R17: The commit deadline at tick minus 40 microseconds passes and later writes are deferred to the following tick. -/
  | commitDeadline
  /-- R7: A write to an RWT field or AT_TICK entry reaches the commit logic and is held for the coming or following tick. -/
  | commitLogicWrite (p : Principal) (off word : Nat)
  /-- R789: A write to a register without behaviour of its own updates its fields under their access codes. -/
  | registerWrite (p : Principal) (off word : Nat)
  /-- R30: A read of a _LO register latches its _HI register for the next read. -/
  | loRegisterRead (p : Principal) (off adv : Nat)
  /-- R4: A read of an RC field returns its value and returns the field to its reset value. -/
  | readClearRegister (p : Principal) (off : Nat)
  /-- R58: A GO write or mode_request write submits a mode and timing entry to the mode controller. -/
  | modeRequest (p : Principal) (mode entry : Nat)
  /-- R42: An immediate mode transition completes and any latched M0 request is taken. -/
  | modeTransitionComplete
  /-- R48: After 10 s below 125 C, Bedrock returns the device from M4 toward the mode it left. -/
  | thermalAutoResume
  /-- R290: A Gallery or scan-out error aborts the frame and forces M4. -/
  | datapathFailure
  /-- R49: The power-fail warning falls; side grants are revoked and the Vault enters HOLD. -/
  | pfwNFall
  /-- R49: The power-fail warning rises and grants and records resume. -/
  | pfwNRise
  /-- R86: A READ request returns an entry's value after the checks of R68. -/
  | dictRead (q : DReq)
  /-- R86: A WRITE request applies a value to an entry under its effect timing. -/
  | dictWrite (q : DReq)
  /-- R82: A READ_BLOCK request returns one part of a long value. -/
  | readBlock (q : DReq)
  /-- R82: A WRITE_BLOCK part is staged and the value is applied atomically when complete. -/
  | writeBlock (q : DReq)
  /-- R75: STORE writes selected P-class values to the Vault as records. -/
  | store (q : DReq)
  /-- R77: RESTORE_DEFAULT applies the defaults of the selected writable entries. -/
  | restoreDefault (q : DReq)
  /-- R92: SUBSCRIBE creates, renews or cancels periodic NOTIFY reports of one entry. -/
  | subscribe (q : DReq)
  /-- R96: A UTH-5200 IDP v1 message is answered with a v1 READ or DICT_V1_READ_ONLY. -/
  | idpV1Request (q : DReq)
  /-- R88: A read of session_challenge produces a fresh single-use device nonce. -/
  | sessionChallengeRead (q : DReq)
  /-- R88: A write of session_open verifies the proof and opens an IDP session. -/
  | sessionOpen (q : DReq)
  /-- R91: A write of session_close within a session closes it. -/
  | sessionClose (q : DReq)
  /-- R91: A session idle for session_idle_timeout is closed. -/
  | sessionIdleTimeout (num : Nat)
  /-- R82: A staged WRITE_BLOCK value that receives no part for 1 s is discarded. -/
  | blockStageTimeout (sess : Bool) (n : Nat)
  /-- R92: A subscription whose lease ends is removed. -/
  | subscriptionLeaseExpiry (n : Nat)
  /-- R95: An ingress node answers DICT_NODE_TIMEOUT when no remote reply arrives within 10 ms. -/
  | remoteRequestTimeout (tag : Nat)
  /-- R129: The 64th byte of a frame arrives and the header checks and queue reservation are made. -/
  | msfHeader (b : List Byte)
  /-- R108: A slab entry is received and checked. -/
  | msfSlabEntry (b : List Byte)
  /-- R112: A tile-index entry is received and checked. -/
  | msfTileIndex (b : List Byte)
  /-- R118: A tile payload is received and its segment layout and tile_crc are checked. -/
  | msfTilePayload (b : List Byte)
  /-- R117: The last byte of a frame arrives, the trailer is checked and the frame becomes complete. -/
  | msfFrameTrailer (b : List Byte)
  /-- R143: Bytes of a discarded or refused frame arrive and are dropped and counted. -/
  | lateFrameBytes (path n : Nat)
  /-- R20: At due tick minus one band time a frame is checked for completeness, base and mode, and its admission sums are run. -/
  | frameAdmissionCheck (seq : Nat)
  /-- R142: A frame still receiving stall_timeout after its last byte is discarded as FRAME_INCOMPLETE. -/
  | stallTimeout (path : Nat)
  /-- R140: A flush discards every non-current frame and empties the queue for sequence checks. -/
  | queueFlush
  /-- R144: A demand for a tile row reaches Flowstone and is joined, answered or queued. -/
  | tileRowDemand (k : RowKey) (band req : Nat)
  /-- R147: A lane finishes a row, writes it to Grotto and stores the updated context. -/
  | rowCommit (lane : Nat)
  /-- R160: A background pre-check or retry of a segment finishes and marks or clears it. -/
  | backgroundSegmentDone
  /-- R162: A write of FLOW.CTRL.ENABLE drains the decoder or resumes it. -/
  | flowDrain (enable : Bool)
  /-- R162: Every lane becomes idle and the decoder reaches STOPPED. -/
  | flowDrained
  /-- R164: FORCE_STOP abandons every row in progress and stops the decoder. -/
  | flowForceStop (late : Bool)
  /-- R165: A lane parity error abandons the row, serves it again on another lane and counts a bucket event. -/
  | flowLaneError (lane : Nat)
  /-- R181: A write of FLOW.CTX_INDEX snapshots the selected context. -/
  | ctxSnapshot (n : Nat)
  /-- R219: When band b-1 is DONE in every engine, the lookahead releases its rows, issues demands for band b+1 and re-checks band b. -/
  | bandAdvance
  /-- R225: A band walk starts when a frame's last tile index has arrived and a plan slot is free. -/
  | bandWalkStart (seq : Nat) (opt : Bool)
  /-- R225: The band walk finishes and the frame's band plan is stored. -/
  | bandWalkDone (seq : Nat) (plan : List BandPlan)
  /-- R212: An engine with a free slot issues the next bundle in scan order. -/
  | bundleIssue (e : Nat)
  /-- R213: All 64 ray results of a bundle are held in its engine's output queue. -/
  | bundleDone (line n : Nat) (cuts : List Cut)
  /-- R231: An engine's slack crosses a threshold and its governor level changes. -/
  | governorLevelChange (e slack : Nat)
  /-- R234: An engine detects an error, abandons the bundle and the next engine recomputes it. -/
  | engineError (e : Nat)
  /-- R221: A Grotto read finds a correctable or uncorrectable error. -/
  | grottoEccError (bank word : Nat) (uncorr sample : Bool)
  /-- R235: A write of HEL.CTRL.ENABLE drains the engines. -/
  | helDrain (enable : Bool)
  /-- R235: Every engine becomes idle and Helictite reaches STOPPED. -/
  | helDrained
  /-- R236: FORCE_STOP discards every bundle and stops the engines. -/
  | helForceStop (late : Bool)
  /-- R200: A write of a map base starts verification of the map. -/
  | mapVerifyStart (k base : Nat)
  /-- R200: Map verification finishes with the map READY or refused with OPT_MAP_BAD. -/
  | mapVerifyDone (k : Nat)
  /-- R257: A COMMIT snapshots the Gallery shadow set under a token and queues it. -/
  | galCommit (tok : Nat)
  /-- R274: Bedrock commits the protected layer and signature region 7. -/
  | plCommit (tok : Nat)
  /-- R260: A DEPTH layer image finishes loading into the Gallery partition. -/
  | depthLoadDone (layer : Nat)
  /-- R312: Scan-out demands a span 250 ns before its slot, and Gallery composes it and hands it to the lanes. -/
  | spanDemand (late bad : List Nat)
  /-- R315: A band of the raster ends and its Echo mismatch count is closed. -/
  | rasterBandEnd
  /-- R354: The last active line ends and FRAME_END is sent. -/
  | rasterFrameEnd
  /-- R332: The Echo outcome of a line is known and a mismatch is recorded. -/
  | echoLineCheck (k y crc flags : Nat)
  /-- R287: At a tick whose count is a multiple of DIVIDE the view tap asks for a grant and begins a capture. -/
  | tapCaptureStart
  /-- R287: The tap writes a buffer header after the frame, complete or not. -/
  | tapCaptureDone (full : Bool)
  /-- R289: A write of TAP_CTRL.ENABLE drains the view tap. -/
  | tapDrain (enable : Bool)
  /-- R289: FORCE_STOP abandons the capture in progress. -/
  | tapForceStop (late : Bool)
  /-- R351: A driver BC_STATUS unit is received on a reverse lane. -/
  | bcStatus (lane : Nat) (crc : Bool) (locks shown tick subst : Nat)
  /-- R351: A driver reports lanes that lost forward lock. -/
  | bcLockLost (lane : Nat) (crc : Bool) (lanes : Nat)
  /-- R367: A driver asks for a transmit tap change and the device answers with TAP_ACK. -/
  | bcTapReq (lane : Nat) (crc : Bool) (preOp postOp pst : Nat)
  /-- R351: A driver reports its forward eye for a lane. -/
  | bcEye (lane : Nat) (crc : Bool) (width height : Nat)
  /-- R357: A driver reports a substituted line. -/
  | bcLineCrc (lane : Nat) (crc : Bool) (y tick : Nat)
  /-- R364: A TS1, TS2 or ALIGN unit is received and advances lane training. -/
  | trainingSet (lane kind gen pst : Nat) (crc : Bool)
  /-- R371: A READY or ACTIVE lane is lost and enters LOST. -/
  | laneLost (lane : Nat)
  /-- R371: No valid reverse unit arrives for 2 microseconds and the lane is lost. -/
  | laneReverseSilence (lane : Nat)
  /-- R374: A receiver sees no signal for over 1 ms and the lane moves to BLIND. -/
  | laneNoSignal (lane : Nat)
  /-- R364: EQ exceeds 20 ms and the training attempt fails. -/
  | laneEqTimeout (lane : Nat)
  /-- R363: Training completes CHECK and DESKEW and the lane becomes READY. -/
  | laneTrained (lane : Nat) (errors : Bool) (width height ctle : Nat)
  /-- R369: A latched generation change is applied after the gathering step and training restarts. -/
  | laneGenChange (lane : Nat)
  /-- R370: LANEn_CTRL.RETRAIN requests retraining of a lane. -/
  | retrain (lane : Nat)
  /-- R373: A retired lane is returned to full training. -/
  | laneRestore (lane : Nat)
  /-- R378: A write of LANEn_CTRL.LOOP selects a test loop in M10. -/
  | laneLoop (lane loop : Nat)
  /-- R394: A HELLO packet is received from a neighbour. -/
  | hello (n : Nat) (crc : Bool) (p : Packet)
  /-- R394: Every 1 ms a HELLO is sent on each up link. -/
  | helloSend
  /-- R394: A link without HELLO for 5 ms is treated as down for routing. -/
  | helloTimeout (n : Nat)
  /-- R395: An ELECT packet updates the node's leader candidate. -/
  | elect (n : Nat) (crc : Bool) (p : Packet)
  /-- R395: A candidate unchanged for 20 ms settles and the leader takes office. -/
  | electionSettled
  /-- R410: No HELLO names the leader for 50 ms and the part re-elects. -/
  | leaderContactLost
  /-- R396: The leader receives a node's relative coordinates. -/
  | coordReport (n : Nat) (crc : Bool) (p : Packet)
  /-- R396: A node receives the offset and takes its final address. -/
  | coordOffset (n : Nat) (crc : Bool) (p : Packet)
  /-- R398: A link-state report or map is received and routing is updated. -/
  | linkState (n : Nat) (crc : Bool) (p : Packet)
  /-- R398: The leader multicasts the link-state map at most once per 1 ms after a change. -/
  | linkStateMulticast
  /-- R407: A remote dictionary request arrives at its target node. -/
  | dictReq (n : Nat) (crc : Bool) (p : Packet)
  /-- R407: A remote dictionary reply arrives at the ingress node. -/
  | dictReply (n : Nat) (crc : Bool) (p : Packet)
  /-- R407: A remote NOTIFY report arrives at the ingress node and is sent over UDP. -/
  | notifyRelay (n : Nat) (crc : Bool) (p : Packet)
  /-- R402: The leader receives a claim to send a frame through the fabric. -/
  | sceneClaim (n : Nat) (crc : Bool) (p : Packet)
  /-- R402: An ingest receives the leader's grant, queue or revocation. -/
  | sceneGrant (n : Nat) (crc : Bool) (p : Packet)
  /-- R402: The leader receives the release of a scene claim. -/
  | sceneRelease (n : Nat) (crc : Bool) (p : Packet)
  /-- R402: A claim not released within 2 s is revoked. -/
  | sceneClaimRevoke
  /-- R403: A SCENE_HEAD fragment of a frame is received on the FABRIC path. -/
  | sceneHead (n : Nat) (crc : Bool) (p : Packet)
  /-- R403: A SCENE_PAYLOAD fragment is received and placed at its offset. -/
  | scenePayload (n : Nat) (crc : Bool) (p : Packet)
  /-- R406: A supplement of a KEEP or POSE_ONLY tile is received. -/
  | sceneSuppl (n : Nat) (crc : Bool) (p : Packet)
  /-- R404: SCENE_END is received and the frame's completeness is judged. -/
  | sceneEnd (n : Nat) (crc : Bool) (p : Packet)
  /-- R392: A LINK_ACK returns credits and acknowledges or NAKs packets. -/
  | linkAck (n : Nat) (crc : Bool) (next : Nat) (nak : Bool) (credits : List Nat)
  /-- R392: No acknowledgement for 2 microseconds makes the sender resend from the first unacknowledged packet. -/
  | linkResendTimeout (n : Nat)
  /-- R392: A packet whose tail has not arrived 1 microsecond after its head is discarded with NAK. -/
  | packetLengthTimeout (n : Nat)
  /-- R388: A LINK_MASK unit announces a new lane mask of a Passage link. -/
  | linkMask (n : Nat) (crc : Bool) (mask : Nat)
  /-- R401: A TIME unit is received, fabric time is updated and the unit is relayed. -/
  | timeUnit (n : Nat) (crc : Bool) (seq hops stamp adv : Nat)
  /-- R401: The time source sends a TIME unit every 100 microseconds. -/
  | timeUnitSend (adv : Nat)
  /-- R401: Each link measures its delay every 10 ms. -/
  | linkDelayMeasure (n round residence : Nat)
  /-- R411: Two parts with different leaders merge once no claim is held or after 2 s. -/
  | fabricMerge
  /-- R423: A PTP Sync message is received and time-stamped. -/
  | ptpSync (num sender seq : Nat) (rx : Int) (origin : Option Int) (cf : Int) (adv : Nat)
  /-- R423: A PTP Follow_Up message is received. -/
  | ptpFollowUp (num sender seq : Nat) (origin cf : Int)
  /-- R423: A PTP Delay_Resp message is received and the domain offset is updated. -/
  | ptpDelayResp (num sender seq : Nat) (t4 cf : Int) (adv : Nat)
  /-- R423: A PTP Announce message is received for the best master algorithm. -/
  | ptpAnnounce (num : Nat) (data : List Nat) (utc : Int)
  /-- R423: A PTP Signaling message for unicast negotiation is received. -/
  | ptpSignaling (num tlv typ : Nat) (logInt : Int) (dur : Nat)
  /-- R423: The device sends a Delay_Req at the granted interval. -/
  | ptpDelayReq (d : Nat) (tx : Int) (adv : Nat)
  /-- R425: A domain's messages are lost under announceReceiptTimeout and its lock flag clears. -/
  | ptpAnnounceTimeout (d : Nat) (announce : Bool)
  /-- R426: An offset above 10 microseconds for 10 s drops the state to ACQUIRING. -/
  | timeUnlocked
  /-- R667: While LOCKED the time unit writes the PTP seconds into the real-time count at each whole second. -/
  | rtcSecondLoad
  /-- R437: A trigger is enabled or rewritten and fires at once if its start is past. -/
  | triggerArm (n ctrl lo hi period : Nat)
  /-- R436: A trigger reaches its instant, records a stamp and pulses its line. -/
  | triggerFire
  /-- R453: A read reaches a channel and is checked by inline ECC. -/
  | dramRead (master addr len err : Nat)
  /-- R451: A write reaches a channel, merging partial blocks. -/
  | dramWrite (master addr : Nat) (data : List Byte) (bad : Bool)
  /-- R458: The controller issues a per-bank refresh on its schedule. -/
  | dramRefresh (ch bank : Nat)
  /-- R459: A refresh window ends and the row-hammer tables are cleared. -/
  | refreshWindowEnd (ch : Nat)
  /-- R458: Every 16 ms the DRAM temperature status is read and the refresh window adjusted. -/
  | dramTempPoll (ch rate : Nat) (beyond : Bool)
  /-- R457: A bank idle for page_idle cycles closes its row. -/
  | pageIdleClose (ch bank : Nat)
  /-- R463: Every 10 ms a channel recentres read DQ and checks WCK-to-DQ. -/
  | dramTracking (ch : Nat) (move : Int) (ca rd wr vref : Nat)
  /-- R462: DRAM.CTRL.RETRAIN requests full training of selected channels. -/
  | dramRetrain
  /-- R461: Full training of a channel finishes, passing or failing. -/
  | dramTrainingDone (ch ca rd wr vref : Nat) (ok : Bool)
  /-- R464: A set-point change is requested, applied, latched or trained first. -/
  | setpointRequest (sp : Nat)
  /-- R465: DRAM enters self-refresh 50 microseconds after M1 or M2 takes effect, or on M0 entry. -/
  | selfRefreshEntry
  /-- R465: DRAM leaves self-refresh on exit from M1 or M2. -/
  | selfRefreshExit (ok : Bool)
  /-- R469: The remap walk has moved every line and reports REMAP_DONE. -/
  | remapWalkDone
  /-- R489: A write of HOST.SQ_TAIL publishes submission descriptors. -/
  | sqDoorbell (tail : Nat) (descs : List (List Byte))
  /-- R489: A write of HOST.CQ_HEAD frees completion entries. -/
  | cqHeadWrite (head : Nat) (descs : List (List Byte))
  /-- R492: A fragment's bytes have been written or dropped and its completion entry is written. -/
  | fragmentDone (seq written dropped : Nat) (descs : List (List Byte))
  /-- R493: A fragment read ends with a timeout or error and the frame in reception is discarded. -/
  | hostReadFailed (seq written dropped : Nat) (descs : List (List Byte))
  /-- R494: A write of RING_CTRL.ENABLE drains the submission ring. -/
  | ringDrain (enable : Bool) (descs : List (List Byte))
  /-- R494: FORCE_STOP ends fetched fragments and discards the frame in reception. -/
  | ringForceStop (late : Bool)
  /-- R484: A hot reset, FLR or PERST# resets the HOST block and HOST-owned DMA channels. -/
  | hostReset (perst : Bool)
  /-- R486: A host access through BAR4 reaches DRAM or is refused. -/
  | bar4Access (off len : Nat) (data : List Byte)
  /-- R488: Unmasking a vector with its PBA bit set sends one message. -/
  | msixUnmask (v : Nat)
  /-- R501: A start begins or holds a DMA run. -/
  | dmaStart (n : Nat) (p : Principal)
  /-- R496: A DMA descriptor completes and the next is fetched. -/
  | dmaDescriptorDone (n : Nat) (host data : List Byte)
  /-- R503: A DMA run ends DONE and triggers any CHAIN channel. -/
  | dmaRunDone (n : Nat)
  /-- R503: CHn_CTRL.ABORT ends the run ABORTED. -/
  | dmaAbort (n : Nat) (p : Principal)
  /-- R503: CHn_CTRL.FORCE_STOP ends the run and clears ENABLE. -/
  | dmaForceStop (n : Nat) (p : Principal)
  /-- R504: A write of CHn_CTRL.ENABLE drains or resumes the channel. -/
  | dmaDrain (n : Nat) (enable : Bool) (p : Principal)
  /-- R500: A DMA access gets no response in time and is retried or halts the run. -/
  | dmaAccessTimeout (n a : Nat)
  /-- R515: GO checks the blit staging registers and queues a job. -/
  | blitGo (p : Principal)
  /-- R523: A blit job finishes writing its destination. -/
  | blitJobDone
  /-- R518: CTRL.ABORT ends the running job of a side engine ABORTED. -/
  | engineAbort (e : Nat)
  /-- R519: CTRL.FORCE_STOP ends the running job and clears ENABLE. -/
  | engineForceStop (e : Nat)
  /-- R519: CTRL.FLUSH ends every queued job that has not started. -/
  | engineFlush (e : Nat)
  /-- R519: A write of CTRL.ENABLE drains or resumes a side engine. -/
  | engineDrain (e : Nat) (enable : Bool)
  /-- R516: A side-engine access gets no response and is retried or halts the job. -/
  | engineAccessTimeout (e a : Nat)
  /-- R537: START begins a SCAN run or arms a SNOOP run of a CRC unit. -/
  | crcStart (n : Nat) (p : Principal)
  /-- R536: A write of VALUE_LO loads the running CRC state. -/
  | crcValueWrite (n lo : Nat)
  /-- R537: A SCAN run has folded its last byte and ends DONE. -/
  | crcScanDone (n : Nat)
  /-- R538: ENABLE written as 0 stops a SCAN at its next 4 KiB boundary. -/
  | crcScanStop (n upto : Nat)
  /-- R515: GO checks the DEFLATE staging registers and queues a job. -/
  | deflateGo (p : Principal)
  /-- R545: A DEFLATE job ends and its results are written. -/
  | deflateJobDone (stream : List Byte)
  /-- R556: A request for tokens arrives and is granted or waits. -/
  | chimneyRequest (cls holder tok : Nat)
  /-- R555: An operation releases its grant and waiting requests are judged. -/
  | chimneyRelease (cls holder : Nat)
  /-- R555: A holder whose grant was refused or revoked reaches its pause point. -/
  | pausePointReached (cls holder : Nat)
  /-- R558: A new grant's tokens come into force under the ramp and its holder begins. -/
  | grantInForce (cls holder : Nat)
  /-- R563: All thermal sensors are sampled and states, maximum and limits are judged. -/
  | sensorSample (readings : List Int)
  /-- R570: After 10 s below the THROTTLE limit minus 5 K the entry steps back toward the request. -/
  | stepUp
  /-- R572: Every 10 ms oscillators, references and PLLs are compensated from their nearest sensor. -/
  | tempCompensation (move : Int)
  /-- R585: A write of cal_run or CAL.CTRL.RUN starts runs of calibration kinds. -/
  | calRun (mask : Nat)
  /-- R585: At each track_interval the tracked calibration kinds are started. -/
  | trackInterval
  /-- R586: A calibration run completes its correction and reports its quality figure. -/
  | calRunDone (kind : Nat) (rows : List (List Int))
  /-- R583: A CAL_PPS edge is received and CAL_REFCLK is counted against it. -/
  | calPpsEdge (cycles : Nat)
  /-- R583: No CAL_PPS edge within 1.1 s marks it missing. -/
  | calPpsMissing
  /-- R583: Once per second VREF_CAL is measured against the bandgap. -/
  | vrefMeasure (mv10 : Nat)
  /-- R588: Every 10 minutes the dose maps are committed and the aging map is computed. -/
  | doseCommit
  /-- R588: A write of dose_reset sets every dose to 0 and commits the maps. -/
  | doseReset
  /-- R595: Firmware writes a VCP of every result value into DRAM. -/
  | vcpExport (addr cap flags : Nat) (streams : List (List Byte))
  /-- R655: A VCP is verified and committed to the Vault. -/
  | vcpStore (addr len : Nat)
  /-- R594: A VCP is checked and its sections applied as writes. -/
  | vcpRestore (addr len source : Nat)
  /-- R598: A write of CAL.CTRL.ENABLE drains the calibration controller. -/
  | calDrain (enable : Bool)
  /-- R598: FORCE_STOP ends every calibration run ABORTED. -/
  | calForceStop (late : Nat)
  /-- R621: Bedrock checks an image and writes it into a non-committed slot. -/
  | imageInstall (kind slot addr len : Nat)
  /-- R622: Bedrock accepts a switch of firmware slot due at a tick. -/
  | switch (kind slot : Nat)
  /-- R626: A trial commit rewrites the boot selector and advances the counter. -/
  | trialCommit (vdd : Bool)
  /-- R626: The trial period ends and the switch is committed. -/
  | trialPeriodEnd (kind : Nat) (vdd : Bool)
  /-- R617: The anti-rollback counter of a kind advances to the committed image's step. -/
  | rollbackAdvance (kind : Nat) (vdd : Bool)
  /-- R615: A customer public key hash is fused into the lowest empty slot. -/
  | keyEnrol (addr : Nat) (vdd : Bool)
  /-- R615: The revocation bit of a key slot is fused. -/
  | keyRevoke (slot : Nat) (vdd : Bool)
  /-- R615: Enrolment is fused closed for good. -/
  | enrolLock (vdd : Bool)
  /-- R619: Bedrock sets a firewall region descriptor 3 to 31. -/
  | regionSet (n base pages rights : Nat)
  /-- R631: Bedrock verifies a release token and releases the device from M11. -/
  | release (target key : Nat) (sig : List Byte)
  /-- R631: A read of release_challenge produces a fresh single-use nonce. -/
  | releaseChallengeRead
  /-- R87: A pre-shared IDP key slot is written and its sessions are closed. -/
  | pskWrite (q : DReq)
  /-- R622: Firmware writes its handover block into region 0 before a switch. -/
  | checkout (data : List Byte)
  /-- R627: Firmware kicks the watchdog. -/
  | wdogKick
  /-- R625: Firmware checks in and becomes present. -/
  | checkin
  /-- R622: Firmware reports it has finished its work before a switch. -/
  | quiesced
  /-- R627: 1 s without a kick halts the cores and restarts or reverts the image. -/
  | watchdogExpiry
  /-- R625: Firmware fails to check in within 1 s and Bedrock reverts or quarantines. -/
  | checkinTimeout
  /-- R614: Every 60 s Bedrock checks each code region against its payload hash. -/
  | codeRegionCheck (slot : Nat) (differs : Bool)
  /-- R630: A healthy unit is exchanged for a spare at the tick and self-tested. -/
  | spareSwap (p : Principal) (kind unit : Nat)
  /-- R661: A record request is submitted to the Vault and queued. -/
  | vaultRequest (p : Principal) (typ key addr len : Nat)
  /-- R644: A record's commit marker is in place on every serviceable device. -/
  | vaultRecordCommit
  /-- R647: The tail sector is reclaimed when erased sectors run low or it is two years old. -/
  | vaultReclaim
  /-- R648: A write of vault_compact reclaims the tail sector at once. -/
  | vaultCompact
  /-- R649: A sector erase completes and its header is written or the erase is retried. -/
  | sectorEraseDone (ok : Bool)
  /-- R652: Every 10 minutes an HOURS record is committed. -/
  | hoursCommit
  /-- R648: A stored VCP two years old is rewritten into the other area. -/
  | vcpAreaRefresh
  /-- R747: CORE is released after supplies are judged valid and M3 boot begins. -/
  | coreResetRelease
  /-- R746: A core rail outside its limits for 10 microseconds resets CORE, CPU and HOST. -/
  | brownout
  /-- R744: TRST_N resets the test logic alone. -/
  | testReset
  /-- R669: LANT_WAKE_N held low for 1 ms fires the PIN wake source. -/
  | lantWakePin (secs : Nat)
  /-- R668: The seconds count reaches the alarm and the alarm fires. -/
  | rtcAlarm
  /-- R669: The core supplies become valid while PWREN_CORE is deasserted. -/
  | supplyWake (secs : Nat)
  /-- R670: OFF_DELAY after M0 entry ends and the power-enable outputs are deasserted. -/
  | offDelayExpiry
  /-- R670: The core supplies stay within limits for 1 ms and are judged valid. -/
  | supplyValid
  /-- R670: Supplies not valid within WAKE_TIMEOUT deassert both outputs. -/
  | wakeTimeout
  /-- R670: 1 s after a WAKE_TIMEOUT the power-enable outputs are asserted again. -/
  | wakeRetry
  /-- R679: A label update is checked, latched and a DIRTY record requested. -/
  | labelUpdate (kind : Nat)
  /-- R679: The DIRTY record is committed and the label waveform begins with POWER_ON. -/
  | labelWaveformStart
  /-- R674: Every 50 ms a FRAME of drive data is sent and the band is judged for slip. -/
  | labelFrame
  /-- R679: The waveform's last frame ends, END and POWER_OFF are sent and the clearing record requested. -/
  | labelWaveformEnd
  /-- R681: After a dirty power cut, on reaching M4 or M5 Lantern redraws or clears the label. -/
  | labelRecovery
  /-- R675: The label diode temperature is measured. -/
  | labelTempMeasure (t : Int) (fault : Bool)
  /-- R683: A write of LABEL_CTRL.ENABLE drains the label driver. -/
  | labelDrain (enable : Bool)
  /-- R683: FORCE_STOP ends the waveform at the next frame boundary. -/
  | labelForceStop (late : Bool)
  /-- R687: The glow image read into Grotto completes and is copied to the glow buffer at the next tick. -/
  | glowLoadDone
  /-- R698: A kind's leak timer expires and every non-empty bucket of the kind loses 1. -/
  | bucketLeak (kind : Nat)
  /-- R702: A retired unit is restored and its bucket emptied. -/
  | unitRestore (kind unit : Nat)
  /-- R705: A coalescing window closes and the entry is persisted if the allowance permits. -/
  | sumpCoalesceClose (seq : Nat)
  /-- R705: The Sump persistence allowance is refilled at sump_persist_rate. -/
  | persistAllowanceRefill
  /-- R707: Dripstone reads one step of a target and rewrites errors it finds. -/
  | dripStep (target : Nat) (errs : List (Nat × Nat × Nat))
  /-- R707: A Dripstone pass begins when the previous pass has ended and its period has run. -/
  | dripPassStart (target : Nat)
  /-- R712: A write of DRIP_CTRL.ENABLE drains Dripstone. -/
  | dripDrain (enable : Bool)
  /-- R712: FORCE_STOP abandons every Dripstone step in progress. -/
  | dripForceStop (late : Bool)
  /-- R728: A write of HLTH.BKT_SEL snapshots a bucket. -/
  | bktSelect (kind unit : Nat)
  /-- R728: A write of HLTH.SUMP_SEL snapshots a ledger entry. -/
  | sumpSelect (index : Nat)
  /-- R732: RESET_ALL writes 0 to every performance counter. -/
  | perfResetAll
  /-- R739: A crossed pulse count or running total is added to a counter. -/
  | counterIncrement (perf : Bool) (event amount : Nat) (lost : Bool)
  /-- R746: VDD_LANT is first applied, resetting the LANT group, setting phi to 0 and asserting the power-enable outputs. -/
  | lantPowerOn
  /-- R614: An uncorrectable error in Bedrock SRAM at any time forces M11 with INTEG_CAUSE ROM_SELFTEST. -/
  | bedrockSramError
  /-- R482: PCIe link training completes, HOST.LINK reports rate and width, and LINK_SLOW is set if the link is below 8 GT/s or x8. -/
  | pcieLinkUp (speed width : Nat)
  /-- R746: PERST# goes high and the HOST group is released, so link training can begin. -/
  | perstNRise
  /-- R612: Firmware ends the boot in M3 and the immediate transition to M4 begins. -/
  | endOfBoot
  /-- R464: The DRAM training gathering step in progress completes, the latched set-point change is applied and training restarts. -/
  | latchedSetpointApply
  /-- R649: A NOR program or read-back fails, or a device stops answering, so the record is rewritten or the device is treated as failed. -/
  | flashOperationFailed (dev : Nat) (answers : Bool)
  /-- R621: The erase, write and read-back of an image install finish, ending with SEC_DONE or FLASH_FAILED. -/
  | installComplete (ok : Bool)
  deriving DecidableEq, Repr

end Sys2Proof
end

