-- ==== Sys2Proof/Decode.lean ====
section
/-!
DEFINITION. The commands that words spell. spec/opcode_table.json gives no row of this block any bits: its "fields" are empty, a
command arrives over a link, a pin or the register space and not as an instruction word. So no word spells a command.
-/
namespace Sys2Proof

/-- The command spelt by a word of `nbits` bits, by the table's bits: no row has any. -/
def decodeTableWord (_nbits _w : Nat) : Option Instr := none

end Sys2Proof
end

