-- ==== Sys2Proof/Machine/Crc.lean ====
section
/-!
DEFINITION. The cyclic redundancy codes of the manual (spec/04_mbaudel_scene_format.md R101, spec/15_blit_crc_deflate.md R535,
spec/09_scanout_and_panel_driving.md R332), as running states without the final XOR.
-/
namespace Sys2Proof.Machine

/-- The low `n` bits of `v` in reverse order. -/
def bitRev (n v : Nat) : Nat := (List.range n).foldl (fun a i => 2 * a + v / 2 ^ i % 2) 0

/-- One step of a reflected CRC whose polynomial is given reflected. -/
def crcStepR (poly s : Nat) : Nat := if s % 2 = 1 then Nat.xor (s / 2) poly else s / 2

/-- One step of a CRC of width `w` that takes the most significant bit first. -/
def crcStepN (w poly s : Nat) : Nat := if s / 2 ^ (w - 1) % 2 = 1 then Nat.xor (2 * s % 2 ^ w) poly else 2 * s % 2 ^ w

/-- Apply a step `n` times. -/
def iter {α : Type} (f : α → α) : Nat → α → α
  | 0, a => a
  | n + 1, a => iter f n (f a)

/-- Take one byte into a reflected CRC. -/
def crcByteR (poly s b : Nat) : Nat := iter (crcStepR poly) 8 (Nat.xor s b)

/-- Take one byte into an unreflected CRC of width `w`. -/
def crcByteN (w poly s b : Nat) : Nat := iter (crcStepN w poly) 8 (Nat.xor s (b * 2 ^ (w - 8)))

/-- CRC-32C (R101): the running state after bytes. -/
def crc32cRun (s : Nat) (b : List Byte) : Nat := b.foldl (fun s x => crcByteR 0x82F63B78 s x.toNat) s

/-- CRC-32C of bytes, with its initial value and final XOR. -/
def crc32c (b : List Byte) : Nat := Nat.xor (crc32cRun 0xFFFFFFFF b) 0xFFFFFFFF

end Sys2Proof.Machine
end

