-- ==== Sys2Proof/Config.lean ====
section
/-!
DEFINITION. What the manual leaves open, as constants without a value: nothing in Lean can evaluate them, so a claim about
the machine holds whatever they are.
-/
namespace Sys2Proof

/-- The value the manual does not give, the `n`-th time one is needed (assumption log 1). -/
opaque Config.free : Nat → Nat

/-- HMAC-SHA-256 (key, message) of R88, the tag's 32 bytes; the standard's arithmetic is outside the manual (assumption log 2). -/
opaque Config.hmac256 : List Byte → List Byte → List Byte

/-- SHA-384 of R610: the digest's 48 bytes (assumption log 2). -/
opaque Config.sha384 : List Byte → List Byte

/-- Whether an ECDSA P-384 signature of R610 is correct: public key, digest, signature (assumption log 2). -/
opaque Config.ecdsaOk : List Byte → List Byte → List Byte → Bool

/-- The hashes of Celiebor's key slots 0 and 1, fixed in the ROM (R610); the manual does not print them (assumption log 2). -/
opaque Config.romKeyHash : Nat → List Byte

/-- The public key a key hash belongs to, which Bedrock verifies release tokens with (R631; assumption log 2). -/
opaque Config.keyOfHash : List Byte → List Byte

/-- THRM.SENSn_NBR, the neighbours fixed by placement, which the manual does not print (R562, R581). -/
opaque Config.sensorNbr : Nat → Nat

end Sys2Proof
end

