-- ==== Sys2Proof/Machine/DictKeys.lean ====
section
/-!
DEFINITION. The dictionary entries that no BAR0 register holds (spec/03_object_dictionary.md R63-R65): index, subindex, size in
bytes and default as a little-endian number (0 where the manual gives no default).
-/
namespace Sys2Proof.Machine

/-- A dictionary entry held as bytes. -/
structure DKey where
  ix   : Nat
  sb   : Nat
  sz   : Nat
  dflt : Nat
  deriving DecidableEq, Repr

/-- 0x1000:01 vendor_name. -/
def D.vendor_name : DKey := ⟨0x1000, 0x01, 16, 0x726f6265696c6543⟩
/-- 0x1000:02 part_number. -/
def D.part_number : DKey := ⟨0x1000, 0x02, 16, 0x303034392d485455⟩
/-- 0x1000:03 stepping. -/
def D.stepping : DKey := ⟨0x1000, 0x03, 1, 0x1⟩
/-- 0x1000:04 die_id. -/
def D.die_id : DKey := ⟨0x1000, 0x04, 16, 0x0⟩
/-- 0x1000:05 serial_number. -/
def D.serial_number : DKey := ⟨0x1000, 0x05, 32, 0x0⟩
/-- 0x1000:06 key_state. -/
def D.key_state : DKey := ⟨0x1000, 0x06, 1, 0x0⟩
/-- 0x1000:07 firmware_version. -/
def D.firmware_version : DKey := ⟨0x1000, 0x07, 4, 0x0⟩
/-- 0x1000:08 bedrock_version. -/
def D.bedrock_version : DKey := ⟨0x1000, 0x08, 4, 0x0⟩
/-- 0x1000:09 dictionary_version. -/
def D.dictionary_version : DKey := ⟨0x1000, 0x09, 4, 0x20000⟩
/-- 0x1100:01 idp_enable. -/
def D.idp_enable : DKey := ⟨0x1100, 0x01, 1, 0x1⟩
/-- 0x1100:02 idp_port. -/
def D.idp_port : DKey := ⟨0x1100, 0x02, 2, 0xbac2⟩
/-- 0x1100:03 ipv4_address. -/
def D.ipv4_address : DKey := ⟨0x1100, 0x03, 4, 0x0⟩
/-- 0x1100:04 ipv4_netmask. -/
def D.ipv4_netmask : DKey := ⟨0x1100, 0x04, 4, 0xffffff00⟩
/-- 0x1100:05 ipv4_gateway. -/
def D.ipv4_gateway : DKey := ⟨0x1100, 0x05, 4, 0x0⟩
/-- 0x1100:06 ipv6_address. -/
def D.ipv6_address : DKey := ⟨0x1100, 0x06, 16, 0x0⟩
/-- 0x1100:07 ipv6_prefix_len. -/
def D.ipv6_prefix_len : DKey := ⟨0x1100, 0x07, 1, 0x40⟩
/-- 0x1100:08 idp_v1_enable. -/
def D.idp_v1_enable : DKey := ⟨0x1100, 0x08, 1, 0x1⟩
/-- 0x1100:09 host_fabric_write. -/
def D.host_fabric_write : DKey := ⟨0x1100, 0x09, 1, 0x0⟩
/-- 0x1101:01 session_challenge. -/
def D.session_challenge : DKey := ⟨0x1101, 0x01, 16, 0x0⟩
/-- 0x1101:02 session_open. -/
def D.session_open : DKey := ⟨0x1101, 0x02, 52, 0x0⟩
/-- 0x1101:03 session_close. -/
def D.session_close : DKey := ⟨0x1101, 0x03, 2, 0x0⟩
/-- 0x1101:04 sessions_open. -/
def D.sessions_open : DKey := ⟨0x1101, 0x04, 1, 0x0⟩
/-- 0x1101:05 session_idle_timeout. -/
def D.session_idle_timeout : DKey := ⟨0x1101, 0x05, 2, 0x3c⟩
/-- 0x1102:01 idp_rx. -/
def D.idp_rx : DKey := ⟨0x1102, 0x01, 4, 0x0⟩
/-- 0x1102:02 idp_dropped. -/
def D.idp_dropped : DKey := ⟨0x1102, 0x02, 4, 0x0⟩
/-- 0x1102:03 idp_auth_fail. -/
def D.idp_auth_fail : DKey := ⟨0x1102, 0x03, 4, 0x0⟩
/-- 0x1102:04 idp_replay. -/
def D.idp_replay : DKey := ⟨0x1102, 0x04, 4, 0x0⟩
/-- 0x1102:05 idp_late_remote. -/
def D.idp_late_remote : DKey := ⟨0x1102, 0x05, 4, 0x0⟩
/-- 0x1200:01 bar4_size. -/
def D.bar4_size : DKey := ⟨0x1200, 0x01, 1, 0x6⟩
/-- 0x1200:02 link_speed_max. -/
def D.link_speed_max : DKey := ⟨0x1200, 0x02, 1, 0x5⟩
/-- 0x2000:05 boot_target. -/
def D.boot_target : DKey := ⟨0x2000, 0x05, 1, 0x5⟩
/-- 0x2000:06 hibernate_dram. -/
def D.hibernate_dram : DKey := ⟨0x2000, 0x06, 1, 0x1⟩
/-- 0x2000:07 test_unlock. -/
def D.test_unlock : DKey := ⟨0x2000, 0x07, 1, 0x0⟩
/-- 0x2000:08 thermal_auto_resume. -/
def D.thermal_auto_resume : DKey := ⟨0x2000, 0x08, 1, 0x1⟩
/-- 0x2200:01 throttle_share. -/
def D.throttle_share : DKey := ⟨0x2200, 0x01, 1, 0x32⟩
/-- 0x2200:02 throttle_pause. -/
def D.throttle_pause : DKey := ⟨0x2200, 0x02, 2, 0x64⟩
/-- 0x2200:03 step_up_auto. -/
def D.step_up_auto : DKey := ⟨0x2200, 0x03, 1, 0x1⟩
/-- 0x2210:02 step_downs. -/
def D.step_downs : DKey := ⟨0x2210, 0x02, 4, 0x0⟩
/-- 0x2210:03 throttle_ms. -/
def D.throttle_ms : DKey := ⟨0x2210, 0x03, 4, 0x0⟩
/-- 0x2210:04 grants_refused. -/
def D.grants_refused : DKey := ⟨0x2210, 0x04, 4, 0x0⟩
/-- 0x3000:01 scene_source. -/
def D.scene_source : DKey := ⟨0x3000, 0x01, 1, 0x2⟩
/-- 0x3000:04 stall_timeout. -/
def D.stall_timeout : DKey := ⟨0x3000, 0x04, 4, 0x3e8⟩
/-- 0x3000:05 queue_flush. -/
def D.queue_flush : DKey := ⟨0x3000, 0x05, 1, 0x0⟩
/-- 0x3010:01 msf_v1_enable. -/
def D.msf_v1_enable : DKey := ⟨0x3010, 0x01, 1, 0x1⟩
/-- 0x3010:02 msf_v1_cost. -/
def D.msf_v1_cost : DKey := ⟨0x3010, 0x02, 1, 0x18⟩
/-- 0x3010:03 msf_flat_enable. -/
def D.msf_flat_enable : DKey := ⟨0x3010, 0x03, 1, 0x1⟩
/-- 0x3010:04 msf_version_max. -/
def D.msf_version_max : DKey := ⟨0x3010, 0x04, 1, 0x2⟩
/-- 0x3020:03 scene_quota_min. -/
def D.scene_quota_min : DKey := ⟨0x3020, 0x03, 4, 0x0⟩
/-- 0x3020:04 subst_policy. -/
def D.subst_policy : DKey := ⟨0x3020, 0x04, 1, 0x0⟩
/-- 0x3020:05 retry_enable. -/
def D.retry_enable : DKey := ⟨0x3020, 0x05, 1, 0x1⟩
/-- 0x3020:07 bg_tokens. -/
def D.bg_tokens : DKey := ⟨0x3020, 0x07, 1, 0x8⟩
/-- 0x5000:04 layer_read_limit. -/
def D.layer_read_limit : DKey := ⟨0x5000, 0x04, 4, 0x7d00⟩
/-- 0x5040:01 sig_region_0. -/
def D.sig_region_0 : DKey := ⟨0x5040, 0x01, 16, 0x0⟩
/-- 0x5040:02 sig_region_1. -/
def D.sig_region_1 : DKey := ⟨0x5040, 0x02, 16, 0x0⟩
/-- 0x5040:03 sig_region_2. -/
def D.sig_region_2 : DKey := ⟨0x5040, 0x03, 16, 0x0⟩
/-- 0x5040:04 sig_region_3. -/
def D.sig_region_3 : DKey := ⟨0x5040, 0x04, 16, 0x0⟩
/-- 0x5040:05 sig_region_4. -/
def D.sig_region_4 : DKey := ⟨0x5040, 0x05, 16, 0x0⟩
/-- 0x5040:06 sig_region_5. -/
def D.sig_region_5 : DKey := ⟨0x5040, 0x06, 16, 0x0⟩
/-- 0x5040:07 sig_region_6. -/
def D.sig_region_6 : DKey := ⟨0x5040, 0x07, 16, 0x0⟩
/-- 0x5050:02 tap_tokens. -/
def D.tap_tokens : DKey := ⟨0x5050, 0x02, 1, 0x4⟩
/-- 0x5120:01 commit. -/
def D.commit : DKey := ⟨0x5120, 0x01, 2, 0x0⟩
/-- 0x5120:03 commit_deadline. -/
def D.commit_deadline : DKey := ⟨0x5120, 0x03, 4, 0x9c40⟩
/-- 0x6000:01 eye_width_min. -/
def D.eye_width_min : DKey := ⟨0x6000, 0x01, 2, 0x12c⟩
/-- 0x6000:02 eye_height_min. -/
def D.eye_height_min : DKey := ⟨0x6000, 0x02, 2, 0x1e⟩
/-- 0x6000:03 retrain_tokens. -/
def D.retrain_tokens : DKey := ⟨0x6000, 0x03, 1, 0x2⟩
/-- 0x6000:04 train_retries. -/
def D.train_retries : DKey := ⟨0x6000, 0x04, 1, 0x3⟩
/-- 0x6000:05 tap_tracking. -/
def D.tap_tracking : DKey := ⟨0x6000, 0x05, 1, 0x1⟩
/-- 0x6001:03 lane_restore. -/
def D.lane_restore : DKey := ⟨0x6001, 0x03, 1, 0x0⟩
/-- 0x6100:04 link_gen. -/
def D.link_gen : DKey := ⟨0x6100, 0x04, 1, 0x3⟩
/-- 0x6100:05 node_address. -/
def D.node_address : DKey := ⟨0x6100, 0x05, 2, 0x0⟩
/-- 0x6100:07 fabric_forget. -/
def D.fabric_forget : DKey := ⟨0x6100, 0x07, 1, 0x0⟩
/-- 0x6110:01 wall_geometry. -/
def D.wall_geometry : DKey := ⟨0x6110, 0x01, 80, 2 ^ 616⟩
/-- 0x7000:0C utc_offset. -/
def D.utc_offset : DKey := ⟨0x7000, 0x0C, 2, 0x0⟩
/-- 0x8000:01 dram_type. -/
def D.dram_type : DKey := ⟨0x8000, 0x01, 1, 0x1⟩
/-- 0x8000:02 channel_density. -/
def D.channel_density : DKey := ⟨0x8000, 0x02, 1, 0x2⟩
/-- 0x8000:06 capacity. -/
def D.capacity : DKey := ⟨0x8000, 0x06, 8, 0x0⟩
/-- 0x8000:07 retire_safe. -/
def D.retire_safe : DKey := ⟨0x8000, 0x07, 8, 0x0⟩
/-- 0x8000:0A train_tokens. -/
def D.train_tokens : DKey := ⟨0x8000, 0x0A, 1, 0xc⟩
/-- 0x8000:0B remap_rate. -/
def D.remap_rate : DKey := ⟨0x8000, 0x0B, 4, 0x5dc0⟩
/-- 0x8000:0C remap_tokens. -/
def D.remap_tokens : DKey := ⟨0x8000, 0x0C, 1, 0x28⟩
/-- 0x8000:0D setpoint_boot. -/
def D.setpoint_boot : DKey := ⟨0x8000, 0x0D, 1, 0x0⟩
/-- 0x8000:0E margin_min. -/
def D.margin_min : DKey := ⟨0x8000, 0x0E, 1, 0x4⟩
/-- 0x8000:0F channel_restore. -/
def D.channel_restore : DKey := ⟨0x8000, 0x0F, 1, 0x0⟩
/-- 0x9000:02 cal_tokens. -/
def D.cal_tokens : DKey := ⟨0x9000, 0x02, 1, 0x4⟩
/-- 0x9000:03 track_mask. -/
def D.track_mask : DKey := ⟨0x9000, 0x03, 4, 0x3f⟩
/-- 0x9000:04 track_interval. -/
def D.track_interval : DKey := ⟨0x9000, 0x04, 2, 0x3c⟩
/-- 0x9000:05 cal_run. -/
def D.cal_run : DKey := ⟨0x9000, 0x05, 4, 0x0⟩
/-- 0x9000:06 panel_id. -/
def D.panel_id : DKey := ⟨0x9000, 0x06, 16, 0x0⟩
/-- 0x9010:05 optics_quality. -/
def D.optics_quality : DKey := ⟨0x9010, 0x05, 8, 0x0⟩
/-- 0x9030:01 aging_auto. -/
def D.aging_auto : DKey := ⟨0x9030, 0x01, 1, 0x1⟩
/-- 0x9030:04 dose_reset. -/
def D.dose_reset : DKey := ⟨0x9030, 0x04, 1, 0x0⟩
/-- 0x9100:01 vcp_export. -/
def D.vcp_export : DKey := ⟨0x9100, 0x01, 16, 0x0⟩
/-- 0x9100:02 vcp_store. -/
def D.vcp_store : DKey := ⟨0x9100, 0x02, 16, 0x0⟩
/-- 0x9100:03 vcp_restore. -/
def D.vcp_restore : DKey := ⟨0x9100, 0x03, 16, 0x0⟩
/-- 0x9100:05 vcp_autorestore. -/
def D.vcp_autorestore : DKey := ⟨0x9100, 0x05, 1, 0x1⟩
/-- 0xA010:01 bucket_kind_0. -/
def D.bucket_kind_0 : DKey := ⟨0xA010, 0x01, 8, 0x36ee800010⟩
/-- 0xA010:02 bucket_kind_1. -/
def D.bucket_kind_1 : DKey := ⟨0xA010, 0x02, 8, 0x36ee800010⟩
/-- 0xA010:03 bucket_kind_2. -/
def D.bucket_kind_2 : DKey := ⟨0xA010, 0x03, 8, 0x36ee800010⟩
/-- 0xA010:04 bucket_kind_3. -/
def D.bucket_kind_3 : DKey := ⟨0xA010, 0x04, 8, 0x927c00008⟩
/-- 0xA010:05 bucket_kind_4. -/
def D.bucket_kind_4 : DKey := ⟨0xA010, 0x05, 8, 0x5265c000010⟩
/-- 0xA010:06 bucket_kind_5. -/
def D.bucket_kind_5 : DKey := ⟨0xA010, 0x06, 8, 0x5265c000004⟩
/-- 0xA010:07 bucket_kind_6. -/
def D.bucket_kind_6 : DKey := ⟨0xA010, 0x07, 8, 0x240c84000004⟩
/-- 0xA010:08 bucket_kind_7. -/
def D.bucket_kind_7 : DKey := ⟨0xA010, 0x08, 8, 0x36ee800008⟩
/-- 0xA010:09 bucket_kind_8. -/
def D.bucket_kind_8 : DKey := ⟨0xA010, 0x09, 8, 0x10100⟩
/-- 0xA010:0A bucket_kind_9. -/
def D.bucket_kind_9 : DKey := ⟨0xA010, 0x0A, 8, 0x36ee800008⟩
/-- 0xA010:0B bucket_kind_10. -/
def D.bucket_kind_10 : DKey := ⟨0xA010, 0x0B, 8, 0x36ee800008⟩
/-- 0xA010:0C bucket_kind_11. -/
def D.bucket_kind_11 : DKey := ⟨0xA010, 0x0C, 8, 0x36ee800008⟩
/-- 0xA010:0D bucket_kind_12. -/
def D.bucket_kind_12 : DKey := ⟨0xA010, 0x0D, 8, 0x36ee800008⟩
/-- 0xA020:01 unit_restore. -/
def D.unit_restore : DKey := ⟨0xA020, 0x01, 4, 0x0⟩
/-- 0xA200:01 sump_coalesce_s. -/
def D.sump_coalesce_s : DKey := ⟨0xA200, 0x01, 2, 0x3c⟩
/-- 0xA200:02 sump_persist_rate. -/
def D.sump_persist_rate : DKey := ⟨0xA200, 0x02, 2, 0x258⟩
/-- 0xA300:01 drip_period_dram. -/
def D.drip_period_dram : DKey := ⟨0xA300, 0x01, 4, 0x15180⟩
/-- 0xA300:02 drip_period_grotto. -/
def D.drip_period_grotto : DKey := ⟨0xA300, 0x02, 4, 0xa⟩
/-- 0xA300:03 drip_period_nor. -/
def D.drip_period_nor : DKey := ⟨0xA300, 0x03, 4, 0x93a80⟩
/-- 0xA300:04 scrub_tokens. -/
def D.scrub_tokens : DKey := ⟨0xA300, 0x04, 1, 0xa⟩
/-- 0xA300:05 drip_targets. -/
def D.drip_targets : DKey := ⟨0xA300, 0x05, 4, 0x7⟩
/-- 0xA500:01 telemetry_ring. -/
def D.telemetry_ring : DKey := ⟨0xA500, 0x01, 16, 0x0⟩
/-- 0xB000:02 image_install. -/
def D.image_install : DKey := ⟨0xB000, 0x02, 16, 0x0⟩
/-- 0xB000:03 fw_switch. -/
def D.fw_switch : DKey := ⟨0xB000, 0x03, 4, 0x0⟩
/-- 0xB000:04 trial_commit. -/
def D.trial_commit : DKey := ⟨0xB000, 0x04, 1, 0x0⟩
/-- 0xB000:05 trial_period. -/
def D.trial_period : DKey := ⟨0xB000, 0x05, 4, 0x258⟩
/-- 0xB000:06 rollback_advance. -/
def D.rollback_advance : DKey := ⟨0xB000, 0x06, 1, 0x0⟩
/-- 0xB001:01 key_enrol. -/
def D.key_enrol : DKey := ⟨0xB001, 0x01, 8, 0x0⟩
/-- 0xB001:02 key_revoke. -/
def D.key_revoke : DKey := ⟨0xB001, 0x02, 1, 0x0⟩
/-- 0xB001:03 enrol_lock. -/
def D.enrol_lock : DKey := ⟨0xB001, 0x03, 1, 0x0⟩
/-- 0xB010:01 release_challenge. -/
def D.release_challenge : DKey := ⟨0xB010, 0x01, 32, 0x0⟩
/-- 0xB010:02 release_token. -/
def D.release_token : DKey := ⟨0xB010, 0x02, 104, 0x0⟩
/-- 0xB020:01 spare_swap. -/
def D.spare_swap : DKey := ⟨0xB020, 0x01, 2, 0x0⟩
/-- 0xB040:01 sig7_fail_frames. -/
def D.sig7_fail_frames : DKey := ⟨0xB040, 0x01, 1, 0x8⟩
/-- 0xB100:04 power_cycles. -/
def D.power_cycles : DKey := ⟨0xB100, 0x04, 4, 0x0⟩
/-- 0xB100:06 vault_compact. -/
def D.vault_compact : DKey := ⟨0xB100, 0x06, 1, 0x0⟩
/-- 0xB200:01 net_psk_0. -/
def D.net_psk_0 : DKey := ⟨0xB200, 0x01, 32, 0x0⟩
/-- 0xB200:02 net_psk_1. -/
def D.net_psk_1 : DKey := ⟨0xB200, 0x02, 32, 0x0⟩
/-- 0xB200:03 net_psk_2. -/
def D.net_psk_2 : DKey := ⟨0xB200, 0x03, 32, 0x0⟩
/-- 0xB200:04 net_psk_3. -/
def D.net_psk_3 : DKey := ⟨0xB200, 0x04, 32, 0x0⟩
/-- 0xC010:02 label_update. -/
def D.label_update : DKey := ⟨0xC010, 0x02, 1, 0x0⟩
/-- 0xC010:03 label_geometry. -/
def D.label_geometry : DKey := ⟨0xC010, 0x03, 4, 0x12c0190⟩
/-- 0xC010:05 band_edges. -/
def D.band_edges : DKey := ⟨0xC010, 0x05, 8, 0x281e18120c0600⟩
/-- 0xC010:06 label_temp_source. -/
def D.label_temp_source : DKey := ⟨0xC010, 0x06, 1, 0x0⟩
/-- 0xC010:07 label_temp_written. -/
def D.label_temp_written : DKey := ⟨0xC010, 0x07, 2, 0x140⟩
/-- 0xD000:01 dma_chain_limit. -/
def D.dma_chain_limit : DKey := ⟨0xD000, 0x01, 4, 0x10000⟩
/-- 0xD000:02 dma_tokens. -/
def D.dma_tokens : DKey := ⟨0xD000, 0x02, 1, 0x1⟩
/-- 0xD100:01 blit_tokens. -/
def D.blit_tokens : DKey := ⟨0xD100, 0x01, 1, 0x4⟩
/-- 0xD200:01 crc_tokens. -/
def D.crc_tokens : DKey := ⟨0xD200, 0x01, 1, 0x2⟩
/-- 0xD300:01 deflate_tokens. -/
def D.deflate_tokens : DKey := ⟨0xD300, 0x01, 1, 0x6⟩

end Sys2Proof.Machine
end

