-- ==== Sys2Proof/Machine/Regs.lean ====
section
/-!
DEFINITION. The BAR0 register map: one row per field of every register the manual lists, with its offset, bits, access code,
reset value and array strides. The tables transcribed are those of R30-R33, R56-R62, R168-R181, R206-R209, R240-R252,
R293-R303, R338-R346, R381-R386, R414-R419, R441-R446, R474-R481, R507-R514, R531-R548, R575-R581, R602-R606,
R634-R639, R659-R664, R691-R696, R726-R734 and R749; the block bases are those of R29.
-/
namespace Sys2Proof.Machine

/-- Access codes of R4. -/
inductive Acc where
  | RO | RW | RWB | RWT | W1C | W1S | WO | RC
  deriving DecidableEq, Repr

/-- One field of one register, or of an array of equal registers: BAR0 offset of the first, bits hi:lo, access code, reset
value, count and stride of the array, count and stride of an inner array, and which index-dependent reset rule applies
(0: none; 1: R278 identity LUT; 2, 3: R267 bilinear taps; 4: unity gain R280; 5: R293 substitute colour;
6: R581 fixed neighbours). -/
structure Row where
  off : Nat
  hi  : Nat
  lo  : Nat
  acc : Acc
  rst : Nat
  c1  : Nat
  s1  : Nat
  c2  : Nat
  s2  : Nat
  sp  : Nat
  deriving DecidableEq, Repr

/-- The key a field instance is held under: its register's offset and its lowest bit. -/
def Row.key (r : Row) (i j : Nat) : Nat := (r.off + i * r.s1 + j * r.s2) * 32 + r.lo

/-- The width of a field in bits. -/
def Row.width (r : Row) : Nat := r.hi + 1 - r.lo

/-- The node position x(n) of the 1D LUT (R278). -/
def lutX (n : Nat) : Nat := if n < 32 then n else 2 ^ (n / 32 + 4) + (n % 32) * 2 ^ (n / 32 - 1)

/-- The reset value of a field instance: the table's, or the index-dependent value the manual gives. -/
def Row.reset (r : Row) (i j : Nat) : Nat :=
  match r.sp with
  | 1 => if lutX j > 0xFFFFFF then 0xFFFFFF else lutX j
  | 2 => -- horizontal taps, word j holds taps 2*(j % 4) and 2*(j % 4)+1 of phase j / 4 (R267)
    let p := j / 4
    if r.lo = 16 ∧ j % 4 = 1 then 1024 - 16 * p else if r.lo = 0 ∧ j % 4 = 2 then 16 * p else 0
  | 3 => -- vertical taps, word j holds taps 2*(j % 3) and 2*(j % 3)+1 of phase j / 3 (R267)
    let p := j / 3
    if r.lo = 0 ∧ j % 3 = 1 then 1024 - 16 * p else if r.lo = 16 ∧ j % 3 = 1 then 16 * p else 0
  | 4 => if j = 0 then 0x40004000 else 0x4000
  | 5 => if i = 1 then 0x9C4000 else 0
  | 6 => bits (Config.sensorNbr i) r.hi r.lo
  | _ => r.rst

namespace R.SYS

/-- SYS.TICK_COUNT_LO.COUNT_LO (R30). -/
def TICK_COUNT_LO.COUNT_LO : Row := ⟨0x100, 31, 0, .RO, 0x0, 1, 0x0, 1, 0x0, 0⟩
/-- SYS.TICK_COUNT_HI.COUNT_HI (R30). -/
def TICK_COUNT_HI.COUNT_HI : Row := ⟨0x104, 31, 0, .RO, 0x0, 1, 0x0, 1, 0x0, 0⟩
/-- SYS.TICK_STATUS.IN_BLANK (R31). -/
def TICK_STATUS.IN_BLANK : Row := ⟨0x108, 31, 31, .RO, 0x1, 1, 0x0, 1, 0x0, 0⟩
/-- SYS.TICK_STATUS.COMMIT_OPEN (R31). -/
def TICK_STATUS.COMMIT_OPEN : Row := ⟨0x108, 30, 30, .RO, 0x0, 1, 0x0, 1, 0x0, 0⟩
/-- SYS.TICK_STATUS.LAST_ABORTED (R31). -/
def TICK_STATUS.LAST_ABORTED : Row := ⟨0x108, 29, 29, .RO, 0x0, 1, 0x0, 1, 0x0, 0⟩
/-- SYS.TICK_STATUS.RASTER_RUN (R31). -/
def TICK_STATUS.RASTER_RUN : Row := ⟨0x108, 28, 28, .RO, 0x0, 1, 0x0, 1, 0x0, 0⟩
/-- SYS.TICK_STATUS.BAND (R31). -/
def TICK_STATUS.BAND : Row := ⟨0x108, 24, 16, .RO, 0x0, 1, 0x0, 1, 0x0, 0⟩
/-- SYS.TICK_STATUS.LINE (R31). -/
def TICK_STATUS.LINE : Row := ⟨0x108, 14, 0, .RO, 0x0, 1, 0x0, 1, 0x0, 0⟩
/-- SYS.TICK_EVENT.SCENE_HELD (R32). -/
def TICK_EVENT.SCENE_HELD : Row := ⟨0x10c, 5, 5, .W1C, 0x0, 1, 0x0, 1, 0x0, 0⟩
/-- SYS.TICK_EVENT.SCENE_LAUNCHED (R32). -/
def TICK_EVENT.SCENE_LAUNCHED : Row := ⟨0x10c, 4, 4, .W1C, 0x0, 1, 0x0, 1, 0x0, 0⟩
/-- SYS.TICK_EVENT.FRAME_ABORT (R32). -/
def TICK_EVENT.FRAME_ABORT : Row := ⟨0x10c, 3, 3, .W1C, 0x0, 1, 0x0, 1, 0x0, 0⟩
/-- SYS.TICK_EVENT.COMMIT_DEFERRED (R32). -/
def TICK_EVENT.COMMIT_DEFERRED : Row := ⟨0x10c, 2, 2, .W1C, 0x0, 1, 0x0, 1, 0x0, 0⟩
/-- SYS.TICK_EVENT.DEADLINE (R32). -/
def TICK_EVENT.DEADLINE : Row := ⟨0x10c, 1, 1, .W1C, 0x0, 1, 0x0, 1, 0x0, 0⟩
/-- SYS.TICK_EVENT.TICK (R32). -/
def TICK_EVENT.TICK : Row := ⟨0x10c, 0, 0, .W1C, 0x0, 1, 0x0, 1, 0x0, 0⟩
/-- SYS.TICK_IRQ_EN.SCENE_HELD_EN (R33). -/
def TICK_IRQ_EN.SCENE_HELD_EN : Row := ⟨0x110, 5, 5, .RW, 0x0, 1, 0x0, 1, 0x0, 0⟩
/-- SYS.TICK_IRQ_EN.SCENE_LAUNCHED_EN (R33). -/
def TICK_IRQ_EN.SCENE_LAUNCHED_EN : Row := ⟨0x110, 4, 4, .RW, 0x0, 1, 0x0, 1, 0x0, 0⟩
/-- SYS.TICK_IRQ_EN.FRAME_ABORT_EN (R33). -/
def TICK_IRQ_EN.FRAME_ABORT_EN : Row := ⟨0x110, 3, 3, .RW, 0x0, 1, 0x0, 1, 0x0, 0⟩
/-- SYS.TICK_IRQ_EN.COMMIT_DEFERRED_EN (R33). -/
def TICK_IRQ_EN.COMMIT_DEFERRED_EN : Row := ⟨0x110, 2, 2, .RW, 0x0, 1, 0x0, 1, 0x0, 0⟩
/-- SYS.TICK_IRQ_EN.DEADLINE_EN (R33). -/
def TICK_IRQ_EN.DEADLINE_EN : Row := ⟨0x110, 1, 1, .RW, 0x0, 1, 0x0, 1, 0x0, 0⟩
/-- SYS.TICK_IRQ_EN.TICK_EN (R33). -/
def TICK_IRQ_EN.TICK_EN : Row := ⟨0x110, 0, 0, .RW, 0x0, 1, 0x0, 1, 0x0, 0⟩
/-- SYS.MODE_STATUS.ENTRY (R56). -/
def MODE_STATUS.ENTRY : Row := ⟨0x200, 28, 24, .RO, 0x0, 1, 0x0, 1, 0x0, 0⟩
/-- SYS.MODE_STATUS.CAUSE (R56). -/
def MODE_STATUS.CAUSE : Row := ⟨0x200, 19, 16, .RO, 0x1, 1, 0x0, 1, 0x0, 0⟩
/-- SYS.MODE_STATUS.PREVIOUS (R56). -/
def MODE_STATUS.PREVIOUS : Row := ⟨0x200, 15, 12, .RO, 0x3, 1, 0x0, 1, 0x0, 0⟩
/-- SYS.MODE_STATUS.PENDING (R56). -/
def MODE_STATUS.PENDING : Row := ⟨0x200, 11, 8, .RO, 0xf, 1, 0x0, 1, 0x0, 0⟩
/-- SYS.MODE_STATUS.IN_TRANSITION (R56). -/
def MODE_STATUS.IN_TRANSITION : Row := ⟨0x200, 4, 4, .RO, 0x1, 1, 0x0, 1, 0x0, 0⟩
/-- SYS.MODE_STATUS.CURRENT (R56). -/
def MODE_STATUS.CURRENT : Row := ⟨0x200, 3, 0, .RO, 0x3, 1, 0x0, 1, 0x0, 0⟩
/-- SYS.MODE_REQ.GO (R58). -/
def MODE_REQ.GO : Row := ⟨0x204, 31, 31, .WO, 0x0, 1, 0x0, 1, 0x0, 0⟩
/-- SYS.MODE_REQ.ENTRY (R58). -/
def MODE_REQ.ENTRY : Row := ⟨0x204, 12, 8, .RW, 0x0, 1, 0x0, 1, 0x0, 0⟩
/-- SYS.MODE_REQ.MODE (R58). -/
def MODE_REQ.MODE : Row := ⟨0x204, 3, 0, .RW, 0x5, 1, 0x0, 1, 0x0, 0⟩
/-- SYS.MODE_RESULT.SEQ (R59). -/
def MODE_RESULT.SEQ : Row := ⟨0x208, 15, 8, .RO, 0x0, 1, 0x0, 1, 0x0, 0⟩
/-- SYS.MODE_RESULT.STATUS (R59). -/
def MODE_RESULT.STATUS : Row := ⟨0x208, 7, 0, .RO, 0x0, 1, 0x0, 1, 0x0, 0⟩
/-- SYS.MODE_EVENT.REFUSED (R61). -/
def MODE_EVENT.REFUSED : Row := ⟨0x20c, 3, 3, .W1C, 0x0, 1, 0x0, 1, 0x0, 0⟩
/-- SYS.MODE_EVENT.FORCED (R61). -/
def MODE_EVENT.FORCED : Row := ⟨0x20c, 2, 2, .W1C, 0x0, 1, 0x0, 1, 0x0, 0⟩
/-- SYS.MODE_EVENT.ENTRY_MASK_CHANGED (R61). -/
def MODE_EVENT.ENTRY_MASK_CHANGED : Row := ⟨0x20c, 1, 1, .W1C, 0x0, 1, 0x0, 1, 0x0, 0⟩
/-- SYS.MODE_EVENT.CHANGED (R61). -/
def MODE_EVENT.CHANGED : Row := ⟨0x20c, 0, 0, .W1C, 0x0, 1, 0x0, 1, 0x0, 0⟩
/-- SYS.MODE_IRQ_EN.REFUSED_EN (R61). -/
def MODE_IRQ_EN.REFUSED_EN : Row := ⟨0x214, 3, 3, .RW, 0x0, 1, 0x0, 1, 0x0, 0⟩
/-- SYS.MODE_IRQ_EN.FORCED_EN (R61). -/
def MODE_IRQ_EN.FORCED_EN : Row := ⟨0x214, 2, 2, .RW, 0x0, 1, 0x0, 1, 0x0, 0⟩
/-- SYS.MODE_IRQ_EN.ENTRY_MASK_CHANGED_EN (R61). -/
def MODE_IRQ_EN.ENTRY_MASK_CHANGED_EN : Row := ⟨0x214, 1, 1, .RW, 0x0, 1, 0x0, 1, 0x0, 0⟩
/-- SYS.MODE_IRQ_EN.CHANGED_EN (R61). -/
def MODE_IRQ_EN.CHANGED_EN : Row := ⟨0x214, 0, 0, .RW, 0x0, 1, 0x0, 1, 0x0, 0⟩
/-- SYS.MODE_ENTRY_MASK.PERMITTED (R62). -/
def MODE_ENTRY_MASK.PERMITTED : Row := ⟨0x210, 23, 0, .RO, 0x0, 1, 0x0, 1, 0x0, 0⟩
/-- SYS.RESET_STATUS.CORE_CAUSE (R749). -/
def RESET_STATUS.CORE_CAUSE : Row := ⟨0x300, 31, 28, .RO, 0x0, 1, 0x0, 1, 0x0, 0⟩
/-- SYS.RESET_STATUS.CPU_RESETS (R749). -/
def RESET_STATUS.CPU_RESETS : Row := ⟨0x300, 23, 16, .RO, 0x0, 1, 0x0, 1, 0x0, 0⟩
/-- SYS.RESET_STATUS.HOST_RESETS (R749). -/
def RESET_STATUS.HOST_RESETS : Row := ⟨0x300, 15, 8, .RO, 0x0, 1, 0x0, 1, 0x0, 0⟩

end R.SYS

/-- Rows of the SYS block, part 0. -/
def rowsSYS0 : List Row := [R.SYS.TICK_COUNT_LO.COUNT_LO, R.SYS.TICK_COUNT_HI.COUNT_HI, R.SYS.TICK_STATUS.IN_BLANK, R.SYS.TICK_STATUS.COMMIT_OPEN, R.SYS.TICK_STATUS.LAST_ABORTED, R.SYS.TICK_STATUS.RASTER_RUN, R.SYS.TICK_STATUS.BAND, R.SYS.TICK_STATUS.LINE, R.SYS.TICK_EVENT.SCENE_HELD, R.SYS.TICK_EVENT.SCENE_LAUNCHED, R.SYS.TICK_EVENT.FRAME_ABORT, R.SYS.TICK_EVENT.COMMIT_DEFERRED, R.SYS.TICK_EVENT.DEADLINE, R.SYS.TICK_EVENT.TICK, R.SYS.TICK_IRQ_EN.SCENE_HELD_EN, R.SYS.TICK_IRQ_EN.SCENE_LAUNCHED_EN, R.SYS.TICK_IRQ_EN.FRAME_ABORT_EN, R.SYS.TICK_IRQ_EN.COMMIT_DEFERRED_EN, R.SYS.TICK_IRQ_EN.DEADLINE_EN, R.SYS.TICK_IRQ_EN.TICK_EN, R.SYS.MODE_STATUS.ENTRY, R.SYS.MODE_STATUS.CAUSE, R.SYS.MODE_STATUS.PREVIOUS, R.SYS.MODE_STATUS.PENDING, R.SYS.MODE_STATUS.IN_TRANSITION, R.SYS.MODE_STATUS.CURRENT, R.SYS.MODE_REQ.GO, R.SYS.MODE_REQ.ENTRY, R.SYS.MODE_REQ.MODE, R.SYS.MODE_RESULT.SEQ, R.SYS.MODE_RESULT.STATUS, R.SYS.MODE_EVENT.REFUSED, R.SYS.MODE_EVENT.FORCED, R.SYS.MODE_EVENT.ENTRY_MASK_CHANGED, R.SYS.MODE_EVENT.CHANGED, R.SYS.MODE_IRQ_EN.REFUSED_EN, R.SYS.MODE_IRQ_EN.FORCED_EN, R.SYS.MODE_IRQ_EN.ENTRY_MASK_CHANGED_EN, R.SYS.MODE_IRQ_EN.CHANGED_EN, R.SYS.MODE_ENTRY_MASK.PERMITTED]
/-- Rows of the SYS block, part 1. -/
def rowsSYS1 : List Row := [R.SYS.RESET_STATUS.CORE_CAUSE, R.SYS.RESET_STATUS.CPU_RESETS, R.SYS.RESET_STATUS.HOST_RESETS]
/-- All register rows of the SYS block. -/
def rowsSYS : List Row := rowsSYS0 ++ rowsSYS1

namespace R.FLOW

/-- FLOW.CTRL.FORCE_STOP (R168). -/
def CTRL.FORCE_STOP : Row := ⟨0x400000, 2, 2, .WO, 0x0, 1, 0x0, 1, 0x0, 0⟩
/-- FLOW.CTRL.BG_EN (R168). -/
def CTRL.BG_EN : Row := ⟨0x400000, 1, 1, .RW, 0x0, 1, 0x0, 1, 0x0, 0⟩
/-- FLOW.CTRL.ENABLE (R168). -/
def CTRL.ENABLE : Row := ⟨0x400000, 0, 0, .RW, 0x1, 1, 0x0, 1, 0x0, 0⟩
/-- FLOW.STATUS.LAST_STOP (R169). -/
def STATUS.LAST_STOP : Row := ⟨0x400004, 31, 24, .RO, 0x0, 1, 0x0, 1, 0x0, 0⟩
/-- FLOW.STATUS.ACTIVE_LANES (R169). -/
def STATUS.ACTIVE_LANES : Row := ⟨0x400004, 12, 8, .RO, 0x18, 1, 0x0, 1, 0x0, 0⟩
/-- FLOW.STATUS.SPARES (R169). -/
def STATUS.SPARES : Row := ⟨0x400004, 5, 4, .RO, 0x2, 1, 0x0, 1, 0x0, 0⟩
/-- FLOW.STATUS.STATE (R169). -/
def STATUS.STATE : Row := ⟨0x400004, 1, 0, .RO, 0x0, 1, 0x0, 1, 0x0, 0⟩
/-- FLOW.LANE_ACTIVE.LANES (R170). -/
def LANE_ACTIVE.LANES : Row := ⟨0x400008, 25, 0, .RO, 0xffffff, 1, 0x0, 1, 0x0, 0⟩
/-- FLOW.LANE_RETIRED.LANES (R170). -/
def LANE_RETIRED.LANES : Row := ⟨0x40000c, 25, 0, .RO, 0x0, 1, 0x0, 1, 0x0, 0⟩
/-- FLOW.EVENT.LANE_RETIRED (R171). -/
def EVENT.LANE_RETIRED : Row := ⟨0x400010, 5, 5, .W1C, 0x0, 1, 0x0, 1, 0x0, 0⟩
/-- FLOW.EVENT.DECODE_ERR (R171). -/
def EVENT.DECODE_ERR : Row := ⟨0x400010, 4, 4, .W1C, 0x0, 1, 0x0, 1, 0x0, 0⟩
/-- FLOW.EVENT.QUOTA_EVICT (R171). -/
def EVENT.QUOTA_EVICT : Row := ⟨0x400010, 3, 3, .W1C, 0x0, 1, 0x0, 1, 0x0, 0⟩
/-- FLOW.EVENT.LATE_DATA (R171). -/
def EVENT.LATE_DATA : Row := ⟨0x400010, 2, 2, .W1C, 0x0, 1, 0x0, 1, 0x0, 0⟩
/-- FLOW.EVENT.REFUSED (R171). -/
def EVENT.REFUSED : Row := ⟨0x400010, 1, 1, .W1C, 0x0, 1, 0x0, 1, 0x0, 0⟩
/-- FLOW.EVENT.DRAINED (R171). -/
def EVENT.DRAINED : Row := ⟨0x400010, 0, 0, .W1C, 0x0, 1, 0x0, 1, 0x0, 0⟩
/-- FLOW.IRQ_EN.LANE_RETIRED_EN (R171). -/
def IRQ_EN.LANE_RETIRED_EN : Row := ⟨0x400014, 5, 5, .RW, 0x0, 1, 0x0, 1, 0x0, 0⟩
/-- FLOW.IRQ_EN.DECODE_ERR_EN (R171). -/
def IRQ_EN.DECODE_ERR_EN : Row := ⟨0x400014, 4, 4, .RW, 0x0, 1, 0x0, 1, 0x0, 0⟩
/-- FLOW.IRQ_EN.QUOTA_EVICT_EN (R171). -/
def IRQ_EN.QUOTA_EVICT_EN : Row := ⟨0x400014, 3, 3, .RW, 0x0, 1, 0x0, 1, 0x0, 0⟩
/-- FLOW.IRQ_EN.LATE_DATA_EN (R171). -/
def IRQ_EN.LATE_DATA_EN : Row := ⟨0x400014, 2, 2, .RW, 0x0, 1, 0x0, 1, 0x0, 0⟩
/-- FLOW.IRQ_EN.REFUSED_EN (R171). -/
def IRQ_EN.REFUSED_EN : Row := ⟨0x400014, 1, 1, .RW, 0x0, 1, 0x0, 1, 0x0, 0⟩
/-- FLOW.IRQ_EN.DRAINED_EN (R171). -/
def IRQ_EN.DRAINED_EN : Row := ⟨0x400014, 0, 0, .RW, 0x0, 1, 0x0, 1, 0x0, 0⟩
/-- FLOW.QUEUE_BASE_LO.BASE_LO (R172). -/
def QUEUE_BASE_LO.BASE_LO : Row := ⟨0x400040, 31, 20, .RW, 0x400, 1, 0x0, 1, 0x0, 0⟩
/-- FLOW.QUEUE_BASE_HI.BASE_HI (R172). -/
def QUEUE_BASE_HI.BASE_HI : Row := ⟨0x400044, 3, 0, .RW, 0x0, 1, 0x0, 1, 0x0, 0⟩
/-- FLOW.QUEUE_SIZE.SIZE_MIB (R172). -/
def QUEUE_SIZE.SIZE_MIB : Row := ⟨0x400048, 14, 0, .RW, 0x1000, 1, 0x0, 1, 0x0, 0⟩
/-- FLOW.QUEUE_CTRL.FLUSH (R173). -/
def QUEUE_CTRL.FLUSH : Row := ⟨0x40004c, 0, 0, .WO, 0x0, 1, 0x0, 1, 0x0, 0⟩
/-- FLOW.QUEUE_STATUS.HAS_CURRENT (R174). -/
def QUEUE_STATUS.HAS_CURRENT : Row := ⟨0x400050, 24, 24, .RO, 0x0, 1, 0x0, 1, 0x0, 0⟩
/-- FLOW.QUEUE_STATUS.RECEIVING (R174). -/
def QUEUE_STATUS.RECEIVING : Row := ⟨0x400050, 23, 18, .RO, 0x0, 1, 0x0, 1, 0x0, 0⟩
/-- FLOW.QUEUE_STATUS.WAITING (R174). -/
def QUEUE_STATUS.WAITING : Row := ⟨0x400050, 17, 12, .RO, 0x0, 1, 0x0, 1, 0x0, 0⟩
/-- FLOW.QUEUE_STATUS.BASE_ONLY (R174). -/
def QUEUE_STATUS.BASE_ONLY : Row := ⟨0x400050, 11, 6, .RO, 0x0, 1, 0x0, 1, 0x0, 0⟩
/-- FLOW.QUEUE_STATUS.HELD_M1 (R174). -/
def QUEUE_STATUS.HELD_M1 : Row := ⟨0x400050, 5, 0, .RO, 0x0, 1, 0x0, 1, 0x0, 0⟩
/-- FLOW.CURRENT_SEQ.SEQ (R175). -/
def CURRENT_SEQ.SEQ : Row := ⟨0x400054, 31, 0, .RO, 0x0, 1, 0x0, 1, 0x0, 0⟩
/-- FLOW.REFUSAL.PATH (R176). -/
def REFUSAL.PATH : Row := ⟨0x400058, 16, 16, .RO, 0x0, 1, 0x0, 1, 0x0, 0⟩
/-- FLOW.REFUSAL.COUNT (R176). -/
def REFUSAL.COUNT : Row := ⟨0x400058, 15, 8, .RO, 0x0, 1, 0x0, 1, 0x0, 0⟩
/-- FLOW.REFUSAL.CODE (R176). -/
def REFUSAL.CODE : Row := ⟨0x400058, 7, 0, .RO, 0x0, 1, 0x0, 1, 0x0, 0⟩
/-- FLOW.REFUSAL_SEQ.SEQ (R175). -/
def REFUSAL_SEQ.SEQ : Row := ⟨0x40005c, 31, 0, .RO, 0x0, 1, 0x0, 1, 0x0, 0⟩
/-- FLOW.QUEUE_FREE.FREE_MIB (R175). -/
def QUEUE_FREE.FREE_MIB : Row := ⟨0x400060, 14, 0, .RO, 0x1000, 1, 0x0, 1, 0x0, 0⟩
/-- FLOW.CTX_QUOTA_SCENE.QUOTA (R177). -/
def CTX_QUOTA_SCENE.QUOTA : Row := ⟨0x400080, 18, 0, .RWT, 0x3c000, 1, 0x0, 1, 0x0, 0⟩
/-- FLOW.CTX_QUOTA_AUX.QUOTA (R177). -/
def CTX_QUOTA_AUX.QUOTA : Row := ⟨0x400084, 18, 0, .RWT, 0x4000, 1, 0x0, 1, 0x0, 0⟩
/-- FLOW.CTX_USED.SCENE (R177). -/
def CTX_USED.SCENE : Row := ⟨0x400088, 18, 0, .RO, 0x0, 1, 0x0, 1, 0x0, 0⟩
/-- FLOW.DEMAND_STATUS.HIGH_WATER (R178). -/
def DEMAND_STATUS.HIGH_WATER : Row := ⟨0x40008c, 28, 16, .RC, 0x0, 1, 0x0, 1, 0x0, 0⟩
/-- FLOW.DEMAND_STATUS.OUTSTANDING (R178). -/
def DEMAND_STATUS.OUTSTANDING : Row := ⟨0x40008c, 12, 0, .RO, 0x0, 1, 0x0, 1, 0x0, 0⟩
/-- FLOW.DECODE_ERR.CODE (R179). -/
def DECODE_ERR.CODE : Row := ⟨0x400090, 31, 24, .RO, 0x0, 1, 0x0, 1, 0x0, 0⟩
/-- FLOW.DECODE_ERR.SLAB (R179). -/
def DECODE_ERR.SLAB : Row := ⟨0x400090, 23, 16, .RO, 0x0, 1, 0x0, 1, 0x0, 0⟩
/-- FLOW.DECODE_ERR.TILE_HI (R179). -/
def DECODE_ERR.TILE_HI : Row := ⟨0x400090, 15, 6, .RO, 0x0, 1, 0x0, 1, 0x0, 0⟩
/-- FLOW.DECODE_ERR.ROW (R179). -/
def DECODE_ERR.ROW : Row := ⟨0x400090, 5, 0, .RO, 0x0, 1, 0x0, 1, 0x0, 0⟩
/-- FLOW.DECODE_ERR_SEQ.TILE_LO (R179). -/
def DECODE_ERR_SEQ.TILE_LO : Row := ⟨0x400094, 31, 26, .RO, 0x0, 1, 0x0, 1, 0x0, 0⟩
/-- FLOW.DECODE_ERR_SEQ.SEQ_LO (R179). -/
def DECODE_ERR_SEQ.SEQ_LO : Row := ⟨0x400094, 25, 0, .RO, 0x0, 1, 0x0, 1, 0x0, 0⟩
/-- FLOW.CTX_USED_AUX.AUX (R177). -/
def CTX_USED_AUX.AUX : Row := ⟨0x400098, 18, 0, .RO, 0x0, 1, 0x0, 1, 0x0, 0⟩
/-- FLOW.ROWS_DECODED.COUNT (R180). -/
def ROWS_DECODED.COUNT : Row := ⟨0x4000c0, 31, 0, .RO, 0x0, 1, 0x0, 1, 0x0, 0⟩
/-- FLOW.ROWS_RESTARTED.COUNT (R180). -/
def ROWS_RESTARTED.COUNT : Row := ⟨0x4000c4, 31, 0, .RO, 0x0, 1, 0x0, 1, 0x0, 0⟩
/-- FLOW.ROWS_SUBSTITUTED.COUNT (R180). -/
def ROWS_SUBSTITUTED.COUNT : Row := ⟨0x4000c8, 31, 0, .RO, 0x0, 1, 0x0, 1, 0x0, 0⟩
/-- FLOW.CTX_EVICTIONS.COUNT (R180). -/
def CTX_EVICTIONS.COUNT : Row := ⟨0x4000cc, 31, 0, .RO, 0x0, 1, 0x0, 1, 0x0, 0⟩
/-- FLOW.LATE_BYTES.COUNT (R180). -/
def LATE_BYTES.COUNT : Row := ⟨0x4000d0, 31, 0, .RO, 0x0, 1, 0x0, 1, 0x0, 0⟩
/-- FLOW.LATE_FRAMES.COUNT (R180). -/
def LATE_FRAMES.COUNT : Row := ⟨0x4000d4, 31, 0, .RO, 0x0, 1, 0x0, 1, 0x0, 0⟩
/-- FLOW.CTX_INDEX.SNAP_DONE (R181). -/
def CTX_INDEX.SNAP_DONE : Row := ⟨0x400100, 31, 31, .RO, 0x0, 1, 0x0, 1, 0x0, 0⟩
/-- FLOW.CTX_INDEX.INDEX (R181). -/
def CTX_INDEX.INDEX : Row := ⟨0x400100, 17, 0, .RW, 0x0, 1, 0x0, 1, 0x0, 0⟩
/-- FLOW.CTX_DATA.DATA (R181). -/
def CTX_DATA.DATA : Row := ⟨0x400120, 31, 0, .RO, 0x0, 8, 0x4, 1, 0x0, 0⟩

end R.FLOW

/-- Rows of the FLOW block, part 0. -/
def rowsFLOW0 : List Row := [R.FLOW.CTRL.FORCE_STOP, R.FLOW.CTRL.BG_EN, R.FLOW.CTRL.ENABLE, R.FLOW.STATUS.LAST_STOP, R.FLOW.STATUS.ACTIVE_LANES, R.FLOW.STATUS.SPARES, R.FLOW.STATUS.STATE, R.FLOW.LANE_ACTIVE.LANES, R.FLOW.LANE_RETIRED.LANES, R.FLOW.EVENT.LANE_RETIRED, R.FLOW.EVENT.DECODE_ERR, R.FLOW.EVENT.QUOTA_EVICT, R.FLOW.EVENT.LATE_DATA, R.FLOW.EVENT.REFUSED, R.FLOW.EVENT.DRAINED, R.FLOW.IRQ_EN.LANE_RETIRED_EN, R.FLOW.IRQ_EN.DECODE_ERR_EN, R.FLOW.IRQ_EN.QUOTA_EVICT_EN, R.FLOW.IRQ_EN.LATE_DATA_EN, R.FLOW.IRQ_EN.REFUSED_EN, R.FLOW.IRQ_EN.DRAINED_EN, R.FLOW.QUEUE_BASE_LO.BASE_LO, R.FLOW.QUEUE_BASE_HI.BASE_HI, R.FLOW.QUEUE_SIZE.SIZE_MIB, R.FLOW.QUEUE_CTRL.FLUSH, R.FLOW.QUEUE_STATUS.HAS_CURRENT, R.FLOW.QUEUE_STATUS.RECEIVING, R.FLOW.QUEUE_STATUS.WAITING, R.FLOW.QUEUE_STATUS.BASE_ONLY, R.FLOW.QUEUE_STATUS.HELD_M1, R.FLOW.CURRENT_SEQ.SEQ, R.FLOW.REFUSAL.PATH, R.FLOW.REFUSAL.COUNT, R.FLOW.REFUSAL.CODE, R.FLOW.REFUSAL_SEQ.SEQ, R.FLOW.QUEUE_FREE.FREE_MIB, R.FLOW.CTX_QUOTA_SCENE.QUOTA, R.FLOW.CTX_QUOTA_AUX.QUOTA, R.FLOW.CTX_USED.SCENE, R.FLOW.DEMAND_STATUS.HIGH_WATER]
/-- Rows of the FLOW block, part 1. -/
def rowsFLOW1 : List Row := [R.FLOW.DEMAND_STATUS.OUTSTANDING, R.FLOW.DECODE_ERR.CODE, R.FLOW.DECODE_ERR.SLAB, R.FLOW.DECODE_ERR.TILE_HI, R.FLOW.DECODE_ERR.ROW, R.FLOW.DECODE_ERR_SEQ.TILE_LO, R.FLOW.DECODE_ERR_SEQ.SEQ_LO, R.FLOW.CTX_USED_AUX.AUX, R.FLOW.ROWS_DECODED.COUNT, R.FLOW.ROWS_RESTARTED.COUNT, R.FLOW.ROWS_SUBSTITUTED.COUNT, R.FLOW.CTX_EVICTIONS.COUNT, R.FLOW.LATE_BYTES.COUNT, R.FLOW.LATE_FRAMES.COUNT, R.FLOW.CTX_INDEX.SNAP_DONE, R.FLOW.CTX_INDEX.INDEX, R.FLOW.CTX_DATA.DATA]
/-- All register rows of the FLOW block. -/
def rowsFLOW : List Row := rowsFLOW0 ++ rowsFLOW1

namespace R.HEL

/-- HEL.CTRL.FORCE_STOP (R240). -/
def CTRL.FORCE_STOP : Row := ⟨0x800000, 2, 2, .WO, 0x0, 1, 0x0, 1, 0x0, 0⟩
/-- HEL.CTRL.ENABLE (R240). -/
def CTRL.ENABLE : Row := ⟨0x800000, 0, 0, .RW, 0x1, 1, 0x0, 1, 0x0, 0⟩
/-- HEL.STATUS.LAST_STOP (R240). -/
def STATUS.LAST_STOP : Row := ⟨0x800004, 31, 24, .RO, 0x0, 1, 0x0, 1, 0x0, 0⟩
/-- HEL.STATUS.ACTIVE (R240). -/
def STATUS.ACTIVE : Row := ⟨0x800004, 13, 8, .RO, 0x20, 1, 0x0, 1, 0x0, 0⟩
/-- HEL.STATUS.SPARES (R240). -/
def STATUS.SPARES : Row := ⟨0x800004, 5, 4, .RO, 0x2, 1, 0x0, 1, 0x0, 0⟩
/-- HEL.STATUS.GOV_LEVEL (R240). -/
def STATUS.GOV_LEVEL : Row := ⟨0x800004, 3, 2, .RO, 0x0, 1, 0x0, 1, 0x0, 0⟩
/-- HEL.STATUS.STATE (R240). -/
def STATUS.STATE : Row := ⟨0x800004, 1, 0, .RO, 0x0, 1, 0x0, 1, 0x0, 0⟩
/-- HEL.ENGINE_ACTIVE_LO.ENGINES (R241). -/
def ENGINE_ACTIVE_LO.ENGINES : Row := ⟨0x800008, 31, 0, .RO, 0xffffffff, 1, 0x0, 1, 0x0, 0⟩
/-- HEL.ENGINE_ACTIVE_HI.ENGINES (R241). -/
def ENGINE_ACTIVE_HI.ENGINES : Row := ⟨0x80000c, 1, 0, .RO, 0x0, 1, 0x0, 1, 0x0, 0⟩
/-- HEL.ENGINE_RETIRED_LO.ENGINES (R241). -/
def ENGINE_RETIRED_LO.ENGINES : Row := ⟨0x800010, 31, 0, .RO, 0x0, 1, 0x0, 1, 0x0, 0⟩
/-- HEL.ENGINE_RETIRED_HI.ENGINES (R241). -/
def ENGINE_RETIRED_HI.ENGINES : Row := ⟨0x800014, 1, 0, .RO, 0x0, 1, 0x0, 1, 0x0, 0⟩
/-- HEL.EVENT.OVERSPENT (R242). -/
def EVENT.OVERSPENT : Row := ⟨0x800018, 6, 6, .W1C, 0x0, 1, 0x0, 1, 0x0, 0⟩
/-- HEL.EVENT.DEGRADED (R242). -/
def EVENT.DEGRADED : Row := ⟨0x800018, 5, 5, .W1C, 0x0, 1, 0x0, 1, 0x0, 0⟩
/-- HEL.EVENT.MISS (R242). -/
def EVENT.MISS : Row := ⟨0x800018, 4, 4, .W1C, 0x0, 1, 0x0, 1, 0x0, 0⟩
/-- HEL.EVENT.RECHECK_FAIL (R242). -/
def EVENT.RECHECK_FAIL : Row := ⟨0x800018, 3, 3, .W1C, 0x0, 1, 0x0, 1, 0x0, 0⟩
/-- HEL.EVENT.ADMIT_FAIL (R242). -/
def EVENT.ADMIT_FAIL : Row := ⟨0x800018, 2, 2, .W1C, 0x0, 1, 0x0, 1, 0x0, 0⟩
/-- HEL.EVENT.ENGINE_RETIRED (R242). -/
def EVENT.ENGINE_RETIRED : Row := ⟨0x800018, 1, 1, .W1C, 0x0, 1, 0x0, 1, 0x0, 0⟩
/-- HEL.EVENT.DRAINED (R242). -/
def EVENT.DRAINED : Row := ⟨0x800018, 0, 0, .W1C, 0x0, 1, 0x0, 1, 0x0, 0⟩
/-- HEL.IRQ_EN.OVERSPENT_EN (R242). -/
def IRQ_EN.OVERSPENT_EN : Row := ⟨0x80001c, 6, 6, .RW, 0x0, 1, 0x0, 1, 0x0, 0⟩
/-- HEL.IRQ_EN.DEGRADED_EN (R242). -/
def IRQ_EN.DEGRADED_EN : Row := ⟨0x80001c, 5, 5, .RW, 0x0, 1, 0x0, 1, 0x0, 0⟩
/-- HEL.IRQ_EN.MISS_EN (R242). -/
def IRQ_EN.MISS_EN : Row := ⟨0x80001c, 4, 4, .RW, 0x0, 1, 0x0, 1, 0x0, 0⟩
/-- HEL.IRQ_EN.RECHECK_FAIL_EN (R242). -/
def IRQ_EN.RECHECK_FAIL_EN : Row := ⟨0x80001c, 3, 3, .RW, 0x0, 1, 0x0, 1, 0x0, 0⟩
/-- HEL.IRQ_EN.ADMIT_FAIL_EN (R242). -/
def IRQ_EN.ADMIT_FAIL_EN : Row := ⟨0x80001c, 2, 2, .RW, 0x0, 1, 0x0, 1, 0x0, 0⟩
/-- HEL.IRQ_EN.ENGINE_RETIRED_EN (R242). -/
def IRQ_EN.ENGINE_RETIRED_EN : Row := ⟨0x80001c, 1, 1, .RW, 0x0, 1, 0x0, 1, 0x0, 0⟩
/-- HEL.IRQ_EN.DRAINED_EN (R242). -/
def IRQ_EN.DRAINED_EN : Row := ⟨0x80001c, 0, 0, .RW, 0x0, 1, 0x0, 1, 0x0, 0⟩
/-- HEL.ADMIT_STATUS.RESULT (R243). -/
def ADMIT_STATUS.RESULT : Row := ⟨0x800020, 31, 24, .RO, 0x0, 1, 0x0, 1, 0x0, 0⟩
/-- HEL.ADMIT_STATUS.REASON (R243). -/
def ADMIT_STATUS.REASON : Row := ⟨0x800020, 23, 20, .RO, 0x0, 1, 0x0, 1, 0x0, 0⟩
/-- HEL.ADMIT_STATUS.RECHECK (R243). -/
def ADMIT_STATUS.RECHECK : Row := ⟨0x800020, 16, 16, .RO, 0x0, 1, 0x0, 1, 0x0, 0⟩
/-- HEL.ADMIT_STATUS.BAND (R243). -/
def ADMIT_STATUS.BAND : Row := ⟨0x800020, 8, 0, .RO, 0x0, 1, 0x0, 1, 0x0, 0⟩
/-- HEL.ADMIT_SEQ.SEQ (R243). -/
def ADMIT_SEQ.SEQ : Row := ⟨0x800024, 31, 0, .RO, 0x0, 1, 0x0, 1, 0x0, 0⟩
/-- HEL.ADMIT_SAMPLES.SAMPLES (R243). -/
def ADMIT_SAMPLES.SAMPLES : Row := ⟨0x800028, 31, 0, .RO, 0x0, 1, 0x0, 1, 0x0, 0⟩
/-- HEL.BAND_BUDGET.BUDGET (R243). -/
def BAND_BUDGET.BUDGET : Row := ⟨0x80002c, 31, 0, .RO, 0x0, 1, 0x0, 1, 0x0, 0⟩
/-- HEL.GOV_SLACK.MIN_SLACK_NS (R244). -/
def GOV_SLACK.MIN_SLACK_NS : Row := ⟨0x800030, 15, 0, .RC, 0xffff, 1, 0x0, 1, 0x0, 0⟩
/-- HEL.BUNDLES_DEGRADED.COUNT (R245). -/
def BUNDLES_DEGRADED.COUNT : Row := ⟨0x800040, 31, 0, .RO, 0x0, 1, 0x0, 1, 0x0, 0⟩
/-- HEL.RAYS_TERMINATED.COUNT (R245). -/
def RAYS_TERMINATED.COUNT : Row := ⟨0x800044, 31, 0, .RO, 0x0, 1, 0x0, 1, 0x0, 0⟩
/-- HEL.GROTTO_MISSES.COUNT (R245). -/
def GROTTO_MISSES.COUNT : Row := ⟨0x800048, 31, 0, .RO, 0x0, 1, 0x0, 1, 0x0, 0⟩
/-- HEL.BUNDLES_RECOMPUTED.COUNT (R245). -/
def BUNDLES_RECOMPUTED.COUNT : Row := ⟨0x80004c, 31, 0, .RO, 0x0, 1, 0x0, 1, 0x0, 0⟩
/-- HEL.BANDS_OVERSPENT.COUNT (R245). -/
def BANDS_OVERSPENT.COUNT : Row := ⟨0x800050, 31, 0, .RO, 0x0, 1, 0x0, 1, 0x0, 0⟩
/-- HEL.RAYS_SUBST.COUNT (R245). -/
def RAYS_SUBST.COUNT : Row := ⟨0x800054, 31, 0, .RO, 0x0, 1, 0x0, 1, 0x0, 0⟩
/-- HEL.TD_LO.SLOTS_LO (R246). -/
def TD_LO.SLOTS_LO : Row := ⟨0x800080, 31, 0, .RO, 0x0, 6, 0x8, 1, 0x0, 0⟩
/-- HEL.TD_HI.SLOTS_HI (R246). -/
def TD_HI.SLOTS_HI : Row := ⟨0x800084, 31, 0, .RO, 0x0, 6, 0x8, 1, 0x0, 0⟩
/-- HEL.OPT_CTRL.VIEW_NY_M1 (R206). -/
def OPT_CTRL.VIEW_NY_M1 : Row := ⟨0x820000, 23, 16, .RWT, 0x9, 1, 0x0, 1, 0x0, 0⟩
/-- HEL.OPT_CTRL.VIEW_NX_M1 (R206). -/
def OPT_CTRL.VIEW_NX_M1 : Row := ⟨0x820000, 15, 8, .RWT, 0x9, 1, 0x0, 1, 0x0, 0⟩
/-- HEL.OPT_CTRL.ZONE_POLICY (R206). -/
def OPT_CTRL.ZONE_POLICY : Row := ⟨0x820000, 5, 4, .RWT, 0x1, 1, 0x0, 1, 0x0, 0⟩
/-- HEL.OPT_CTRL.RAY_MODE (R206). -/
def OPT_CTRL.RAY_MODE : Row := ⟨0x820000, 2, 2, .RWT, 0x0, 1, 0x0, 1, 0x0, 0⟩
/-- HEL.OPT_CTRL.SUBPIX_ORDER (R206). -/
def OPT_CTRL.SUBPIX_ORDER : Row := ⟨0x820000, 1, 1, .RWT, 0x0, 1, 0x0, 1, 0x0, 0⟩
/-- HEL.OPT_CTRL.MODEL (R206). -/
def OPT_CTRL.MODEL : Row := ⟨0x820000, 0, 0, .RWT, 0x1, 1, 0x0, 1, 0x0, 0⟩
/-- HEL.OPT_STATUS.LAST_CODE (R208). -/
def OPT_STATUS.LAST_CODE : Row := ⟨0x820004, 31, 24, .RO, 0x0, 1, 0x0, 1, 0x0, 0⟩
/-- HEL.OPT_STATUS.HELD (R208). -/
def OPT_STATUS.HELD : Row := ⟨0x820004, 23, 23, .RO, 0x0, 1, 0x0, 1, 0x0, 0⟩
/-- HEL.OPT_STATUS.SET_VALID (R208). -/
def OPT_STATUS.SET_VALID : Row := ⟨0x820004, 22, 22, .RO, 0x0, 1, 0x0, 1, 0x0, 0⟩
/-- HEL.OPT_STATUS.LCT_STATE (R208). -/
def OPT_STATUS.LCT_STATE : Row := ⟨0x820004, 21, 20, .RO, 0x0, 1, 0x0, 1, 0x0, 0⟩
/-- HEL.OPT_STATUS.RSA_STATE (R208). -/
def OPT_STATUS.RSA_STATE : Row := ⟨0x820004, 19, 18, .RO, 0x0, 1, 0x0, 1, 0x0, 0⟩
/-- HEL.OPT_STATUS.RSB_STATE (R208). -/
def OPT_STATUS.RSB_STATE : Row := ⟨0x820004, 17, 16, .RO, 0x0, 1, 0x0, 1, 0x0, 0⟩
/-- HEL.OPT_STATUS.APPLY_COUNT (R208). -/
def OPT_STATUS.APPLY_COUNT : Row := ⟨0x820004, 7, 0, .RO, 0x0, 1, 0x0, 1, 0x0, 0⟩
/-- HEL.OPT_EVENT.SLAB_RANGE (R209). -/
def OPT_EVENT.SLAB_RANGE : Row := ⟨0x820008, 5, 5, .W1C, 0x0, 1, 0x0, 1, 0x0, 0⟩
/-- HEL.OPT_EVENT.MAP_MISMATCH (R209). -/
def OPT_EVENT.MAP_MISMATCH : Row := ⟨0x820008, 4, 4, .W1C, 0x0, 1, 0x0, 1, 0x0, 0⟩
/-- HEL.OPT_EVENT.MAP_BAD (R209). -/
def OPT_EVENT.MAP_BAD : Row := ⟨0x820008, 3, 3, .W1C, 0x0, 1, 0x0, 1, 0x0, 0⟩
/-- HEL.OPT_EVENT.PARAM_BAD (R209). -/
def OPT_EVENT.PARAM_BAD : Row := ⟨0x820008, 2, 2, .W1C, 0x0, 1, 0x0, 1, 0x0, 0⟩
/-- HEL.OPT_EVENT.HELD (R209). -/
def OPT_EVENT.HELD : Row := ⟨0x820008, 1, 1, .W1C, 0x0, 1, 0x0, 1, 0x0, 0⟩
/-- HEL.OPT_EVENT.APPLIED (R209). -/
def OPT_EVENT.APPLIED : Row := ⟨0x820008, 0, 0, .W1C, 0x0, 1, 0x0, 1, 0x0, 0⟩
/-- HEL.OPT_IRQ_EN.SLAB_RANGE_EN (R209). -/
def OPT_IRQ_EN.SLAB_RANGE_EN : Row := ⟨0x82000c, 5, 5, .RW, 0x0, 1, 0x0, 1, 0x0, 0⟩
/-- HEL.OPT_IRQ_EN.MAP_MISMATCH_EN (R209). -/
def OPT_IRQ_EN.MAP_MISMATCH_EN : Row := ⟨0x82000c, 4, 4, .RW, 0x0, 1, 0x0, 1, 0x0, 0⟩
/-- HEL.OPT_IRQ_EN.MAP_BAD_EN (R209). -/
def OPT_IRQ_EN.MAP_BAD_EN : Row := ⟨0x82000c, 3, 3, .RW, 0x0, 1, 0x0, 1, 0x0, 0⟩
/-- HEL.OPT_IRQ_EN.PARAM_BAD_EN (R209). -/
def OPT_IRQ_EN.PARAM_BAD_EN : Row := ⟨0x82000c, 2, 2, .RW, 0x0, 1, 0x0, 1, 0x0, 0⟩
/-- HEL.OPT_IRQ_EN.HELD_EN (R209). -/
def OPT_IRQ_EN.HELD_EN : Row := ⟨0x82000c, 1, 1, .RW, 0x0, 1, 0x0, 1, 0x0, 0⟩
/-- HEL.OPT_IRQ_EN.APPLIED_EN (R209). -/
def OPT_IRQ_EN.APPLIED_EN : Row := ⟨0x82000c, 0, 0, .RW, 0x0, 1, 0x0, 1, 0x0, 0⟩
/-- HEL.OPT_SUBPIX_PITCH.VALUE (R207). -/
def OPT_SUBPIX_PITCH.VALUE : Row := ⟨0x820040, 31, 0, .RWT, 0x0, 1, 0x0, 1, 0x0, 0⟩
/-- HEL.OPT_LINE_PITCH.VALUE (R207). -/
def OPT_LINE_PITCH.VALUE : Row := ⟨0x820044, 31, 0, .RWT, 0x0, 1, 0x0, 1, 0x0, 0⟩
/-- HEL.OPT_GAP.VALUE (R207). -/
def OPT_GAP.VALUE : Row := ⟨0x820048, 31, 0, .RWT, 0x0, 1, 0x0, 1, 0x0, 0⟩
/-- HEL.OPT_L0_X.VALUE (R207). -/
def OPT_L0_X.VALUE : Row := ⟨0x82004c, 31, 0, .RWT, 0x0, 1, 0x0, 1, 0x0, 0⟩
/-- HEL.OPT_L0_Y.VALUE (R207). -/
def OPT_L0_Y.VALUE : Row := ⟨0x820050, 31, 0, .RWT, 0x0, 1, 0x0, 1, 0x0, 0⟩
/-- HEL.OPT_E1_X.VALUE (R207). -/
def OPT_E1_X.VALUE : Row := ⟨0x820054, 31, 0, .RWT, 0x0, 1, 0x0, 1, 0x0, 0⟩
/-- HEL.OPT_E1_Y.VALUE (R207). -/
def OPT_E1_Y.VALUE : Row := ⟨0x820058, 31, 0, .RWT, 0x0, 1, 0x0, 1, 0x0, 0⟩
/-- HEL.OPT_E2_X.VALUE (R207). -/
def OPT_E2_X.VALUE : Row := ⟨0x82005c, 31, 0, .RWT, 0x0, 1, 0x0, 1, 0x0, 0⟩
/-- HEL.OPT_E2_Y.VALUE (R207). -/
def OPT_E2_Y.VALUE : Row := ⟨0x820060, 31, 0, .RWT, 0x0, 1, 0x0, 1, 0x0, 0⟩
/-- HEL.OPT_VIEW_DIST.VALUE (R207). -/
def OPT_VIEW_DIST.VALUE : Row := ⟨0x820064, 31, 0, .RWT, 0x300000, 1, 0x0, 1, 0x0, 0⟩
/-- HEL.OPT_VIEWER_Y.VALUE (R207). -/
def OPT_VIEWER_Y.VALUE : Row := ⟨0x820068, 31, 0, .RWT, 0x0, 1, 0x0, 1, 0x0, 0⟩
/-- HEL.OPT_VIEW_X0.VALUE (R207). -/
def OPT_VIEW_X0.VALUE : Row := ⟨0x82006c, 31, 0, .RWT, 0xfff30a3d, 1, 0x0, 1, 0x0, 0⟩
/-- HEL.OPT_VIEW_Y0.VALUE (R207). -/
def OPT_VIEW_Y0.VALUE : Row := ⟨0x820070, 31, 0, .RWT, 0xfff30a3d, 1, 0x0, 1, 0x0, 0⟩
/-- HEL.OPT_VIEW_SX.VALUE (R207). -/
def OPT_VIEW_SX.VALUE : Row := ⟨0x820074, 31, 0, .RWT, 0x2e148, 1, 0x0, 1, 0x0, 0⟩
/-- HEL.OPT_VIEW_SY.VALUE (R207). -/
def OPT_VIEW_SY.VALUE : Row := ⟨0x820078, 31, 0, .RWT, 0x2e148, 1, 0x0, 1, 0x0, 0⟩
/-- HEL.OPT_ZONE_X_MIN.VALUE (R207). -/
def OPT_ZONE_X_MIN.VALUE : Row := ⟨0x82007c, 31, 0, .RWT, 0xfff00000, 1, 0x0, 1, 0x0, 0⟩
/-- HEL.OPT_ZONE_X_MAX.VALUE (R207). -/
def OPT_ZONE_X_MAX.VALUE : Row := ⟨0x820080, 31, 0, .RWT, 0x100000, 1, 0x0, 1, 0x0, 0⟩
/-- HEL.OPT_ZONE_Y_MIN.VALUE (R207). -/
def OPT_ZONE_Y_MIN.VALUE : Row := ⟨0x820084, 31, 0, .RWT, 0xfff00000, 1, 0x0, 1, 0x0, 0⟩
/-- HEL.OPT_ZONE_Y_MAX.VALUE (R207). -/
def OPT_ZONE_Y_MAX.VALUE : Row := ⟨0x820088, 31, 0, .RWT, 0x100000, 1, 0x0, 1, 0x0, 0⟩
/-- HEL.OPT_Z_NEAR.VALUE (R207). -/
def OPT_Z_NEAR.VALUE : Row := ⟨0x82008c, 31, 0, .RWT, 0x100000, 1, 0x0, 1, 0x0, 0⟩
/-- HEL.OPT_Z_FAR.VALUE (R207). -/
def OPT_Z_FAR.VALUE : Row := ⟨0x820090, 31, 0, .RWT, 0x3e800000, 1, 0x0, 1, 0x0, 0⟩
/-- HEL.OPT_LCT_LO.VALUE (R207). -/
def OPT_LCT_LO.VALUE : Row := ⟨0x8200a0, 31, 12, .RWT, 0x0, 1, 0x0, 1, 0x0, 0⟩
/-- HEL.OPT_LCT_HI.VALUE (R207). -/
def OPT_LCT_HI.VALUE : Row := ⟨0x8200a4, 31, 0, .RWT, 0x0, 1, 0x0, 1, 0x0, 0⟩
/-- HEL.OPT_RSA_LO.VALUE (R207). -/
def OPT_RSA_LO.VALUE : Row := ⟨0x8200a8, 31, 12, .RWT, 0x0, 1, 0x0, 1, 0x0, 0⟩
/-- HEL.OPT_RSA_HI.VALUE (R207). -/
def OPT_RSA_HI.VALUE : Row := ⟨0x8200ac, 31, 0, .RWT, 0x0, 1, 0x0, 1, 0x0, 0⟩
/-- HEL.OPT_RSB_LO.VALUE (R207). -/
def OPT_RSB_LO.VALUE : Row := ⟨0x8200b0, 31, 12, .RWT, 0x0, 1, 0x0, 1, 0x0, 0⟩
/-- HEL.OPT_RSB_HI.VALUE (R207). -/
def OPT_RSB_HI.VALUE : Row := ⟨0x8200b4, 31, 0, .RWT, 0x0, 1, 0x0, 1, 0x0, 0⟩
/-- HEL.OPT_XFORM0.VALUE (R207). -/
def OPT_XFORM0.VALUE : Row := ⟨0x8200c0, 31, 0, .RWT, 0x3f800000, 1, 0x0, 1, 0x0, 0⟩
/-- HEL.OPT_XFORM1.VALUE (R207). -/
def OPT_XFORM1.VALUE : Row := ⟨0x8200c4, 31, 0, .RWT, 0x0, 1, 0x0, 1, 0x0, 0⟩
/-- HEL.OPT_XFORM2.VALUE (R207). -/
def OPT_XFORM2.VALUE : Row := ⟨0x8200c8, 31, 0, .RWT, 0x0, 1, 0x0, 1, 0x0, 0⟩
/-- HEL.OPT_XFORM3.VALUE (R207). -/
def OPT_XFORM3.VALUE : Row := ⟨0x8200cc, 31, 0, .RWT, 0x0, 1, 0x0, 1, 0x0, 0⟩
/-- HEL.OPT_XFORM4.VALUE (R207). -/
def OPT_XFORM4.VALUE : Row := ⟨0x8200d0, 31, 0, .RWT, 0x0, 1, 0x0, 1, 0x0, 0⟩
/-- HEL.OPT_XFORM5.VALUE (R207). -/
def OPT_XFORM5.VALUE : Row := ⟨0x8200d4, 31, 0, .RWT, 0x3f800000, 1, 0x0, 1, 0x0, 0⟩
/-- HEL.OPT_XFORM6.VALUE (R207). -/
def OPT_XFORM6.VALUE : Row := ⟨0x8200d8, 31, 0, .RWT, 0x0, 1, 0x0, 1, 0x0, 0⟩
/-- HEL.OPT_XFORM7.VALUE (R207). -/
def OPT_XFORM7.VALUE : Row := ⟨0x8200dc, 31, 0, .RWT, 0x0, 1, 0x0, 1, 0x0, 0⟩
/-- HEL.OPT_XFORM8.VALUE (R207). -/
def OPT_XFORM8.VALUE : Row := ⟨0x8200e0, 31, 0, .RWT, 0x0, 1, 0x0, 1, 0x0, 0⟩
/-- HEL.OPT_XFORM9.VALUE (R207). -/
def OPT_XFORM9.VALUE : Row := ⟨0x8200e4, 31, 0, .RWT, 0x0, 1, 0x0, 1, 0x0, 0⟩
/-- HEL.OPT_XFORM10.VALUE (R207). -/
def OPT_XFORM10.VALUE : Row := ⟨0x8200e8, 31, 0, .RWT, 0x3f800000, 1, 0x0, 1, 0x0, 0⟩
/-- HEL.OPT_XFORM11.VALUE (R207). -/
def OPT_XFORM11.VALUE : Row := ⟨0x8200ec, 31, 0, .RWT, 0x0, 1, 0x0, 1, 0x0, 0⟩
/-- HEL.OPT_BLEND.ALPHA (R207). -/
def OPT_BLEND.ALPHA : Row := ⟨0x8200b8, 16, 0, .RWT, 0x0, 1, 0x0, 1, 0x0, 0⟩

end R.HEL

/-- Rows of the HEL block, part 0. -/
def rowsHEL0 : List Row := [R.HEL.CTRL.FORCE_STOP, R.HEL.CTRL.ENABLE, R.HEL.STATUS.LAST_STOP, R.HEL.STATUS.ACTIVE, R.HEL.STATUS.SPARES, R.HEL.STATUS.GOV_LEVEL, R.HEL.STATUS.STATE, R.HEL.ENGINE_ACTIVE_LO.ENGINES, R.HEL.ENGINE_ACTIVE_HI.ENGINES, R.HEL.ENGINE_RETIRED_LO.ENGINES, R.HEL.ENGINE_RETIRED_HI.ENGINES, R.HEL.EVENT.OVERSPENT, R.HEL.EVENT.DEGRADED, R.HEL.EVENT.MISS, R.HEL.EVENT.RECHECK_FAIL, R.HEL.EVENT.ADMIT_FAIL, R.HEL.EVENT.ENGINE_RETIRED, R.HEL.EVENT.DRAINED, R.HEL.IRQ_EN.OVERSPENT_EN, R.HEL.IRQ_EN.DEGRADED_EN, R.HEL.IRQ_EN.MISS_EN, R.HEL.IRQ_EN.RECHECK_FAIL_EN, R.HEL.IRQ_EN.ADMIT_FAIL_EN, R.HEL.IRQ_EN.ENGINE_RETIRED_EN, R.HEL.IRQ_EN.DRAINED_EN, R.HEL.ADMIT_STATUS.RESULT, R.HEL.ADMIT_STATUS.REASON, R.HEL.ADMIT_STATUS.RECHECK, R.HEL.ADMIT_STATUS.BAND, R.HEL.ADMIT_SEQ.SEQ, R.HEL.ADMIT_SAMPLES.SAMPLES, R.HEL.BAND_BUDGET.BUDGET, R.HEL.GOV_SLACK.MIN_SLACK_NS, R.HEL.BUNDLES_DEGRADED.COUNT, R.HEL.RAYS_TERMINATED.COUNT, R.HEL.GROTTO_MISSES.COUNT, R.HEL.BUNDLES_RECOMPUTED.COUNT, R.HEL.BANDS_OVERSPENT.COUNT, R.HEL.RAYS_SUBST.COUNT, R.HEL.TD_LO.SLOTS_LO]
/-- Rows of the HEL block, part 1. -/
def rowsHEL1 : List Row := [R.HEL.TD_HI.SLOTS_HI, R.HEL.OPT_CTRL.VIEW_NY_M1, R.HEL.OPT_CTRL.VIEW_NX_M1, R.HEL.OPT_CTRL.ZONE_POLICY, R.HEL.OPT_CTRL.RAY_MODE, R.HEL.OPT_CTRL.SUBPIX_ORDER, R.HEL.OPT_CTRL.MODEL, R.HEL.OPT_STATUS.LAST_CODE, R.HEL.OPT_STATUS.HELD, R.HEL.OPT_STATUS.SET_VALID, R.HEL.OPT_STATUS.LCT_STATE, R.HEL.OPT_STATUS.RSA_STATE, R.HEL.OPT_STATUS.RSB_STATE, R.HEL.OPT_STATUS.APPLY_COUNT, R.HEL.OPT_EVENT.SLAB_RANGE, R.HEL.OPT_EVENT.MAP_MISMATCH, R.HEL.OPT_EVENT.MAP_BAD, R.HEL.OPT_EVENT.PARAM_BAD, R.HEL.OPT_EVENT.HELD, R.HEL.OPT_EVENT.APPLIED, R.HEL.OPT_IRQ_EN.SLAB_RANGE_EN, R.HEL.OPT_IRQ_EN.MAP_MISMATCH_EN, R.HEL.OPT_IRQ_EN.MAP_BAD_EN, R.HEL.OPT_IRQ_EN.PARAM_BAD_EN, R.HEL.OPT_IRQ_EN.HELD_EN, R.HEL.OPT_IRQ_EN.APPLIED_EN, R.HEL.OPT_SUBPIX_PITCH.VALUE, R.HEL.OPT_LINE_PITCH.VALUE, R.HEL.OPT_GAP.VALUE, R.HEL.OPT_L0_X.VALUE, R.HEL.OPT_L0_Y.VALUE, R.HEL.OPT_E1_X.VALUE, R.HEL.OPT_E1_Y.VALUE, R.HEL.OPT_E2_X.VALUE, R.HEL.OPT_E2_Y.VALUE, R.HEL.OPT_VIEW_DIST.VALUE, R.HEL.OPT_VIEWER_Y.VALUE, R.HEL.OPT_VIEW_X0.VALUE, R.HEL.OPT_VIEW_Y0.VALUE, R.HEL.OPT_VIEW_SX.VALUE]
/-- Rows of the HEL block, part 2. -/
def rowsHEL2 : List Row := [R.HEL.OPT_VIEW_SY.VALUE, R.HEL.OPT_ZONE_X_MIN.VALUE, R.HEL.OPT_ZONE_X_MAX.VALUE, R.HEL.OPT_ZONE_Y_MIN.VALUE, R.HEL.OPT_ZONE_Y_MAX.VALUE, R.HEL.OPT_Z_NEAR.VALUE, R.HEL.OPT_Z_FAR.VALUE, R.HEL.OPT_LCT_LO.VALUE, R.HEL.OPT_LCT_HI.VALUE, R.HEL.OPT_RSA_LO.VALUE, R.HEL.OPT_RSA_HI.VALUE, R.HEL.OPT_RSB_LO.VALUE, R.HEL.OPT_RSB_HI.VALUE, R.HEL.OPT_XFORM0.VALUE, R.HEL.OPT_XFORM1.VALUE, R.HEL.OPT_XFORM2.VALUE, R.HEL.OPT_XFORM3.VALUE, R.HEL.OPT_XFORM4.VALUE, R.HEL.OPT_XFORM5.VALUE, R.HEL.OPT_XFORM6.VALUE, R.HEL.OPT_XFORM7.VALUE, R.HEL.OPT_XFORM8.VALUE, R.HEL.OPT_XFORM9.VALUE, R.HEL.OPT_XFORM10.VALUE, R.HEL.OPT_XFORM11.VALUE, R.HEL.OPT_BLEND.ALPHA]
/-- All register rows of the HEL block. -/
def rowsHEL : List Row := rowsHEL0 ++ rowsHEL1 ++ rowsHEL2

namespace R.GROT

/-- GROT.STATUS.BANKS_ACTIVE (R247). -/
def STATUS.BANKS_ACTIVE : Row := ⟨0xc00000, 22, 16, .RO, 0x40, 1, 0x0, 1, 0x0, 0⟩
/-- GROT.STATUS.SPARES (R247). -/
def STATUS.SPARES : Row := ⟨0xc00000, 10, 8, .RO, 0x4, 1, 0x0, 1, 0x0, 0⟩
/-- GROT.STATUS.PLAN_SLOTS_USED (R247). -/
def STATUS.PLAN_SLOTS_USED : Row := ⟨0xc00000, 7, 0, .RO, 0x0, 1, 0x0, 1, 0x0, 0⟩
/-- GROT.PART.GALLERY_MIB (R247). -/
def PART.GALLERY_MIB : Row := ⟨0xc00004, 7, 0, .RWT, 0x18, 1, 0x0, 1, 0x0, 0⟩
/-- GROT.BANK_ACTIVE.BANKS (R248). -/
def BANK_ACTIVE.BANKS : Row := ⟨0xc00008, 31, 0, .RO, 0xffffffff, 2, 0x4, 1, 0x0, 0⟩
/-- GROT.BANK_ACTIVE2.BANKS (R248). -/
def BANK_ACTIVE2.BANKS : Row := ⟨0xc00010, 3, 0, .RO, 0x0, 1, 0x0, 1, 0x0, 0⟩
/-- GROT.BANK_RETIRED.BANKS (R248). -/
def BANK_RETIRED.BANKS : Row := ⟨0xc00014, 31, 0, .RO, 0x0, 2, 0x4, 1, 0x0, 0⟩
/-- GROT.BANK_RETIRED2.BANKS (R248). -/
def BANK_RETIRED2.BANKS : Row := ⟨0xc0001c, 3, 0, .RO, 0x0, 1, 0x0, 1, 0x0, 0⟩
/-- GROT.TEXEL_AREA.SLOTS (R249). -/
def TEXEL_AREA.SLOTS : Row := ⟨0xc00020, 19, 0, .RO, 0x51000, 1, 0x0, 1, 0x0, 0⟩
/-- GROT.WINDOW.SLOTS (R249). -/
def WINDOW.SLOTS : Row := ⟨0xc00024, 19, 0, .RO, 0x28800, 1, 0x0, 1, 0x0, 0⟩
/-- GROT.ECC_LAST.UNCORR (R250). -/
def ECC_LAST.UNCORR : Row := ⟨0xc00028, 31, 31, .RO, 0x0, 1, 0x0, 1, 0x0, 0⟩
/-- GROT.ECC_LAST.BANK (R250). -/
def ECC_LAST.BANK : Row := ⟨0xc00028, 25, 19, .RO, 0x0, 1, 0x0, 1, 0x0, 0⟩
/-- GROT.ECC_LAST.WORD (R250). -/
def ECC_LAST.WORD : Row := ⟨0xc00028, 18, 0, .RO, 0x0, 1, 0x0, 1, 0x0, 0⟩
/-- GROT.ECC_CORR.COUNT (R250). -/
def ECC_CORR.COUNT : Row := ⟨0xc0002c, 31, 0, .RO, 0x0, 1, 0x0, 1, 0x0, 0⟩
/-- GROT.ECC_UNCORR.COUNT (R250). -/
def ECC_UNCORR.COUNT : Row := ⟨0xc00030, 31, 0, .RO, 0x0, 1, 0x0, 1, 0x0, 0⟩
/-- GROT.EVENT.PART_CHANGED (R251). -/
def EVENT.PART_CHANGED : Row := ⟨0xc00034, 3, 3, .W1C, 0x0, 1, 0x0, 1, 0x0, 0⟩
/-- GROT.EVENT.BANK_RETIRED (R251). -/
def EVENT.BANK_RETIRED : Row := ⟨0xc00034, 2, 2, .W1C, 0x0, 1, 0x0, 1, 0x0, 0⟩
/-- GROT.EVENT.ECC_UNCORR (R251). -/
def EVENT.ECC_UNCORR : Row := ⟨0xc00034, 1, 1, .W1C, 0x0, 1, 0x0, 1, 0x0, 0⟩
/-- GROT.EVENT.ECC_CORR (R251). -/
def EVENT.ECC_CORR : Row := ⟨0xc00034, 0, 0, .W1C, 0x0, 1, 0x0, 1, 0x0, 0⟩
/-- GROT.IRQ_EN.PART_CHANGED_EN (R251). -/
def IRQ_EN.PART_CHANGED_EN : Row := ⟨0xc00038, 3, 3, .RW, 0x0, 1, 0x0, 1, 0x0, 0⟩
/-- GROT.IRQ_EN.BANK_RETIRED_EN (R251). -/
def IRQ_EN.BANK_RETIRED_EN : Row := ⟨0xc00038, 2, 2, .RW, 0x0, 1, 0x0, 1, 0x0, 0⟩
/-- GROT.IRQ_EN.ECC_UNCORR_EN (R251). -/
def IRQ_EN.ECC_UNCORR_EN : Row := ⟨0xc00038, 1, 1, .RW, 0x0, 1, 0x0, 1, 0x0, 0⟩
/-- GROT.IRQ_EN.ECC_CORR_EN (R251). -/
def IRQ_EN.ECC_CORR_EN : Row := ⟨0xc00038, 0, 0, .RW, 0x0, 1, 0x0, 1, 0x0, 0⟩
/-- GROT.PLAN_BASE_LO.BASE_LO (R252). -/
def PLAN_BASE_LO.BASE_LO : Row := ⟨0xc00040, 31, 20, .RW, 0x300, 1, 0x0, 1, 0x0, 0⟩
/-- GROT.PLAN_BASE_HI.BASE_HI (R252). -/
def PLAN_BASE_HI.BASE_HI : Row := ⟨0xc00044, 3, 0, .RW, 0x0, 1, 0x0, 1, 0x0, 0⟩
/-- GROT.PLAN_SIZE.SIZE_MIB (R252). -/
def PLAN_SIZE.SIZE_MIB : Row := ⟨0xc00048, 9, 0, .RW, 0xa0, 1, 0x0, 1, 0x0, 0⟩

end R.GROT

/-- Rows of the GROT block, part 0. -/
def rowsGROT0 : List Row := [R.GROT.STATUS.BANKS_ACTIVE, R.GROT.STATUS.SPARES, R.GROT.STATUS.PLAN_SLOTS_USED, R.GROT.PART.GALLERY_MIB, R.GROT.BANK_ACTIVE.BANKS, R.GROT.BANK_ACTIVE2.BANKS, R.GROT.BANK_RETIRED.BANKS, R.GROT.BANK_RETIRED2.BANKS, R.GROT.TEXEL_AREA.SLOTS, R.GROT.WINDOW.SLOTS, R.GROT.ECC_LAST.UNCORR, R.GROT.ECC_LAST.BANK, R.GROT.ECC_LAST.WORD, R.GROT.ECC_CORR.COUNT, R.GROT.ECC_UNCORR.COUNT, R.GROT.EVENT.PART_CHANGED, R.GROT.EVENT.BANK_RETIRED, R.GROT.EVENT.ECC_UNCORR, R.GROT.EVENT.ECC_CORR, R.GROT.IRQ_EN.PART_CHANGED_EN, R.GROT.IRQ_EN.BANK_RETIRED_EN, R.GROT.IRQ_EN.ECC_UNCORR_EN, R.GROT.IRQ_EN.ECC_CORR_EN, R.GROT.PLAN_BASE_LO.BASE_LO, R.GROT.PLAN_BASE_HI.BASE_HI, R.GROT.PLAN_SIZE.SIZE_MIB]
/-- All register rows of the GROT block. -/
def rowsGROT : List Row := rowsGROT0

namespace R.GAL

/-- GAL.COMMIT.GO (R294). -/
def COMMIT.GO : Row := ⟨0x1000000, 31, 31, .WO, 0x0, 1, 0x0, 1, 0x0, 0⟩
/-- GAL.COMMIT.TOKEN (R294). -/
def COMMIT.TOKEN : Row := ⟨0x1000000, 15, 0, .RW, 0x0, 1, 0x0, 1, 0x0, 0⟩
/-- GAL.COMMIT_STATUS.IN_FORCE_TOKEN (R295). -/
def COMMIT_STATUS.IN_FORCE_TOKEN : Row := ⟨0x1000004, 31, 16, .RO, 0x0, 1, 0x0, 1, 0x0, 0⟩
/-- GAL.COMMIT_STATUS.RESULT (R295). -/
def COMMIT_STATUS.RESULT : Row := ⟨0x1000004, 15, 8, .RO, 0x0, 1, 0x0, 1, 0x0, 0⟩
/-- GAL.COMMIT_STATUS.REASON (R295). -/
def COMMIT_STATUS.REASON : Row := ⟨0x1000004, 7, 4, .RO, 0x0, 1, 0x0, 1, 0x0, 0⟩
/-- GAL.COMMIT_STATUS.HELD (R295). -/
def COMMIT_STATUS.HELD : Row := ⟨0x1000004, 3, 3, .RO, 0x0, 1, 0x0, 1, 0x0, 0⟩
/-- GAL.COMMIT_STATUS.DEFERRED_VALID (R295). -/
def COMMIT_STATUS.DEFERRED_VALID : Row := ⟨0x1000004, 2, 2, .RO, 0x0, 1, 0x0, 1, 0x0, 0⟩
/-- GAL.COMMIT_STATUS.PENDING_VALID (R295). -/
def COMMIT_STATUS.PENDING_VALID : Row := ⟨0x1000004, 1, 1, .RO, 0x0, 1, 0x0, 1, 0x0, 0⟩
/-- GAL.COMMIT_QUEUE.DEFERRED_TOKEN (R295). -/
def COMMIT_QUEUE.DEFERRED_TOKEN : Row := ⟨0x1000008, 31, 16, .RO, 0x0, 1, 0x0, 1, 0x0, 0⟩
/-- GAL.COMMIT_QUEUE.PENDING_TOKEN (R295). -/
def COMMIT_QUEUE.PENDING_TOKEN : Row := ⟨0x1000008, 15, 0, .RO, 0x0, 1, 0x0, 1, 0x0, 0⟩
/-- GAL.COMMIT_TICK.TICK_LO (R295). -/
def COMMIT_TICK.TICK_LO : Row := ⟨0x100000c, 31, 0, .RO, 0x0, 1, 0x0, 1, 0x0, 0⟩
/-- GAL.EVENT.TAP_DONE (R296). -/
def EVENT.TAP_DONE : Row := ⟨0x1000010, 7, 7, .W1C, 0x0, 1, 0x0, 1, 0x0, 0⟩
/-- GAL.EVENT.GAIN_SETTLED (R296). -/
def EVENT.GAIN_SETTLED : Row := ⟨0x1000010, 6, 6, .W1C, 0x0, 1, 0x0, 1, 0x0, 0⟩
/-- GAL.EVENT.SIG_MISMATCH (R296). -/
def EVENT.SIG_MISMATCH : Row := ⟨0x1000010, 5, 5, .W1C, 0x0, 1, 0x0, 1, 0x0, 0⟩
/-- GAL.EVENT.LAYER_LATE (R296). -/
def EVENT.LAYER_LATE : Row := ⟨0x1000010, 4, 4, .W1C, 0x0, 1, 0x0, 1, 0x0, 0⟩
/-- GAL.EVENT.REPLACED (R296). -/
def EVENT.REPLACED : Row := ⟨0x1000010, 3, 3, .W1C, 0x0, 1, 0x0, 1, 0x0, 0⟩
/-- GAL.EVENT.SET_BAD (R296). -/
def EVENT.SET_BAD : Row := ⟨0x1000010, 2, 2, .W1C, 0x0, 1, 0x0, 1, 0x0, 0⟩
/-- GAL.EVENT.HELD (R296). -/
def EVENT.HELD : Row := ⟨0x1000010, 1, 1, .W1C, 0x0, 1, 0x0, 1, 0x0, 0⟩
/-- GAL.EVENT.APPLIED (R296). -/
def EVENT.APPLIED : Row := ⟨0x1000010, 0, 0, .W1C, 0x0, 1, 0x0, 1, 0x0, 0⟩
/-- GAL.IRQ_EN.TAP_DONE_EN (R296). -/
def IRQ_EN.TAP_DONE_EN : Row := ⟨0x1000014, 7, 7, .RW, 0x0, 1, 0x0, 1, 0x0, 0⟩
/-- GAL.IRQ_EN.GAIN_SETTLED_EN (R296). -/
def IRQ_EN.GAIN_SETTLED_EN : Row := ⟨0x1000014, 6, 6, .RW, 0x0, 1, 0x0, 1, 0x0, 0⟩
/-- GAL.IRQ_EN.SIG_MISMATCH_EN (R296). -/
def IRQ_EN.SIG_MISMATCH_EN : Row := ⟨0x1000014, 5, 5, .RW, 0x0, 1, 0x0, 1, 0x0, 0⟩
/-- GAL.IRQ_EN.LAYER_LATE_EN (R296). -/
def IRQ_EN.LAYER_LATE_EN : Row := ⟨0x1000014, 4, 4, .RW, 0x0, 1, 0x0, 1, 0x0, 0⟩
/-- GAL.IRQ_EN.REPLACED_EN (R296). -/
def IRQ_EN.REPLACED_EN : Row := ⟨0x1000014, 3, 3, .RW, 0x0, 1, 0x0, 1, 0x0, 0⟩
/-- GAL.IRQ_EN.SET_BAD_EN (R296). -/
def IRQ_EN.SET_BAD_EN : Row := ⟨0x1000014, 2, 2, .RW, 0x0, 1, 0x0, 1, 0x0, 0⟩
/-- GAL.IRQ_EN.HELD_EN (R296). -/
def IRQ_EN.HELD_EN : Row := ⟨0x1000014, 1, 1, .RW, 0x0, 1, 0x0, 1, 0x0, 0⟩
/-- GAL.IRQ_EN.APPLIED_EN (R296). -/
def IRQ_EN.APPLIED_EN : Row := ⟨0x1000014, 0, 0, .RW, 0x0, 1, 0x0, 1, 0x0, 0⟩
/-- GAL.PIPE_CTRL.GAIN_STEP (R297). -/
def PIPE_CTRL.GAIN_STEP : Row := ⟨0x1000018, 31, 16, .RW, 0x10, 1, 0x0, 1, 0x0, 0⟩
/-- GAL.PIPE_CTRL.SUBST_MARK (R297). -/
def PIPE_CTRL.SUBST_MARK : Row := ⟨0x1000018, 2, 2, .RW, 0x0, 1, 0x0, 1, 0x0, 0⟩
/-- GAL.PIPE_CTRL.DITHER (R297). -/
def PIPE_CTRL.DITHER : Row := ⟨0x1000018, 1, 0, .RW, 0x2, 1, 0x0, 1, 0x0, 0⟩
/-- GAL.ZONE_GRID.ZH (R297). -/
def ZONE_GRID.ZH : Row := ⟨0x100001c, 31, 16, .RO, 0x0, 1, 0x0, 1, 0x0, 0⟩
/-- GAL.ZONE_GRID.ZW (R297). -/
def ZONE_GRID.ZW : Row := ⟨0x100001c, 15, 0, .RO, 0x0, 1, 0x0, 1, 0x0, 0⟩
/-- GAL.BG.COLOUR (R297). -/
def BG.COLOUR : Row := ⟨0x1000020, 23, 0, .RW, 0x0, 3, 0x4, 1, 0x0, 0⟩
/-- GAL.SUBST.COLOUR (R297). -/
def SUBST.COLOUR : Row := ⟨0x100002c, 23, 0, .RW, 0x0, 3, 0x4, 1, 0x0, 5⟩
/-- GAL.LAYER_LATE.COUNT (R298). -/
def LAYER_LATE.COUNT : Row := ⟨0x1000040, 31, 0, .RO, 0x0, 1, 0x0, 1, 0x0, 0⟩
/-- GAL.SIG_MISMATCH.COUNT (R298). -/
def SIG_MISMATCH.COUNT : Row := ⟨0x1000044, 31, 0, .RO, 0x0, 1, 0x0, 1, 0x0, 0⟩
/-- GAL.TAP_CAPTURED.COUNT (R298). -/
def TAP_CAPTURED.COUNT : Row := ⟨0x1000048, 31, 0, .RO, 0x0, 1, 0x0, 1, 0x0, 0⟩
/-- GAL.TAP_SKIPPED.COUNT (R298). -/
def TAP_SKIPPED.COUNT : Row := ⟨0x100004c, 31, 0, .RO, 0x0, 1, 0x0, 1, 0x0, 0⟩
/-- GAL.MATA0.COEF (R293). -/
def MATA0.COEF : Row := ⟨0x1001000, 31, 0, .RW, 0x4000, 1, 0x0, 1, 0x0, 0⟩
/-- GAL.MATA1.COEF (R293). -/
def MATA1.COEF : Row := ⟨0x1001004, 31, 0, .RW, 0x0, 1, 0x0, 1, 0x0, 0⟩
/-- GAL.MATA2.COEF (R293). -/
def MATA2.COEF : Row := ⟨0x1001008, 31, 0, .RW, 0x0, 1, 0x0, 1, 0x0, 0⟩
/-- GAL.MATA3.COEF (R293). -/
def MATA3.COEF : Row := ⟨0x100100c, 31, 0, .RW, 0x0, 1, 0x0, 1, 0x0, 0⟩
/-- GAL.MATA4.COEF (R293). -/
def MATA4.COEF : Row := ⟨0x1001010, 31, 0, .RW, 0x4000, 1, 0x0, 1, 0x0, 0⟩
/-- GAL.MATA5.COEF (R293). -/
def MATA5.COEF : Row := ⟨0x1001014, 31, 0, .RW, 0x0, 1, 0x0, 1, 0x0, 0⟩
/-- GAL.MATA6.COEF (R293). -/
def MATA6.COEF : Row := ⟨0x1001018, 31, 0, .RW, 0x0, 1, 0x0, 1, 0x0, 0⟩
/-- GAL.MATA7.COEF (R293). -/
def MATA7.COEF : Row := ⟨0x100101c, 31, 0, .RW, 0x0, 1, 0x0, 1, 0x0, 0⟩
/-- GAL.MATA8.COEF (R293). -/
def MATA8.COEF : Row := ⟨0x1001020, 31, 0, .RW, 0x4000, 1, 0x0, 1, 0x0, 0⟩
/-- GAL.MATB0.COEF (R293). -/
def MATB0.COEF : Row := ⟨0x1001040, 31, 0, .RW, 0x303f, 1, 0x0, 1, 0x0, 0⟩
/-- GAL.MATB1.COEF (R293). -/
def MATB1.COEF : Row := ⟨0x1001044, 31, 0, .RW, 0xcb6, 1, 0x0, 1, 0x0, 0⟩
/-- GAL.MATB2.COEF (R293). -/
def MATB2.COEF : Row := ⟨0x1001048, 31, 0, .RW, 0x30b, 1, 0x0, 1, 0x0, 0⟩
/-- GAL.MATB3.COEF (R293). -/
def MATB3.COEF : Row := ⟨0x100104c, 31, 0, .RW, 0x2ee, 1, 0x0, 1, 0x0, 0⟩
/-- GAL.MATB4.COEF (R293). -/
def MATB4.COEF : Row := ⟨0x1001050, 31, 0, .RW, 0x3c46, 1, 0x0, 1, 0x0, 0⟩
/-- GAL.MATB5.COEF (R293). -/
def MATB5.COEF : Row := ⟨0x1001054, 31, 0, .RW, 0xcc, 1, 0x0, 1, 0x0, 0⟩
/-- GAL.MATB6.COEF (R293). -/
def MATB6.COEF : Row := ⟨0x1001058, 31, 0, .RW, 0xffffffec, 1, 0x0, 1, 0x0, 0⟩
/-- GAL.MATB7.COEF (R293). -/
def MATB7.COEF : Row := ⟨0x100105c, 31, 0, .RW, 0x120, 1, 0x0, 1, 0x0, 0⟩
/-- GAL.MATB8.COEF (R293). -/
def MATB8.COEF : Row := ⟨0x1001060, 31, 0, .RW, 0x3ef4, 1, 0x0, 1, 0x0, 0⟩
/-- GAL.LUT.NODE (R293). -/
def LUT.NODE : Row := ⟨0x1002000, 23, 0, .RW, 0x0, 3, 0x1000, 641, 0x4, 1⟩
/-- GAL.SCALH.C1 (R293). -/
def SCALH.C1 : Row := ⟨0x1005000, 31, 16, .RW, 0x0, 4, 0x800, 256, 0x4, 2⟩
/-- GAL.SCALH.C0 (R293). -/
def SCALH.C0 : Row := ⟨0x1005000, 15, 0, .RW, 0x0, 4, 0x800, 256, 0x4, 2⟩
/-- GAL.SCALV.C1 (R293). -/
def SCALV.C1 : Row := ⟨0x1005400, 31, 16, .RW, 0x0, 4, 0x800, 192, 0x4, 3⟩
/-- GAL.SCALV.C0 (R293). -/
def SCALV.C0 : Row := ⟨0x1005400, 15, 0, .RW, 0x0, 4, 0x800, 192, 0x4, 3⟩
/-- GAL.SIG_CTRL.VALID (R301). -/
def SIG_CTRL.VALID : Row := ⟨0x1007000, 31, 31, .RO, 0x0, 8, 0x20, 1, 0x0, 0⟩
/-- GAL.SIG_CTRL.COMPARE (R301). -/
def SIG_CTRL.COMPARE : Row := ⟨0x1007000, 5, 5, .RW, 0x0, 8, 0x20, 1, 0x0, 0⟩
/-- GAL.SIG_CTRL.POINT (R301). -/
def SIG_CTRL.POINT : Row := ⟨0x1007000, 4, 4, .RW, 0x0, 8, 0x20, 1, 0x0, 0⟩
/-- GAL.SIG_CTRL.CHANNELS (R301). -/
def SIG_CTRL.CHANNELS : Row := ⟨0x1007000, 3, 1, .RW, 0x7, 8, 0x20, 1, 0x0, 0⟩
/-- GAL.SIG_CTRL.ENABLE (R301). -/
def SIG_CTRL.ENABLE : Row := ⟨0x1007000, 0, 0, .RW, 0x0, 8, 0x20, 1, 0x0, 0⟩
/-- GAL.SIG_POS.Y (R301). -/
def SIG_POS.Y : Row := ⟨0x1007004, 31, 16, .RW, 0x0, 8, 0x20, 1, 0x0, 0⟩
/-- GAL.SIG_POS.X (R301). -/
def SIG_POS.X : Row := ⟨0x1007004, 15, 0, .RW, 0x0, 8, 0x20, 1, 0x0, 0⟩
/-- GAL.SIG_SIZE.H (R301). -/
def SIG_SIZE.H : Row := ⟨0x1007008, 31, 16, .RW, 0x0, 8, 0x20, 1, 0x0, 0⟩
/-- GAL.SIG_SIZE.W (R301). -/
def SIG_SIZE.W : Row := ⟨0x1007008, 15, 0, .RW, 0x0, 8, 0x20, 1, 0x0, 0⟩
/-- GAL.SIG_EXPECT.VALUE (R301). -/
def SIG_EXPECT.VALUE : Row := ⟨0x100700c, 31, 0, .RW, 0x0, 8, 0x20, 1, 0x0, 0⟩
/-- GAL.SIG_VALUE.VALUE (R301). -/
def SIG_VALUE.VALUE : Row := ⟨0x1007010, 31, 0, .RO, 0x0, 8, 0x20, 1, 0x0, 0⟩
/-- GAL.TAP_CTRL.DIVIDE (R302). -/
def TAP_CTRL.DIVIDE : Row := ⟨0x1007800, 31, 24, .RW, 0x1, 1, 0x0, 1, 0x0, 0⟩
/-- GAL.TAP_CTRL.COUNT_M1 (R302). -/
def TAP_CTRL.COUNT_M1 : Row := ⟨0x1007800, 23, 20, .RW, 0x0, 1, 0x0, 1, 0x0, 0⟩
/-- GAL.TAP_CTRL.DECIM (R302). -/
def TAP_CTRL.DECIM : Row := ⟨0x1007800, 19, 18, .RW, 0x0, 1, 0x0, 1, 0x0, 0⟩
/-- GAL.TAP_CTRL.POINT (R302). -/
def TAP_CTRL.POINT : Row := ⟨0x1007800, 3, 3, .RW, 0x0, 1, 0x0, 1, 0x0, 0⟩
/-- GAL.TAP_CTRL.MODE (R302). -/
def TAP_CTRL.MODE : Row := ⟨0x1007800, 2, 2, .RW, 0x0, 1, 0x0, 1, 0x0, 0⟩
/-- GAL.TAP_CTRL.FORCE_STOP (R302). -/
def TAP_CTRL.FORCE_STOP : Row := ⟨0x1007800, 1, 1, .WO, 0x0, 1, 0x0, 1, 0x0, 0⟩
/-- GAL.TAP_CTRL.ENABLE (R302). -/
def TAP_CTRL.ENABLE : Row := ⟨0x1007800, 0, 0, .RW, 0x0, 1, 0x0, 1, 0x0, 0⟩
/-- GAL.TAP_STATUS.LAST (R302). -/
def TAP_STATUS.LAST : Row := ⟨0x1007804, 31, 24, .RO, 0x0, 1, 0x0, 1, 0x0, 0⟩
/-- GAL.TAP_STATUS.SEQ (R302). -/
def TAP_STATUS.SEQ : Row := ⟨0x1007804, 23, 8, .RO, 0x0, 1, 0x0, 1, 0x0, 0⟩
/-- GAL.TAP_STATUS.LAST_BUF (R302). -/
def TAP_STATUS.LAST_BUF : Row := ⟨0x1007804, 7, 4, .RO, 0x0, 1, 0x0, 1, 0x0, 0⟩
/-- GAL.TAP_STATUS.STATE (R302). -/
def TAP_STATUS.STATE : Row := ⟨0x1007804, 1, 0, .RO, 0x0, 1, 0x0, 1, 0x0, 0⟩
/-- GAL.TAP_BASE_LO.BASE (R302). -/
def TAP_BASE_LO.BASE : Row := ⟨0x1007808, 31, 12, .RW, 0x0, 1, 0x0, 1, 0x0, 0⟩
/-- GAL.TAP_BASE_HI.BASE (R302). -/
def TAP_BASE_HI.BASE : Row := ⟨0x100780c, 3, 0, .RW, 0x0, 1, 0x0, 1, 0x0, 0⟩
/-- GAL.TAP_STRIDE.STRIDE (R302). -/
def TAP_STRIDE.STRIDE : Row := ⟨0x1007810, 31, 0, .RW, 0x0, 1, 0x0, 1, 0x0, 0⟩
/-- GAL.TAP_PITCH.PITCH (R302). -/
def TAP_PITCH.PITCH : Row := ⟨0x1007814, 31, 0, .RW, 0x0, 1, 0x0, 1, 0x0, 0⟩
/-- GAL.TAP_XY.Y (R302). -/
def TAP_XY.Y : Row := ⟨0x1007818, 31, 16, .RW, 0x0, 1, 0x0, 1, 0x0, 0⟩
/-- GAL.TAP_XY.X (R302). -/
def TAP_XY.X : Row := ⟨0x1007818, 15, 0, .RW, 0x0, 1, 0x0, 1, 0x0, 0⟩
/-- GAL.TAP_WH.H (R302). -/
def TAP_WH.H : Row := ⟨0x100781c, 31, 16, .RW, 0x0, 1, 0x0, 1, 0x0, 0⟩
/-- GAL.TAP_WH.W (R302). -/
def TAP_WH.W : Row := ⟨0x100781c, 15, 0, .RW, 0x0, 1, 0x0, 1, 0x0, 0⟩
/-- GAL.TAP_VIEW.VIEW_SEL (R302). -/
def TAP_VIEW.VIEW_SEL : Row := ⟨0x1007820, 7, 0, .RW, 0x0, 1, 0x0, 1, 0x0, 0⟩
/-- GAL.PL_CTRL.ENABLE (R303). -/
def PL_CTRL.ENABLE : Row := ⟨0x1007c00, 0, 0, .RWB, 0x0, 1, 0x0, 1, 0x0, 0⟩
/-- GAL.PL_BASE_LO.BASE (R303). -/
def PL_BASE_LO.BASE : Row := ⟨0x1007c04, 31, 0, .RWB, 0x0, 1, 0x0, 1, 0x0, 0⟩
/-- GAL.PL_BASE_HI.BASE (R303). -/
def PL_BASE_HI.BASE : Row := ⟨0x1007c08, 3, 0, .RWB, 0x0, 1, 0x0, 1, 0x0, 0⟩
/-- GAL.PL_XY.Y (R303). -/
def PL_XY.Y : Row := ⟨0x1007c0c, 31, 16, .RWB, 0x0, 1, 0x0, 1, 0x0, 0⟩
/-- GAL.PL_XY.X (R303). -/
def PL_XY.X : Row := ⟨0x1007c0c, 15, 0, .RWB, 0x0, 1, 0x0, 1, 0x0, 0⟩
/-- GAL.PL_WH.H (R303). -/
def PL_WH.H : Row := ⟨0x1007c10, 31, 16, .RWB, 0x0, 1, 0x0, 1, 0x0, 0⟩
/-- GAL.PL_WH.W (R303). -/
def PL_WH.W : Row := ⟨0x1007c10, 15, 0, .RWB, 0x0, 1, 0x0, 1, 0x0, 0⟩
/-- GAL.PL_COMMIT.GO (R303). -/
def PL_COMMIT.GO : Row := ⟨0x1007c14, 31, 31, .WO, 0x0, 1, 0x0, 1, 0x0, 0⟩
/-- GAL.PL_COMMIT.TOKEN (R303). -/
def PL_COMMIT.TOKEN : Row := ⟨0x1007c14, 15, 0, .RWB, 0x0, 1, 0x0, 1, 0x0, 0⟩
/-- GAL.PL_STATUS.IN_FORCE_TOKEN (R303). -/
def PL_STATUS.IN_FORCE_TOKEN : Row := ⟨0x1007c18, 31, 16, .RO, 0x0, 1, 0x0, 1, 0x0, 0⟩
/-- GAL.PL_STATUS.RESULT (R303). -/
def PL_STATUS.RESULT : Row := ⟨0x1007c18, 15, 8, .RO, 0x0, 1, 0x0, 1, 0x0, 0⟩
/-- GAL.PL_STATUS.REASON (R303). -/
def PL_STATUS.REASON : Row := ⟨0x1007c18, 7, 4, .RO, 0x0, 1, 0x0, 1, 0x0, 0⟩
/-- GAL.PL_STATUS.HELD (R303). -/
def PL_STATUS.HELD : Row := ⟨0x1007c18, 3, 3, .RO, 0x0, 1, 0x0, 1, 0x0, 0⟩
/-- GAL.PL_STATUS.DEFERRED_VALID (R303). -/
def PL_STATUS.DEFERRED_VALID : Row := ⟨0x1007c18, 2, 2, .RO, 0x0, 1, 0x0, 1, 0x0, 0⟩
/-- GAL.PL_STATUS.PENDING_VALID (R303). -/
def PL_STATUS.PENDING_VALID : Row := ⟨0x1007c18, 1, 1, .RO, 0x0, 1, 0x0, 1, 0x0, 0⟩
/-- GAL.PL_PAL0.G (R303). -/
def PL_PAL0.G : Row := ⟨0x1007c40, 27, 16, .RWB, 0x0, 16, 0x8, 1, 0x0, 0⟩
/-- GAL.PL_PAL0.R (R303). -/
def PL_PAL0.R : Row := ⟨0x1007c40, 11, 0, .RWB, 0x0, 16, 0x8, 1, 0x0, 0⟩
/-- GAL.PL_PAL1.ALPHA (R303). -/
def PL_PAL1.ALPHA : Row := ⟨0x1007c44, 23, 16, .RWB, 0x0, 16, 0x8, 1, 0x0, 0⟩
/-- GAL.PL_PAL1.B (R303). -/
def PL_PAL1.B : Row := ⟨0x1007c44, 11, 0, .RWB, 0x0, 16, 0x8, 1, 0x0, 0⟩
/-- GAL.LAYER_CTRL.GLOBAL_ALPHA (R299). -/
def LAYER_CTRL.GLOBAL_ALPHA : Row := ⟨0x1010000, 24, 16, .RW, 0x100, 14, 0x1000, 1, 0x0, 0⟩
/-- GAL.LAYER_CTRL.SCALER (R299). -/
def LAYER_CTRL.SCALER : Row := ⟨0x1010000, 14, 12, .RW, 0x0, 14, 0x1000, 1, 0x0, 0⟩
/-- GAL.LAYER_CTRL.PRIMARIES (R299). -/
def LAYER_CTRL.PRIMARIES : Row := ⟨0x1010000, 9, 8, .RW, 0x0, 14, 0x1000, 1, 0x0, 0⟩
/-- GAL.LAYER_CTRL.FORMAT (R299). -/
def LAYER_CTRL.FORMAT : Row := ⟨0x1010000, 6, 4, .RW, 0x0, 14, 0x1000, 1, 0x0, 0⟩
/-- GAL.LAYER_CTRL.CULL (R299). -/
def LAYER_CTRL.CULL : Row := ⟨0x1010000, 3, 3, .RW, 0x0, 14, 0x1000, 1, 0x0, 0⟩
/-- GAL.LAYER_CTRL.ABOVE (R299). -/
def LAYER_CTRL.ABOVE : Row := ⟨0x1010000, 2, 2, .RW, 0x0, 14, 0x1000, 1, 0x0, 0⟩
/-- GAL.LAYER_CTRL.MODE (R299). -/
def LAYER_CTRL.MODE : Row := ⟨0x1010000, 1, 1, .RW, 0x0, 14, 0x1000, 1, 0x0, 0⟩
/-- GAL.LAYER_CTRL.ENABLE (R299). -/
def LAYER_CTRL.ENABLE : Row := ⟨0x1010000, 0, 0, .RW, 0x0, 14, 0x1000, 1, 0x0, 0⟩
/-- GAL.LAYER_SRC_LO.BASE (R300). -/
def LAYER_SRC_LO.BASE : Row := ⟨0x1010004, 31, 6, .RW, 0x0, 14, 0x1000, 1, 0x0, 0⟩
/-- GAL.LAYER_SRC_HI.BASE (R300). -/
def LAYER_SRC_HI.BASE : Row := ⟨0x1010008, 3, 0, .RW, 0x0, 14, 0x1000, 1, 0x0, 0⟩
/-- GAL.LAYER_PITCH.PITCH (R300). -/
def LAYER_PITCH.PITCH : Row := ⟨0x101000c, 31, 6, .RW, 0x0, 14, 0x1000, 1, 0x0, 0⟩
/-- GAL.LAYER_SRC_XY.Y (R300). -/
def LAYER_SRC_XY.Y : Row := ⟨0x1010010, 31, 16, .RW, 0x0, 14, 0x1000, 1, 0x0, 0⟩
/-- GAL.LAYER_SRC_XY.X (R300). -/
def LAYER_SRC_XY.X : Row := ⟨0x1010010, 15, 0, .RW, 0x0, 14, 0x1000, 1, 0x0, 0⟩
/-- GAL.LAYER_SRC_WH.H (R300). -/
def LAYER_SRC_WH.H : Row := ⟨0x1010014, 31, 16, .RW, 0x0, 14, 0x1000, 1, 0x0, 0⟩
/-- GAL.LAYER_SRC_WH.W (R300). -/
def LAYER_SRC_WH.W : Row := ⟨0x1010014, 15, 0, .RW, 0x0, 14, 0x1000, 1, 0x0, 0⟩
/-- GAL.LAYER_DST_XY.Y (R300). -/
def LAYER_DST_XY.Y : Row := ⟨0x1010018, 31, 16, .RW, 0x0, 14, 0x1000, 1, 0x0, 0⟩
/-- GAL.LAYER_DST_XY.X (R300). -/
def LAYER_DST_XY.X : Row := ⟨0x1010018, 15, 0, .RW, 0x0, 14, 0x1000, 1, 0x0, 0⟩
/-- GAL.LAYER_DST_WH.H (R300). -/
def LAYER_DST_WH.H : Row := ⟨0x101001c, 31, 16, .RW, 0x0, 14, 0x1000, 1, 0x0, 0⟩
/-- GAL.LAYER_DST_WH.W (R300). -/
def LAYER_DST_WH.W : Row := ⟨0x101001c, 15, 0, .RW, 0x0, 14, 0x1000, 1, 0x0, 0⟩
/-- GAL.LAYER_LZ.VALUE (R300). -/
def LAYER_LZ.VALUE : Row := ⟨0x1010020, 31, 0, .RW, 0x0, 14, 0x1000, 1, 0x0, 0⟩
/-- GAL.LAYER_LX.VALUE (R300). -/
def LAYER_LX.VALUE : Row := ⟨0x1010024, 31, 0, .RW, 0x0, 14, 0x1000, 1, 0x0, 0⟩
/-- GAL.LAYER_LY.VALUE (R300). -/
def LAYER_LY.VALUE : Row := ⟨0x1010028, 31, 0, .RW, 0x0, 14, 0x1000, 1, 0x0, 0⟩
/-- GAL.LAYER_LW.VALUE (R300). -/
def LAYER_LW.VALUE : Row := ⟨0x101002c, 31, 0, .RW, 0x0, 14, 0x1000, 1, 0x0, 0⟩
/-- GAL.LAYER_LH.VALUE (R300). -/
def LAYER_LH.VALUE : Row := ⟨0x1010030, 31, 0, .RW, 0x0, 14, 0x1000, 1, 0x0, 0⟩
/-- GAL.LAYER_NITS.NITS (R300). -/
def LAYER_NITS.NITS : Row := ⟨0x1010034, 15, 0, .RW, 0x0, 14, 0x1000, 1, 0x0, 0⟩
/-- GAL.LAYER_COLOUR.COLOUR (R300). -/
def LAYER_COLOUR.COLOUR : Row := ⟨0x1010038, 23, 0, .RW, 0x0, 14, 0x1000, 3, 0x4, 0⟩
/-- GAL.LAYER_PAL.WORD (R293). -/
def LAYER_PAL.WORD : Row := ⟨0x1010800, 31, 0, .RW, 0x0, 14, 0x1000, 512, 0x4, 0⟩
/-- GAL.UNIF.WORD (R293). -/
def UNIF.WORD : Row := ⟨0x1020000, 31, 0, .RW, 0x0, 8160, 0x8, 2, 0x4, 4⟩
/-- GAL.AGING.WORD (R293). -/
def AGING.WORD : Row := ⟨0x1030000, 31, 0, .RW, 0x0, 8160, 0x8, 2, 0x4, 4⟩
/-- GAL.ZONE_SUM.SUM (R293). -/
def ZONE_SUM.SUM : Row := ⟨0x1040000, 31, 0, .RO, 0x0, 24480, 0x4, 1, 0x0, 0⟩

end R.GAL

/-- Rows of the GAL block, part 0. -/
def rowsGAL0 : List Row := [R.GAL.COMMIT.GO, R.GAL.COMMIT.TOKEN, R.GAL.COMMIT_STATUS.IN_FORCE_TOKEN, R.GAL.COMMIT_STATUS.RESULT, R.GAL.COMMIT_STATUS.REASON, R.GAL.COMMIT_STATUS.HELD, R.GAL.COMMIT_STATUS.DEFERRED_VALID, R.GAL.COMMIT_STATUS.PENDING_VALID, R.GAL.COMMIT_QUEUE.DEFERRED_TOKEN, R.GAL.COMMIT_QUEUE.PENDING_TOKEN, R.GAL.COMMIT_TICK.TICK_LO, R.GAL.EVENT.TAP_DONE, R.GAL.EVENT.GAIN_SETTLED, R.GAL.EVENT.SIG_MISMATCH, R.GAL.EVENT.LAYER_LATE, R.GAL.EVENT.REPLACED, R.GAL.EVENT.SET_BAD, R.GAL.EVENT.HELD, R.GAL.EVENT.APPLIED, R.GAL.IRQ_EN.TAP_DONE_EN, R.GAL.IRQ_EN.GAIN_SETTLED_EN, R.GAL.IRQ_EN.SIG_MISMATCH_EN, R.GAL.IRQ_EN.LAYER_LATE_EN, R.GAL.IRQ_EN.REPLACED_EN, R.GAL.IRQ_EN.SET_BAD_EN, R.GAL.IRQ_EN.HELD_EN, R.GAL.IRQ_EN.APPLIED_EN, R.GAL.PIPE_CTRL.GAIN_STEP, R.GAL.PIPE_CTRL.SUBST_MARK, R.GAL.PIPE_CTRL.DITHER, R.GAL.ZONE_GRID.ZH, R.GAL.ZONE_GRID.ZW, R.GAL.BG.COLOUR, R.GAL.SUBST.COLOUR, R.GAL.LAYER_LATE.COUNT, R.GAL.SIG_MISMATCH.COUNT, R.GAL.TAP_CAPTURED.COUNT, R.GAL.TAP_SKIPPED.COUNT, R.GAL.MATA0.COEF, R.GAL.MATA1.COEF]
/-- Rows of the GAL block, part 1. -/
def rowsGAL1 : List Row := [R.GAL.MATA2.COEF, R.GAL.MATA3.COEF, R.GAL.MATA4.COEF, R.GAL.MATA5.COEF, R.GAL.MATA6.COEF, R.GAL.MATA7.COEF, R.GAL.MATA8.COEF, R.GAL.MATB0.COEF, R.GAL.MATB1.COEF, R.GAL.MATB2.COEF, R.GAL.MATB3.COEF, R.GAL.MATB4.COEF, R.GAL.MATB5.COEF, R.GAL.MATB6.COEF, R.GAL.MATB7.COEF, R.GAL.MATB8.COEF, R.GAL.LUT.NODE, R.GAL.SCALH.C1, R.GAL.SCALH.C0, R.GAL.SCALV.C1, R.GAL.SCALV.C0, R.GAL.SIG_CTRL.VALID, R.GAL.SIG_CTRL.COMPARE, R.GAL.SIG_CTRL.POINT, R.GAL.SIG_CTRL.CHANNELS, R.GAL.SIG_CTRL.ENABLE, R.GAL.SIG_POS.Y, R.GAL.SIG_POS.X, R.GAL.SIG_SIZE.H, R.GAL.SIG_SIZE.W, R.GAL.SIG_EXPECT.VALUE, R.GAL.SIG_VALUE.VALUE, R.GAL.TAP_CTRL.DIVIDE, R.GAL.TAP_CTRL.COUNT_M1, R.GAL.TAP_CTRL.DECIM, R.GAL.TAP_CTRL.POINT, R.GAL.TAP_CTRL.MODE, R.GAL.TAP_CTRL.FORCE_STOP, R.GAL.TAP_CTRL.ENABLE, R.GAL.TAP_STATUS.LAST]
/-- Rows of the GAL block, part 2. -/
def rowsGAL2 : List Row := [R.GAL.TAP_STATUS.SEQ, R.GAL.TAP_STATUS.LAST_BUF, R.GAL.TAP_STATUS.STATE, R.GAL.TAP_BASE_LO.BASE, R.GAL.TAP_BASE_HI.BASE, R.GAL.TAP_STRIDE.STRIDE, R.GAL.TAP_PITCH.PITCH, R.GAL.TAP_XY.Y, R.GAL.TAP_XY.X, R.GAL.TAP_WH.H, R.GAL.TAP_WH.W, R.GAL.TAP_VIEW.VIEW_SEL, R.GAL.PL_CTRL.ENABLE, R.GAL.PL_BASE_LO.BASE, R.GAL.PL_BASE_HI.BASE, R.GAL.PL_XY.Y, R.GAL.PL_XY.X, R.GAL.PL_WH.H, R.GAL.PL_WH.W, R.GAL.PL_COMMIT.GO, R.GAL.PL_COMMIT.TOKEN, R.GAL.PL_STATUS.IN_FORCE_TOKEN, R.GAL.PL_STATUS.RESULT, R.GAL.PL_STATUS.REASON, R.GAL.PL_STATUS.HELD, R.GAL.PL_STATUS.DEFERRED_VALID, R.GAL.PL_STATUS.PENDING_VALID, R.GAL.PL_PAL0.G, R.GAL.PL_PAL0.R, R.GAL.PL_PAL1.ALPHA, R.GAL.PL_PAL1.B, R.GAL.LAYER_CTRL.GLOBAL_ALPHA, R.GAL.LAYER_CTRL.SCALER, R.GAL.LAYER_CTRL.PRIMARIES, R.GAL.LAYER_CTRL.FORMAT, R.GAL.LAYER_CTRL.CULL, R.GAL.LAYER_CTRL.ABOVE, R.GAL.LAYER_CTRL.MODE, R.GAL.LAYER_CTRL.ENABLE, R.GAL.LAYER_SRC_LO.BASE]
/-- Rows of the GAL block, part 3. -/
def rowsGAL3 : List Row := [R.GAL.LAYER_SRC_HI.BASE, R.GAL.LAYER_PITCH.PITCH, R.GAL.LAYER_SRC_XY.Y, R.GAL.LAYER_SRC_XY.X, R.GAL.LAYER_SRC_WH.H, R.GAL.LAYER_SRC_WH.W, R.GAL.LAYER_DST_XY.Y, R.GAL.LAYER_DST_XY.X, R.GAL.LAYER_DST_WH.H, R.GAL.LAYER_DST_WH.W, R.GAL.LAYER_LZ.VALUE, R.GAL.LAYER_LX.VALUE, R.GAL.LAYER_LY.VALUE, R.GAL.LAYER_LW.VALUE, R.GAL.LAYER_LH.VALUE, R.GAL.LAYER_NITS.NITS, R.GAL.LAYER_COLOUR.COLOUR, R.GAL.LAYER_PAL.WORD, R.GAL.UNIF.WORD, R.GAL.AGING.WORD, R.GAL.ZONE_SUM.SUM]
/-- All register rows of the GAL block. -/
def rowsGAL : List Row := rowsGAL0 ++ rowsGAL1 ++ rowsGAL2 ++ rowsGAL3

namespace R.SCAN

/-- SCAN.STATUS.LAST_CODE (R338). -/
def STATUS.LAST_CODE : Row := ⟨0x1400000, 31, 24, .RO, 0x0, 1, 0x0, 1, 0x0, 0⟩
/-- SCAN.STATUS.ENTRY (R338). -/
def STATUS.ENTRY : Row := ⟨0x1400000, 20, 16, .RO, 0x0, 1, 0x0, 1, 0x0, 0⟩
/-- SCAN.STATUS.FRAME_KIND (R338). -/
def STATUS.FRAME_KIND : Row := ⟨0x1400000, 13, 12, .RO, 0x3, 1, 0x0, 1, 0x0, 0⟩
/-- SCAN.STATUS.POL_MODE (R338). -/
def STATUS.POL_MODE : Row := ⟨0x1400000, 11, 10, .RO, 0x0, 1, 0x0, 1, 0x0, 0⟩
/-- SCAN.STATUS.PHASE (R338). -/
def STATUS.PHASE : Row := ⟨0x1400000, 9, 9, .RO, 0x0, 1, 0x0, 1, 0x0, 0⟩
/-- SCAN.STATUS.DARK (R338). -/
def STATUS.DARK : Row := ⟨0x1400000, 8, 8, .RO, 0x1, 1, 0x0, 1, 0x0, 0⟩
/-- SCAN.STATUS.BUNDLES (R338). -/
def STATUS.BUNDLES : Row := ⟨0x1400000, 7, 4, .RO, 0x0, 1, 0x0, 1, 0x0, 0⟩
/-- SCAN.STATUS.STATE (R338). -/
def STATUS.STATE : Row := ⟨0x1400000, 1, 0, .RO, 0x0, 1, 0x0, 1, 0x0, 0⟩
/-- SCAN.EVENT.WAIT_TRAIN (R339). -/
def EVENT.WAIT_TRAIN : Row := ⟨0x1400004, 7, 7, .W1C, 0x0, 1, 0x0, 1, 0x0, 0⟩
/-- SCAN.EVENT.DRIVE_APPLIED (R339). -/
def EVENT.DRIVE_APPLIED : Row := ⟨0x1400004, 6, 6, .W1C, 0x0, 1, 0x0, 1, 0x0, 0⟩
/-- SCAN.EVENT.DRIVE_BAD (R339). -/
def EVENT.DRIVE_BAD : Row := ⟨0x1400004, 5, 5, .W1C, 0x0, 1, 0x0, 1, 0x0, 0⟩
/-- SCAN.EVENT.ECHO_LANE_CODE (R339). -/
def EVENT.ECHO_LANE_CODE : Row := ⟨0x1400004, 4, 4, .W1C, 0x0, 1, 0x0, 1, 0x0, 0⟩
/-- SCAN.EVENT.ECHO_MISMATCH (R339). -/
def EVENT.ECHO_MISMATCH : Row := ⟨0x1400004, 3, 3, .W1C, 0x0, 1, 0x0, 1, 0x0, 0⟩
/-- SCAN.EVENT.TICK_LATE (R339). -/
def EVENT.TICK_LATE : Row := ⟨0x1400004, 2, 2, .W1C, 0x0, 1, 0x0, 1, 0x0, 0⟩
/-- SCAN.EVENT.TICK_EARLY (R339). -/
def EVENT.TICK_EARLY : Row := ⟨0x1400004, 1, 1, .W1C, 0x0, 1, 0x0, 1, 0x0, 0⟩
/-- SCAN.EVENT.ABORT (R339). -/
def EVENT.ABORT : Row := ⟨0x1400004, 0, 0, .W1C, 0x0, 1, 0x0, 1, 0x0, 0⟩
/-- SCAN.IRQ_EN.WAIT_TRAIN_EN (R339). -/
def IRQ_EN.WAIT_TRAIN_EN : Row := ⟨0x1400008, 7, 7, .RW, 0x0, 1, 0x0, 1, 0x0, 0⟩
/-- SCAN.IRQ_EN.DRIVE_APPLIED_EN (R339). -/
def IRQ_EN.DRIVE_APPLIED_EN : Row := ⟨0x1400008, 6, 6, .RW, 0x0, 1, 0x0, 1, 0x0, 0⟩
/-- SCAN.IRQ_EN.DRIVE_BAD_EN (R339). -/
def IRQ_EN.DRIVE_BAD_EN : Row := ⟨0x1400008, 5, 5, .RW, 0x0, 1, 0x0, 1, 0x0, 0⟩
/-- SCAN.IRQ_EN.ECHO_LANE_CODE_EN (R339). -/
def IRQ_EN.ECHO_LANE_CODE_EN : Row := ⟨0x1400008, 4, 4, .RW, 0x0, 1, 0x0, 1, 0x0, 0⟩
/-- SCAN.IRQ_EN.ECHO_MISMATCH_EN (R339). -/
def IRQ_EN.ECHO_MISMATCH_EN : Row := ⟨0x1400008, 3, 3, .RW, 0x0, 1, 0x0, 1, 0x0, 0⟩
/-- SCAN.IRQ_EN.TICK_LATE_EN (R339). -/
def IRQ_EN.TICK_LATE_EN : Row := ⟨0x1400008, 2, 2, .RW, 0x0, 1, 0x0, 1, 0x0, 0⟩
/-- SCAN.IRQ_EN.TICK_EARLY_EN (R339). -/
def IRQ_EN.TICK_EARLY_EN : Row := ⟨0x1400008, 1, 1, .RW, 0x0, 1, 0x0, 1, 0x0, 0⟩
/-- SCAN.IRQ_EN.ABORT_EN (R339). -/
def IRQ_EN.ABORT_EN : Row := ⟨0x1400008, 0, 0, .RW, 0x0, 1, 0x0, 1, 0x0, 0⟩
/-- SCAN.ABORT_LAST.CODE (R340). -/
def ABORT_LAST.CODE : Row := ⟨0x140000c, 31, 24, .RO, 0x0, 1, 0x0, 1, 0x0, 0⟩
/-- SCAN.ABORT_LAST.BUNDLE (R340). -/
def ABORT_LAST.BUNDLE : Row := ⟨0x140000c, 23, 20, .RO, 0xf, 1, 0x0, 1, 0x0, 0⟩
/-- SCAN.ABORT_LAST.LINE (R340). -/
def ABORT_LAST.LINE : Row := ⟨0x140000c, 14, 0, .RO, 0x0, 1, 0x0, 1, 0x0, 0⟩
/-- SCAN.ABORT_TICK.TICK_LO (R340). -/
def ABORT_TICK.TICK_LO : Row := ⟨0x1400010, 31, 0, .RO, 0x0, 1, 0x0, 1, 0x0, 0⟩
/-- SCAN.LINE0.CLAMPED (R341). -/
def LINE0.CLAMPED : Row := ⟨0x1400014, 31, 31, .RO, 0x0, 1, 0x0, 1, 0x0, 0⟩
/-- SCAN.LINE0.DELTA (R341). -/
def LINE0.DELTA : Row := ⟨0x1400014, 9, 0, .RO, 0x0, 1, 0x0, 1, 0x0, 0⟩
/-- SCAN.CD03_DIV.N (R341). -/
def CD03_DIV.N : Row := ⟨0x1400018, 15, 0, .RO, 0x0, 1, 0x0, 1, 0x0, 0⟩
/-- SCAN.PANEL_CFG.ENTRIES (R342). -/
def PANEL_CFG.ENTRIES : Row := ⟨0x1400040, 23, 0, .RWT, 0x0, 1, 0x0, 1, 0x0, 0⟩
/-- SCAN.POL_CTRL.MODE (R342). -/
def POL_CTRL.MODE : Row := ⟨0x1400044, 1, 0, .RWT, 0x0, 1, 0x0, 1, 0x0, 0⟩
/-- SCAN.LP_CTRL.DIVIDE (R342). -/
def LP_CTRL.DIVIDE : Row := ⟨0x1400048, 3, 0, .RWT, 0x1, 1, 0x0, 1, 0x0, 0⟩
/-- SCAN.DRIVE.BYTES (R343). -/
def DRIVE.BYTES : Row := ⟨0x1400050, 31, 0, .RWT, 0x0, 4, 0x4, 1, 0x0, 0⟩
/-- SCAN.FLAT_CTRL.UNIT (R344). -/
def FLAT_CTRL.UNIT : Row := ⟨0x1400060, 0, 0, .RWT, 0x0, 1, 0x0, 1, 0x0, 0⟩
/-- SCAN.FLAT_A.VALUE (R344). -/
def FLAT_A.VALUE : Row := ⟨0x1400064, 31, 0, .RWT, 0x10000, 1, 0x0, 1, 0x0, 0⟩
/-- SCAN.FLAT_B.VALUE (R344). -/
def FLAT_B.VALUE : Row := ⟨0x1400068, 31, 0, .RWT, 0x0, 1, 0x0, 1, 0x0, 0⟩
/-- SCAN.FLAT_C.VALUE (R344). -/
def FLAT_C.VALUE : Row := ⟨0x140006c, 31, 0, .RWT, 0x0, 1, 0x0, 1, 0x0, 0⟩
/-- SCAN.ECHO_CTRL.MODE (R345). -/
def ECHO_CTRL.MODE : Row := ⟨0x1400080, 1, 0, .RW, 0x2, 1, 0x0, 1, 0x0, 0⟩
/-- SCAN.ECHO_LAST.BUNDLE (R345). -/
def ECHO_LAST.BUNDLE : Row := ⟨0x1400084, 31, 28, .RO, 0x0, 1, 0x0, 1, 0x0, 0⟩
/-- SCAN.ECHO_LAST.LANES (R345). -/
def ECHO_LAST.LANES : Row := ⟨0x1400084, 27, 24, .RO, 0x0, 1, 0x0, 1, 0x0, 0⟩
/-- SCAN.ECHO_LAST.BAND (R345). -/
def ECHO_LAST.BAND : Row := ⟨0x1400084, 23, 15, .RO, 0x0, 1, 0x0, 1, 0x0, 0⟩
/-- SCAN.ECHO_LAST.LINE (R345). -/
def ECHO_LAST.LINE : Row := ⟨0x1400084, 14, 0, .RO, 0x0, 1, 0x0, 1, 0x0, 0⟩
/-- SCAN.ECHO_BAND.BAND (R345). -/
def ECHO_BAND.BAND : Row := ⟨0x1400088, 24, 16, .RO, 0x0, 1, 0x0, 1, 0x0, 0⟩
/-- SCAN.ECHO_BAND.COUNT (R345). -/
def ECHO_BAND.COUNT : Row := ⟨0x1400088, 15, 0, .RO, 0x0, 1, 0x0, 1, 0x0, 0⟩
/-- SCAN.FRAMES_ABORTED.COUNT (R346). -/
def FRAMES_ABORTED.COUNT : Row := ⟨0x14000c0, 31, 0, .RO, 0x0, 1, 0x0, 1, 0x0, 0⟩
/-- SCAN.ECHO_LINES_CHECKED.COUNT (R346). -/
def ECHO_LINES_CHECKED.COUNT : Row := ⟨0x14000c4, 31, 0, .RO, 0x0, 1, 0x0, 1, 0x0, 0⟩
/-- SCAN.ECHO_MISMATCH.COUNT (R346). -/
def ECHO_MISMATCH.COUNT : Row := ⟨0x14000c8, 31, 0, .RO, 0x0, 1, 0x0, 1, 0x0, 0⟩
/-- SCAN.LINE0_CLAMPED.COUNT (R346). -/
def LINE0_CLAMPED.COUNT : Row := ⟨0x14000cc, 31, 0, .RO, 0x0, 1, 0x0, 1, 0x0, 0⟩

end R.SCAN

/-- Rows of the SCAN block, part 0. -/
def rowsSCAN0 : List Row := [R.SCAN.STATUS.LAST_CODE, R.SCAN.STATUS.ENTRY, R.SCAN.STATUS.FRAME_KIND, R.SCAN.STATUS.POL_MODE, R.SCAN.STATUS.PHASE, R.SCAN.STATUS.DARK, R.SCAN.STATUS.BUNDLES, R.SCAN.STATUS.STATE, R.SCAN.EVENT.WAIT_TRAIN, R.SCAN.EVENT.DRIVE_APPLIED, R.SCAN.EVENT.DRIVE_BAD, R.SCAN.EVENT.ECHO_LANE_CODE, R.SCAN.EVENT.ECHO_MISMATCH, R.SCAN.EVENT.TICK_LATE, R.SCAN.EVENT.TICK_EARLY, R.SCAN.EVENT.ABORT, R.SCAN.IRQ_EN.WAIT_TRAIN_EN, R.SCAN.IRQ_EN.DRIVE_APPLIED_EN, R.SCAN.IRQ_EN.DRIVE_BAD_EN, R.SCAN.IRQ_EN.ECHO_LANE_CODE_EN, R.SCAN.IRQ_EN.ECHO_MISMATCH_EN, R.SCAN.IRQ_EN.TICK_LATE_EN, R.SCAN.IRQ_EN.TICK_EARLY_EN, R.SCAN.IRQ_EN.ABORT_EN, R.SCAN.ABORT_LAST.CODE, R.SCAN.ABORT_LAST.BUNDLE, R.SCAN.ABORT_LAST.LINE, R.SCAN.ABORT_TICK.TICK_LO, R.SCAN.LINE0.CLAMPED, R.SCAN.LINE0.DELTA, R.SCAN.CD03_DIV.N, R.SCAN.PANEL_CFG.ENTRIES, R.SCAN.POL_CTRL.MODE, R.SCAN.LP_CTRL.DIVIDE, R.SCAN.DRIVE.BYTES, R.SCAN.FLAT_CTRL.UNIT, R.SCAN.FLAT_A.VALUE, R.SCAN.FLAT_B.VALUE, R.SCAN.FLAT_C.VALUE, R.SCAN.ECHO_CTRL.MODE]
/-- Rows of the SCAN block, part 1. -/
def rowsSCAN1 : List Row := [R.SCAN.ECHO_LAST.BUNDLE, R.SCAN.ECHO_LAST.LANES, R.SCAN.ECHO_LAST.BAND, R.SCAN.ECHO_LAST.LINE, R.SCAN.ECHO_BAND.BAND, R.SCAN.ECHO_BAND.COUNT, R.SCAN.FRAMES_ABORTED.COUNT, R.SCAN.ECHO_LINES_CHECKED.COUNT, R.SCAN.ECHO_MISMATCH.COUNT, R.SCAN.LINE0_CLAMPED.COUNT]
/-- All register rows of the SCAN block. -/
def rowsSCAN : List Row := rowsSCAN0 ++ rowsSCAN1

namespace R.VEIN

/-- VEIN.EVENT.TAP_REJECT (R381). -/
def EVENT.TAP_REJECT : Row := ⟨0x1800000, 7, 7, .W1C, 0x0, 1, 0x0, 1, 0x0, 0⟩
/-- VEIN.EVENT.BC_LINE_CRC (R381). -/
def EVENT.BC_LINE_CRC : Row := ⟨0x1800000, 6, 6, .W1C, 0x0, 1, 0x0, 1, 0x0, 0⟩
/-- VEIN.EVENT.RESTRIPED (R381). -/
def EVENT.RESTRIPED : Row := ⟨0x1800000, 5, 5, .W1C, 0x0, 1, 0x0, 1, 0x0, 0⟩
/-- VEIN.EVENT.TRAIN_FAILED (R381). -/
def EVENT.TRAIN_FAILED : Row := ⟨0x1800000, 4, 4, .W1C, 0x0, 1, 0x0, 1, 0x0, 0⟩
/-- VEIN.EVENT.GEN_REVERTED (R381). -/
def EVENT.GEN_REVERTED : Row := ⟨0x1800000, 3, 3, .W1C, 0x0, 1, 0x0, 1, 0x0, 0⟩
/-- VEIN.EVENT.LANE_RETIRED (R381). -/
def EVENT.LANE_RETIRED : Row := ⟨0x1800000, 2, 2, .W1C, 0x0, 1, 0x0, 1, 0x0, 0⟩
/-- VEIN.EVENT.LANE_READY (R381). -/
def EVENT.LANE_READY : Row := ⟨0x1800000, 1, 1, .W1C, 0x0, 1, 0x0, 1, 0x0, 0⟩
/-- VEIN.EVENT.LANE_LOST (R381). -/
def EVENT.LANE_LOST : Row := ⟨0x1800000, 0, 0, .W1C, 0x0, 1, 0x0, 1, 0x0, 0⟩
/-- VEIN.IRQ_EN.TAP_REJECT_EN (R381). -/
def IRQ_EN.TAP_REJECT_EN : Row := ⟨0x1800004, 7, 7, .RW, 0x0, 1, 0x0, 1, 0x0, 0⟩
/-- VEIN.IRQ_EN.BC_LINE_CRC_EN (R381). -/
def IRQ_EN.BC_LINE_CRC_EN : Row := ⟨0x1800004, 6, 6, .RW, 0x0, 1, 0x0, 1, 0x0, 0⟩
/-- VEIN.IRQ_EN.RESTRIPED_EN (R381). -/
def IRQ_EN.RESTRIPED_EN : Row := ⟨0x1800004, 5, 5, .RW, 0x0, 1, 0x0, 1, 0x0, 0⟩
/-- VEIN.IRQ_EN.TRAIN_FAILED_EN (R381). -/
def IRQ_EN.TRAIN_FAILED_EN : Row := ⟨0x1800004, 4, 4, .RW, 0x0, 1, 0x0, 1, 0x0, 0⟩
/-- VEIN.IRQ_EN.GEN_REVERTED_EN (R381). -/
def IRQ_EN.GEN_REVERTED_EN : Row := ⟨0x1800004, 3, 3, .RW, 0x0, 1, 0x0, 1, 0x0, 0⟩
/-- VEIN.IRQ_EN.LANE_RETIRED_EN (R381). -/
def IRQ_EN.LANE_RETIRED_EN : Row := ⟨0x1800004, 2, 2, .RW, 0x0, 1, 0x0, 1, 0x0, 0⟩
/-- VEIN.IRQ_EN.LANE_READY_EN (R381). -/
def IRQ_EN.LANE_READY_EN : Row := ⟨0x1800004, 1, 1, .RW, 0x0, 1, 0x0, 1, 0x0, 0⟩
/-- VEIN.IRQ_EN.LANE_LOST_EN (R381). -/
def IRQ_EN.LANE_LOST_EN : Row := ⟨0x1800004, 0, 0, .RW, 0x0, 1, 0x0, 1, 0x0, 0⟩
/-- VEIN.GEN.PENDING (R382). -/
def GEN.PENDING : Row := ⟨0x1800008, 8, 8, .RO, 0x0, 1, 0x0, 1, 0x0, 0⟩
/-- VEIN.GEN.PEND_GEN (R382). -/
def GEN.PEND_GEN : Row := ⟨0x1800008, 5, 4, .RO, 0x0, 1, 0x0, 1, 0x0, 0⟩
/-- VEIN.GEN.GEN (R382). -/
def GEN.GEN : Row := ⟨0x1800008, 1, 0, .RO, 0x0, 1, 0x0, 1, 0x0, 0⟩
/-- VEIN.BUNDLE_STATUS.SERVICEABLE (R382). -/
def BUNDLE_STATUS.SERVICEABLE : Row := ⟨0x1800040, 19, 16, .RO, 0x0, 12, 0x4, 1, 0x0, 0⟩
/-- VEIN.BUNDLE_STATUS.RETIRED (R382). -/
def BUNDLE_STATUS.RETIRED : Row := ⟨0x1800040, 15, 12, .RO, 0x0, 12, 0x4, 1, 0x0, 0⟩
/-- VEIN.BUNDLE_STATUS.MASK (R382). -/
def BUNDLE_STATUS.MASK : Row := ⟨0x1800040, 11, 8, .RO, 0x0, 12, 0x4, 1, 0x0, 0⟩
/-- VEIN.BUNDLE_STATUS.STATE (R382). -/
def BUNDLE_STATUS.STATE : Row := ⟨0x1800040, 1, 0, .RO, 0x0, 12, 0x4, 1, 0x0, 0⟩
/-- VEIN.LANE_LOSSES.COUNT (R382). -/
def LANE_LOSSES.COUNT : Row := ⟨0x18000c0, 31, 0, .RO, 0x0, 1, 0x0, 1, 0x0, 0⟩
/-- VEIN.LANE_REJOINS.COUNT (R382). -/
def LANE_REJOINS.COUNT : Row := ⟨0x18000c4, 31, 0, .RO, 0x0, 1, 0x0, 1, 0x0, 0⟩
/-- VEIN.GEN_REVERTS.COUNT (R382). -/
def GEN_REVERTS.COUNT : Row := ⟨0x18000c8, 31, 0, .RO, 0x0, 1, 0x0, 1, 0x0, 0⟩
/-- VEIN.BC_LINE_CRC.COUNT (R382). -/
def BC_LINE_CRC.COUNT : Row := ⟨0x18000cc, 31, 0, .RO, 0x0, 1, 0x0, 1, 0x0, 0⟩
/-- VEIN.LANE_CTRL.RESTORE (R383). -/
def LANE_CTRL.RESTORE : Row := ⟨0x1810000, 31, 31, .WO, 0x0, 48, 0x100, 1, 0x0, 0⟩
/-- VEIN.LANE_CTRL.RETRAIN (R383). -/
def LANE_CTRL.RETRAIN : Row := ⟨0x1810000, 30, 30, .WO, 0x0, 48, 0x100, 1, 0x0, 0⟩
/-- VEIN.LANE_CTRL.PRBS (R383). -/
def LANE_CTRL.PRBS : Row := ⟨0x1810000, 9, 8, .RW, 0x0, 48, 0x100, 1, 0x0, 0⟩
/-- VEIN.LANE_CTRL.LOOP (R383). -/
def LANE_CTRL.LOOP : Row := ⟨0x1810000, 7, 6, .RW, 0x0, 48, 0x100, 1, 0x0, 0⟩
/-- VEIN.LANE_CTRL.RX_PWR (R383). -/
def LANE_CTRL.RX_PWR : Row := ⟨0x1810000, 3, 2, .RO, 0x2, 48, 0x100, 1, 0x0, 0⟩
/-- VEIN.LANE_CTRL.TX_PWR (R383). -/
def LANE_CTRL.TX_PWR : Row := ⟨0x1810000, 1, 0, .RO, 0x2, 48, 0x100, 1, 0x0, 0⟩
/-- VEIN.LANE_STATUS.LAST_CODE (R384). -/
def LANE_STATUS.LAST_CODE : Row := ⟨0x1810004, 31, 24, .RO, 0x0, 48, 0x100, 1, 0x0, 0⟩
/-- VEIN.LANE_STATUS.STATE (R384). -/
def LANE_STATUS.STATE : Row := ⟨0x1810004, 23, 20, .RO, 0x0, 48, 0x100, 1, 0x0, 0⟩
/-- VEIN.LANE_STATUS.GEN (R384). -/
def LANE_STATUS.GEN : Row := ⟨0x1810004, 19, 18, .RO, 0x0, 48, 0x100, 1, 0x0, 0⟩
/-- VEIN.LANE_STATUS.PEND_GEN (R384). -/
def LANE_STATUS.PEND_GEN : Row := ⟨0x1810004, 17, 16, .RO, 0x0, 48, 0x100, 1, 0x0, 0⟩
/-- VEIN.LANE_STATUS.PENDING (R384). -/
def LANE_STATUS.PENDING : Row := ⟨0x1810004, 15, 15, .RO, 0x0, 48, 0x100, 1, 0x0, 0⟩
/-- VEIN.LANE_STATUS.FWD_LOCK (R384). -/
def LANE_STATUS.FWD_LOCK : Row := ⟨0x1810004, 14, 14, .RO, 0x0, 48, 0x100, 1, 0x0, 0⟩
/-- VEIN.LANE_STATUS.REV_LOCK (R384). -/
def LANE_STATUS.REV_LOCK : Row := ⟨0x1810004, 13, 13, .RO, 0x0, 48, 0x100, 1, 0x0, 0⟩
/-- VEIN.LANE_STATUS.TRAINS (R384). -/
def LANE_STATUS.TRAINS : Row := ⟨0x1810004, 7, 0, .RO, 0x0, 48, 0x100, 1, 0x0, 0⟩
/-- VEIN.LANE_TXFIR.POST (R385). -/
def LANE_TXFIR.POST : Row := ⟨0x1810008, 20, 16, .RWT, 0x6, 48, 0x100, 1, 0x0, 0⟩
/-- VEIN.LANE_TXFIR.MAIN (R385). -/
def LANE_TXFIR.MAIN : Row := ⟨0x1810008, 13, 8, .RO, 0x2a, 48, 0x100, 1, 0x0, 0⟩
/-- VEIN.LANE_TXFIR.PRE (R385). -/
def LANE_TXFIR.PRE : Row := ⟨0x1810008, 3, 0, .RWT, 0x0, 48, 0x100, 1, 0x0, 0⟩
/-- VEIN.LANE_RXEQ.CTLE (R385). -/
def LANE_RXEQ.CTLE : Row := ⟨0x181000c, 3, 0, .RW, 0x8, 48, 0x100, 1, 0x0, 0⟩
/-- VEIN.LANE_DFE.TAPS (R385). -/
def LANE_DFE.TAPS : Row := ⟨0x1810010, 29, 0, .RO, 0x0, 48, 0x100, 1, 0x0, 0⟩
/-- VEIN.LANE_EYE_FWD.VALID (R386). -/
def LANE_EYE_FWD.VALID : Row := ⟨0x1810014, 31, 31, .RO, 0x0, 48, 0x100, 1, 0x0, 0⟩
/-- VEIN.LANE_EYE_FWD.WIDTH_MUI (R386). -/
def LANE_EYE_FWD.WIDTH_MUI : Row := ⟨0x1810014, 25, 16, .RO, 0x0, 48, 0x100, 1, 0x0, 0⟩
/-- VEIN.LANE_EYE_FWD.HEIGHT_MV (R386). -/
def LANE_EYE_FWD.HEIGHT_MV : Row := ⟨0x1810014, 8, 0, .RO, 0x0, 48, 0x100, 1, 0x0, 0⟩
/-- VEIN.LANE_EYE_REV.VALID (R386). -/
def LANE_EYE_REV.VALID : Row := ⟨0x1810018, 31, 31, .RO, 0x0, 48, 0x100, 1, 0x0, 0⟩
/-- VEIN.LANE_EYE_REV.WIDTH_MUI (R386). -/
def LANE_EYE_REV.WIDTH_MUI : Row := ⟨0x1810018, 25, 16, .RO, 0x0, 48, 0x100, 1, 0x0, 0⟩
/-- VEIN.LANE_EYE_REV.HEIGHT_MV (R386). -/
def LANE_EYE_REV.HEIGHT_MV : Row := ⟨0x1810018, 8, 0, .RO, 0x0, 48, 0x100, 1, 0x0, 0⟩
/-- VEIN.LANE_PRBS_ERR.COUNT (R386). -/
def LANE_PRBS_ERR.COUNT : Row := ⟨0x181001c, 31, 0, .RO, 0x0, 48, 0x100, 1, 0x0, 0⟩

end R.VEIN

/-- Rows of the VEIN block, part 0. -/
def rowsVEIN0 : List Row := [R.VEIN.EVENT.TAP_REJECT, R.VEIN.EVENT.BC_LINE_CRC, R.VEIN.EVENT.RESTRIPED, R.VEIN.EVENT.TRAIN_FAILED, R.VEIN.EVENT.GEN_REVERTED, R.VEIN.EVENT.LANE_RETIRED, R.VEIN.EVENT.LANE_READY, R.VEIN.EVENT.LANE_LOST, R.VEIN.IRQ_EN.TAP_REJECT_EN, R.VEIN.IRQ_EN.BC_LINE_CRC_EN, R.VEIN.IRQ_EN.RESTRIPED_EN, R.VEIN.IRQ_EN.TRAIN_FAILED_EN, R.VEIN.IRQ_EN.GEN_REVERTED_EN, R.VEIN.IRQ_EN.LANE_RETIRED_EN, R.VEIN.IRQ_EN.LANE_READY_EN, R.VEIN.IRQ_EN.LANE_LOST_EN, R.VEIN.GEN.PENDING, R.VEIN.GEN.PEND_GEN, R.VEIN.GEN.GEN, R.VEIN.BUNDLE_STATUS.SERVICEABLE, R.VEIN.BUNDLE_STATUS.RETIRED, R.VEIN.BUNDLE_STATUS.MASK, R.VEIN.BUNDLE_STATUS.STATE, R.VEIN.LANE_LOSSES.COUNT, R.VEIN.LANE_REJOINS.COUNT, R.VEIN.GEN_REVERTS.COUNT, R.VEIN.BC_LINE_CRC.COUNT, R.VEIN.LANE_CTRL.RESTORE, R.VEIN.LANE_CTRL.RETRAIN, R.VEIN.LANE_CTRL.PRBS, R.VEIN.LANE_CTRL.LOOP, R.VEIN.LANE_CTRL.RX_PWR, R.VEIN.LANE_CTRL.TX_PWR, R.VEIN.LANE_STATUS.LAST_CODE, R.VEIN.LANE_STATUS.STATE, R.VEIN.LANE_STATUS.GEN, R.VEIN.LANE_STATUS.PEND_GEN, R.VEIN.LANE_STATUS.PENDING, R.VEIN.LANE_STATUS.FWD_LOCK, R.VEIN.LANE_STATUS.REV_LOCK]
/-- Rows of the VEIN block, part 1. -/
def rowsVEIN1 : List Row := [R.VEIN.LANE_STATUS.TRAINS, R.VEIN.LANE_TXFIR.POST, R.VEIN.LANE_TXFIR.MAIN, R.VEIN.LANE_TXFIR.PRE, R.VEIN.LANE_RXEQ.CTLE, R.VEIN.LANE_DFE.TAPS, R.VEIN.LANE_EYE_FWD.VALID, R.VEIN.LANE_EYE_FWD.WIDTH_MUI, R.VEIN.LANE_EYE_FWD.HEIGHT_MV, R.VEIN.LANE_EYE_REV.VALID, R.VEIN.LANE_EYE_REV.WIDTH_MUI, R.VEIN.LANE_EYE_REV.HEIGHT_MV, R.VEIN.LANE_PRBS_ERR.COUNT]
/-- All register rows of the VEIN block. -/
def rowsVEIN : List Row := rowsVEIN0 ++ rowsVEIN1

namespace R.PASS

/-- PASS.CTRL.GEN (R414). -/
def CTRL.GEN : Row := ⟨0x1c00000, 8, 8, .RW, 0x1, 1, 0x0, 1, 0x0, 0⟩
/-- PASS.CTRL.LINK_EN (R414). -/
def CTRL.LINK_EN : Row := ⟨0x1c00000, 7, 4, .RW, 0xf, 1, 0x0, 1, 0x0, 0⟩
/-- PASS.CTRL.TIME_ELIGIBLE (R414). -/
def CTRL.TIME_ELIGIBLE : Row := ⟨0x1c00000, 2, 2, .RW, 0x1, 1, 0x0, 1, 0x0, 0⟩
/-- PASS.CTRL.LEADER_ELIGIBLE (R414). -/
def CTRL.LEADER_ELIGIBLE : Row := ⟨0x1c00000, 1, 1, .RW, 0x1, 1, 0x0, 1, 0x0, 0⟩
/-- PASS.CTRL.ENABLE (R414). -/
def CTRL.ENABLE : Row := ⟨0x1c00000, 0, 0, .RW, 0x1, 1, 0x0, 1, 0x0, 0⟩
/-- PASS.STATUS.LAST_CODE (R414). -/
def STATUS.LAST_CODE : Row := ⟨0x1c00004, 31, 24, .RO, 0x0, 1, 0x0, 1, 0x0, 0⟩
/-- PASS.STATUS.STATE (R414). -/
def STATUS.STATE : Row := ⟨0x1c00004, 23, 21, .RO, 0x0, 1, 0x0, 1, 0x0, 0⟩
/-- PASS.STATUS.IS_LEADER (R414). -/
def STATUS.IS_LEADER : Row := ⟨0x1c00004, 20, 20, .RO, 0x0, 1, 0x0, 1, 0x0, 0⟩
/-- PASS.STATUS.IS_TIME_SOURCE (R414). -/
def STATUS.IS_TIME_SOURCE : Row := ⟨0x1c00004, 19, 19, .RO, 0x0, 1, 0x0, 1, 0x0, 0⟩
/-- PASS.STATUS.CLAIM_HELD (R414). -/
def STATUS.CLAIM_HELD : Row := ⟨0x1c00004, 18, 18, .RO, 0x0, 1, 0x0, 1, 0x0, 0⟩
/-- PASS.STATUS.ADDRESS (R414). -/
def STATUS.ADDRESS : Row := ⟨0x1c00004, 11, 0, .RO, 0xfff, 1, 0x0, 1, 0x0, 0⟩
/-- PASS.EVENT.MERGED (R415). -/
def EVENT.MERGED : Row := ⟨0x1c00008, 7, 7, .W1C, 0x0, 1, 0x0, 1, 0x0, 0⟩
/-- PASS.EVENT.TIME_SOURCE (R415). -/
def EVENT.TIME_SOURCE : Row := ⟨0x1c00008, 6, 6, .W1C, 0x0, 1, 0x0, 1, 0x0, 0⟩
/-- PASS.EVENT.CLAIM_REVOKED (R415). -/
def EVENT.CLAIM_REVOKED : Row := ⟨0x1c00008, 5, 5, .W1C, 0x0, 1, 0x0, 1, 0x0, 0⟩
/-- PASS.EVENT.UNREACHABLE (R415). -/
def EVENT.UNREACHABLE : Row := ⟨0x1c00008, 4, 4, .W1C, 0x0, 1, 0x0, 1, 0x0, 0⟩
/-- PASS.EVENT.LINK_CHANGED (R415). -/
def EVENT.LINK_CHANGED : Row := ⟨0x1c00008, 3, 3, .W1C, 0x0, 1, 0x0, 1, 0x0, 0⟩
/-- PASS.EVENT.LEADER (R415). -/
def EVENT.LEADER : Row := ⟨0x1c00008, 2, 2, .W1C, 0x0, 1, 0x0, 1, 0x0, 0⟩
/-- PASS.EVENT.EXCLUDED (R415). -/
def EVENT.EXCLUDED : Row := ⟨0x1c00008, 1, 1, .W1C, 0x0, 1, 0x0, 1, 0x0, 0⟩
/-- PASS.EVENT.JOINED (R415). -/
def EVENT.JOINED : Row := ⟨0x1c00008, 0, 0, .W1C, 0x0, 1, 0x0, 1, 0x0, 0⟩
/-- PASS.IRQ_EN.MERGED_EN (R415). -/
def IRQ_EN.MERGED_EN : Row := ⟨0x1c0000c, 7, 7, .RW, 0x0, 1, 0x0, 1, 0x0, 0⟩
/-- PASS.IRQ_EN.TIME_SOURCE_EN (R415). -/
def IRQ_EN.TIME_SOURCE_EN : Row := ⟨0x1c0000c, 6, 6, .RW, 0x0, 1, 0x0, 1, 0x0, 0⟩
/-- PASS.IRQ_EN.CLAIM_REVOKED_EN (R415). -/
def IRQ_EN.CLAIM_REVOKED_EN : Row := ⟨0x1c0000c, 5, 5, .RW, 0x0, 1, 0x0, 1, 0x0, 0⟩
/-- PASS.IRQ_EN.UNREACHABLE_EN (R415). -/
def IRQ_EN.UNREACHABLE_EN : Row := ⟨0x1c0000c, 4, 4, .RW, 0x0, 1, 0x0, 1, 0x0, 0⟩
/-- PASS.IRQ_EN.LINK_CHANGED_EN (R415). -/
def IRQ_EN.LINK_CHANGED_EN : Row := ⟨0x1c0000c, 3, 3, .RW, 0x0, 1, 0x0, 1, 0x0, 0⟩
/-- PASS.IRQ_EN.LEADER_EN (R415). -/
def IRQ_EN.LEADER_EN : Row := ⟨0x1c0000c, 2, 2, .RW, 0x0, 1, 0x0, 1, 0x0, 0⟩
/-- PASS.IRQ_EN.EXCLUDED_EN (R415). -/
def IRQ_EN.EXCLUDED_EN : Row := ⟨0x1c0000c, 1, 1, .RW, 0x0, 1, 0x0, 1, 0x0, 0⟩
/-- PASS.IRQ_EN.JOINED_EN (R415). -/
def IRQ_EN.JOINED_EN : Row := ⟨0x1c0000c, 0, 0, .RW, 0x0, 1, 0x0, 1, 0x0, 0⟩
/-- PASS.MESH.EPOCH (R416). -/
def MESH.EPOCH : Row := ⟨0x1c00010, 31, 16, .RO, 0x0, 1, 0x0, 1, 0x0, 0⟩
/-- PASS.MESH.HEIGHT_M1 (R416). -/
def MESH.HEIGHT_M1 : Row := ⟨0x1c00010, 13, 8, .RO, 0x0, 1, 0x0, 1, 0x0, 0⟩
/-- PASS.MESH.WIDTH_M1 (R416). -/
def MESH.WIDTH_M1 : Row := ⟨0x1c00010, 5, 0, .RO, 0x0, 1, 0x0, 1, 0x0, 0⟩
/-- PASS.LEADER.TIME_ADDR (R416). -/
def LEADER.TIME_ADDR : Row := ⟨0x1c00014, 27, 16, .RO, 0xfff, 1, 0x0, 1, 0x0, 0⟩
/-- PASS.LEADER.LEADER_ADDR (R416). -/
def LEADER.LEADER_ADDR : Row := ⟨0x1c00014, 11, 0, .RO, 0xfff, 1, 0x0, 1, 0x0, 0⟩
/-- PASS.TIME_STATUS.HOPS (R416). -/
def TIME_STATUS.HOPS : Row := ⟨0x1c00018, 31, 24, .RO, 0x0, 1, 0x0, 1, 0x0, 0⟩
/-- PASS.TIME_STATUS.AGE_US (R416). -/
def TIME_STATUS.AGE_US : Row := ⟨0x1c00018, 15, 0, .RO, 0xffff, 1, 0x0, 1, 0x0, 0⟩
/-- PASS.LEADER_ID.VALUE (R417). -/
def LEADER_ID.VALUE : Row := ⟨0x1c00020, 31, 0, .RO, 0x0, 4, 0x4, 1, 0x0, 0⟩
/-- PASS.FABRIC_ID.VALUE (R417). -/
def FABRIC_ID.VALUE : Row := ⟨0x1c00030, 31, 0, .RO, 0x0, 2, 0x4, 1, 0x0, 0⟩
/-- PASS.LINK_STATUS.MISWIRED (R418). -/
def LINK_STATUS.MISWIRED : Row := ⟨0x1c00040, 28, 28, .RO, 0x0, 4, 0x4, 1, 0x0, 0⟩
/-- PASS.LINK_STATUS.UP (R418). -/
def LINK_STATUS.UP : Row := ⟨0x1c00040, 24, 24, .RO, 0x0, 4, 0x4, 1, 0x0, 0⟩
/-- PASS.LINK_STATUS.MASK (R418). -/
def LINK_STATUS.MASK : Row := ⟨0x1c00040, 23, 20, .RO, 0x0, 4, 0x4, 1, 0x0, 0⟩
/-- PASS.LINK_STATUS.WEIGHT (R418). -/
def LINK_STATUS.WEIGHT : Row := ⟨0x1c00040, 19, 16, .RO, 0x0, 4, 0x4, 1, 0x0, 0⟩
/-- PASS.LINK_STATUS.NEIGHBOUR (R418). -/
def LINK_STATUS.NEIGHBOUR : Row := ⟨0x1c00040, 11, 0, .RO, 0xfff, 4, 0x4, 1, 0x0, 0⟩
/-- PASS.LINK_RETRIES.COUNT (R419). -/
def LINK_RETRIES.COUNT : Row := ⟨0x1c000c0, 31, 0, .RO, 0x0, 1, 0x0, 1, 0x0, 0⟩
/-- PASS.PKT_DROPPED.COUNT (R419). -/
def PKT_DROPPED.COUNT : Row := ⟨0x1c000c4, 31, 0, .RO, 0x0, 1, 0x0, 1, 0x0, 0⟩
/-- PASS.TTL_EXPIRED.COUNT (R419). -/
def TTL_EXPIRED.COUNT : Row := ⟨0x1c000c8, 31, 0, .RO, 0x0, 1, 0x0, 1, 0x0, 0⟩
/-- PASS.MCAST_SPLITS.COUNT (R419). -/
def MCAST_SPLITS.COUNT : Row := ⟨0x1c000cc, 31, 0, .RO, 0x0, 1, 0x0, 1, 0x0, 0⟩
/-- PASS.LEADER_CHANGES.COUNT (R419). -/
def LEADER_CHANGES.COUNT : Row := ⟨0x1c000d0, 31, 0, .RO, 0x0, 1, 0x0, 1, 0x0, 0⟩
/-- PASS.LANE_CTRL.RESTORE (R383). -/
def LANE_CTRL.RESTORE : Row := ⟨0x1c10000, 31, 31, .WO, 0x0, 16, 0x100, 1, 0x0, 0⟩
/-- PASS.LANE_CTRL.RETRAIN (R383). -/
def LANE_CTRL.RETRAIN : Row := ⟨0x1c10000, 30, 30, .WO, 0x0, 16, 0x100, 1, 0x0, 0⟩
/-- PASS.LANE_CTRL.PRBS (R383). -/
def LANE_CTRL.PRBS : Row := ⟨0x1c10000, 9, 8, .RW, 0x0, 16, 0x100, 1, 0x0, 0⟩
/-- PASS.LANE_CTRL.LOOP (R383). -/
def LANE_CTRL.LOOP : Row := ⟨0x1c10000, 7, 6, .RW, 0x0, 16, 0x100, 1, 0x0, 0⟩
/-- PASS.LANE_CTRL.RX_PWR (R383). -/
def LANE_CTRL.RX_PWR : Row := ⟨0x1c10000, 3, 2, .RO, 0x2, 16, 0x100, 1, 0x0, 0⟩
/-- PASS.LANE_CTRL.TX_PWR (R383). -/
def LANE_CTRL.TX_PWR : Row := ⟨0x1c10000, 1, 0, .RO, 0x2, 16, 0x100, 1, 0x0, 0⟩
/-- PASS.LANE_STATUS.LAST_CODE (R384). -/
def LANE_STATUS.LAST_CODE : Row := ⟨0x1c10004, 31, 24, .RO, 0x0, 16, 0x100, 1, 0x0, 0⟩
/-- PASS.LANE_STATUS.STATE (R384). -/
def LANE_STATUS.STATE : Row := ⟨0x1c10004, 23, 20, .RO, 0x0, 16, 0x100, 1, 0x0, 0⟩
/-- PASS.LANE_STATUS.GEN (R384). -/
def LANE_STATUS.GEN : Row := ⟨0x1c10004, 19, 18, .RO, 0x0, 16, 0x100, 1, 0x0, 0⟩
/-- PASS.LANE_STATUS.PEND_GEN (R384). -/
def LANE_STATUS.PEND_GEN : Row := ⟨0x1c10004, 17, 16, .RO, 0x0, 16, 0x100, 1, 0x0, 0⟩
/-- PASS.LANE_STATUS.PENDING (R384). -/
def LANE_STATUS.PENDING : Row := ⟨0x1c10004, 15, 15, .RO, 0x0, 16, 0x100, 1, 0x0, 0⟩
/-- PASS.LANE_STATUS.FWD_LOCK (R384). -/
def LANE_STATUS.FWD_LOCK : Row := ⟨0x1c10004, 14, 14, .RO, 0x0, 16, 0x100, 1, 0x0, 0⟩
/-- PASS.LANE_STATUS.REV_LOCK (R384). -/
def LANE_STATUS.REV_LOCK : Row := ⟨0x1c10004, 13, 13, .RO, 0x0, 16, 0x100, 1, 0x0, 0⟩
/-- PASS.LANE_STATUS.TRAINS (R384). -/
def LANE_STATUS.TRAINS : Row := ⟨0x1c10004, 7, 0, .RO, 0x0, 16, 0x100, 1, 0x0, 0⟩
/-- PASS.LANE_TXFIR.POST (R385). -/
def LANE_TXFIR.POST : Row := ⟨0x1c10008, 20, 16, .RWT, 0x6, 16, 0x100, 1, 0x0, 0⟩
/-- PASS.LANE_TXFIR.MAIN (R385). -/
def LANE_TXFIR.MAIN : Row := ⟨0x1c10008, 13, 8, .RO, 0x2a, 16, 0x100, 1, 0x0, 0⟩
/-- PASS.LANE_TXFIR.PRE (R385). -/
def LANE_TXFIR.PRE : Row := ⟨0x1c10008, 3, 0, .RWT, 0x0, 16, 0x100, 1, 0x0, 0⟩
/-- PASS.LANE_RXEQ.CTLE (R385). -/
def LANE_RXEQ.CTLE : Row := ⟨0x1c1000c, 3, 0, .RW, 0x8, 16, 0x100, 1, 0x0, 0⟩
/-- PASS.LANE_DFE.TAPS (R385). -/
def LANE_DFE.TAPS : Row := ⟨0x1c10010, 29, 0, .RO, 0x0, 16, 0x100, 1, 0x0, 0⟩
/-- PASS.LANE_EYE_FWD.VALID (R386). -/
def LANE_EYE_FWD.VALID : Row := ⟨0x1c10014, 31, 31, .RO, 0x0, 16, 0x100, 1, 0x0, 0⟩
/-- PASS.LANE_EYE_FWD.WIDTH_MUI (R386). -/
def LANE_EYE_FWD.WIDTH_MUI : Row := ⟨0x1c10014, 25, 16, .RO, 0x0, 16, 0x100, 1, 0x0, 0⟩
/-- PASS.LANE_EYE_FWD.HEIGHT_MV (R386). -/
def LANE_EYE_FWD.HEIGHT_MV : Row := ⟨0x1c10014, 8, 0, .RO, 0x0, 16, 0x100, 1, 0x0, 0⟩
/-- PASS.LANE_EYE_REV.VALID (R386). -/
def LANE_EYE_REV.VALID : Row := ⟨0x1c10018, 31, 31, .RO, 0x0, 16, 0x100, 1, 0x0, 0⟩
/-- PASS.LANE_EYE_REV.WIDTH_MUI (R386). -/
def LANE_EYE_REV.WIDTH_MUI : Row := ⟨0x1c10018, 25, 16, .RO, 0x0, 16, 0x100, 1, 0x0, 0⟩
/-- PASS.LANE_EYE_REV.HEIGHT_MV (R386). -/
def LANE_EYE_REV.HEIGHT_MV : Row := ⟨0x1c10018, 8, 0, .RO, 0x0, 16, 0x100, 1, 0x0, 0⟩
/-- PASS.LANE_PRBS_ERR.COUNT (R386). -/
def LANE_PRBS_ERR.COUNT : Row := ⟨0x1c1001c, 31, 0, .RO, 0x0, 16, 0x100, 1, 0x0, 0⟩

end R.PASS

/-- Rows of the PASS block, part 0. -/
def rowsPASS0 : List Row := [R.PASS.CTRL.GEN, R.PASS.CTRL.LINK_EN, R.PASS.CTRL.TIME_ELIGIBLE, R.PASS.CTRL.LEADER_ELIGIBLE, R.PASS.CTRL.ENABLE, R.PASS.STATUS.LAST_CODE, R.PASS.STATUS.STATE, R.PASS.STATUS.IS_LEADER, R.PASS.STATUS.IS_TIME_SOURCE, R.PASS.STATUS.CLAIM_HELD, R.PASS.STATUS.ADDRESS, R.PASS.EVENT.MERGED, R.PASS.EVENT.TIME_SOURCE, R.PASS.EVENT.CLAIM_REVOKED, R.PASS.EVENT.UNREACHABLE, R.PASS.EVENT.LINK_CHANGED, R.PASS.EVENT.LEADER, R.PASS.EVENT.EXCLUDED, R.PASS.EVENT.JOINED, R.PASS.IRQ_EN.MERGED_EN, R.PASS.IRQ_EN.TIME_SOURCE_EN, R.PASS.IRQ_EN.CLAIM_REVOKED_EN, R.PASS.IRQ_EN.UNREACHABLE_EN, R.PASS.IRQ_EN.LINK_CHANGED_EN, R.PASS.IRQ_EN.LEADER_EN, R.PASS.IRQ_EN.EXCLUDED_EN, R.PASS.IRQ_EN.JOINED_EN, R.PASS.MESH.EPOCH, R.PASS.MESH.HEIGHT_M1, R.PASS.MESH.WIDTH_M1, R.PASS.LEADER.TIME_ADDR, R.PASS.LEADER.LEADER_ADDR, R.PASS.TIME_STATUS.HOPS, R.PASS.TIME_STATUS.AGE_US, R.PASS.LEADER_ID.VALUE, R.PASS.FABRIC_ID.VALUE, R.PASS.LINK_STATUS.MISWIRED, R.PASS.LINK_STATUS.UP, R.PASS.LINK_STATUS.MASK, R.PASS.LINK_STATUS.WEIGHT]
/-- Rows of the PASS block, part 1. -/
def rowsPASS1 : List Row := [R.PASS.LINK_STATUS.NEIGHBOUR, R.PASS.LINK_RETRIES.COUNT, R.PASS.PKT_DROPPED.COUNT, R.PASS.TTL_EXPIRED.COUNT, R.PASS.MCAST_SPLITS.COUNT, R.PASS.LEADER_CHANGES.COUNT, R.PASS.LANE_CTRL.RESTORE, R.PASS.LANE_CTRL.RETRAIN, R.PASS.LANE_CTRL.PRBS, R.PASS.LANE_CTRL.LOOP, R.PASS.LANE_CTRL.RX_PWR, R.PASS.LANE_CTRL.TX_PWR, R.PASS.LANE_STATUS.LAST_CODE, R.PASS.LANE_STATUS.STATE, R.PASS.LANE_STATUS.GEN, R.PASS.LANE_STATUS.PEND_GEN, R.PASS.LANE_STATUS.PENDING, R.PASS.LANE_STATUS.FWD_LOCK, R.PASS.LANE_STATUS.REV_LOCK, R.PASS.LANE_STATUS.TRAINS, R.PASS.LANE_TXFIR.POST, R.PASS.LANE_TXFIR.MAIN, R.PASS.LANE_TXFIR.PRE, R.PASS.LANE_RXEQ.CTLE, R.PASS.LANE_DFE.TAPS, R.PASS.LANE_EYE_FWD.VALID, R.PASS.LANE_EYE_FWD.WIDTH_MUI, R.PASS.LANE_EYE_FWD.HEIGHT_MV, R.PASS.LANE_EYE_REV.VALID, R.PASS.LANE_EYE_REV.WIDTH_MUI, R.PASS.LANE_EYE_REV.HEIGHT_MV, R.PASS.LANE_PRBS_ERR.COUNT]
/-- All register rows of the PASS block. -/
def rowsPASS : List Row := rowsPASS0 ++ rowsPASS1

namespace R.TIME

/-- TIME.CTRL.SELECT (R441). -/
def CTRL.SELECT : Row := ⟨0x100000, 2, 1, .RW, 0x0, 1, 0x0, 1, 0x0, 0⟩
/-- TIME.CTRL.PTP_EN (R441). -/
def CTRL.PTP_EN : Row := ⟨0x100000, 0, 0, .RW, 0x1, 1, 0x0, 1, 0x0, 0⟩
/-- TIME.DOMAINS.DOMAIN_B (R441). -/
def DOMAINS.DOMAIN_B : Row := ⟨0x100004, 15, 8, .RW, 0xff, 1, 0x0, 1, 0x0, 0⟩
/-- TIME.DOMAINS.DOMAIN_A (R441). -/
def DOMAINS.DOMAIN_A : Row := ⟨0x100004, 7, 0, .RW, 0x7f, 1, 0x0, 1, 0x0, 0⟩
/-- TIME.STATUS.LAST_CODE (R442). -/
def STATUS.LAST_CODE : Row := ⟨0x100008, 31, 24, .RO, 0x0, 1, 0x0, 1, 0x0, 0⟩
/-- TIME.STATUS.B_LOCKED (R442). -/
def STATUS.B_LOCKED : Row := ⟨0x100008, 17, 17, .RO, 0x0, 1, 0x0, 1, 0x0, 0⟩
/-- TIME.STATUS.A_LOCKED (R442). -/
def STATUS.A_LOCKED : Row := ⟨0x100008, 16, 16, .RO, 0x0, 1, 0x0, 1, 0x0, 0⟩
/-- TIME.STATUS.STEPS (R442). -/
def STATUS.STEPS : Row := ⟨0x100008, 15, 8, .RO, 0x0, 1, 0x0, 1, 0x0, 0⟩
/-- TIME.STATUS.SOURCE (R442). -/
def STATUS.SOURCE : Row := ⟨0x100008, 5, 4, .RO, 0x0, 1, 0x0, 1, 0x0, 0⟩
/-- TIME.STATUS.STATE (R442). -/
def STATUS.STATE : Row := ⟨0x100008, 1, 0, .RO, 0x0, 1, 0x0, 1, 0x0, 0⟩
/-- TIME.EVENT.TRIG_LATE (R443). -/
def EVENT.TRIG_LATE : Row := ⟨0x10000c, 6, 6, .W1C, 0x0, 1, 0x0, 1, 0x0, 0⟩
/-- TIME.EVENT.TRIG (R443). -/
def EVENT.TRIG : Row := ⟨0x10000c, 5, 5, .W1C, 0x0, 1, 0x0, 1, 0x0, 0⟩
/-- TIME.EVENT.UNLOCKED (R443). -/
def EVENT.UNLOCKED : Row := ⟨0x10000c, 4, 4, .W1C, 0x0, 1, 0x0, 1, 0x0, 0⟩
/-- TIME.EVENT.SWITCHED (R443). -/
def EVENT.SWITCHED : Row := ⟨0x10000c, 3, 3, .W1C, 0x0, 1, 0x0, 1, 0x0, 0⟩
/-- TIME.EVENT.HOLDOVER (R443). -/
def EVENT.HOLDOVER : Row := ⟨0x10000c, 2, 2, .W1C, 0x0, 1, 0x0, 1, 0x0, 0⟩
/-- TIME.EVENT.STEPPED (R443). -/
def EVENT.STEPPED : Row := ⟨0x10000c, 1, 1, .W1C, 0x0, 1, 0x0, 1, 0x0, 0⟩
/-- TIME.EVENT.LOCKED (R443). -/
def EVENT.LOCKED : Row := ⟨0x10000c, 0, 0, .W1C, 0x0, 1, 0x0, 1, 0x0, 0⟩
/-- TIME.IRQ_EN.TRIG_LATE_EN (R443). -/
def IRQ_EN.TRIG_LATE_EN : Row := ⟨0x100010, 6, 6, .RW, 0x0, 1, 0x0, 1, 0x0, 0⟩
/-- TIME.IRQ_EN.TRIG_EN (R443). -/
def IRQ_EN.TRIG_EN : Row := ⟨0x100010, 5, 5, .RW, 0x0, 1, 0x0, 1, 0x0, 0⟩
/-- TIME.IRQ_EN.UNLOCKED_EN (R443). -/
def IRQ_EN.UNLOCKED_EN : Row := ⟨0x100010, 4, 4, .RW, 0x0, 1, 0x0, 1, 0x0, 0⟩
/-- TIME.IRQ_EN.SWITCHED_EN (R443). -/
def IRQ_EN.SWITCHED_EN : Row := ⟨0x100010, 3, 3, .RW, 0x0, 1, 0x0, 1, 0x0, 0⟩
/-- TIME.IRQ_EN.HOLDOVER_EN (R443). -/
def IRQ_EN.HOLDOVER_EN : Row := ⟨0x100010, 2, 2, .RW, 0x0, 1, 0x0, 1, 0x0, 0⟩
/-- TIME.IRQ_EN.STEPPED_EN (R443). -/
def IRQ_EN.STEPPED_EN : Row := ⟨0x100010, 1, 1, .RW, 0x0, 1, 0x0, 1, 0x0, 0⟩
/-- TIME.IRQ_EN.LOCKED_EN (R443). -/
def IRQ_EN.LOCKED_EN : Row := ⟨0x100010, 0, 0, .RW, 0x0, 1, 0x0, 1, 0x0, 0⟩
/-- TIME.NOW_LO.VALUE (R444). -/
def NOW_LO.VALUE : Row := ⟨0x100020, 31, 0, .RO, 0x0, 1, 0x0, 1, 0x0, 0⟩
/-- TIME.NOW_HI.VALUE (R444). -/
def NOW_HI.VALUE : Row := ⟨0x100024, 31, 0, .RO, 0x0, 1, 0x0, 1, 0x0, 0⟩
/-- TIME.NS32.VALUE (R444). -/
def NS32.VALUE : Row := ⟨0x100028, 31, 0, .RO, 0x0, 1, 0x0, 1, 0x0, 0⟩
/-- TIME.TICK_LO.VALUE (R444). -/
def TICK_LO.VALUE : Row := ⟨0x100030, 31, 0, .RO, 0x0, 1, 0x0, 1, 0x0, 0⟩
/-- TIME.TICK_HI.VALUE (R444). -/
def TICK_HI.VALUE : Row := ⟨0x100034, 31, 0, .RO, 0x0, 1, 0x0, 1, 0x0, 0⟩
/-- TIME.NEXT_LO.VALUE (R444). -/
def NEXT_LO.VALUE : Row := ⟨0x100038, 31, 0, .RO, 0x0, 1, 0x0, 1, 0x0, 0⟩
/-- TIME.NEXT_HI.VALUE (R444). -/
def NEXT_HI.VALUE : Row := ⟨0x10003c, 31, 0, .RO, 0x0, 1, 0x0, 1, 0x0, 0⟩
/-- TIME.OFFSET_AB.VALUE (R444). -/
def OFFSET_AB.VALUE : Row := ⟨0x100040, 31, 0, .RO, 0x0, 2, 0x4, 1, 0x0, 0⟩
/-- TIME.FREQ_ADJ.VALUE (R444). -/
def FREQ_ADJ.VALUE : Row := ⟨0x100048, 31, 0, .RO, 0x0, 1, 0x0, 1, 0x0, 0⟩
/-- TIME.LAST_STEP.VALUE (R444). -/
def LAST_STEP.VALUE : Row := ⟨0x10004c, 31, 0, .RO, 0x0, 1, 0x0, 1, 0x0, 0⟩
/-- TIME.RX_LAT.VALUE (R445). -/
def RX_LAT.VALUE : Row := ⟨0x100050, 31, 0, .RW, 0x0, 1, 0x0, 1, 0x0, 0⟩
/-- TIME.TX_LAT.VALUE (R445). -/
def TX_LAT.VALUE : Row := ⟨0x100054, 31, 0, .RW, 0x0, 1, 0x0, 1, 0x0, 0⟩
/-- TIME.ASYM.VALUE (R445). -/
def ASYM.VALUE : Row := ⟨0x100058, 31, 0, .RW, 0x0, 1, 0x0, 1, 0x0, 0⟩
/-- TIME.LIMITS.SWITCH_MAX (R445). -/
def LIMITS.SWITCH_MAX : Row := ⟨0x10005c, 31, 16, .RW, 0x3e8, 1, 0x0, 1, 0x0, 0⟩
/-- TIME.LIMITS.FREQ_LIMIT (R445). -/
def LIMITS.FREQ_LIMIT : Row := ⟨0x10005c, 11, 0, .RWT, 0x7d0, 1, 0x0, 1, 0x0, 0⟩
/-- TIME.PHASE.PHASE (R445). -/
def PHASE.PHASE : Row := ⟨0x100060, 31, 0, .RW, 0x0, 1, 0x0, 1, 0x0, 0⟩
/-- TIME.PHASE_NOW.VALUE (R444). -/
def PHASE_NOW.VALUE : Row := ⟨0x100064, 31, 0, .RO, 0x0, 1, 0x0, 1, 0x0, 0⟩
/-- TIME.LAUNCH.LEGACY (R445). -/
def LAUNCH.LEGACY : Row := ⟨0x100068, 2, 2, .RW, 0x1, 1, 0x0, 1, 0x0, 0⟩
/-- TIME.LAUNCH.DELAY (R445). -/
def LAUNCH.DELAY : Row := ⟨0x100068, 1, 0, .RW, 0x1, 1, 0x0, 1, 0x0, 0⟩
/-- TIME.TRIG_CTRL.COUNT (R446). -/
def TRIG_CTRL.COUNT : Row := ⟨0x100100, 31, 16, .RW, 0x0, 8, 0x20, 1, 0x0, 0⟩
/-- TIME.TRIG_CTRL.DIVIDE (R446). -/
def TRIG_CTRL.DIVIDE : Row := ⟨0x100100, 15, 8, .RW, 0x1, 8, 0x20, 1, 0x0, 0⟩
/-- TIME.TRIG_CTRL.IRQ (R446). -/
def TRIG_CTRL.IRQ : Row := ⟨0x100100, 3, 3, .RW, 0x0, 8, 0x20, 1, 0x0, 0⟩
/-- TIME.TRIG_CTRL.MODE (R446). -/
def TRIG_CTRL.MODE : Row := ⟨0x100100, 2, 1, .RW, 0x0, 8, 0x20, 1, 0x0, 0⟩
/-- TIME.TRIG_CTRL.ENABLE (R446). -/
def TRIG_CTRL.ENABLE : Row := ⟨0x100100, 0, 0, .RW, 0x0, 8, 0x20, 1, 0x0, 0⟩
/-- TIME.TRIG_START_LO.START (R446). -/
def TRIG_START_LO.START : Row := ⟨0x100104, 31, 0, .RW, 0x0, 8, 0x20, 1, 0x0, 0⟩
/-- TIME.TRIG_START_HI.START (R446). -/
def TRIG_START_HI.START : Row := ⟨0x100108, 31, 0, .RW, 0x0, 8, 0x20, 1, 0x0, 0⟩
/-- TIME.TRIG_PERIOD.PERIOD (R446). -/
def TRIG_PERIOD.PERIOD : Row := ⟨0x10010c, 31, 0, .RW, 0x0, 8, 0x20, 1, 0x0, 0⟩
/-- TIME.TRIG_STAMP.STAMP (R446). -/
def TRIG_STAMP.STAMP : Row := ⟨0x100110, 31, 0, .RO, 0x0, 8, 0x20, 1, 0x0, 0⟩
/-- TIME.TRIG_STATUS.FIRED (R446). -/
def TRIG_STATUS.FIRED : Row := ⟨0x100114, 31, 16, .RO, 0x0, 8, 0x20, 1, 0x0, 0⟩
/-- TIME.TRIG_STATUS.MISSED (R446). -/
def TRIG_STATUS.MISSED : Row := ⟨0x100114, 15, 8, .RO, 0x0, 8, 0x20, 1, 0x0, 0⟩
/-- TIME.TRIG_STATUS.LATE (R446). -/
def TRIG_STATUS.LATE : Row := ⟨0x100114, 1, 1, .RO, 0x0, 8, 0x20, 1, 0x0, 0⟩
/-- TIME.TRIG_STATUS.ACTIVE (R446). -/
def TRIG_STATUS.ACTIVE : Row := ⟨0x100114, 0, 0, .RO, 0x0, 8, 0x20, 1, 0x0, 0⟩

end R.TIME

/-- Rows of the TIME block, part 0. -/
def rowsTIME0 : List Row := [R.TIME.CTRL.SELECT, R.TIME.CTRL.PTP_EN, R.TIME.DOMAINS.DOMAIN_B, R.TIME.DOMAINS.DOMAIN_A, R.TIME.STATUS.LAST_CODE, R.TIME.STATUS.B_LOCKED, R.TIME.STATUS.A_LOCKED, R.TIME.STATUS.STEPS, R.TIME.STATUS.SOURCE, R.TIME.STATUS.STATE, R.TIME.EVENT.TRIG_LATE, R.TIME.EVENT.TRIG, R.TIME.EVENT.UNLOCKED, R.TIME.EVENT.SWITCHED, R.TIME.EVENT.HOLDOVER, R.TIME.EVENT.STEPPED, R.TIME.EVENT.LOCKED, R.TIME.IRQ_EN.TRIG_LATE_EN, R.TIME.IRQ_EN.TRIG_EN, R.TIME.IRQ_EN.UNLOCKED_EN, R.TIME.IRQ_EN.SWITCHED_EN, R.TIME.IRQ_EN.HOLDOVER_EN, R.TIME.IRQ_EN.STEPPED_EN, R.TIME.IRQ_EN.LOCKED_EN, R.TIME.NOW_LO.VALUE, R.TIME.NOW_HI.VALUE, R.TIME.NS32.VALUE, R.TIME.TICK_LO.VALUE, R.TIME.TICK_HI.VALUE, R.TIME.NEXT_LO.VALUE, R.TIME.NEXT_HI.VALUE, R.TIME.OFFSET_AB.VALUE, R.TIME.FREQ_ADJ.VALUE, R.TIME.LAST_STEP.VALUE, R.TIME.RX_LAT.VALUE, R.TIME.TX_LAT.VALUE, R.TIME.ASYM.VALUE, R.TIME.LIMITS.SWITCH_MAX, R.TIME.LIMITS.FREQ_LIMIT, R.TIME.PHASE.PHASE]
/-- Rows of the TIME block, part 1. -/
def rowsTIME1 : List Row := [R.TIME.PHASE_NOW.VALUE, R.TIME.LAUNCH.LEGACY, R.TIME.LAUNCH.DELAY, R.TIME.TRIG_CTRL.COUNT, R.TIME.TRIG_CTRL.DIVIDE, R.TIME.TRIG_CTRL.IRQ, R.TIME.TRIG_CTRL.MODE, R.TIME.TRIG_CTRL.ENABLE, R.TIME.TRIG_START_LO.START, R.TIME.TRIG_START_HI.START, R.TIME.TRIG_PERIOD.PERIOD, R.TIME.TRIG_STAMP.STAMP, R.TIME.TRIG_STATUS.FIRED, R.TIME.TRIG_STATUS.MISSED, R.TIME.TRIG_STATUS.LATE, R.TIME.TRIG_STATUS.ACTIVE]
/-- All register rows of the TIME block. -/
def rowsTIME : List Row := rowsTIME0 ++ rowsTIME1

namespace R.DRAM

/-- DRAM.CTRL.RETRAIN (R474). -/
def CTRL.RETRAIN : Row := ⟨0x2000000, 31, 31, .WO, 0x0, 1, 0x0, 1, 0x0, 0⟩
/-- DRAM.CTRL.CH_MASK (R474). -/
def CTRL.CH_MASK : Row := ⟨0x2000000, 15, 8, .RW, 0xff, 1, 0x0, 1, 0x0, 0⟩
/-- DRAM.CTRL.SETPOINT (R474). -/
def CTRL.SETPOINT : Row := ⟨0x2000000, 1, 0, .RW, 0x0, 1, 0x0, 1, 0x0, 0⟩
/-- DRAM.STATUS.LAST_CODE (R474). -/
def STATUS.LAST_CODE : Row := ⟨0x2000004, 31, 24, .RO, 0x0, 1, 0x0, 1, 0x0, 0⟩
/-- DRAM.STATUS.SERVICEABLE (R474). -/
def STATUS.SERVICEABLE : Row := ⟨0x2000004, 23, 16, .RO, 0xff, 1, 0x0, 1, 0x0, 0⟩
/-- DRAM.STATUS.PENDING (R474). -/
def STATUS.PENDING : Row := ⟨0x2000004, 10, 10, .RO, 0x0, 1, 0x0, 1, 0x0, 0⟩
/-- DRAM.STATUS.PEND_SP (R474). -/
def STATUS.PEND_SP : Row := ⟨0x2000004, 9, 8, .RO, 0x0, 1, 0x0, 1, 0x0, 0⟩
/-- DRAM.STATUS.SP (R474). -/
def STATUS.SP : Row := ⟨0x2000004, 5, 4, .RO, 0x0, 1, 0x0, 1, 0x0, 0⟩
/-- DRAM.STATUS.STATE (R474). -/
def STATUS.STATE : Row := ⟨0x2000004, 2, 0, .RO, 0x0, 1, 0x0, 1, 0x0, 0⟩
/-- DRAM.EVENT.REGION_LOST (R475). -/
def EVENT.REGION_LOST : Row := ⟨0x2000008, 7, 7, .W1C, 0x0, 1, 0x0, 1, 0x0, 0⟩
/-- DRAM.EVENT.REMAP_DONE (R475). -/
def EVENT.REMAP_DONE : Row := ⟨0x2000008, 6, 6, .W1C, 0x0, 1, 0x0, 1, 0x0, 0⟩
/-- DRAM.EVENT.RETIRED (R475). -/
def EVENT.RETIRED : Row := ⟨0x2000008, 5, 5, .W1C, 0x0, 1, 0x0, 1, 0x0, 0⟩
/-- DRAM.EVENT.FREQ_REVERTED (R475). -/
def EVENT.FREQ_REVERTED : Row := ⟨0x2000008, 4, 4, .W1C, 0x0, 1, 0x0, 1, 0x0, 0⟩
/-- DRAM.EVENT.SETPOINT (R475). -/
def EVENT.SETPOINT : Row := ⟨0x2000008, 3, 3, .W1C, 0x0, 1, 0x0, 1, 0x0, 0⟩
/-- DRAM.EVENT.TRAIN_FAILED (R475). -/
def EVENT.TRAIN_FAILED : Row := ⟨0x2000008, 2, 2, .W1C, 0x0, 1, 0x0, 1, 0x0, 0⟩
/-- DRAM.EVENT.ECC_UNCORR (R475). -/
def EVENT.ECC_UNCORR : Row := ⟨0x2000008, 1, 1, .W1C, 0x0, 1, 0x0, 1, 0x0, 0⟩
/-- DRAM.EVENT.ECC_CORR (R475). -/
def EVENT.ECC_CORR : Row := ⟨0x2000008, 0, 0, .W1C, 0x0, 1, 0x0, 1, 0x0, 0⟩
/-- DRAM.IRQ_EN.REGION_LOST_EN (R475). -/
def IRQ_EN.REGION_LOST_EN : Row := ⟨0x200000c, 7, 7, .RW, 0x0, 1, 0x0, 1, 0x0, 0⟩
/-- DRAM.IRQ_EN.REMAP_DONE_EN (R475). -/
def IRQ_EN.REMAP_DONE_EN : Row := ⟨0x200000c, 6, 6, .RW, 0x0, 1, 0x0, 1, 0x0, 0⟩
/-- DRAM.IRQ_EN.RETIRED_EN (R475). -/
def IRQ_EN.RETIRED_EN : Row := ⟨0x200000c, 5, 5, .RW, 0x0, 1, 0x0, 1, 0x0, 0⟩
/-- DRAM.IRQ_EN.FREQ_REVERTED_EN (R475). -/
def IRQ_EN.FREQ_REVERTED_EN : Row := ⟨0x200000c, 4, 4, .RW, 0x0, 1, 0x0, 1, 0x0, 0⟩
/-- DRAM.IRQ_EN.SETPOINT_EN (R475). -/
def IRQ_EN.SETPOINT_EN : Row := ⟨0x200000c, 3, 3, .RW, 0x0, 1, 0x0, 1, 0x0, 0⟩
/-- DRAM.IRQ_EN.TRAIN_FAILED_EN (R475). -/
def IRQ_EN.TRAIN_FAILED_EN : Row := ⟨0x200000c, 2, 2, .RW, 0x0, 1, 0x0, 1, 0x0, 0⟩
/-- DRAM.IRQ_EN.ECC_UNCORR_EN (R475). -/
def IRQ_EN.ECC_UNCORR_EN : Row := ⟨0x200000c, 1, 1, .RW, 0x0, 1, 0x0, 1, 0x0, 0⟩
/-- DRAM.IRQ_EN.ECC_CORR_EN (R475). -/
def IRQ_EN.ECC_CORR_EN : Row := ⟨0x200000c, 0, 0, .RW, 0x0, 1, 0x0, 1, 0x0, 0⟩
/-- DRAM.CAPACITY.MIB (R476). -/
def CAPACITY.MIB : Row := ⟨0x2000010, 15, 0, .RO, 0x0, 1, 0x0, 1, 0x0, 0⟩
/-- DRAM.RETIRE_SAFE.MIB (R476). -/
def RETIRE_SAFE.MIB : Row := ⟨0x2000014, 15, 0, .RO, 0x0, 1, 0x0, 1, 0x0, 0⟩
/-- DRAM.REMAP_LO.BOUNDARY_LO (R476). -/
def REMAP_LO.BOUNDARY_LO : Row := ⟨0x2000018, 31, 0, .RO, 0x0, 1, 0x0, 1, 0x0, 0⟩
/-- DRAM.REMAP_HI.BOUNDARY_HI (R476). -/
def REMAP_HI.BOUNDARY_HI : Row := ⟨0x200001c, 3, 0, .RO, 0x0, 1, 0x0, 1, 0x0, 0⟩
/-- DRAM.ECC_LAST.UNCORR (R477). -/
def ECC_LAST.UNCORR : Row := ⟨0x2000020, 31, 31, .RO, 0x0, 1, 0x0, 1, 0x0, 0⟩
/-- DRAM.ECC_LAST.POISON (R477). -/
def ECC_LAST.POISON : Row := ⟨0x2000020, 30, 30, .RO, 0x0, 1, 0x0, 1, 0x0, 0⟩
/-- DRAM.ECC_LAST.CHANNEL (R477). -/
def ECC_LAST.CHANNEL : Row := ⟨0x2000020, 29, 27, .RO, 0x0, 1, 0x0, 1, 0x0, 0⟩
/-- DRAM.ECC_LAST.BANK (R477). -/
def ECC_LAST.BANK : Row := ⟨0x2000020, 26, 23, .RO, 0x0, 1, 0x0, 1, 0x0, 0⟩
/-- DRAM.ECC_LAST.ROW (R477). -/
def ECC_LAST.ROW : Row := ⟨0x2000020, 22, 0, .RO, 0x0, 1, 0x0, 1, 0x0, 0⟩
/-- DRAM.ECC_ADDR_LO.ADDR_LO (R477). -/
def ECC_ADDR_LO.ADDR_LO : Row := ⟨0x2000024, 31, 5, .RO, 0x0, 1, 0x0, 1, 0x0, 0⟩
/-- DRAM.ECC_ADDR_HI.ADDR_HI (R477). -/
def ECC_ADDR_HI.ADDR_HI : Row := ⟨0x2000028, 3, 0, .RO, 0x0, 1, 0x0, 1, 0x0, 0⟩
/-- DRAM.PAGE.IDLE (R478). -/
def PAGE.IDLE : Row := ⟨0x2000030, 9, 0, .RWT, 0x40, 1, 0x0, 1, 0x0, 0⟩
/-- DRAM.RH.MODE (R478). -/
def RH.MODE : Row := ⟨0x2000034, 17, 16, .RWT, 0x0, 1, 0x0, 1, 0x0, 0⟩
/-- DRAM.RH.THRESHOLD (R478). -/
def RH.THRESHOLD : Row := ⟨0x2000034, 14, 0, .RWT, 0x800, 1, 0x0, 1, 0x0, 0⟩
/-- DRAM.QUOTA0.MBPS (R479). -/
def QUOTA0.MBPS : Row := ⟨0x2000040, 16, 0, .RWT, 0x4e20, 1, 0x0, 1, 0x0, 0⟩
/-- DRAM.QUOTA1.MBPS (R479). -/
def QUOTA1.MBPS : Row := ⟨0x2000044, 16, 0, .RWT, 0x4e20, 1, 0x0, 1, 0x0, 0⟩
/-- DRAM.QUOTA2.MBPS (R479). -/
def QUOTA2.MBPS : Row := ⟨0x2000048, 16, 0, .RWT, 0x3e80, 1, 0x0, 1, 0x0, 0⟩
/-- DRAM.QUOTA3.MBPS (R479). -/
def QUOTA3.MBPS : Row := ⟨0x200004c, 16, 0, .RWT, 0x1f40, 1, 0x0, 1, 0x0, 0⟩
/-- DRAM.QUOTA4.MBPS (R479). -/
def QUOTA4.MBPS : Row := ⟨0x2000050, 16, 0, .RWT, 0xfa0, 1, 0x0, 1, 0x0, 0⟩
/-- DRAM.QUOTA5.MBPS (R479). -/
def QUOTA5.MBPS : Row := ⟨0x2000054, 16, 0, .RWT, 0x1f40, 1, 0x0, 1, 0x0, 0⟩
/-- DRAM.QUOTA6.MBPS (R479). -/
def QUOTA6.MBPS : Row := ⟨0x2000058, 16, 0, .RWT, 0x7d0, 1, 0x0, 1, 0x0, 0⟩
/-- DRAM.QUOTA7.MBPS (R479). -/
def QUOTA7.MBPS : Row := ⟨0x200005c, 16, 0, .RWT, 0x1f40, 1, 0x0, 1, 0x0, 0⟩
/-- DRAM.QUOTA_INFORCE0.MBPS (R479). -/
def QUOTA_INFORCE0.MBPS : Row := ⟨0x2000060, 16, 0, .RO, 0x4e20, 1, 0x0, 1, 0x0, 0⟩
/-- DRAM.QUOTA_INFORCE1.MBPS (R479). -/
def QUOTA_INFORCE1.MBPS : Row := ⟨0x2000064, 16, 0, .RO, 0x4e20, 1, 0x0, 1, 0x0, 0⟩
/-- DRAM.QUOTA_INFORCE2.MBPS (R479). -/
def QUOTA_INFORCE2.MBPS : Row := ⟨0x2000068, 16, 0, .RO, 0x3e80, 1, 0x0, 1, 0x0, 0⟩
/-- DRAM.QUOTA_INFORCE3.MBPS (R479). -/
def QUOTA_INFORCE3.MBPS : Row := ⟨0x200006c, 16, 0, .RO, 0x1f40, 1, 0x0, 1, 0x0, 0⟩
/-- DRAM.QUOTA_INFORCE4.MBPS (R479). -/
def QUOTA_INFORCE4.MBPS : Row := ⟨0x2000070, 16, 0, .RO, 0xfa0, 1, 0x0, 1, 0x0, 0⟩
/-- DRAM.QUOTA_INFORCE5.MBPS (R479). -/
def QUOTA_INFORCE5.MBPS : Row := ⟨0x2000074, 16, 0, .RO, 0x1f40, 1, 0x0, 1, 0x0, 0⟩
/-- DRAM.QUOTA_INFORCE6.MBPS (R479). -/
def QUOTA_INFORCE6.MBPS : Row := ⟨0x2000078, 16, 0, .RO, 0x7d0, 1, 0x0, 1, 0x0, 0⟩
/-- DRAM.QUOTA_INFORCE7.MBPS (R479). -/
def QUOTA_INFORCE7.MBPS : Row := ⟨0x200007c, 16, 0, .RO, 0x1f40, 1, 0x0, 1, 0x0, 0⟩
/-- DRAM.ECC_CORRECTED.COUNT (R480). -/
def ECC_CORRECTED.COUNT : Row := ⟨0x20000c0, 31, 0, .RO, 0x0, 1, 0x0, 1, 0x0, 0⟩
/-- DRAM.ECC_UNCORRECTED.COUNT (R480). -/
def ECC_UNCORRECTED.COUNT : Row := ⟨0x20000c4, 31, 0, .RO, 0x0, 1, 0x0, 1, 0x0, 0⟩
/-- DRAM.RH_REFRESHES.COUNT (R480). -/
def RH_REFRESHES.COUNT : Row := ⟨0x20000c8, 31, 0, .RO, 0x0, 1, 0x0, 1, 0x0, 0⟩
/-- DRAM.TRAIN_RUNS.COUNT (R480). -/
def TRAIN_RUNS.COUNT : Row := ⟨0x20000cc, 31, 0, .RO, 0x0, 1, 0x0, 1, 0x0, 0⟩
/-- DRAM.FREQ_REVERTS.COUNT (R480). -/
def FREQ_REVERTS.COUNT : Row := ⟨0x20000d0, 31, 0, .RO, 0x0, 1, 0x0, 1, 0x0, 0⟩
/-- DRAM.POISON_READS.COUNT (R480). -/
def POISON_READS.COUNT : Row := ⟨0x20000d4, 31, 0, .RO, 0x0, 1, 0x0, 1, 0x0, 0⟩
/-- DRAM.CH_STATUS.TRAINED_SP (R481). -/
def CH_STATUS.TRAINED_SP : Row := ⟨0x2000100, 31, 28, .RO, 0x0, 8, 0x40, 1, 0x0, 0⟩
/-- DRAM.CH_STATUS.TEMP_HIGH (R481). -/
def CH_STATUS.TEMP_HIGH : Row := ⟨0x2000100, 27, 27, .RO, 0x0, 8, 0x40, 1, 0x0, 0⟩
/-- DRAM.CH_STATUS.REFRESH_RATE (R481). -/
def CH_STATUS.REFRESH_RATE : Row := ⟨0x2000100, 26, 24, .RO, 0x0, 8, 0x40, 1, 0x0, 0⟩
/-- DRAM.CH_STATUS.STATE (R481). -/
def CH_STATUS.STATE : Row := ⟨0x2000100, 7, 4, .RO, 0x0, 8, 0x40, 1, 0x0, 0⟩
/-- DRAM.CH_STATUS.TRAINS (R481). -/
def CH_STATUS.TRAINS : Row := ⟨0x2000100, 3, 0, .RO, 0x0, 8, 0x40, 1, 0x0, 0⟩
/-- DRAM.CH_MARGIN.CA (R481). -/
def CH_MARGIN.CA : Row := ⟨0x2000104, 31, 24, .RO, 0x0, 8, 0x40, 1, 0x0, 0⟩
/-- DRAM.CH_MARGIN.RD (R481). -/
def CH_MARGIN.RD : Row := ⟨0x2000104, 23, 16, .RO, 0x0, 8, 0x40, 1, 0x0, 0⟩
/-- DRAM.CH_MARGIN.WR (R481). -/
def CH_MARGIN.WR : Row := ⟨0x2000104, 15, 8, .RO, 0x0, 8, 0x40, 1, 0x0, 0⟩
/-- DRAM.CH_MARGIN.VREF (R481). -/
def CH_MARGIN.VREF : Row := ⟨0x2000104, 7, 0, .RO, 0x0, 8, 0x40, 1, 0x0, 0⟩

end R.DRAM

/-- Rows of the DRAM block, part 0. -/
def rowsDRAM0 : List Row := [R.DRAM.CTRL.RETRAIN, R.DRAM.CTRL.CH_MASK, R.DRAM.CTRL.SETPOINT, R.DRAM.STATUS.LAST_CODE, R.DRAM.STATUS.SERVICEABLE, R.DRAM.STATUS.PENDING, R.DRAM.STATUS.PEND_SP, R.DRAM.STATUS.SP, R.DRAM.STATUS.STATE, R.DRAM.EVENT.REGION_LOST, R.DRAM.EVENT.REMAP_DONE, R.DRAM.EVENT.RETIRED, R.DRAM.EVENT.FREQ_REVERTED, R.DRAM.EVENT.SETPOINT, R.DRAM.EVENT.TRAIN_FAILED, R.DRAM.EVENT.ECC_UNCORR, R.DRAM.EVENT.ECC_CORR, R.DRAM.IRQ_EN.REGION_LOST_EN, R.DRAM.IRQ_EN.REMAP_DONE_EN, R.DRAM.IRQ_EN.RETIRED_EN, R.DRAM.IRQ_EN.FREQ_REVERTED_EN, R.DRAM.IRQ_EN.SETPOINT_EN, R.DRAM.IRQ_EN.TRAIN_FAILED_EN, R.DRAM.IRQ_EN.ECC_UNCORR_EN, R.DRAM.IRQ_EN.ECC_CORR_EN, R.DRAM.CAPACITY.MIB, R.DRAM.RETIRE_SAFE.MIB, R.DRAM.REMAP_LO.BOUNDARY_LO, R.DRAM.REMAP_HI.BOUNDARY_HI, R.DRAM.ECC_LAST.UNCORR, R.DRAM.ECC_LAST.POISON, R.DRAM.ECC_LAST.CHANNEL, R.DRAM.ECC_LAST.BANK, R.DRAM.ECC_LAST.ROW, R.DRAM.ECC_ADDR_LO.ADDR_LO, R.DRAM.ECC_ADDR_HI.ADDR_HI, R.DRAM.PAGE.IDLE, R.DRAM.RH.MODE, R.DRAM.RH.THRESHOLD, R.DRAM.QUOTA0.MBPS]
/-- Rows of the DRAM block, part 1. -/
def rowsDRAM1 : List Row := [R.DRAM.QUOTA1.MBPS, R.DRAM.QUOTA2.MBPS, R.DRAM.QUOTA3.MBPS, R.DRAM.QUOTA4.MBPS, R.DRAM.QUOTA5.MBPS, R.DRAM.QUOTA6.MBPS, R.DRAM.QUOTA7.MBPS, R.DRAM.QUOTA_INFORCE0.MBPS, R.DRAM.QUOTA_INFORCE1.MBPS, R.DRAM.QUOTA_INFORCE2.MBPS, R.DRAM.QUOTA_INFORCE3.MBPS, R.DRAM.QUOTA_INFORCE4.MBPS, R.DRAM.QUOTA_INFORCE5.MBPS, R.DRAM.QUOTA_INFORCE6.MBPS, R.DRAM.QUOTA_INFORCE7.MBPS, R.DRAM.ECC_CORRECTED.COUNT, R.DRAM.ECC_UNCORRECTED.COUNT, R.DRAM.RH_REFRESHES.COUNT, R.DRAM.TRAIN_RUNS.COUNT, R.DRAM.FREQ_REVERTS.COUNT, R.DRAM.POISON_READS.COUNT, R.DRAM.CH_STATUS.TRAINED_SP, R.DRAM.CH_STATUS.TEMP_HIGH, R.DRAM.CH_STATUS.REFRESH_RATE, R.DRAM.CH_STATUS.STATE, R.DRAM.CH_STATUS.TRAINS, R.DRAM.CH_MARGIN.CA, R.DRAM.CH_MARGIN.RD, R.DRAM.CH_MARGIN.WR, R.DRAM.CH_MARGIN.VREF]
/-- All register rows of the DRAM block. -/
def rowsDRAM : List Row := rowsDRAM0 ++ rowsDRAM1

namespace R.HOST

/-- HOST.LINK.DL_UP (R507). -/
def LINK.DL_UP : Row := ⟨0x2400000, 12, 12, .RO, 0x0, 1, 0x0, 1, 0x0, 0⟩
/-- HOST.LINK.SPEED (R507). -/
def LINK.SPEED : Row := ⟨0x2400000, 11, 8, .RO, 0x0, 1, 0x0, 1, 0x0, 0⟩
/-- HOST.LINK.WIDTH (R507). -/
def LINK.WIDTH : Row := ⟨0x2400000, 4, 0, .RO, 0x0, 1, 0x0, 1, 0x0, 0⟩
/-- HOST.EVENT.RESET (R507). -/
def EVENT.RESET : Row := ⟨0x2400004, 4, 4, .W1C, 0x0, 1, 0x0, 1, 0x0, 0⟩
/-- HOST.EVENT.READ_FAILED (R507). -/
def EVENT.READ_FAILED : Row := ⟨0x2400004, 3, 3, .W1C, 0x0, 1, 0x0, 1, 0x0, 0⟩
/-- HOST.EVENT.RING_BAD (R507). -/
def EVENT.RING_BAD : Row := ⟨0x2400004, 2, 2, .W1C, 0x0, 1, 0x0, 1, 0x0, 0⟩
/-- HOST.EVENT.BAR4_FAULT (R507). -/
def EVENT.BAR4_FAULT : Row := ⟨0x2400004, 1, 1, .W1C, 0x0, 1, 0x0, 1, 0x0, 0⟩
/-- HOST.EVENT.LINK_SLOW (R507). -/
def EVENT.LINK_SLOW : Row := ⟨0x2400004, 0, 0, .W1C, 0x0, 1, 0x0, 1, 0x0, 0⟩
/-- HOST.IRQ_EN.RESET_EN (R507). -/
def IRQ_EN.RESET_EN : Row := ⟨0x2400008, 4, 4, .RW, 0x0, 1, 0x0, 1, 0x0, 0⟩
/-- HOST.IRQ_EN.READ_FAILED_EN (R507). -/
def IRQ_EN.READ_FAILED_EN : Row := ⟨0x2400008, 3, 3, .RW, 0x0, 1, 0x0, 1, 0x0, 0⟩
/-- HOST.IRQ_EN.RING_BAD_EN (R507). -/
def IRQ_EN.RING_BAD_EN : Row := ⟨0x2400008, 2, 2, .RW, 0x0, 1, 0x0, 1, 0x0, 0⟩
/-- HOST.IRQ_EN.BAR4_FAULT_EN (R507). -/
def IRQ_EN.BAR4_FAULT_EN : Row := ⟨0x2400008, 1, 1, .RW, 0x0, 1, 0x0, 1, 0x0, 0⟩
/-- HOST.IRQ_EN.LINK_SLOW_EN (R507). -/
def IRQ_EN.LINK_SLOW_EN : Row := ⟨0x2400008, 0, 0, .RW, 0x0, 1, 0x0, 1, 0x0, 0⟩
/-- HOST.SQ_BASE_LO.BASE (R508). -/
def SQ_BASE_LO.BASE : Row := ⟨0x2400010, 31, 12, .RW, 0x0, 1, 0x0, 1, 0x0, 0⟩
/-- HOST.SQ_BASE_HI.BASE (R508). -/
def SQ_BASE_HI.BASE : Row := ⟨0x2400014, 31, 0, .RW, 0x0, 1, 0x0, 1, 0x0, 0⟩
/-- HOST.SQ_SIZE.SIZE (R508). -/
def SQ_SIZE.SIZE : Row := ⟨0x2400018, 16, 0, .RW, 0x40, 1, 0x0, 1, 0x0, 0⟩
/-- HOST.SQ_TAIL.TAIL (R508). -/
def SQ_TAIL.TAIL : Row := ⟨0x240001c, 15, 0, .RW, 0x0, 1, 0x0, 1, 0x0, 0⟩
/-- HOST.SQ_HEAD.HEAD (R508). -/
def SQ_HEAD.HEAD : Row := ⟨0x2400020, 15, 0, .RO, 0x0, 1, 0x0, 1, 0x0, 0⟩
/-- HOST.CQ_BASE_LO.BASE (R508). -/
def CQ_BASE_LO.BASE : Row := ⟨0x2400030, 31, 12, .RW, 0x0, 1, 0x0, 1, 0x0, 0⟩
/-- HOST.CQ_BASE_HI.BASE (R508). -/
def CQ_BASE_HI.BASE : Row := ⟨0x2400034, 31, 0, .RW, 0x0, 1, 0x0, 1, 0x0, 0⟩
/-- HOST.CQ_SIZE.SIZE (R508). -/
def CQ_SIZE.SIZE : Row := ⟨0x2400038, 16, 0, .RW, 0x40, 1, 0x0, 1, 0x0, 0⟩
/-- HOST.CQ_TAIL.TAIL (R508). -/
def CQ_TAIL.TAIL : Row := ⟨0x240003c, 15, 0, .RO, 0x0, 1, 0x0, 1, 0x0, 0⟩
/-- HOST.CQ_HEAD.HEAD (R508). -/
def CQ_HEAD.HEAD : Row := ⟨0x2400040, 15, 0, .RW, 0x0, 1, 0x0, 1, 0x0, 0⟩
/-- HOST.RING_CTRL.FORCE_STOP (R509). -/
def RING_CTRL.FORCE_STOP : Row := ⟨0x2400050, 1, 1, .WO, 0x0, 1, 0x0, 1, 0x0, 0⟩
/-- HOST.RING_CTRL.ENABLE (R509). -/
def RING_CTRL.ENABLE : Row := ⟨0x2400050, 0, 0, .RW, 0x0, 1, 0x0, 1, 0x0, 0⟩
/-- HOST.RING_STATUS.LAST_CODE (R509). -/
def RING_STATUS.LAST_CODE : Row := ⟨0x2400054, 31, 24, .RO, 0x0, 1, 0x0, 1, 0x0, 0⟩
/-- HOST.RING_STATUS.FETCHED (R509). -/
def RING_STATUS.FETCHED : Row := ⟨0x2400054, 3, 0, .RO, 0x0, 1, 0x0, 1, 0x0, 0⟩
/-- HOST.RING_STATUS2.STATE (R509). -/
def RING_STATUS2.STATE : Row := ⟨0x2400058, 1, 0, .RO, 0x0, 1, 0x0, 1, 0x0, 0⟩
/-- HOST.BAR4_OFFSET_LO.OFFSET (R508). -/
def BAR4_OFFSET_LO.OFFSET : Row := ⟨0x2400060, 31, 30, .RW, 0x0, 1, 0x0, 1, 0x0, 0⟩
/-- HOST.BAR4_OFFSET_HI.OFFSET (R508). -/
def BAR4_OFFSET_HI.OFFSET : Row := ⟨0x2400064, 31, 0, .RW, 0x0, 1, 0x0, 1, 0x0, 0⟩
/-- HOST.SCENE_FRAGMENTS.COUNT (R509). -/
def SCENE_FRAGMENTS.COUNT : Row := ⟨0x24000c0, 31, 0, .RO, 0x0, 1, 0x0, 1, 0x0, 0⟩
/-- HOST.SCENE_READ_FAILURES.COUNT (R509). -/
def SCENE_READ_FAILURES.COUNT : Row := ⟨0x24000c4, 31, 0, .RO, 0x0, 1, 0x0, 1, 0x0, 0⟩

end R.HOST

/-- Rows of the HOST block, part 0. -/
def rowsHOST0 : List Row := [R.HOST.LINK.DL_UP, R.HOST.LINK.SPEED, R.HOST.LINK.WIDTH, R.HOST.EVENT.RESET, R.HOST.EVENT.READ_FAILED, R.HOST.EVENT.RING_BAD, R.HOST.EVENT.BAR4_FAULT, R.HOST.EVENT.LINK_SLOW, R.HOST.IRQ_EN.RESET_EN, R.HOST.IRQ_EN.READ_FAILED_EN, R.HOST.IRQ_EN.RING_BAD_EN, R.HOST.IRQ_EN.BAR4_FAULT_EN, R.HOST.IRQ_EN.LINK_SLOW_EN, R.HOST.SQ_BASE_LO.BASE, R.HOST.SQ_BASE_HI.BASE, R.HOST.SQ_SIZE.SIZE, R.HOST.SQ_TAIL.TAIL, R.HOST.SQ_HEAD.HEAD, R.HOST.CQ_BASE_LO.BASE, R.HOST.CQ_BASE_HI.BASE, R.HOST.CQ_SIZE.SIZE, R.HOST.CQ_TAIL.TAIL, R.HOST.CQ_HEAD.HEAD, R.HOST.RING_CTRL.FORCE_STOP, R.HOST.RING_CTRL.ENABLE, R.HOST.RING_STATUS.LAST_CODE, R.HOST.RING_STATUS.FETCHED, R.HOST.RING_STATUS2.STATE, R.HOST.BAR4_OFFSET_LO.OFFSET, R.HOST.BAR4_OFFSET_HI.OFFSET, R.HOST.SCENE_FRAGMENTS.COUNT, R.HOST.SCENE_READ_FAILURES.COUNT]
/-- All register rows of the HOST block. -/
def rowsHOST : List Row := rowsHOST0

namespace R.DMA

/-- DMA.SUMMARY.EVENT (R514). -/
def SUMMARY.EVENT : Row := ⟨0x2500000, 31, 16, .RO, 0x0, 1, 0x0, 1, 0x0, 0⟩
/-- DMA.SUMMARY.ACTIVE (R514). -/
def SUMMARY.ACTIVE : Row := ⟨0x2500000, 15, 0, .RO, 0x0, 1, 0x0, 1, 0x0, 0⟩
/-- DMA.OWNER.HOST (R514). -/
def OWNER.HOST : Row := ⟨0x2500004, 15, 0, .RWB, 0xff, 1, 0x0, 1, 0x0, 0⟩
/-- DMA.RUNS_DONE.COUNT (R514). -/
def RUNS_DONE.COUNT : Row := ⟨0x25000c0, 31, 0, .RO, 0x0, 1, 0x0, 1, 0x0, 0⟩
/-- DMA.RUNS_ABORTED.COUNT (R514). -/
def RUNS_ABORTED.COUNT : Row := ⟨0x25000c4, 31, 0, .RO, 0x0, 1, 0x0, 1, 0x0, 0⟩
/-- DMA.BUS_TIMEOUTS.COUNT (R514). -/
def BUS_TIMEOUTS.COUNT : Row := ⟨0x25000c8, 31, 0, .RO, 0x0, 1, 0x0, 1, 0x0, 0⟩
/-- DMA.CH_CTRL.START (R510). -/
def CH_CTRL.START : Row := ⟨0x2501000, 31, 31, .WO, 0x0, 16, 0x100, 1, 0x0, 0⟩
/-- DMA.CH_CTRL.ABORT (R510). -/
def CH_CTRL.ABORT : Row := ⟨0x2501000, 30, 30, .WO, 0x0, 16, 0x100, 1, 0x0, 0⟩
/-- DMA.CH_CTRL.FORCE_STOP (R510). -/
def CH_CTRL.FORCE_STOP : Row := ⟨0x2501000, 29, 29, .WO, 0x0, 16, 0x100, 1, 0x0, 0⟩
/-- DMA.CH_CTRL.TRIG_SEL (R510). -/
def CH_CTRL.TRIG_SEL : Row := ⟨0x2501000, 11, 8, .RW, 0x0, 16, 0x100, 1, 0x0, 0⟩
/-- DMA.CH_CTRL.TRIG_SRC (R510). -/
def CH_CTRL.TRIG_SRC : Row := ⟨0x2501000, 5, 4, .RW, 0x0, 16, 0x100, 1, 0x0, 0⟩
/-- DMA.CH_CTRL.DESC_SPACE (R510). -/
def CH_CTRL.DESC_SPACE : Row := ⟨0x2501000, 1, 1, .RW, 0x0, 16, 0x100, 1, 0x0, 0⟩
/-- DMA.CH_CTRL.ENABLE (R510). -/
def CH_CTRL.ENABLE : Row := ⟨0x2501000, 0, 0, .RW, 0x0, 16, 0x100, 1, 0x0, 0⟩
/-- DMA.CH_HEAD_LO.HEAD (R512). -/
def CH_HEAD_LO.HEAD : Row := ⟨0x2501004, 31, 5, .RW, 0x0, 16, 0x100, 1, 0x0, 0⟩
/-- DMA.CH_HEAD_HI.HEAD (R512). -/
def CH_HEAD_HI.HEAD : Row := ⟨0x2501008, 31, 0, .RW, 0x0, 16, 0x100, 1, 0x0, 0⟩
/-- DMA.CH_STATUS.REASON (R511). -/
def CH_STATUS.REASON : Row := ⟨0x250100c, 31, 24, .RO, 0x0, 16, 0x100, 1, 0x0, 0⟩
/-- DMA.CH_STATUS.MISSED (R511). -/
def CH_STATUS.MISSED : Row := ⟨0x250100c, 23, 16, .RO, 0x0, 16, 0x100, 1, 0x0, 0⟩
/-- DMA.CH_STATUS.FINAL (R511). -/
def CH_STATUS.FINAL : Row := ⟨0x250100c, 15, 15, .RO, 0x0, 16, 0x100, 1, 0x0, 0⟩
/-- DMA.CH_STATUS.LATE (R511). -/
def CH_STATUS.LATE : Row := ⟨0x250100c, 14, 14, .RO, 0x0, 16, 0x100, 1, 0x0, 0⟩
/-- DMA.CH_STATUS.HELD (R511). -/
def CH_STATUS.HELD : Row := ⟨0x250100c, 13, 13, .RO, 0x0, 16, 0x100, 1, 0x0, 0⟩
/-- DMA.CH_STATUS.STATE (R511). -/
def CH_STATUS.STATE : Row := ⟨0x250100c, 2, 0, .RO, 0x0, 16, 0x100, 1, 0x0, 0⟩
/-- DMA.CH_CUR_LO.CUR (R512). -/
def CH_CUR_LO.CUR : Row := ⟨0x2501010, 31, 0, .RO, 0x0, 16, 0x100, 1, 0x0, 0⟩
/-- DMA.CH_CUR_HI.CUR (R512). -/
def CH_CUR_HI.CUR : Row := ⟨0x2501014, 31, 0, .RO, 0x0, 16, 0x100, 1, 0x0, 0⟩
/-- DMA.CH_FAULT_LO.FAULT (R512). -/
def CH_FAULT_LO.FAULT : Row := ⟨0x2501018, 31, 0, .RO, 0x0, 16, 0x100, 1, 0x0, 0⟩
/-- DMA.CH_FAULT_HI.FAULT (R512). -/
def CH_FAULT_HI.FAULT : Row := ⟨0x250101c, 31, 0, .RO, 0x0, 16, 0x100, 1, 0x0, 0⟩
/-- DMA.CH_COUNT.COUNT (R512). -/
def CH_COUNT.COUNT : Row := ⟨0x2501020, 31, 0, .RO, 0x0, 16, 0x100, 1, 0x0, 0⟩
/-- DMA.CH_EVENT.TRIG_OVERRUN (R513). -/
def CH_EVENT.TRIG_OVERRUN : Row := ⟨0x2501024, 4, 4, .W1C, 0x0, 16, 0x100, 1, 0x0, 0⟩
/-- DMA.CH_EVENT.DRAINED (R513). -/
def CH_EVENT.DRAINED : Row := ⟨0x2501024, 3, 3, .W1C, 0x0, 16, 0x100, 1, 0x0, 0⟩
/-- DMA.CH_EVENT.ABORTED (R513). -/
def CH_EVENT.ABORTED : Row := ⟨0x2501024, 2, 2, .W1C, 0x0, 16, 0x100, 1, 0x0, 0⟩
/-- DMA.CH_EVENT.DONE (R513). -/
def CH_EVENT.DONE : Row := ⟨0x2501024, 1, 1, .W1C, 0x0, 16, 0x100, 1, 0x0, 0⟩
/-- DMA.CH_EVENT.DESC_DONE (R513). -/
def CH_EVENT.DESC_DONE : Row := ⟨0x2501024, 0, 0, .W1C, 0x0, 16, 0x100, 1, 0x0, 0⟩
/-- DMA.CH_IRQ_EN.TRIG_OVERRUN_EN (R513). -/
def CH_IRQ_EN.TRIG_OVERRUN_EN : Row := ⟨0x2501028, 4, 4, .RW, 0x0, 16, 0x100, 1, 0x0, 0⟩
/-- DMA.CH_IRQ_EN.DRAINED_EN (R513). -/
def CH_IRQ_EN.DRAINED_EN : Row := ⟨0x2501028, 3, 3, .RW, 0x0, 16, 0x100, 1, 0x0, 0⟩
/-- DMA.CH_IRQ_EN.ABORTED_EN (R513). -/
def CH_IRQ_EN.ABORTED_EN : Row := ⟨0x2501028, 2, 2, .RW, 0x0, 16, 0x100, 1, 0x0, 0⟩
/-- DMA.CH_IRQ_EN.DONE_EN (R513). -/
def CH_IRQ_EN.DONE_EN : Row := ⟨0x2501028, 1, 1, .RW, 0x0, 16, 0x100, 1, 0x0, 0⟩
/-- DMA.CH_IRQ_EN.DESC_DONE_EN (R513). -/
def CH_IRQ_EN.DESC_DONE_EN : Row := ⟨0x2501028, 0, 0, .RW, 0x0, 16, 0x100, 1, 0x0, 0⟩

end R.DMA

/-- Rows of the DMA block, part 0. -/
def rowsDMA0 : List Row := [R.DMA.SUMMARY.EVENT, R.DMA.SUMMARY.ACTIVE, R.DMA.OWNER.HOST, R.DMA.RUNS_DONE.COUNT, R.DMA.RUNS_ABORTED.COUNT, R.DMA.BUS_TIMEOUTS.COUNT, R.DMA.CH_CTRL.START, R.DMA.CH_CTRL.ABORT, R.DMA.CH_CTRL.FORCE_STOP, R.DMA.CH_CTRL.TRIG_SEL, R.DMA.CH_CTRL.TRIG_SRC, R.DMA.CH_CTRL.DESC_SPACE, R.DMA.CH_CTRL.ENABLE, R.DMA.CH_HEAD_LO.HEAD, R.DMA.CH_HEAD_HI.HEAD, R.DMA.CH_STATUS.REASON, R.DMA.CH_STATUS.MISSED, R.DMA.CH_STATUS.FINAL, R.DMA.CH_STATUS.LATE, R.DMA.CH_STATUS.HELD, R.DMA.CH_STATUS.STATE, R.DMA.CH_CUR_LO.CUR, R.DMA.CH_CUR_HI.CUR, R.DMA.CH_FAULT_LO.FAULT, R.DMA.CH_FAULT_HI.FAULT, R.DMA.CH_COUNT.COUNT, R.DMA.CH_EVENT.TRIG_OVERRUN, R.DMA.CH_EVENT.DRAINED, R.DMA.CH_EVENT.ABORTED, R.DMA.CH_EVENT.DONE, R.DMA.CH_EVENT.DESC_DONE, R.DMA.CH_IRQ_EN.TRIG_OVERRUN_EN, R.DMA.CH_IRQ_EN.DRAINED_EN, R.DMA.CH_IRQ_EN.ABORTED_EN, R.DMA.CH_IRQ_EN.DONE_EN, R.DMA.CH_IRQ_EN.DESC_DONE_EN]
/-- All register rows of the DMA block. -/
def rowsDMA : List Row := rowsDMA0

namespace R.BLIT

/-- BLIT.CTRL.GO (R531). -/
def CTRL.GO : Row := ⟨0x2600000, 31, 31, .WO, 0x0, 1, 0x0, 1, 0x0, 0⟩
/-- BLIT.CTRL.ABORT (R531). -/
def CTRL.ABORT : Row := ⟨0x2600000, 30, 30, .WO, 0x0, 1, 0x0, 1, 0x0, 0⟩
/-- BLIT.CTRL.FORCE_STOP (R531). -/
def CTRL.FORCE_STOP : Row := ⟨0x2600000, 29, 29, .WO, 0x0, 1, 0x0, 1, 0x0, 0⟩
/-- BLIT.CTRL.FLUSH (R531). -/
def CTRL.FLUSH : Row := ⟨0x2600000, 28, 28, .WO, 0x0, 1, 0x0, 1, 0x0, 0⟩
/-- BLIT.CTRL.ENABLE (R531). -/
def CTRL.ENABLE : Row := ⟨0x2600000, 0, 0, .RW, 0x1, 1, 0x0, 1, 0x0, 0⟩
/-- BLIT.STATUS.LAST_CODE (R531). -/
def STATUS.LAST_CODE : Row := ⟨0x2600004, 31, 24, .RO, 0x0, 1, 0x0, 1, 0x0, 0⟩
/-- BLIT.STATUS.LAST_JOB (R531). -/
def STATUS.LAST_JOB : Row := ⟨0x2600004, 23, 16, .RO, 0x0, 1, 0x0, 1, 0x0, 0⟩
/-- BLIT.STATUS.NEXT_JOB (R531). -/
def STATUS.NEXT_JOB : Row := ⟨0x2600004, 15, 8, .RO, 0x0, 1, 0x0, 1, 0x0, 0⟩
/-- BLIT.STATUS.FINAL (R531). -/
def STATUS.FINAL : Row := ⟨0x2600004, 7, 7, .RO, 0x0, 1, 0x0, 1, 0x0, 0⟩
/-- BLIT.STATUS.LATE (R531). -/
def STATUS.LATE : Row := ⟨0x2600004, 6, 6, .RO, 0x0, 1, 0x0, 1, 0x0, 0⟩
/-- BLIT.STATUS.QUEUED (R531). -/
def STATUS.QUEUED : Row := ⟨0x2600004, 5, 3, .RO, 0x0, 1, 0x0, 1, 0x0, 0⟩
/-- BLIT.STATUS.STATE (R531). -/
def STATUS.STATE : Row := ⟨0x2600004, 2, 0, .RO, 0x0, 1, 0x0, 1, 0x0, 0⟩
/-- BLIT.EVENT.REFUSED (R531). -/
def EVENT.REFUSED : Row := ⟨0x2600008, 3, 3, .W1C, 0x0, 1, 0x0, 1, 0x0, 0⟩
/-- BLIT.EVENT.DRAINED (R531). -/
def EVENT.DRAINED : Row := ⟨0x2600008, 2, 2, .W1C, 0x0, 1, 0x0, 1, 0x0, 0⟩
/-- BLIT.EVENT.ABORTED (R531). -/
def EVENT.ABORTED : Row := ⟨0x2600008, 1, 1, .W1C, 0x0, 1, 0x0, 1, 0x0, 0⟩
/-- BLIT.EVENT.DONE (R531). -/
def EVENT.DONE : Row := ⟨0x2600008, 0, 0, .W1C, 0x0, 1, 0x0, 1, 0x0, 0⟩
/-- BLIT.IRQ_EN.REFUSED_EN (R531). -/
def IRQ_EN.REFUSED_EN : Row := ⟨0x260000c, 3, 3, .RW, 0x0, 1, 0x0, 1, 0x0, 0⟩
/-- BLIT.IRQ_EN.DRAINED_EN (R531). -/
def IRQ_EN.DRAINED_EN : Row := ⟨0x260000c, 2, 2, .RW, 0x0, 1, 0x0, 1, 0x0, 0⟩
/-- BLIT.IRQ_EN.ABORTED_EN (R531). -/
def IRQ_EN.ABORTED_EN : Row := ⟨0x260000c, 1, 1, .RW, 0x0, 1, 0x0, 1, 0x0, 0⟩
/-- BLIT.IRQ_EN.DONE_EN (R531). -/
def IRQ_EN.DONE_EN : Row := ⟨0x260000c, 0, 0, .RW, 0x0, 1, 0x0, 1, 0x0, 0⟩
/-- BLIT.OP.GLOBAL_ALPHA (R532). -/
def OP.GLOBAL_ALPHA : Row := ⟨0x2600010, 24, 16, .RW, 0x100, 1, 0x0, 1, 0x0, 0⟩
/-- BLIT.OP.CLIP_EN (R532). -/
def OP.CLIP_EN : Row := ⟨0x2600010, 15, 12, .RW, 0x0, 1, 0x0, 1, 0x0, 0⟩
/-- BLIT.OP.CLIP_OUTSIDE (R532). -/
def OP.CLIP_OUTSIDE : Row := ⟨0x2600010, 11, 11, .RW, 0x0, 1, 0x0, 1, 0x0, 0⟩
/-- BLIT.OP.MIRROR_Y (R532). -/
def OP.MIRROR_Y : Row := ⟨0x2600010, 10, 10, .RW, 0x0, 1, 0x0, 1, 0x0, 0⟩
/-- BLIT.OP.MIRROR_X (R532). -/
def OP.MIRROR_X : Row := ⟨0x2600010, 9, 9, .RW, 0x0, 1, 0x0, 1, 0x0, 0⟩
/-- BLIT.OP.ROT (R532). -/
def OP.ROT : Row := ⟨0x2600010, 7, 6, .RW, 0x0, 1, 0x0, 1, 0x0, 0⟩
/-- BLIT.OP.OP (R532). -/
def OP.OP : Row := ⟨0x2600010, 1, 0, .RW, 0x0, 1, 0x0, 1, 0x0, 0⟩
/-- BLIT.FMT.DST_FMT (R532). -/
def FMT.DST_FMT : Row := ⟨0x2600014, 10, 8, .RW, 0x0, 1, 0x0, 1, 0x0, 0⟩
/-- BLIT.FMT.SRC_FMT (R532). -/
def FMT.SRC_FMT : Row := ⟨0x2600014, 2, 0, .RW, 0x0, 1, 0x0, 1, 0x0, 0⟩
/-- BLIT.SRC_BASE_LO.BASE (R533). -/
def SRC_BASE_LO.BASE : Row := ⟨0x2600018, 31, 0, .RW, 0x0, 1, 0x0, 1, 0x0, 0⟩
/-- BLIT.SRC_BASE_HI.BASE (R533). -/
def SRC_BASE_HI.BASE : Row := ⟨0x260001c, 3, 0, .RW, 0x0, 1, 0x0, 1, 0x0, 0⟩
/-- BLIT.SRC_PITCH.PITCH (R533). -/
def SRC_PITCH.PITCH : Row := ⟨0x2600020, 20, 0, .RW, 0x0, 1, 0x0, 1, 0x0, 0⟩
/-- BLIT.SRC_XY.Y (R533). -/
def SRC_XY.Y : Row := ⟨0x2600024, 31, 16, .RW, 0x0, 1, 0x0, 1, 0x0, 0⟩
/-- BLIT.SRC_XY.X (R533). -/
def SRC_XY.X : Row := ⟨0x2600024, 15, 0, .RW, 0x0, 1, 0x0, 1, 0x0, 0⟩
/-- BLIT.SRC_WH.H (R533). -/
def SRC_WH.H : Row := ⟨0x2600028, 31, 16, .RW, 0x0, 1, 0x0, 1, 0x0, 0⟩
/-- BLIT.SRC_WH.W (R533). -/
def SRC_WH.W : Row := ⟨0x2600028, 15, 0, .RW, 0x0, 1, 0x0, 1, 0x0, 0⟩
/-- BLIT.DST_BASE_LO.BASE (R533). -/
def DST_BASE_LO.BASE : Row := ⟨0x260002c, 31, 0, .RW, 0x0, 1, 0x0, 1, 0x0, 0⟩
/-- BLIT.DST_BASE_HI.BASE (R533). -/
def DST_BASE_HI.BASE : Row := ⟨0x2600030, 3, 0, .RW, 0x0, 1, 0x0, 1, 0x0, 0⟩
/-- BLIT.DST_PITCH.PITCH (R533). -/
def DST_PITCH.PITCH : Row := ⟨0x2600034, 20, 0, .RW, 0x0, 1, 0x0, 1, 0x0, 0⟩
/-- BLIT.DST_XY.Y (R533). -/
def DST_XY.Y : Row := ⟨0x2600038, 31, 16, .RW, 0x0, 1, 0x0, 1, 0x0, 0⟩
/-- BLIT.DST_XY.X (R533). -/
def DST_XY.X : Row := ⟨0x2600038, 15, 0, .RW, 0x0, 1, 0x0, 1, 0x0, 0⟩
/-- BLIT.FILL_LO.FILL (R533). -/
def FILL_LO.FILL : Row := ⟨0x260003c, 31, 0, .RW, 0x0, 1, 0x0, 1, 0x0, 0⟩
/-- BLIT.FILL_HI.FILL (R533). -/
def FILL_HI.FILL : Row := ⟨0x2600040, 31, 0, .RW, 0x0, 1, 0x0, 1, 0x0, 0⟩
/-- BLIT.CLIP_XY.Y (R533). -/
def CLIP_XY.Y : Row := ⟨0x2600044, 31, 16, .RW, 0x0, 4, 0x8, 1, 0x0, 0⟩
/-- BLIT.CLIP_XY.X (R533). -/
def CLIP_XY.X : Row := ⟨0x2600044, 15, 0, .RW, 0x0, 4, 0x8, 1, 0x0, 0⟩
/-- BLIT.CLIP_WH.H (R533). -/
def CLIP_WH.H : Row := ⟨0x2600048, 31, 16, .RW, 0x0, 4, 0x8, 1, 0x0, 0⟩
/-- BLIT.CLIP_WH.W (R533). -/
def CLIP_WH.W : Row := ⟨0x2600048, 15, 0, .RW, 0x0, 4, 0x8, 1, 0x0, 0⟩
/-- BLIT.PACE.DEAD (R534). -/
def PACE.DEAD : Row := ⟨0x2600070, 31, 16, .RW, 0x0, 1, 0x0, 1, 0x0, 0⟩
/-- BLIT.PACE.BURST_LOG (R534). -/
def PACE.BURST_LOG : Row := ⟨0x2600070, 2, 0, .RW, 0x4, 1, 0x0, 1, 0x0, 0⟩
/-- BLIT.FAULT_LO.ADDR_LO (R534). -/
def FAULT_LO.ADDR_LO : Row := ⟨0x2600074, 31, 0, .RO, 0x0, 1, 0x0, 1, 0x0, 0⟩
/-- BLIT.FAULT_HI.ADDR_HI (R534). -/
def FAULT_HI.ADDR_HI : Row := ⟨0x2600078, 3, 0, .RO, 0x0, 1, 0x0, 1, 0x0, 0⟩
/-- BLIT.JOBS_DONE.COUNT (R534). -/
def JOBS_DONE.COUNT : Row := ⟨0x26000c0, 31, 0, .RO, 0x0, 1, 0x0, 1, 0x0, 0⟩
/-- BLIT.JOBS_ABORTED.COUNT (R534). -/
def JOBS_ABORTED.COUNT : Row := ⟨0x26000c4, 31, 0, .RO, 0x0, 1, 0x0, 1, 0x0, 0⟩
/-- BLIT.GOS_REFUSED.COUNT (R534). -/
def GOS_REFUSED.COUNT : Row := ⟨0x26000c8, 31, 0, .RO, 0x0, 1, 0x0, 1, 0x0, 0⟩

end R.BLIT

/-- Rows of the BLIT block, part 0. -/
def rowsBLIT0 : List Row := [R.BLIT.CTRL.GO, R.BLIT.CTRL.ABORT, R.BLIT.CTRL.FORCE_STOP, R.BLIT.CTRL.FLUSH, R.BLIT.CTRL.ENABLE, R.BLIT.STATUS.LAST_CODE, R.BLIT.STATUS.LAST_JOB, R.BLIT.STATUS.NEXT_JOB, R.BLIT.STATUS.FINAL, R.BLIT.STATUS.LATE, R.BLIT.STATUS.QUEUED, R.BLIT.STATUS.STATE, R.BLIT.EVENT.REFUSED, R.BLIT.EVENT.DRAINED, R.BLIT.EVENT.ABORTED, R.BLIT.EVENT.DONE, R.BLIT.IRQ_EN.REFUSED_EN, R.BLIT.IRQ_EN.DRAINED_EN, R.BLIT.IRQ_EN.ABORTED_EN, R.BLIT.IRQ_EN.DONE_EN, R.BLIT.OP.GLOBAL_ALPHA, R.BLIT.OP.CLIP_EN, R.BLIT.OP.CLIP_OUTSIDE, R.BLIT.OP.MIRROR_Y, R.BLIT.OP.MIRROR_X, R.BLIT.OP.ROT, R.BLIT.OP.OP, R.BLIT.FMT.DST_FMT, R.BLIT.FMT.SRC_FMT, R.BLIT.SRC_BASE_LO.BASE, R.BLIT.SRC_BASE_HI.BASE, R.BLIT.SRC_PITCH.PITCH, R.BLIT.SRC_XY.Y, R.BLIT.SRC_XY.X, R.BLIT.SRC_WH.H, R.BLIT.SRC_WH.W, R.BLIT.DST_BASE_LO.BASE, R.BLIT.DST_BASE_HI.BASE, R.BLIT.DST_PITCH.PITCH, R.BLIT.DST_XY.Y]
/-- Rows of the BLIT block, part 1. -/
def rowsBLIT1 : List Row := [R.BLIT.DST_XY.X, R.BLIT.FILL_LO.FILL, R.BLIT.FILL_HI.FILL, R.BLIT.CLIP_XY.Y, R.BLIT.CLIP_XY.X, R.BLIT.CLIP_WH.H, R.BLIT.CLIP_WH.W, R.BLIT.PACE.DEAD, R.BLIT.PACE.BURST_LOG, R.BLIT.FAULT_LO.ADDR_LO, R.BLIT.FAULT_HI.ADDR_HI, R.BLIT.JOBS_DONE.COUNT, R.BLIT.JOBS_ABORTED.COUNT, R.BLIT.GOS_REFUSED.COUNT]
/-- All register rows of the BLIT block. -/
def rowsBLIT : List Row := rowsBLIT0 ++ rowsBLIT1

namespace R.CRC

/-- CRC.UNIT_CTRL.START (R539). -/
def UNIT_CTRL.START : Row := ⟨0x2701000, 31, 31, .WO, 0x0, 4, 0x100, 1, 0x0, 0⟩
/-- CRC.UNIT_CTRL.ABORT (R539). -/
def UNIT_CTRL.ABORT : Row := ⟨0x2701000, 30, 30, .WO, 0x0, 4, 0x100, 1, 0x0, 0⟩
/-- CRC.UNIT_CTRL.FORCE_STOP (R539). -/
def UNIT_CTRL.FORCE_STOP : Row := ⟨0x2701000, 29, 29, .WO, 0x0, 4, 0x100, 1, 0x0, 0⟩
/-- CRC.UNIT_CTRL.SNOOP_SRC (R539). -/
def UNIT_CTRL.SNOOP_SRC : Row := ⟨0x2701000, 20, 16, .RW, 0x0, 4, 0x100, 1, 0x0, 0⟩
/-- CRC.UNIT_CTRL.POLY (R539). -/
def UNIT_CTRL.POLY : Row := ⟨0x2701000, 9, 8, .RW, 0x0, 4, 0x100, 1, 0x0, 0⟩
/-- CRC.UNIT_CTRL.FEED (R539). -/
def UNIT_CTRL.FEED : Row := ⟨0x2701000, 4, 4, .RW, 0x0, 4, 0x100, 1, 0x0, 0⟩
/-- CRC.UNIT_CTRL.INIT (R539). -/
def UNIT_CTRL.INIT : Row := ⟨0x2701000, 3, 3, .RW, 0x1, 4, 0x100, 1, 0x0, 0⟩
/-- CRC.UNIT_CTRL.ENABLE (R539). -/
def UNIT_CTRL.ENABLE : Row := ⟨0x2701000, 0, 0, .RW, 0x1, 4, 0x100, 1, 0x0, 0⟩
/-- CRC.UNIT_STATUS.LAST_CODE (R539). -/
def UNIT_STATUS.LAST_CODE : Row := ⟨0x2701004, 31, 24, .RO, 0x0, 4, 0x100, 1, 0x0, 0⟩
/-- CRC.UNIT_STATUS.FINAL (R539). -/
def UNIT_STATUS.FINAL : Row := ⟨0x2701004, 7, 7, .RO, 0x0, 4, 0x100, 1, 0x0, 0⟩
/-- CRC.UNIT_STATUS.LATE (R539). -/
def UNIT_STATUS.LATE : Row := ⟨0x2701004, 6, 6, .RO, 0x0, 4, 0x100, 1, 0x0, 0⟩
/-- CRC.UNIT_STATUS.REVERSED (R539). -/
def UNIT_STATUS.REVERSED : Row := ⟨0x2701004, 5, 5, .RO, 0x0, 4, 0x100, 1, 0x0, 0⟩
/-- CRC.UNIT_STATUS.STATE (R539). -/
def UNIT_STATUS.STATE : Row := ⟨0x2701004, 2, 0, .RO, 0x0, 4, 0x100, 1, 0x0, 0⟩
/-- CRC.UNIT_EVENT.REFUSED (R540). -/
def UNIT_EVENT.REFUSED : Row := ⟨0x2701008, 3, 3, .W1C, 0x0, 4, 0x100, 1, 0x0, 0⟩
/-- CRC.UNIT_EVENT.STOPPED (R540). -/
def UNIT_EVENT.STOPPED : Row := ⟨0x2701008, 2, 2, .W1C, 0x0, 4, 0x100, 1, 0x0, 0⟩
/-- CRC.UNIT_EVENT.ABORTED (R540). -/
def UNIT_EVENT.ABORTED : Row := ⟨0x2701008, 1, 1, .W1C, 0x0, 4, 0x100, 1, 0x0, 0⟩
/-- CRC.UNIT_EVENT.DONE (R540). -/
def UNIT_EVENT.DONE : Row := ⟨0x2701008, 0, 0, .W1C, 0x0, 4, 0x100, 1, 0x0, 0⟩
/-- CRC.UNIT_IRQ_EN.REFUSED_EN (R540). -/
def UNIT_IRQ_EN.REFUSED_EN : Row := ⟨0x270100c, 3, 3, .RW, 0x0, 4, 0x100, 1, 0x0, 0⟩
/-- CRC.UNIT_IRQ_EN.STOPPED_EN (R540). -/
def UNIT_IRQ_EN.STOPPED_EN : Row := ⟨0x270100c, 2, 2, .RW, 0x0, 4, 0x100, 1, 0x0, 0⟩
/-- CRC.UNIT_IRQ_EN.ABORTED_EN (R540). -/
def UNIT_IRQ_EN.ABORTED_EN : Row := ⟨0x270100c, 1, 1, .RW, 0x0, 4, 0x100, 1, 0x0, 0⟩
/-- CRC.UNIT_IRQ_EN.DONE_EN (R540). -/
def UNIT_IRQ_EN.DONE_EN : Row := ⟨0x270100c, 0, 0, .RW, 0x0, 4, 0x100, 1, 0x0, 0⟩
/-- CRC.UNIT_VALUE_LO.VALUE (R541). -/
def UNIT_VALUE_LO.VALUE : Row := ⟨0x2701010, 31, 0, .RW, 0xffffffff, 4, 0x100, 1, 0x0, 0⟩
/-- CRC.UNIT_VALUE_HI.VALUE (R541). -/
def UNIT_VALUE_HI.VALUE : Row := ⟨0x2701014, 31, 0, .RW, 0xffffffff, 4, 0x100, 1, 0x0, 0⟩
/-- CRC.UNIT_RESULT_LO.RESULT (R541). -/
def UNIT_RESULT_LO.RESULT : Row := ⟨0x2701018, 31, 0, .RO, 0x0, 4, 0x100, 1, 0x0, 0⟩
/-- CRC.UNIT_RESULT_HI.RESULT (R541). -/
def UNIT_RESULT_HI.RESULT : Row := ⟨0x270101c, 31, 0, .RO, 0x0, 4, 0x100, 1, 0x0, 0⟩
/-- CRC.UNIT_SCAN_BASE_LO.BASE (R541). -/
def UNIT_SCAN_BASE_LO.BASE : Row := ⟨0x2701020, 31, 0, .RW, 0x0, 4, 0x100, 1, 0x0, 0⟩
/-- CRC.UNIT_SCAN_BASE_HI.BASE (R541). -/
def UNIT_SCAN_BASE_HI.BASE : Row := ⟨0x2701024, 3, 0, .RW, 0x0, 4, 0x100, 1, 0x0, 0⟩
/-- CRC.UNIT_SCAN_LEN_LO.LEN (R541). -/
def UNIT_SCAN_LEN_LO.LEN : Row := ⟨0x2701028, 31, 0, .RW, 0x0, 4, 0x100, 1, 0x0, 0⟩
/-- CRC.UNIT_SCAN_LEN_HI.LEN (R541). -/
def UNIT_SCAN_LEN_HI.LEN : Row := ⟨0x270102c, 3, 0, .RW, 0x0, 4, 0x100, 1, 0x0, 0⟩
/-- CRC.UNIT_CUR_LO.CUR (R541). -/
def UNIT_CUR_LO.CUR : Row := ⟨0x2701030, 31, 0, .RO, 0x0, 4, 0x100, 1, 0x0, 0⟩
/-- CRC.UNIT_CUR_HI.CUR (R541). -/
def UNIT_CUR_HI.CUR : Row := ⟨0x2701034, 31, 0, .RO, 0x0, 4, 0x100, 1, 0x0, 0⟩
/-- CRC.UNIT_FAULT_LO.FAULT (R541). -/
def UNIT_FAULT_LO.FAULT : Row := ⟨0x2701038, 31, 0, .RO, 0x0, 4, 0x100, 1, 0x0, 0⟩
/-- CRC.UNIT_FAULT_HI.FAULT (R541). -/
def UNIT_FAULT_HI.FAULT : Row := ⟨0x270103c, 31, 0, .RO, 0x0, 4, 0x100, 1, 0x0, 0⟩
/-- CRC.UNIT_BYTES.BYTES (R541). -/
def UNIT_BYTES.BYTES : Row := ⟨0x2701040, 31, 0, .RO, 0x0, 4, 0x100, 1, 0x0, 0⟩

end R.CRC

/-- Rows of the CRC block, part 0. -/
def rowsCRC0 : List Row := [R.CRC.UNIT_CTRL.START, R.CRC.UNIT_CTRL.ABORT, R.CRC.UNIT_CTRL.FORCE_STOP, R.CRC.UNIT_CTRL.SNOOP_SRC, R.CRC.UNIT_CTRL.POLY, R.CRC.UNIT_CTRL.FEED, R.CRC.UNIT_CTRL.INIT, R.CRC.UNIT_CTRL.ENABLE, R.CRC.UNIT_STATUS.LAST_CODE, R.CRC.UNIT_STATUS.FINAL, R.CRC.UNIT_STATUS.LATE, R.CRC.UNIT_STATUS.REVERSED, R.CRC.UNIT_STATUS.STATE, R.CRC.UNIT_EVENT.REFUSED, R.CRC.UNIT_EVENT.STOPPED, R.CRC.UNIT_EVENT.ABORTED, R.CRC.UNIT_EVENT.DONE, R.CRC.UNIT_IRQ_EN.REFUSED_EN, R.CRC.UNIT_IRQ_EN.STOPPED_EN, R.CRC.UNIT_IRQ_EN.ABORTED_EN, R.CRC.UNIT_IRQ_EN.DONE_EN, R.CRC.UNIT_VALUE_LO.VALUE, R.CRC.UNIT_VALUE_HI.VALUE, R.CRC.UNIT_RESULT_LO.RESULT, R.CRC.UNIT_RESULT_HI.RESULT, R.CRC.UNIT_SCAN_BASE_LO.BASE, R.CRC.UNIT_SCAN_BASE_HI.BASE, R.CRC.UNIT_SCAN_LEN_LO.LEN, R.CRC.UNIT_SCAN_LEN_HI.LEN, R.CRC.UNIT_CUR_LO.CUR, R.CRC.UNIT_CUR_HI.CUR, R.CRC.UNIT_FAULT_LO.FAULT, R.CRC.UNIT_FAULT_HI.FAULT, R.CRC.UNIT_BYTES.BYTES]
/-- All register rows of the CRC block. -/
def rowsCRC : List Row := rowsCRC0

namespace R.DEFL

/-- DEFL.CTRL.GO (R531). -/
def CTRL.GO : Row := ⟨0x2800000, 31, 31, .WO, 0x0, 1, 0x0, 1, 0x0, 0⟩
/-- DEFL.CTRL.ABORT (R531). -/
def CTRL.ABORT : Row := ⟨0x2800000, 30, 30, .WO, 0x0, 1, 0x0, 1, 0x0, 0⟩
/-- DEFL.CTRL.FORCE_STOP (R531). -/
def CTRL.FORCE_STOP : Row := ⟨0x2800000, 29, 29, .WO, 0x0, 1, 0x0, 1, 0x0, 0⟩
/-- DEFL.CTRL.FLUSH (R531). -/
def CTRL.FLUSH : Row := ⟨0x2800000, 28, 28, .WO, 0x0, 1, 0x0, 1, 0x0, 0⟩
/-- DEFL.CTRL.ENABLE (R531). -/
def CTRL.ENABLE : Row := ⟨0x2800000, 0, 0, .RW, 0x1, 1, 0x0, 1, 0x0, 0⟩
/-- DEFL.STATUS.LAST_CODE (R531). -/
def STATUS.LAST_CODE : Row := ⟨0x2800004, 31, 24, .RO, 0x0, 1, 0x0, 1, 0x0, 0⟩
/-- DEFL.STATUS.LAST_JOB (R531). -/
def STATUS.LAST_JOB : Row := ⟨0x2800004, 23, 16, .RO, 0x0, 1, 0x0, 1, 0x0, 0⟩
/-- DEFL.STATUS.NEXT_JOB (R531). -/
def STATUS.NEXT_JOB : Row := ⟨0x2800004, 15, 8, .RO, 0x0, 1, 0x0, 1, 0x0, 0⟩
/-- DEFL.STATUS.FINAL (R531). -/
def STATUS.FINAL : Row := ⟨0x2800004, 7, 7, .RO, 0x0, 1, 0x0, 1, 0x0, 0⟩
/-- DEFL.STATUS.LATE (R531). -/
def STATUS.LATE : Row := ⟨0x2800004, 6, 6, .RO, 0x0, 1, 0x0, 1, 0x0, 0⟩
/-- DEFL.STATUS.QUEUED (R531). -/
def STATUS.QUEUED : Row := ⟨0x2800004, 5, 3, .RO, 0x0, 1, 0x0, 1, 0x0, 0⟩
/-- DEFL.STATUS.STATE (R531). -/
def STATUS.STATE : Row := ⟨0x2800004, 2, 0, .RO, 0x0, 1, 0x0, 1, 0x0, 0⟩
/-- DEFL.EVENT.REFUSED (R531). -/
def EVENT.REFUSED : Row := ⟨0x2800008, 3, 3, .W1C, 0x0, 1, 0x0, 1, 0x0, 0⟩
/-- DEFL.EVENT.DRAINED (R531). -/
def EVENT.DRAINED : Row := ⟨0x2800008, 2, 2, .W1C, 0x0, 1, 0x0, 1, 0x0, 0⟩
/-- DEFL.EVENT.ABORTED (R531). -/
def EVENT.ABORTED : Row := ⟨0x2800008, 1, 1, .W1C, 0x0, 1, 0x0, 1, 0x0, 0⟩
/-- DEFL.EVENT.DONE (R531). -/
def EVENT.DONE : Row := ⟨0x2800008, 0, 0, .W1C, 0x0, 1, 0x0, 1, 0x0, 0⟩
/-- DEFL.IRQ_EN.REFUSED_EN (R531). -/
def IRQ_EN.REFUSED_EN : Row := ⟨0x280000c, 3, 3, .RW, 0x0, 1, 0x0, 1, 0x0, 0⟩
/-- DEFL.IRQ_EN.DRAINED_EN (R531). -/
def IRQ_EN.DRAINED_EN : Row := ⟨0x280000c, 2, 2, .RW, 0x0, 1, 0x0, 1, 0x0, 0⟩
/-- DEFL.IRQ_EN.ABORTED_EN (R531). -/
def IRQ_EN.ABORTED_EN : Row := ⟨0x280000c, 1, 1, .RW, 0x0, 1, 0x0, 1, 0x0, 0⟩
/-- DEFL.IRQ_EN.DONE_EN (R531). -/
def IRQ_EN.DONE_EN : Row := ⟨0x280000c, 0, 0, .RW, 0x0, 1, 0x0, 1, 0x0, 0⟩
/-- DEFL.JOB.CHECK (R547). -/
def JOB.CHECK : Row := ⟨0x2800010, 3, 3, .RW, 0x0, 1, 0x0, 1, 0x0, 0⟩
/-- DEFL.JOB.LEVEL (R547). -/
def JOB.LEVEL : Row := ⟨0x2800010, 2, 1, .RW, 0x0, 1, 0x0, 1, 0x0, 0⟩
/-- DEFL.JOB.MODE (R547). -/
def JOB.MODE : Row := ⟨0x2800010, 0, 0, .RW, 0x0, 1, 0x0, 1, 0x0, 0⟩
/-- DEFL.SRC_LO.ADDR (R547). -/
def SRC_LO.ADDR : Row := ⟨0x2800014, 31, 0, .RW, 0x0, 1, 0x0, 1, 0x0, 0⟩
/-- DEFL.SRC_HI.ADDR (R547). -/
def SRC_HI.ADDR : Row := ⟨0x2800018, 3, 0, .RW, 0x0, 1, 0x0, 1, 0x0, 0⟩
/-- DEFL.SRC_LEN.LEN (R547). -/
def SRC_LEN.LEN : Row := ⟨0x280001c, 30, 0, .RW, 0x0, 1, 0x0, 1, 0x0, 0⟩
/-- DEFL.DST_LO.ADDR (R547). -/
def DST_LO.ADDR : Row := ⟨0x2800020, 31, 0, .RW, 0x0, 1, 0x0, 1, 0x0, 0⟩
/-- DEFL.DST_HI.ADDR (R547). -/
def DST_HI.ADDR : Row := ⟨0x2800024, 3, 0, .RW, 0x0, 1, 0x0, 1, 0x0, 0⟩
/-- DEFL.DST_CAP.CAP (R547). -/
def DST_CAP.CAP : Row := ⟨0x2800028, 31, 0, .RW, 0x1, 1, 0x0, 1, 0x0, 0⟩
/-- DEFL.EXPECT_CRC.CRC (R547). -/
def EXPECT_CRC.CRC : Row := ⟨0x280002c, 31, 0, .RW, 0x0, 1, 0x0, 1, 0x0, 0⟩
/-- DEFL.RES_OUT_LEN.LEN (R548). -/
def RES_OUT_LEN.LEN : Row := ⟨0x2800040, 31, 0, .RO, 0x0, 1, 0x0, 1, 0x0, 0⟩
/-- DEFL.RES_IN_USED.USED (R548). -/
def RES_IN_USED.USED : Row := ⟨0x2800044, 30, 0, .RO, 0x0, 1, 0x0, 1, 0x0, 0⟩
/-- DEFL.RES_CRC.CRC (R548). -/
def RES_CRC.CRC : Row := ⟨0x2800048, 31, 0, .RO, 0x0, 1, 0x0, 1, 0x0, 0⟩
/-- DEFL.RES_ERR.TRAILING (R548). -/
def RES_ERR.TRAILING : Row := ⟨0x280004c, 31, 31, .RO, 0x0, 1, 0x0, 1, 0x0, 0⟩
/-- DEFL.RES_ERR.OFFSET (R548). -/
def RES_ERR.OFFSET : Row := ⟨0x280004c, 29, 0, .RO, 0x0, 1, 0x0, 1, 0x0, 0⟩
/-- DEFL.FAULT_LO.ADDR_LO (R548). -/
def FAULT_LO.ADDR_LO : Row := ⟨0x2800050, 31, 0, .RO, 0x0, 1, 0x0, 1, 0x0, 0⟩
/-- DEFL.FAULT_HI.ADDR_HI (R548). -/
def FAULT_HI.ADDR_HI : Row := ⟨0x2800054, 3, 0, .RO, 0x0, 1, 0x0, 1, 0x0, 0⟩
/-- DEFL.JOBS_DONE.COUNT (R548). -/
def JOBS_DONE.COUNT : Row := ⟨0x28000c0, 31, 0, .RO, 0x0, 1, 0x0, 1, 0x0, 0⟩
/-- DEFL.JOBS_ABORTED.COUNT (R548). -/
def JOBS_ABORTED.COUNT : Row := ⟨0x28000c4, 31, 0, .RO, 0x0, 1, 0x0, 1, 0x0, 0⟩
/-- DEFL.GOS_REFUSED.COUNT (R548). -/
def GOS_REFUSED.COUNT : Row := ⟨0x28000c8, 31, 0, .RO, 0x0, 1, 0x0, 1, 0x0, 0⟩

end R.DEFL

/-- Rows of the DEFL block, part 0. -/
def rowsDEFL0 : List Row := [R.DEFL.CTRL.GO, R.DEFL.CTRL.ABORT, R.DEFL.CTRL.FORCE_STOP, R.DEFL.CTRL.FLUSH, R.DEFL.CTRL.ENABLE, R.DEFL.STATUS.LAST_CODE, R.DEFL.STATUS.LAST_JOB, R.DEFL.STATUS.NEXT_JOB, R.DEFL.STATUS.FINAL, R.DEFL.STATUS.LATE, R.DEFL.STATUS.QUEUED, R.DEFL.STATUS.STATE, R.DEFL.EVENT.REFUSED, R.DEFL.EVENT.DRAINED, R.DEFL.EVENT.ABORTED, R.DEFL.EVENT.DONE, R.DEFL.IRQ_EN.REFUSED_EN, R.DEFL.IRQ_EN.DRAINED_EN, R.DEFL.IRQ_EN.ABORTED_EN, R.DEFL.IRQ_EN.DONE_EN, R.DEFL.JOB.CHECK, R.DEFL.JOB.LEVEL, R.DEFL.JOB.MODE, R.DEFL.SRC_LO.ADDR, R.DEFL.SRC_HI.ADDR, R.DEFL.SRC_LEN.LEN, R.DEFL.DST_LO.ADDR, R.DEFL.DST_HI.ADDR, R.DEFL.DST_CAP.CAP, R.DEFL.EXPECT_CRC.CRC, R.DEFL.RES_OUT_LEN.LEN, R.DEFL.RES_IN_USED.USED, R.DEFL.RES_CRC.CRC, R.DEFL.RES_ERR.TRAILING, R.DEFL.RES_ERR.OFFSET, R.DEFL.FAULT_LO.ADDR_LO, R.DEFL.FAULT_HI.ADDR_HI, R.DEFL.JOBS_DONE.COUNT, R.DEFL.JOBS_ABORTED.COUNT, R.DEFL.GOS_REFUSED.COUNT]
/-- All register rows of the DEFL block. -/
def rowsDEFL : List Row := rowsDEFL0

namespace R.CHIM

/-- CHIM.LIMITS.CEILING (R575). -/
def LIMITS.CEILING : Row := ⟨0x200000, 25, 16, .RWB, 0x230, 1, 0x0, 1, 0x0, 0⟩
/-- CHIM.LIMITS.POOL (R575). -/
def LIMITS.POOL : Row := ⟨0x200000, 9, 0, .RWT, 0x230, 1, 0x0, 1, 0x0, 0⟩
/-- CHIM.STATUS.LAST_CODE (R575). -/
def STATUS.LAST_CODE : Row := ⟨0x200004, 31, 24, .RO, 0x0, 1, 0x0, 1, 0x0, 0⟩
/-- CHIM.STATUS.RESERVE (R575). -/
def STATUS.RESERVE : Row := ⟨0x200004, 21, 12, .RO, 0x50, 1, 0x0, 1, 0x0, 0⟩
/-- CHIM.STATUS.FREE (R575). -/
def STATUS.FREE : Row := ⟨0x200004, 9, 0, .RO, 0x0, 1, 0x0, 1, 0x0, 0⟩
/-- CHIM.GRANTED.TOKENS (R576). -/
def GRANTED.TOKENS : Row := ⟨0x200008, 9, 0, .RO, 0x0, 1, 0x0, 1, 0x0, 0⟩
/-- CHIM.WAITING.BLOCKING (R576). -/
def WAITING.BLOCKING : Row := ⟨0x20000c, 31, 16, .RO, 0x0, 1, 0x0, 1, 0x0, 0⟩
/-- CHIM.WAITING.COUNT (R576). -/
def WAITING.COUNT : Row := ⟨0x20000c, 15, 0, .RO, 0x0, 1, 0x0, 1, 0x0, 0⟩
/-- CHIM.EVENT.TOO_LARGE (R576). -/
def EVENT.TOO_LARGE : Row := ⟨0x200010, 4, 4, .W1C, 0x0, 1, 0x0, 1, 0x0, 0⟩
/-- CHIM.EVENT.REFUSED (R576). -/
def EVENT.REFUSED : Row := ⟨0x200010, 3, 3, .W1C, 0x0, 1, 0x0, 1, 0x0, 0⟩
/-- CHIM.EVENT.REVOKED (R576). -/
def EVENT.REVOKED : Row := ⟨0x200010, 2, 2, .W1C, 0x0, 1, 0x0, 1, 0x0, 0⟩
/-- CHIM.EVENT.RESERVE_OVER (R576). -/
def EVENT.RESERVE_OVER : Row := ⟨0x200010, 1, 1, .W1C, 0x0, 1, 0x0, 1, 0x0, 0⟩
/-- CHIM.EVENT.SETTLED (R576). -/
def EVENT.SETTLED : Row := ⟨0x200010, 0, 0, .W1C, 0x0, 1, 0x0, 1, 0x0, 0⟩
/-- CHIM.IRQ_EN.TOO_LARGE_EN (R576). -/
def IRQ_EN.TOO_LARGE_EN : Row := ⟨0x200014, 4, 4, .RW, 0x0, 1, 0x0, 1, 0x0, 0⟩
/-- CHIM.IRQ_EN.REFUSED_EN (R576). -/
def IRQ_EN.REFUSED_EN : Row := ⟨0x200014, 3, 3, .RW, 0x0, 1, 0x0, 1, 0x0, 0⟩
/-- CHIM.IRQ_EN.REVOKED_EN (R576). -/
def IRQ_EN.REVOKED_EN : Row := ⟨0x200014, 2, 2, .RW, 0x0, 1, 0x0, 1, 0x0, 0⟩
/-- CHIM.IRQ_EN.RESERVE_OVER_EN (R576). -/
def IRQ_EN.RESERVE_OVER_EN : Row := ⟨0x200014, 1, 1, .RW, 0x0, 1, 0x0, 1, 0x0, 0⟩
/-- CHIM.IRQ_EN.SETTLED_EN (R576). -/
def IRQ_EN.SETTLED_EN : Row := ⟨0x200014, 0, 0, .RW, 0x0, 1, 0x0, 1, 0x0, 0⟩
/-- CHIM.CLASS.HELD (R577). -/
def CLASS.HELD : Row := ⟨0x200040, 25, 16, .RO, 0x0, 9, 0x4, 1, 0x0, 0⟩
/-- CHIM.CLASS.QUOTA (R577). -/
def CLASS.QUOTA : Row := ⟨0x200040, 9, 0, .RWT, 0x230, 9, 0x4, 1, 0x0, 0⟩

end R.CHIM

/-- Rows of the CHIM block, part 0. -/
def rowsCHIM0 : List Row := [R.CHIM.LIMITS.CEILING, R.CHIM.LIMITS.POOL, R.CHIM.STATUS.LAST_CODE, R.CHIM.STATUS.RESERVE, R.CHIM.STATUS.FREE, R.CHIM.GRANTED.TOKENS, R.CHIM.WAITING.BLOCKING, R.CHIM.WAITING.COUNT, R.CHIM.EVENT.TOO_LARGE, R.CHIM.EVENT.REFUSED, R.CHIM.EVENT.REVOKED, R.CHIM.EVENT.RESERVE_OVER, R.CHIM.EVENT.SETTLED, R.CHIM.IRQ_EN.TOO_LARGE_EN, R.CHIM.IRQ_EN.REFUSED_EN, R.CHIM.IRQ_EN.REVOKED_EN, R.CHIM.IRQ_EN.RESERVE_OVER_EN, R.CHIM.IRQ_EN.SETTLED_EN, R.CHIM.CLASS.HELD, R.CHIM.CLASS.QUOTA]
/-- All register rows of the CHIM block. -/
def rowsCHIM : List Row := rowsCHIM0

namespace R.THRM

/-- THRM.STATUS.MAX_TEMP (R578). -/
def STATUS.MAX_TEMP : Row := ⟨0x300000, 31, 16, .RO, 0x0, 1, 0x0, 1, 0x0, 0⟩
/-- THRM.STATUS.HOTTEST (R578). -/
def STATUS.HOTTEST : Row := ⟨0x300000, 15, 10, .RO, 0x0, 1, 0x0, 1, 0x0, 0⟩
/-- THRM.STATUS.FLOOR (R578). -/
def STATUS.FLOOR : Row := ⟨0x300000, 9, 9, .RO, 0x0, 1, 0x0, 1, 0x0, 0⟩
/-- THRM.STATUS.FAST (R578). -/
def STATUS.FAST : Row := ⟨0x300000, 8, 8, .RO, 0x0, 1, 0x0, 1, 0x0, 0⟩
/-- THRM.STATUS.LEVEL (R578). -/
def STATUS.LEVEL : Row := ⟨0x300000, 7, 5, .RO, 0x0, 1, 0x0, 1, 0x0, 0⟩
/-- THRM.STATUS.STEPS (R578). -/
def STATUS.STEPS : Row := ⟨0x300000, 4, 0, .RO, 0x0, 1, 0x0, 1, 0x0, 0⟩
/-- THRM.RISE.LAST_CODE (R578). -/
def RISE.LAST_CODE : Row := ⟨0x300004, 31, 16, .RO, 0x0, 1, 0x0, 1, 0x0, 0⟩
/-- THRM.RISE.RATE (R578). -/
def RISE.RATE : Row := ⟨0x300004, 15, 0, .RO, 0x0, 1, 0x0, 1, 0x0, 0⟩
/-- THRM.EVENT.NO_STEP (R579). -/
def EVENT.NO_STEP : Row := ⟨0x300008, 8, 8, .W1C, 0x0, 1, 0x0, 1, 0x0, 0⟩
/-- THRM.EVENT.SENSOR (R579). -/
def EVENT.SENSOR : Row := ⟨0x300008, 7, 7, .W1C, 0x0, 1, 0x0, 1, 0x0, 0⟩
/-- THRM.EVENT.RISE_WARN (R579). -/
def EVENT.RISE_WARN : Row := ⟨0x300008, 6, 6, .W1C, 0x0, 1, 0x0, 1, 0x0, 0⟩
/-- THRM.EVENT.STEP_UP (R579). -/
def EVENT.STEP_UP : Row := ⟨0x300008, 5, 5, .W1C, 0x0, 1, 0x0, 1, 0x0, 0⟩
/-- THRM.EVENT.STEP_DOWN (R579). -/
def EVENT.STEP_DOWN : Row := ⟨0x300008, 4, 4, .W1C, 0x0, 1, 0x0, 1, 0x0, 0⟩
/-- THRM.EVENT.EDGE (R579). -/
def EVENT.EDGE : Row := ⟨0x300008, 3, 3, .W1C, 0x0, 1, 0x0, 1, 0x0, 0⟩
/-- THRM.EVENT.THROTTLE (R579). -/
def EVENT.THROTTLE : Row := ⟨0x300008, 2, 2, .W1C, 0x0, 1, 0x0, 1, 0x0, 0⟩
/-- THRM.EVENT.WARN (R579). -/
def EVENT.WARN : Row := ⟨0x300008, 1, 1, .W1C, 0x0, 1, 0x0, 1, 0x0, 0⟩
/-- THRM.EVENT.CLEAR (R579). -/
def EVENT.CLEAR : Row := ⟨0x300008, 0, 0, .W1C, 0x0, 1, 0x0, 1, 0x0, 0⟩
/-- THRM.IRQ_EN.NO_STEP_EN (R579). -/
def IRQ_EN.NO_STEP_EN : Row := ⟨0x30000c, 8, 8, .RW, 0x0, 1, 0x0, 1, 0x0, 0⟩
/-- THRM.IRQ_EN.SENSOR_EN (R579). -/
def IRQ_EN.SENSOR_EN : Row := ⟨0x30000c, 7, 7, .RW, 0x0, 1, 0x0, 1, 0x0, 0⟩
/-- THRM.IRQ_EN.RISE_WARN_EN (R579). -/
def IRQ_EN.RISE_WARN_EN : Row := ⟨0x30000c, 6, 6, .RW, 0x0, 1, 0x0, 1, 0x0, 0⟩
/-- THRM.IRQ_EN.STEP_UP_EN (R579). -/
def IRQ_EN.STEP_UP_EN : Row := ⟨0x30000c, 5, 5, .RW, 0x0, 1, 0x0, 1, 0x0, 0⟩
/-- THRM.IRQ_EN.STEP_DOWN_EN (R579). -/
def IRQ_EN.STEP_DOWN_EN : Row := ⟨0x30000c, 4, 4, .RW, 0x0, 1, 0x0, 1, 0x0, 0⟩
/-- THRM.IRQ_EN.EDGE_EN (R579). -/
def IRQ_EN.EDGE_EN : Row := ⟨0x30000c, 3, 3, .RW, 0x0, 1, 0x0, 1, 0x0, 0⟩
/-- THRM.IRQ_EN.THROTTLE_EN (R579). -/
def IRQ_EN.THROTTLE_EN : Row := ⟨0x30000c, 2, 2, .RW, 0x0, 1, 0x0, 1, 0x0, 0⟩
/-- THRM.IRQ_EN.WARN_EN (R579). -/
def IRQ_EN.WARN_EN : Row := ⟨0x30000c, 1, 1, .RW, 0x0, 1, 0x0, 1, 0x0, 0⟩
/-- THRM.IRQ_EN.CLEAR_EN (R579). -/
def IRQ_EN.CLEAR_EN : Row := ⟨0x30000c, 0, 0, .RW, 0x0, 1, 0x0, 1, 0x0, 0⟩
/-- THRM.LIMITS.STEP_DOWN (R580). -/
def LIMITS.STEP_DOWN : Row := ⟨0x300010, 23, 16, .RWB, 0x91, 1, 0x0, 1, 0x0, 0⟩
/-- THRM.LIMITS.THROTTLE (R580). -/
def LIMITS.THROTTLE : Row := ⟨0x300010, 15, 8, .RWB, 0x8c, 1, 0x0, 1, 0x0, 0⟩
/-- THRM.LIMITS.WARN (R580). -/
def LIMITS.WARN : Row := ⟨0x300010, 7, 0, .RWB, 0x87, 1, 0x0, 1, 0x0, 0⟩
/-- THRM.TRIPS.COUNT (R580). -/
def TRIPS.COUNT : Row := ⟨0x300014, 31, 0, .RO, 0x0, 1, 0x0, 1, 0x0, 0⟩
/-- THRM.SENS.STATE (R581). -/
def SENS.STATE : Row := ⟨0x300100, 17, 16, .RO, 0x0, 48, 0x8, 1, 0x0, 0⟩
/-- THRM.SENS.TEMP (R581). -/
def SENS.TEMP : Row := ⟨0x300100, 15, 0, .RO, 0x0, 48, 0x8, 1, 0x0, 0⟩
/-- THRM.SENS_NBR.COUNT (R581). -/
def SENS_NBR.COUNT : Row := ⟨0x300104, 31, 30, .RO, 0x0, 48, 0x8, 1, 0x0, 6⟩
/-- THRM.SENS_NBR.NBR (R581). -/
def SENS_NBR.NBR : Row := ⟨0x300104, 23, 0, .RO, 0x0, 48, 0x8, 1, 0x0, 6⟩

end R.THRM

/-- Rows of the THRM block, part 0. -/
def rowsTHRM0 : List Row := [R.THRM.STATUS.MAX_TEMP, R.THRM.STATUS.HOTTEST, R.THRM.STATUS.FLOOR, R.THRM.STATUS.FAST, R.THRM.STATUS.LEVEL, R.THRM.STATUS.STEPS, R.THRM.RISE.LAST_CODE, R.THRM.RISE.RATE, R.THRM.EVENT.NO_STEP, R.THRM.EVENT.SENSOR, R.THRM.EVENT.RISE_WARN, R.THRM.EVENT.STEP_UP, R.THRM.EVENT.STEP_DOWN, R.THRM.EVENT.EDGE, R.THRM.EVENT.THROTTLE, R.THRM.EVENT.WARN, R.THRM.EVENT.CLEAR, R.THRM.IRQ_EN.NO_STEP_EN, R.THRM.IRQ_EN.SENSOR_EN, R.THRM.IRQ_EN.RISE_WARN_EN, R.THRM.IRQ_EN.STEP_UP_EN, R.THRM.IRQ_EN.STEP_DOWN_EN, R.THRM.IRQ_EN.EDGE_EN, R.THRM.IRQ_EN.THROTTLE_EN, R.THRM.IRQ_EN.WARN_EN, R.THRM.IRQ_EN.CLEAR_EN, R.THRM.LIMITS.STEP_DOWN, R.THRM.LIMITS.THROTTLE, R.THRM.LIMITS.WARN, R.THRM.TRIPS.COUNT, R.THRM.SENS.STATE, R.THRM.SENS.TEMP, R.THRM.SENS_NBR.COUNT, R.THRM.SENS_NBR.NBR]
/-- All register rows of the THRM block. -/
def rowsTHRM : List Row := rowsTHRM0

namespace R.CAL

/-- CAL.CTRL.FORCE_STOP (R602). -/
def CTRL.FORCE_STOP : Row := ⟨0x2900000, 31, 31, .WO, 0x0, 1, 0x0, 1, 0x0, 0⟩
/-- CAL.CTRL.RUN (R602). -/
def CTRL.RUN : Row := ⟨0x2900000, 13, 8, .WO, 0x0, 1, 0x0, 1, 0x0, 0⟩
/-- CAL.CTRL.ENABLE (R602). -/
def CTRL.ENABLE : Row := ⟨0x2900000, 0, 0, .RW, 0x1, 1, 0x0, 1, 0x0, 0⟩
/-- CAL.STATUS.LAST_CODE (R602). -/
def STATUS.LAST_CODE : Row := ⟨0x2900004, 31, 24, .RO, 0x0, 1, 0x0, 1, 0x0, 0⟩
/-- CAL.STATUS.RUNNING (R602). -/
def STATUS.RUNNING : Row := ⟨0x2900004, 13, 8, .RO, 0x0, 1, 0x0, 1, 0x0, 0⟩
/-- CAL.STATUS.STATE (R602). -/
def STATUS.STATE : Row := ⟨0x2900004, 1, 0, .RO, 0x1, 1, 0x0, 1, 0x0, 0⟩
/-- CAL.EVENT.VCP_DONE (R603). -/
def EVENT.VCP_DONE : Row := ⟨0x2900008, 5, 5, .W1C, 0x0, 1, 0x0, 1, 0x0, 0⟩
/-- CAL.EVENT.AGING (R603). -/
def EVENT.AGING : Row := ⟨0x2900008, 4, 4, .W1C, 0x0, 1, 0x0, 1, 0x0, 0⟩
/-- CAL.EVENT.REF (R603). -/
def EVENT.REF : Row := ⟨0x2900008, 3, 3, .W1C, 0x0, 1, 0x0, 1, 0x0, 0⟩
/-- CAL.EVENT.QUALITY_LOW (R603). -/
def EVENT.QUALITY_LOW : Row := ⟨0x2900008, 2, 2, .W1C, 0x0, 1, 0x0, 1, 0x0, 0⟩
/-- CAL.EVENT.ABORTED (R603). -/
def EVENT.ABORTED : Row := ⟨0x2900008, 1, 1, .W1C, 0x0, 1, 0x0, 1, 0x0, 0⟩
/-- CAL.EVENT.DONE (R603). -/
def EVENT.DONE : Row := ⟨0x2900008, 0, 0, .W1C, 0x0, 1, 0x0, 1, 0x0, 0⟩
/-- CAL.IRQ_EN.VCP_DONE_EN (R603). -/
def IRQ_EN.VCP_DONE_EN : Row := ⟨0x290000c, 5, 5, .RW, 0x0, 1, 0x0, 1, 0x0, 0⟩
/-- CAL.IRQ_EN.AGING_EN (R603). -/
def IRQ_EN.AGING_EN : Row := ⟨0x290000c, 4, 4, .RW, 0x0, 1, 0x0, 1, 0x0, 0⟩
/-- CAL.IRQ_EN.REF_EN (R603). -/
def IRQ_EN.REF_EN : Row := ⟨0x290000c, 3, 3, .RW, 0x0, 1, 0x0, 1, 0x0, 0⟩
/-- CAL.IRQ_EN.QUALITY_LOW_EN (R603). -/
def IRQ_EN.QUALITY_LOW_EN : Row := ⟨0x290000c, 2, 2, .RW, 0x0, 1, 0x0, 1, 0x0, 0⟩
/-- CAL.IRQ_EN.ABORTED_EN (R603). -/
def IRQ_EN.ABORTED_EN : Row := ⟨0x290000c, 1, 1, .RW, 0x0, 1, 0x0, 1, 0x0, 0⟩
/-- CAL.IRQ_EN.DONE_EN (R603). -/
def IRQ_EN.DONE_EN : Row := ⟨0x290000c, 0, 0, .RW, 0x0, 1, 0x0, 1, 0x0, 0⟩
/-- CAL.REF.PPS_OK (R604). -/
def REF.PPS_OK : Row := ⟨0x2900010, 31, 31, .RO, 0x0, 1, 0x0, 1, 0x0, 0⟩
/-- CAL.REF.VREF_OK (R604). -/
def REF.VREF_OK : Row := ⟨0x2900010, 30, 30, .RO, 0x0, 1, 0x0, 1, 0x0, 0⟩
/-- CAL.REF.VREF_MV10 (R604). -/
def REF.VREF_MV10 : Row := ⟨0x2900010, 29, 16, .RO, 0x0, 1, 0x0, 1, 0x0, 0⟩
/-- CAL.REF.REFCLK_PPB (R604). -/
def REF.REFCLK_PPB : Row := ⟨0x2900010, 15, 0, .RO, 0x0, 1, 0x0, 1, 0x0, 0⟩
/-- CAL.OSC.RESIDUAL_PPB (R604). -/
def OSC.RESIDUAL_PPB : Row := ⟨0x2900014, 31, 16, .RO, 0x0, 1, 0x0, 1, 0x0, 0⟩
/-- CAL.OSC.TRIM (R604). -/
def OSC.TRIM : Row := ⟨0x2900014, 15, 0, .RW, 0x0, 1, 0x0, 1, 0x0, 0⟩
/-- CAL.BLEND.TARGET (R604). -/
def BLEND.TARGET : Row := ⟨0x2900018, 16, 0, .RW, 0x0, 1, 0x0, 1, 0x0, 0⟩
/-- CAL.BLEND_STEP.STEP (R604). -/
def BLEND_STEP.STEP : Row := ⟨0x290001c, 15, 0, .RW, 0x40, 1, 0x0, 1, 0x0, 0⟩
/-- CAL.VCP_STATUS.CODE (R605). -/
def VCP_STATUS.CODE : Row := ⟨0x2900020, 31, 24, .RO, 0x0, 1, 0x0, 1, 0x0, 0⟩
/-- CAL.VCP_STATUS.SKIPPED (R605). -/
def VCP_STATUS.SKIPPED : Row := ⟨0x2900020, 23, 16, .RO, 0x0, 1, 0x0, 1, 0x0, 0⟩
/-- CAL.VCP_STATUS.STORED (R605). -/
def VCP_STATUS.STORED : Row := ⟨0x2900020, 1, 1, .RO, 0x0, 1, 0x0, 1, 0x0, 0⟩
/-- CAL.VCP_STATUS.BUSY (R605). -/
def VCP_STATUS.BUSY : Row := ⟨0x2900020, 0, 0, .RO, 0x0, 1, 0x0, 1, 0x0, 0⟩
/-- CAL.PAT_CTRL.SEL (R606). -/
def PAT_CTRL.SEL : Row := ⟨0x2900030, 31, 16, .RWT, 0x0, 1, 0x0, 1, 0x0, 0⟩
/-- CAL.PAT_CTRL.GAIN_BYPASS (R606). -/
def PAT_CTRL.GAIN_BYPASS : Row := ⟨0x2900030, 7, 7, .RWT, 0x0, 1, 0x0, 1, 0x0, 0⟩
/-- CAL.PAT_CTRL.CHANNELS (R606). -/
def PAT_CTRL.CHANNELS : Row := ⟨0x2900030, 6, 4, .RWT, 0x7, 1, 0x0, 1, 0x0, 0⟩
/-- CAL.PAT_CTRL.MODE (R606). -/
def PAT_CTRL.MODE : Row := ⟨0x2900030, 1, 0, .RWT, 0x0, 1, 0x0, 1, 0x0, 0⟩
/-- CAL.PAT_CODE.CODE (R606). -/
def PAT_CODE.CODE : Row := ⟨0x2900034, 11, 0, .RWT, 0x0, 1, 0x0, 1, 0x0, 0⟩
/-- CAL.SENS.GAIN (R605). -/
def SENS.GAIN : Row := ⟨0x2900100, 31, 16, .RW, 0x8000, 48, 0x4, 1, 0x0, 0⟩
/-- CAL.SENS.OFFSET (R605). -/
def SENS.OFFSET : Row := ⟨0x2900100, 15, 8, .RW, 0x0, 48, 0x4, 1, 0x0, 0⟩
/-- CAL.SENS.RESIDUAL (R605). -/
def SENS.RESIDUAL : Row := ⟨0x2900100, 7, 0, .RO, 0x0, 48, 0x4, 1, 0x0, 0⟩

end R.CAL

/-- Rows of the CAL block, part 0. -/
def rowsCAL0 : List Row := [R.CAL.CTRL.FORCE_STOP, R.CAL.CTRL.RUN, R.CAL.CTRL.ENABLE, R.CAL.STATUS.LAST_CODE, R.CAL.STATUS.RUNNING, R.CAL.STATUS.STATE, R.CAL.EVENT.VCP_DONE, R.CAL.EVENT.AGING, R.CAL.EVENT.REF, R.CAL.EVENT.QUALITY_LOW, R.CAL.EVENT.ABORTED, R.CAL.EVENT.DONE, R.CAL.IRQ_EN.VCP_DONE_EN, R.CAL.IRQ_EN.AGING_EN, R.CAL.IRQ_EN.REF_EN, R.CAL.IRQ_EN.QUALITY_LOW_EN, R.CAL.IRQ_EN.ABORTED_EN, R.CAL.IRQ_EN.DONE_EN, R.CAL.REF.PPS_OK, R.CAL.REF.VREF_OK, R.CAL.REF.VREF_MV10, R.CAL.REF.REFCLK_PPB, R.CAL.OSC.RESIDUAL_PPB, R.CAL.OSC.TRIM, R.CAL.BLEND.TARGET, R.CAL.BLEND_STEP.STEP, R.CAL.VCP_STATUS.CODE, R.CAL.VCP_STATUS.SKIPPED, R.CAL.VCP_STATUS.STORED, R.CAL.VCP_STATUS.BUSY, R.CAL.PAT_CTRL.SEL, R.CAL.PAT_CTRL.GAIN_BYPASS, R.CAL.PAT_CTRL.CHANNELS, R.CAL.PAT_CTRL.MODE, R.CAL.PAT_CODE.CODE, R.CAL.SENS.GAIN, R.CAL.SENS.OFFSET, R.CAL.SENS.RESIDUAL]
/-- All register rows of the CAL block. -/
def rowsCAL : List Row := rowsCAL0

namespace R.HLTH

/-- HLTH.EVENT.TELEM_SKIPPED (R726). -/
def EVENT.TELEM_SKIPPED : Row := ⟨0x2a00000, 9, 9, .W1C, 0x0, 1, 0x0, 1, 0x0, 0⟩
/-- HLTH.EVENT.DRIP_DRAINED (R726). -/
def EVENT.DRIP_DRAINED : Row := ⟨0x2a00000, 8, 8, .W1C, 0x0, 1, 0x0, 1, 0x0, 0⟩
/-- HLTH.EVENT.DRIP_LATE (R726). -/
def EVENT.DRIP_LATE : Row := ⟨0x2a00000, 7, 7, .W1C, 0x0, 1, 0x0, 1, 0x0, 0⟩
/-- HLTH.EVENT.DRIP_UNCORR (R726). -/
def EVENT.DRIP_UNCORR : Row := ⟨0x2a00000, 6, 6, .W1C, 0x0, 1, 0x0, 1, 0x0, 0⟩
/-- HLTH.EVENT.SUMP_WRAPPED (R726). -/
def EVENT.SUMP_WRAPPED : Row := ⟨0x2a00000, 5, 5, .W1C, 0x0, 1, 0x0, 1, 0x0, 0⟩
/-- HLTH.EVENT.RESTORED (R726). -/
def EVENT.RESTORED : Row := ⟨0x2a00000, 4, 4, .W1C, 0x0, 1, 0x0, 1, 0x0, 0⟩
/-- HLTH.EVENT.CROSSED (R726). -/
def EVENT.CROSSED : Row := ⟨0x2a00000, 3, 3, .W1C, 0x0, 1, 0x0, 1, 0x0, 0⟩
/-- HLTH.EVENT.BUCKET (R726). -/
def EVENT.BUCKET : Row := ⟨0x2a00000, 2, 2, .W1C, 0x0, 1, 0x0, 1, 0x0, 0⟩
/-- HLTH.EVENT.OVF (R726). -/
def EVENT.OVF : Row := ⟨0x2a00000, 1, 1, .W1C, 0x0, 1, 0x0, 1, 0x0, 0⟩
/-- HLTH.EVENT.THRESH (R726). -/
def EVENT.THRESH : Row := ⟨0x2a00000, 0, 0, .W1C, 0x0, 1, 0x0, 1, 0x0, 0⟩
/-- HLTH.IRQ_EN.TELEM_SKIPPED_EN (R726). -/
def IRQ_EN.TELEM_SKIPPED_EN : Row := ⟨0x2a00004, 9, 9, .RW, 0x0, 1, 0x0, 1, 0x0, 0⟩
/-- HLTH.IRQ_EN.DRIP_DRAINED_EN (R726). -/
def IRQ_EN.DRIP_DRAINED_EN : Row := ⟨0x2a00004, 8, 8, .RW, 0x0, 1, 0x0, 1, 0x0, 0⟩
/-- HLTH.IRQ_EN.DRIP_LATE_EN (R726). -/
def IRQ_EN.DRIP_LATE_EN : Row := ⟨0x2a00004, 7, 7, .RW, 0x0, 1, 0x0, 1, 0x0, 0⟩
/-- HLTH.IRQ_EN.DRIP_UNCORR_EN (R726). -/
def IRQ_EN.DRIP_UNCORR_EN : Row := ⟨0x2a00004, 6, 6, .RW, 0x0, 1, 0x0, 1, 0x0, 0⟩
/-- HLTH.IRQ_EN.SUMP_WRAPPED_EN (R726). -/
def IRQ_EN.SUMP_WRAPPED_EN : Row := ⟨0x2a00004, 5, 5, .RW, 0x0, 1, 0x0, 1, 0x0, 0⟩
/-- HLTH.IRQ_EN.RESTORED_EN (R726). -/
def IRQ_EN.RESTORED_EN : Row := ⟨0x2a00004, 4, 4, .RW, 0x0, 1, 0x0, 1, 0x0, 0⟩
/-- HLTH.IRQ_EN.CROSSED_EN (R726). -/
def IRQ_EN.CROSSED_EN : Row := ⟨0x2a00004, 3, 3, .RW, 0x0, 1, 0x0, 1, 0x0, 0⟩
/-- HLTH.IRQ_EN.BUCKET_EN (R726). -/
def IRQ_EN.BUCKET_EN : Row := ⟨0x2a00004, 2, 2, .RW, 0x0, 1, 0x0, 1, 0x0, 0⟩
/-- HLTH.IRQ_EN.OVF_EN (R726). -/
def IRQ_EN.OVF_EN : Row := ⟨0x2a00004, 1, 1, .RW, 0x0, 1, 0x0, 1, 0x0, 0⟩
/-- HLTH.IRQ_EN.THRESH_EN (R726). -/
def IRQ_EN.THRESH_EN : Row := ⟨0x2a00004, 0, 0, .RW, 0x0, 1, 0x0, 1, 0x0, 0⟩
/-- HLTH.STATUS.LAST_CODE (R727). -/
def STATUS.LAST_CODE : Row := ⟨0x2a00008, 31, 24, .RO, 0x0, 1, 0x0, 1, 0x0, 0⟩
/-- HLTH.STATUS.SUMP_FILL (R727). -/
def STATUS.SUMP_FILL : Row := ⟨0x2a00008, 12, 0, .RO, 0x0, 1, 0x0, 1, 0x0, 0⟩
/-- HLTH.SUMP_SEQ.SEQ (R727). -/
def SUMP_SEQ.SEQ : Row := ⟨0x2a0000c, 31, 0, .RO, 0x0, 1, 0x0, 1, 0x0, 0⟩
/-- HLTH.BKT_SEL.SNAP_DONE (R728). -/
def BKT_SEL.SNAP_DONE : Row := ⟨0x2a00010, 31, 31, .RO, 0x0, 1, 0x0, 1, 0x0, 0⟩
/-- HLTH.BKT_SEL.KIND (R728). -/
def BKT_SEL.KIND : Row := ⟨0x2a00010, 27, 24, .RW, 0x1, 1, 0x0, 1, 0x0, 0⟩
/-- HLTH.BKT_SEL.UNIT (R728). -/
def BKT_SEL.UNIT : Row := ⟨0x2a00010, 15, 0, .RW, 0x0, 1, 0x0, 1, 0x0, 0⟩
/-- HLTH.BKT_DATA.LEVEL (R728). -/
def BKT_DATA.LEVEL : Row := ⟨0x2a00014, 31, 16, .RO, 0x0, 1, 0x0, 1, 0x0, 0⟩
/-- HLTH.BKT_DATA.STATE (R728). -/
def BKT_DATA.STATE : Row := ⟨0x2a00014, 15, 14, .RO, 0x0, 1, 0x0, 1, 0x0, 0⟩
/-- HLTH.SUMP_SEL.SNAP_DONE (R728). -/
def SUMP_SEL.SNAP_DONE : Row := ⟨0x2a00020, 31, 31, .RO, 0x0, 1, 0x0, 1, 0x0, 0⟩
/-- HLTH.SUMP_SEL.INDEX (R728). -/
def SUMP_SEL.INDEX : Row := ⟨0x2a00020, 11, 0, .RW, 0x0, 1, 0x0, 1, 0x0, 0⟩
/-- HLTH.SNAP_TICK.TICK_LO (R727). -/
def SNAP_TICK.TICK_LO : Row := ⟨0x2a00024, 31, 0, .RO, 0x0, 1, 0x0, 1, 0x0, 0⟩
/-- HLTH.SUMP_DATA.DATA (R728). -/
def SUMP_DATA.DATA : Row := ⟨0x2a00040, 31, 0, .RO, 0x0, 8, 0x4, 1, 0x0, 0⟩
/-- HLTH.DRIP_CTRL.FORCE_STOP (R729). -/
def DRIP_CTRL.FORCE_STOP : Row := ⟨0x2a00080, 31, 31, .WO, 0x0, 1, 0x0, 1, 0x0, 0⟩
/-- HLTH.DRIP_CTRL.ENABLE (R729). -/
def DRIP_CTRL.ENABLE : Row := ⟨0x2a00080, 0, 0, .RW, 0x1, 1, 0x0, 1, 0x0, 0⟩
/-- HLTH.DRIP_STATUS.LAST_CODE (R729). -/
def DRIP_STATUS.LAST_CODE : Row := ⟨0x2a00084, 31, 24, .RO, 0x0, 1, 0x0, 1, 0x0, 0⟩
/-- HLTH.DRIP_STATUS.RUNNING (R729). -/
def DRIP_STATUS.RUNNING : Row := ⟨0x2a00084, 10, 8, .RO, 0x0, 1, 0x0, 1, 0x0, 0⟩
/-- HLTH.DRIP_STATUS.WAITING (R729). -/
def DRIP_STATUS.WAITING : Row := ⟨0x2a00084, 7, 5, .RO, 0x0, 1, 0x0, 1, 0x0, 0⟩
/-- HLTH.DRIP_STATUS.STATE (R729). -/
def DRIP_STATUS.STATE : Row := ⟨0x2a00084, 1, 0, .RO, 0x1, 1, 0x0, 1, 0x0, 0⟩
/-- HLTH.DRIP_DRAM_POS_LO.POS (R729). -/
def DRIP_DRAM_POS_LO.POS : Row := ⟨0x2a00088, 31, 0, .RO, 0x0, 1, 0x0, 1, 0x0, 0⟩
/-- HLTH.DRIP_DRAM_POS_HI.POS (R729). -/
def DRIP_DRAM_POS_HI.POS : Row := ⟨0x2a0008c, 31, 0, .RO, 0x0, 1, 0x0, 1, 0x0, 0⟩
/-- HLTH.DRIP_GROT_POS.POS (R729). -/
def DRIP_GROT_POS.POS : Row := ⟨0x2a00090, 31, 0, .RO, 0x0, 1, 0x0, 1, 0x0, 0⟩
/-- HLTH.DRIP_NOR_POS.POS (R729). -/
def DRIP_NOR_POS.POS : Row := ⟨0x2a00094, 31, 0, .RO, 0x0, 1, 0x0, 1, 0x0, 0⟩
/-- HLTH.TELEM_CTRL.DIVIDE (R730). -/
def TELEM_CTRL.DIVIDE : Row := ⟨0x2a000a0, 15, 8, .RW, 0x1, 1, 0x0, 1, 0x0, 0⟩
/-- HLTH.TELEM_CTRL.COUNT_LOG2 (R730). -/
def TELEM_CTRL.COUNT_LOG2 : Row := ⟨0x2a000a0, 7, 4, .RW, 0x1, 1, 0x0, 1, 0x0, 0⟩
/-- HLTH.TELEM_CTRL.ENABLE (R730). -/
def TELEM_CTRL.ENABLE : Row := ⟨0x2a000a0, 0, 0, .RW, 0x0, 1, 0x0, 1, 0x0, 0⟩
/-- HLTH.TELEM_BASE_LO.BASE (R730). -/
def TELEM_BASE_LO.BASE : Row := ⟨0x2a000a4, 31, 12, .RW, 0x0, 1, 0x0, 1, 0x0, 0⟩
/-- HLTH.TELEM_BASE_HI.BASE (R730). -/
def TELEM_BASE_HI.BASE : Row := ⟨0x2a000a8, 3, 0, .RW, 0x0, 1, 0x0, 1, 0x0, 0⟩
/-- HLTH.TELEM_HEAD.SLOT (R730). -/
def TELEM_HEAD.SLOT : Row := ⟨0x2a000ac, 11, 0, .RO, 0x0, 1, 0x0, 1, 0x0, 0⟩
/-- HLTH.DRIP_CNT.COUNT (R729). -/
def DRIP_CNT.COUNT : Row := ⟨0x2a000c0, 31, 0, .RO, 0x0, 7, 0x4, 1, 0x0, 0⟩
/-- HLTH.CNT_CTRL.ENABLE (R731). -/
def CNT_CTRL.ENABLE : Row := ⟨0x2a01000, 31, 31, .RWT, 0x0, 64, 0x10, 1, 0x0, 0⟩
/-- HLTH.CNT_CTRL.THRESH_IRQ (R731). -/
def CNT_CTRL.THRESH_IRQ : Row := ⟨0x2a01000, 30, 30, .RW, 0x0, 64, 0x10, 1, 0x0, 0⟩
/-- HLTH.CNT_CTRL.OVF (R731). -/
def CNT_CTRL.OVF : Row := ⟨0x2a01000, 29, 29, .W1C, 0x0, 64, 0x10, 1, 0x0, 0⟩
/-- HLTH.CNT_CTRL.SRC (R731). -/
def CNT_CTRL.SRC : Row := ⟨0x2a01000, 8, 0, .RWT, 0x0, 64, 0x10, 1, 0x0, 0⟩
/-- HLTH.CNT_VALUE.COUNT (R731). -/
def CNT_VALUE.COUNT : Row := ⟨0x2a01004, 31, 0, .RW, 0x0, 64, 0x10, 1, 0x0, 0⟩
/-- HLTH.CNT_SNAP.COUNT (R731). -/
def CNT_SNAP.COUNT : Row := ⟨0x2a01008, 31, 0, .RO, 0x0, 64, 0x10, 1, 0x0, 0⟩
/-- HLTH.CNT_THRESH.THRESH (R731). -/
def CNT_THRESH.THRESH : Row := ⟨0x2a0100c, 31, 0, .RW, 0xffffffff, 64, 0x10, 1, 0x0, 0⟩

end R.HLTH

/-- Rows of the HLTH block, part 0. -/
def rowsHLTH0 : List Row := [R.HLTH.EVENT.TELEM_SKIPPED, R.HLTH.EVENT.DRIP_DRAINED, R.HLTH.EVENT.DRIP_LATE, R.HLTH.EVENT.DRIP_UNCORR, R.HLTH.EVENT.SUMP_WRAPPED, R.HLTH.EVENT.RESTORED, R.HLTH.EVENT.CROSSED, R.HLTH.EVENT.BUCKET, R.HLTH.EVENT.OVF, R.HLTH.EVENT.THRESH, R.HLTH.IRQ_EN.TELEM_SKIPPED_EN, R.HLTH.IRQ_EN.DRIP_DRAINED_EN, R.HLTH.IRQ_EN.DRIP_LATE_EN, R.HLTH.IRQ_EN.DRIP_UNCORR_EN, R.HLTH.IRQ_EN.SUMP_WRAPPED_EN, R.HLTH.IRQ_EN.RESTORED_EN, R.HLTH.IRQ_EN.CROSSED_EN, R.HLTH.IRQ_EN.BUCKET_EN, R.HLTH.IRQ_EN.OVF_EN, R.HLTH.IRQ_EN.THRESH_EN, R.HLTH.STATUS.LAST_CODE, R.HLTH.STATUS.SUMP_FILL, R.HLTH.SUMP_SEQ.SEQ, R.HLTH.BKT_SEL.SNAP_DONE, R.HLTH.BKT_SEL.KIND, R.HLTH.BKT_SEL.UNIT, R.HLTH.BKT_DATA.LEVEL, R.HLTH.BKT_DATA.STATE, R.HLTH.SUMP_SEL.SNAP_DONE, R.HLTH.SUMP_SEL.INDEX, R.HLTH.SNAP_TICK.TICK_LO, R.HLTH.SUMP_DATA.DATA, R.HLTH.DRIP_CTRL.FORCE_STOP, R.HLTH.DRIP_CTRL.ENABLE, R.HLTH.DRIP_STATUS.LAST_CODE, R.HLTH.DRIP_STATUS.RUNNING, R.HLTH.DRIP_STATUS.WAITING, R.HLTH.DRIP_STATUS.STATE, R.HLTH.DRIP_DRAM_POS_LO.POS, R.HLTH.DRIP_DRAM_POS_HI.POS]
/-- Rows of the HLTH block, part 1. -/
def rowsHLTH1 : List Row := [R.HLTH.DRIP_GROT_POS.POS, R.HLTH.DRIP_NOR_POS.POS, R.HLTH.TELEM_CTRL.DIVIDE, R.HLTH.TELEM_CTRL.COUNT_LOG2, R.HLTH.TELEM_CTRL.ENABLE, R.HLTH.TELEM_BASE_LO.BASE, R.HLTH.TELEM_BASE_HI.BASE, R.HLTH.TELEM_HEAD.SLOT, R.HLTH.DRIP_CNT.COUNT, R.HLTH.CNT_CTRL.ENABLE, R.HLTH.CNT_CTRL.THRESH_IRQ, R.HLTH.CNT_CTRL.OVF, R.HLTH.CNT_CTRL.SRC, R.HLTH.CNT_VALUE.COUNT, R.HLTH.CNT_SNAP.COUNT, R.HLTH.CNT_THRESH.THRESH]
/-- All register rows of the HLTH block. -/
def rowsHLTH : List Row := rowsHLTH0 ++ rowsHLTH1

namespace R.PERF

/-- PERF.OVF.OVF (R732). -/
def OVF.OVF : Row := ⟨0x2b00000, 31, 0, .W1C, 0x0, 1, 0x0, 1, 0x0, 0⟩
/-- PERF.OVF_IRQ_EN.EN (R732). -/
def OVF_IRQ_EN.EN : Row := ⟨0x2b00004, 31, 0, .RW, 0x0, 1, 0x0, 1, 0x0, 0⟩
/-- PERF.LOST.LOST (R732). -/
def LOST.LOST : Row := ⟨0x2b00008, 31, 0, .W1C, 0x0, 1, 0x0, 1, 0x0, 0⟩
/-- PERF.GLOBAL_CTRL.RESET_ALL (R732). -/
def GLOBAL_CTRL.RESET_ALL : Row := ⟨0x2b0000c, 31, 31, .WO, 0x0, 1, 0x0, 1, 0x0, 0⟩
/-- PERF.GLOBAL_CTRL.FREEZE (R732). -/
def GLOBAL_CTRL.FREEZE : Row := ⟨0x2b0000c, 0, 0, .RW, 0x0, 1, 0x0, 1, 0x0, 0⟩
/-- PERF.SNAP_TICK.TICK_LO (R732). -/
def SNAP_TICK.TICK_LO : Row := ⟨0x2b00010, 31, 0, .RO, 0x0, 1, 0x0, 1, 0x0, 0⟩
/-- PERF.CNT_CTRL.ENABLE (R733). -/
def CNT_CTRL.ENABLE : Row := ⟨0x2b01000, 31, 31, .RWT, 0x0, 32, 0x40, 1, 0x0, 0⟩
/-- PERF.CNT_CTRL.CHAIN (R733). -/
def CNT_CTRL.CHAIN : Row := ⟨0x2b01000, 30, 30, .RWT, 0x0, 32, 0x40, 1, 0x0, 0⟩
/-- PERF.CNT_CTRL.PRIV (R733). -/
def CNT_CTRL.PRIV : Row := ⟨0x2b01000, 28, 26, .RWT, 0x7, 32, 0x40, 1, 0x0, 0⟩
/-- PERF.CNT_CTRL.ADDR_EN (R733). -/
def CNT_CTRL.ADDR_EN : Row := ⟨0x2b01000, 25, 25, .RWT, 0x0, 32, 0x40, 1, 0x0, 0⟩
/-- PERF.CNT_CTRL.MASTER_EN (R733). -/
def CNT_CTRL.MASTER_EN : Row := ⟨0x2b01000, 24, 24, .RWT, 0x0, 32, 0x40, 1, 0x0, 0⟩
/-- PERF.CNT_CTRL.CLASS (R733). -/
def CNT_CTRL.CLASS : Row := ⟨0x2b01000, 23, 16, .RWT, 0xff, 32, 0x40, 1, 0x0, 0⟩
/-- PERF.CNT_CTRL.EVENT (R733). -/
def CNT_CTRL.EVENT : Row := ⟨0x2b01000, 7, 0, .RWT, 0x0, 32, 0x40, 1, 0x0, 0⟩
/-- PERF.CNT_FILT_MASTER.MASK (R734). -/
def CNT_FILT_MASTER.MASK : Row := ⟨0x2b01004, 31, 16, .RWT, 0x0, 32, 0x40, 1, 0x0, 0⟩
/-- PERF.CNT_FILT_MASTER.ID (R734). -/
def CNT_FILT_MASTER.ID : Row := ⟨0x2b01004, 15, 0, .RWT, 0x0, 32, 0x40, 1, 0x0, 0⟩
/-- PERF.CNT_FILT_BASE_LO.BASE (R734). -/
def CNT_FILT_BASE_LO.BASE : Row := ⟨0x2b01008, 31, 0, .RWT, 0x0, 32, 0x40, 1, 0x0, 0⟩
/-- PERF.CNT_FILT_BASE_HI.BASE (R734). -/
def CNT_FILT_BASE_HI.BASE : Row := ⟨0x2b0100c, 3, 0, .RWT, 0x0, 32, 0x40, 1, 0x0, 0⟩
/-- PERF.CNT_FILT_END_LO.END (R734). -/
def CNT_FILT_END_LO.END : Row := ⟨0x2b01010, 31, 0, .RWT, 0x0, 32, 0x40, 1, 0x0, 0⟩
/-- PERF.CNT_FILT_END_HI.END (R734). -/
def CNT_FILT_END_HI.END : Row := ⟨0x2b01014, 3, 0, .RWT, 0x0, 32, 0x40, 1, 0x0, 0⟩
/-- PERF.CNT_VALUE_LO.VALUE (R734). -/
def CNT_VALUE_LO.VALUE : Row := ⟨0x2b01018, 31, 0, .RW, 0x0, 32, 0x40, 1, 0x0, 0⟩
/-- PERF.CNT_VALUE_HI.VALUE (R734). -/
def CNT_VALUE_HI.VALUE : Row := ⟨0x2b0101c, 15, 0, .RW, 0x0, 32, 0x40, 1, 0x0, 0⟩
/-- PERF.CNT_SNAP_LO.SNAP (R734). -/
def CNT_SNAP_LO.SNAP : Row := ⟨0x2b01020, 31, 0, .RO, 0x0, 32, 0x40, 1, 0x0, 0⟩
/-- PERF.CNT_SNAP_HI.SNAP (R734). -/
def CNT_SNAP_HI.SNAP : Row := ⟨0x2b01024, 15, 0, .RO, 0x0, 32, 0x40, 1, 0x0, 0⟩

end R.PERF

/-- Rows of the PERF block, part 0. -/
def rowsPERF0 : List Row := [R.PERF.OVF.OVF, R.PERF.OVF_IRQ_EN.EN, R.PERF.LOST.LOST, R.PERF.GLOBAL_CTRL.RESET_ALL, R.PERF.GLOBAL_CTRL.FREEZE, R.PERF.SNAP_TICK.TICK_LO, R.PERF.CNT_CTRL.ENABLE, R.PERF.CNT_CTRL.CHAIN, R.PERF.CNT_CTRL.PRIV, R.PERF.CNT_CTRL.ADDR_EN, R.PERF.CNT_CTRL.MASTER_EN, R.PERF.CNT_CTRL.CLASS, R.PERF.CNT_CTRL.EVENT, R.PERF.CNT_FILT_MASTER.MASK, R.PERF.CNT_FILT_MASTER.ID, R.PERF.CNT_FILT_BASE_LO.BASE, R.PERF.CNT_FILT_BASE_HI.BASE, R.PERF.CNT_FILT_END_LO.END, R.PERF.CNT_FILT_END_HI.END, R.PERF.CNT_VALUE_LO.VALUE, R.PERF.CNT_VALUE_HI.VALUE, R.PERF.CNT_SNAP_LO.SNAP, R.PERF.CNT_SNAP_HI.SNAP]
/-- All register rows of the PERF block. -/
def rowsPERF : List Row := rowsPERF0

namespace R.LANT

/-- LANT.STATUS.LAST_CODE (R691). -/
def STATUS.LAST_CODE : Row := ⟨0x2c00000, 31, 24, .RO, 0x0, 1, 0x0, 1, 0x0, 0⟩
/-- LANT.STATUS.PWREN_DRAM (R691). -/
def STATUS.PWREN_DRAM : Row := ⟨0x2c00000, 1, 1, .RO, 0x1, 1, 0x0, 1, 0x0, 0⟩
/-- LANT.STATUS.PWREN_CORE (R691). -/
def STATUS.PWREN_CORE : Row := ⟨0x2c00000, 0, 0, .RO, 0x1, 1, 0x0, 1, 0x0, 0⟩
/-- LANT.EVENT.GLOW_NOT_READY (R692). -/
def EVENT.GLOW_NOT_READY : Row := ⟨0x2c00004, 6, 6, .W1C, 0x0, 1, 0x0, 1, 0x0, 0⟩
/-- LANT.EVENT.RECOVERED (R692). -/
def EVENT.RECOVERED : Row := ⟨0x2c00004, 5, 5, .W1C, 0x0, 1, 0x0, 1, 0x0, 0⟩
/-- LANT.EVENT.BAND_SLIP (R692). -/
def EVENT.BAND_SLIP : Row := ⟨0x2c00004, 4, 4, .W1C, 0x0, 1, 0x0, 1, 0x0, 0⟩
/-- LANT.EVENT.LABEL_END (R692). -/
def EVENT.LABEL_END : Row := ⟨0x2c00004, 3, 3, .W1C, 0x0, 1, 0x0, 1, 0x0, 0⟩
/-- LANT.EVENT.WAKE_TIMEOUT (R692). -/
def EVENT.WAKE_TIMEOUT : Row := ⟨0x2c00004, 2, 2, .W1C, 0x0, 1, 0x0, 1, 0x0, 0⟩
/-- LANT.EVENT.WAKE (R692). -/
def EVENT.WAKE : Row := ⟨0x2c00004, 1, 1, .W1C, 0x0, 1, 0x0, 1, 0x0, 0⟩
/-- LANT.EVENT.ALARM (R692). -/
def EVENT.ALARM : Row := ⟨0x2c00004, 0, 0, .W1C, 0x0, 1, 0x0, 1, 0x0, 0⟩
/-- LANT.IRQ_EN.GLOW_NOT_READY_EN (R692). -/
def IRQ_EN.GLOW_NOT_READY_EN : Row := ⟨0x2c00008, 6, 6, .RW, 0x0, 1, 0x0, 1, 0x0, 0⟩
/-- LANT.IRQ_EN.RECOVERED_EN (R692). -/
def IRQ_EN.RECOVERED_EN : Row := ⟨0x2c00008, 5, 5, .RW, 0x0, 1, 0x0, 1, 0x0, 0⟩
/-- LANT.IRQ_EN.BAND_SLIP_EN (R692). -/
def IRQ_EN.BAND_SLIP_EN : Row := ⟨0x2c00008, 4, 4, .RW, 0x0, 1, 0x0, 1, 0x0, 0⟩
/-- LANT.IRQ_EN.LABEL_END_EN (R692). -/
def IRQ_EN.LABEL_END_EN : Row := ⟨0x2c00008, 3, 3, .RW, 0x0, 1, 0x0, 1, 0x0, 0⟩
/-- LANT.IRQ_EN.WAKE_TIMEOUT_EN (R692). -/
def IRQ_EN.WAKE_TIMEOUT_EN : Row := ⟨0x2c00008, 2, 2, .RW, 0x0, 1, 0x0, 1, 0x0, 0⟩
/-- LANT.IRQ_EN.WAKE_EN (R692). -/
def IRQ_EN.WAKE_EN : Row := ⟨0x2c00008, 1, 1, .RW, 0x0, 1, 0x0, 1, 0x0, 0⟩
/-- LANT.IRQ_EN.ALARM_EN (R692). -/
def IRQ_EN.ALARM_EN : Row := ⟨0x2c00008, 0, 0, .RW, 0x0, 1, 0x0, 1, 0x0, 0⟩
/-- LANT.WAKE.FAILS (R691). -/
def WAKE.FAILS : Row := ⟨0x2c00010, 31, 16, .RO, 0x0, 1, 0x0, 1, 0x0, 0⟩
/-- LANT.WAKE.PENDING (R691). -/
def WAKE.PENDING : Row := ⟨0x2c00010, 10, 8, .W1C, 0x0, 1, 0x0, 1, 0x0, 0⟩
/-- LANT.WAKE.CAUSE (R691). -/
def WAKE.CAUSE : Row := ⟨0x2c00010, 5, 4, .RO, 0x0, 1, 0x0, 1, 0x0, 0⟩
/-- LANT.WAKE.SUPPLY_EN (R691). -/
def WAKE.SUPPLY_EN : Row := ⟨0x2c00010, 2, 2, .RW, 0x0, 1, 0x0, 1, 0x0, 0⟩
/-- LANT.WAKE.ALARM_EN (R691). -/
def WAKE.ALARM_EN : Row := ⟨0x2c00010, 1, 1, .RW, 0x0, 1, 0x0, 1, 0x0, 0⟩
/-- LANT.WAKE.PIN_EN (R691). -/
def WAKE.PIN_EN : Row := ⟨0x2c00010, 0, 0, .RW, 0x1, 1, 0x0, 1, 0x0, 0⟩
/-- LANT.PWR_CTRL.WAKE_TIMEOUT (R693). -/
def PWR_CTRL.WAKE_TIMEOUT : Row := ⟨0x2c00014, 31, 16, .RW, 0x3e8, 1, 0x0, 1, 0x0, 0⟩
/-- LANT.PWR_CTRL.OFF_DELAY (R693). -/
def PWR_CTRL.OFF_DELAY : Row := ⟨0x2c00014, 15, 8, .RW, 0xa, 1, 0x0, 1, 0x0, 0⟩
/-- LANT.PWR_CTRL.DRAM_OFF (R693). -/
def PWR_CTRL.DRAM_OFF : Row := ⟨0x2c00014, 1, 1, .RW, 0x1, 1, 0x0, 1, 0x0, 0⟩
/-- LANT.PWR_CTRL.CORE_OFF (R693). -/
def PWR_CTRL.CORE_OFF : Row := ⟨0x2c00014, 0, 0, .RW, 0x1, 1, 0x0, 1, 0x0, 0⟩
/-- LANT.RTC_SUB.SUB (R693). -/
def RTC_SUB.SUB : Row := ⟨0x2c00020, 14, 0, .RO, 0x0, 1, 0x0, 1, 0x0, 0⟩
/-- LANT.RTC_SEC_LO.SEC (R693). -/
def RTC_SEC_LO.SEC : Row := ⟨0x2c00024, 31, 0, .RW, 0x0, 1, 0x0, 1, 0x0, 0⟩
/-- LANT.RTC_SEC_HI.SEC (R693). -/
def RTC_SEC_HI.SEC : Row := ⟨0x2c00028, 15, 0, .RW, 0x0, 1, 0x0, 1, 0x0, 0⟩
/-- LANT.ALARM_LO.SEC (R693). -/
def ALARM_LO.SEC : Row := ⟨0x2c0002c, 31, 0, .RW, 0x0, 1, 0x0, 1, 0x0, 0⟩
/-- LANT.ALARM_HI.SEC (R693). -/
def ALARM_HI.SEC : Row := ⟨0x2c00030, 15, 0, .RW, 0x0, 1, 0x0, 1, 0x0, 0⟩
/-- LANT.LABEL_CTRL.FORCE_STOP (R695). -/
def LABEL_CTRL.FORCE_STOP : Row := ⟨0x2c00040, 31, 31, .WO, 0x0, 1, 0x0, 1, 0x0, 0⟩
/-- LANT.LABEL_CTRL.ENABLE (R695). -/
def LABEL_CTRL.ENABLE : Row := ⟨0x2c00040, 0, 0, .RW, 0x1, 1, 0x0, 1, 0x0, 0⟩
/-- LANT.LABEL_STATUS.CODE (R695). -/
def LABEL_STATUS.CODE : Row := ⟨0x2c00044, 31, 24, .RO, 0x0, 1, 0x0, 1, 0x0, 0⟩
/-- LANT.LABEL_STATUS.PHASE (R695). -/
def LABEL_STATUS.PHASE : Row := ⟨0x2c00044, 23, 16, .RO, 0x0, 1, 0x0, 1, 0x0, 0⟩
/-- LANT.LABEL_STATUS.BAND (R695). -/
def LABEL_STATUS.BAND : Row := ⟨0x2c00044, 15, 13, .RO, 0x0, 1, 0x0, 1, 0x0, 0⟩
/-- LANT.LABEL_STATUS.TEMP_FAULT (R695). -/
def LABEL_STATUS.TEMP_FAULT : Row := ⟨0x2c00044, 12, 12, .RO, 0x0, 1, 0x0, 1, 0x0, 0⟩
/-- LANT.LABEL_STATUS.BAND_SLIP (R695). -/
def LABEL_STATUS.BAND_SLIP : Row := ⟨0x2c00044, 11, 11, .RO, 0x0, 1, 0x0, 1, 0x0, 0⟩
/-- LANT.LABEL_STATUS.FORCE_FULL (R695). -/
def LABEL_STATUS.FORCE_FULL : Row := ⟨0x2c00044, 10, 10, .RO, 0x0, 1, 0x0, 1, 0x0, 0⟩
/-- LANT.LABEL_STATUS.DIRTY (R695). -/
def LABEL_STATUS.DIRTY : Row := ⟨0x2c00044, 9, 9, .RO, 0x0, 1, 0x0, 1, 0x0, 0⟩
/-- LANT.LABEL_STATUS.LATE (R695). -/
def LABEL_STATUS.LATE : Row := ⟨0x2c00044, 8, 8, .RO, 0x0, 1, 0x0, 1, 0x0, 0⟩
/-- LANT.LABEL_STATUS.STATE (R695). -/
def LABEL_STATUS.STATE : Row := ⟨0x2c00044, 2, 0, .RO, 0x0, 1, 0x0, 1, 0x0, 0⟩
/-- LANT.LABEL_TEMP.TEMP (R695). -/
def LABEL_TEMP.TEMP : Row := ⟨0x2c0004c, 15, 0, .RO, 0x0, 1, 0x0, 1, 0x0, 0⟩
/-- LANT.GLOW_XY.Y (R696). -/
def GLOW_XY.Y : Row := ⟨0x2c00080, 31, 16, .RWT, 0x0, 1, 0x0, 1, 0x0, 0⟩
/-- LANT.GLOW_XY.X (R696). -/
def GLOW_XY.X : Row := ⟨0x2c00080, 15, 0, .RWT, 0x0, 1, 0x0, 1, 0x0, 0⟩
/-- LANT.GLOW_WH.H (R696). -/
def GLOW_WH.H : Row := ⟨0x2c00084, 31, 16, .RWT, 0x0, 1, 0x0, 1, 0x0, 0⟩
/-- LANT.GLOW_WH.W (R696). -/
def GLOW_WH.W : Row := ⟨0x2c00084, 15, 0, .RWT, 0x0, 1, 0x0, 1, 0x0, 0⟩
/-- LANT.GLOW_BASE_LO.BASE (R696). -/
def GLOW_BASE_LO.BASE : Row := ⟨0x2c00088, 31, 12, .RWT, 0x0, 1, 0x0, 1, 0x0, 0⟩
/-- LANT.GLOW_BASE_HI.BASE (R696). -/
def GLOW_BASE_HI.BASE : Row := ⟨0x2c0008c, 3, 0, .RWT, 0x0, 1, 0x0, 1, 0x0, 0⟩
/-- LANT.GLOW_STATUS.PARITY (R696). -/
def GLOW_STATUS.PARITY : Row := ⟨0x2c00090, 31, 16, .RO, 0x0, 1, 0x0, 1, 0x0, 0⟩
/-- LANT.GLOW_STATUS.READY (R696). -/
def GLOW_STATUS.READY : Row := ⟨0x2c00090, 0, 0, .RO, 0x0, 1, 0x0, 1, 0x0, 0⟩
/-- LANT.GLOW_PAL.R (R696). -/
def GLOW_PAL.R : Row := ⟨0x2c000a0, 29, 20, .RWT, 0x0, 8, 0x4, 1, 0x0, 0⟩
/-- LANT.GLOW_PAL.G (R696). -/
def GLOW_PAL.G : Row := ⟨0x2c000a0, 19, 10, .RWT, 0x0, 8, 0x4, 1, 0x0, 0⟩
/-- LANT.GLOW_PAL.B (R696). -/
def GLOW_PAL.B : Row := ⟨0x2c000a0, 9, 0, .RWT, 0x0, 8, 0x4, 1, 0x0, 0⟩
/-- LANT.BEACON_XY.Y (R694). -/
def BEACON_XY.Y : Row := ⟨0x2c00100, 31, 16, .RWT, 0x0, 16, 0x10, 1, 0x0, 0⟩
/-- LANT.BEACON_XY.X (R694). -/
def BEACON_XY.X : Row := ⟨0x2c00100, 15, 0, .RWT, 0x0, 16, 0x10, 1, 0x0, 0⟩
/-- LANT.BEACON_WH.H (R694). -/
def BEACON_WH.H : Row := ⟨0x2c00104, 31, 16, .RWT, 0x0, 16, 0x10, 1, 0x0, 0⟩
/-- LANT.BEACON_WH.W (R694). -/
def BEACON_WH.W : Row := ⟨0x2c00104, 15, 0, .RWT, 0x0, 16, 0x10, 1, 0x0, 0⟩
/-- LANT.BEACON_COLOUR.R (R694). -/
def BEACON_COLOUR.R : Row := ⟨0x2c00108, 29, 20, .RWT, 0x0, 16, 0x10, 1, 0x0, 0⟩
/-- LANT.BEACON_COLOUR.G (R694). -/
def BEACON_COLOUR.G : Row := ⟨0x2c00108, 19, 10, .RWT, 0x0, 16, 0x10, 1, 0x0, 0⟩
/-- LANT.BEACON_COLOUR.B (R694). -/
def BEACON_COLOUR.B : Row := ⟨0x2c00108, 9, 0, .RWT, 0x0, 16, 0x10, 1, 0x0, 0⟩
/-- LANT.BEACON_BLINK.ENABLE (R694). -/
def BEACON_BLINK.ENABLE : Row := ⟨0x2c0010c, 24, 24, .RWT, 0x0, 16, 0x10, 1, 0x0, 0⟩
/-- LANT.BEACON_BLINK.PHASE (R694). -/
def BEACON_BLINK.PHASE : Row := ⟨0x2c0010c, 23, 16, .RWT, 0x0, 16, 0x10, 1, 0x0, 0⟩
/-- LANT.BEACON_BLINK.OFF (R694). -/
def BEACON_BLINK.OFF : Row := ⟨0x2c0010c, 15, 8, .RWT, 0x0, 16, 0x10, 1, 0x0, 0⟩
/-- LANT.BEACON_BLINK.ON (R694). -/
def BEACON_BLINK.ON : Row := ⟨0x2c0010c, 7, 0, .RWT, 0x0, 16, 0x10, 1, 0x0, 0⟩

end R.LANT

/-- Rows of the LANT block, part 0. -/
def rowsLANT0 : List Row := [R.LANT.STATUS.LAST_CODE, R.LANT.STATUS.PWREN_DRAM, R.LANT.STATUS.PWREN_CORE, R.LANT.EVENT.GLOW_NOT_READY, R.LANT.EVENT.RECOVERED, R.LANT.EVENT.BAND_SLIP, R.LANT.EVENT.LABEL_END, R.LANT.EVENT.WAKE_TIMEOUT, R.LANT.EVENT.WAKE, R.LANT.EVENT.ALARM, R.LANT.IRQ_EN.GLOW_NOT_READY_EN, R.LANT.IRQ_EN.RECOVERED_EN, R.LANT.IRQ_EN.BAND_SLIP_EN, R.LANT.IRQ_EN.LABEL_END_EN, R.LANT.IRQ_EN.WAKE_TIMEOUT_EN, R.LANT.IRQ_EN.WAKE_EN, R.LANT.IRQ_EN.ALARM_EN, R.LANT.WAKE.FAILS, R.LANT.WAKE.PENDING, R.LANT.WAKE.CAUSE, R.LANT.WAKE.SUPPLY_EN, R.LANT.WAKE.ALARM_EN, R.LANT.WAKE.PIN_EN, R.LANT.PWR_CTRL.WAKE_TIMEOUT, R.LANT.PWR_CTRL.OFF_DELAY, R.LANT.PWR_CTRL.DRAM_OFF, R.LANT.PWR_CTRL.CORE_OFF, R.LANT.RTC_SUB.SUB, R.LANT.RTC_SEC_LO.SEC, R.LANT.RTC_SEC_HI.SEC, R.LANT.ALARM_LO.SEC, R.LANT.ALARM_HI.SEC, R.LANT.LABEL_CTRL.FORCE_STOP, R.LANT.LABEL_CTRL.ENABLE, R.LANT.LABEL_STATUS.CODE, R.LANT.LABEL_STATUS.PHASE, R.LANT.LABEL_STATUS.BAND, R.LANT.LABEL_STATUS.TEMP_FAULT, R.LANT.LABEL_STATUS.BAND_SLIP, R.LANT.LABEL_STATUS.FORCE_FULL]
/-- Rows of the LANT block, part 1. -/
def rowsLANT1 : List Row := [R.LANT.LABEL_STATUS.DIRTY, R.LANT.LABEL_STATUS.LATE, R.LANT.LABEL_STATUS.STATE, R.LANT.LABEL_TEMP.TEMP, R.LANT.GLOW_XY.Y, R.LANT.GLOW_XY.X, R.LANT.GLOW_WH.H, R.LANT.GLOW_WH.W, R.LANT.GLOW_BASE_LO.BASE, R.LANT.GLOW_BASE_HI.BASE, R.LANT.GLOW_STATUS.PARITY, R.LANT.GLOW_STATUS.READY, R.LANT.GLOW_PAL.R, R.LANT.GLOW_PAL.G, R.LANT.GLOW_PAL.B, R.LANT.BEACON_XY.Y, R.LANT.BEACON_XY.X, R.LANT.BEACON_WH.H, R.LANT.BEACON_WH.W, R.LANT.BEACON_COLOUR.R, R.LANT.BEACON_COLOUR.G, R.LANT.BEACON_COLOUR.B, R.LANT.BEACON_BLINK.ENABLE, R.LANT.BEACON_BLINK.PHASE, R.LANT.BEACON_BLINK.OFF, R.LANT.BEACON_BLINK.ON]
/-- All register rows of the LANT block. -/
def rowsLANT : List Row := rowsLANT0 ++ rowsLANT1

namespace R.VAULT

/-- VAULT.CTRL.COMPACT (R659). -/
def CTRL.COMPACT : Row := ⟨0x2d00000, 31, 31, .WO, 0x0, 1, 0x0, 1, 0x0, 0⟩
/-- VAULT.STATUS.LAST_CODE (R659). -/
def STATUS.LAST_CODE : Row := ⟨0x2d00004, 31, 24, .RO, 0x0, 1, 0x0, 1, 0x0, 0⟩
/-- VAULT.STATUS.FREE (R659). -/
def STATUS.FREE : Row := ⟨0x2d00004, 23, 12, .RO, 0x0, 1, 0x0, 1, 0x0, 0⟩
/-- VAULT.STATUS.DEVICES (R659). -/
def STATUS.DEVICES : Row := ⟨0x2d00004, 7, 6, .RO, 0x0, 1, 0x0, 1, 0x0, 0⟩
/-- VAULT.STATUS.STATE (R659). -/
def STATUS.STATE : Row := ⟨0x2d00004, 2, 0, .RO, 0x0, 1, 0x0, 1, 0x0, 0⟩
/-- VAULT.EVENT.REPLAYED (R660). -/
def EVENT.REPLAYED : Row := ⟨0x2d00008, 6, 6, .W1C, 0x0, 1, 0x0, 1, 0x0, 0⟩
/-- VAULT.EVENT.DROPPED (R660). -/
def EVENT.DROPPED : Row := ⟨0x2d00008, 5, 5, .W1C, 0x0, 1, 0x0, 1, 0x0, 0⟩
/-- VAULT.EVENT.FULL (R660). -/
def EVENT.FULL : Row := ⟨0x2d00008, 4, 4, .W1C, 0x0, 1, 0x0, 1, 0x0, 0⟩
/-- VAULT.EVENT.DEVICE_LOST (R660). -/
def EVENT.DEVICE_LOST : Row := ⟨0x2d00008, 3, 3, .W1C, 0x0, 1, 0x0, 1, 0x0, 0⟩
/-- VAULT.EVENT.SECTOR_RETIRED (R660). -/
def EVENT.SECTOR_RETIRED : Row := ⟨0x2d00008, 2, 2, .W1C, 0x0, 1, 0x0, 1, 0x0, 0⟩
/-- VAULT.EVENT.RECORD_BAD (R660). -/
def EVENT.RECORD_BAD : Row := ⟨0x2d00008, 1, 1, .W1C, 0x0, 1, 0x0, 1, 0x0, 0⟩
/-- VAULT.EVENT.COMMITTED (R660). -/
def EVENT.COMMITTED : Row := ⟨0x2d00008, 0, 0, .W1C, 0x0, 1, 0x0, 1, 0x0, 0⟩
/-- VAULT.IRQ_EN.REPLAYED_EN (R660). -/
def IRQ_EN.REPLAYED_EN : Row := ⟨0x2d0000c, 6, 6, .RW, 0x0, 1, 0x0, 1, 0x0, 0⟩
/-- VAULT.IRQ_EN.DROPPED_EN (R660). -/
def IRQ_EN.DROPPED_EN : Row := ⟨0x2d0000c, 5, 5, .RW, 0x0, 1, 0x0, 1, 0x0, 0⟩
/-- VAULT.IRQ_EN.FULL_EN (R660). -/
def IRQ_EN.FULL_EN : Row := ⟨0x2d0000c, 4, 4, .RW, 0x0, 1, 0x0, 1, 0x0, 0⟩
/-- VAULT.IRQ_EN.DEVICE_LOST_EN (R660). -/
def IRQ_EN.DEVICE_LOST_EN : Row := ⟨0x2d0000c, 3, 3, .RW, 0x0, 1, 0x0, 1, 0x0, 0⟩
/-- VAULT.IRQ_EN.SECTOR_RETIRED_EN (R660). -/
def IRQ_EN.SECTOR_RETIRED_EN : Row := ⟨0x2d0000c, 2, 2, .RW, 0x0, 1, 0x0, 1, 0x0, 0⟩
/-- VAULT.IRQ_EN.RECORD_BAD_EN (R660). -/
def IRQ_EN.RECORD_BAD_EN : Row := ⟨0x2d0000c, 1, 1, .RW, 0x0, 1, 0x0, 1, 0x0, 0⟩
/-- VAULT.IRQ_EN.COMMITTED_EN (R660). -/
def IRQ_EN.COMMITTED_EN : Row := ⟨0x2d0000c, 0, 0, .RW, 0x0, 1, 0x0, 1, 0x0, 0⟩
/-- VAULT.REQ_TYPE.TYPE (R661). -/
def REQ_TYPE.TYPE : Row := ⟨0x2d00010, 7, 0, .RW, 0x0, 1, 0x0, 1, 0x0, 0⟩
/-- VAULT.REQ_KEY.KEY (R661). -/
def REQ_KEY.KEY : Row := ⟨0x2d00014, 31, 0, .RW, 0x0, 1, 0x0, 1, 0x0, 0⟩
/-- VAULT.REQ_ADDR_LO.ADDR (R661). -/
def REQ_ADDR_LO.ADDR : Row := ⟨0x2d00018, 31, 4, .RW, 0x0, 1, 0x0, 1, 0x0, 0⟩
/-- VAULT.REQ_ADDR_HI.ADDR (R661). -/
def REQ_ADDR_HI.ADDR : Row := ⟨0x2d0001c, 3, 0, .RW, 0x0, 1, 0x0, 1, 0x0, 0⟩
/-- VAULT.REQ_LEN.LEN (R661). -/
def REQ_LEN.LEN : Row := ⟨0x2d00020, 12, 0, .RW, 0x0, 1, 0x0, 1, 0x0, 0⟩
/-- VAULT.REQ_GO.GO (R661). -/
def REQ_GO.GO : Row := ⟨0x2d00024, 31, 31, .WO, 0x0, 1, 0x0, 1, 0x0, 0⟩
/-- VAULT.REQ_STATUS.BUSY (R661). -/
def REQ_STATUS.BUSY : Row := ⟨0x2d00028, 31, 31, .RO, 0x0, 1, 0x0, 1, 0x0, 0⟩
/-- VAULT.REQ_STATUS.SEQ (R661). -/
def REQ_STATUS.SEQ : Row := ⟨0x2d00028, 15, 8, .RO, 0x0, 1, 0x0, 1, 0x0, 0⟩
/-- VAULT.REQ_STATUS.STATUS (R661). -/
def REQ_STATUS.STATUS : Row := ⟨0x2d00028, 7, 0, .RO, 0x0, 1, 0x0, 1, 0x0, 0⟩
/-- VAULT.SEQ.SEQ (R662). -/
def SEQ.SEQ : Row := ⟨0x2d00030, 31, 0, .RO, 0x0, 1, 0x0, 1, 0x0, 0⟩
/-- VAULT.GEOM.VCP_AREA_MIB (R662). -/
def GEOM.VCP_AREA_MIB : Row := ⟨0x2d00034, 31, 16, .RO, 0x0, 1, 0x0, 1, 0x0, 0⟩
/-- VAULT.GEOM.SECTORS (R662). -/
def GEOM.SECTORS : Row := ⟨0x2d00034, 15, 0, .RO, 0x0, 1, 0x0, 1, 0x0, 0⟩
/-- VAULT.WEAR_MIN.COUNT (R662). -/
def WEAR_MIN.COUNT : Row := ⟨0x2d00038, 31, 0, .RO, 0x0, 1, 0x0, 1, 0x0, 0⟩
/-- VAULT.WEAR_MAX.COUNT (R662). -/
def WEAR_MAX.COUNT : Row := ⟨0x2d0003c, 31, 0, .RO, 0x0, 1, 0x0, 1, 0x0, 0⟩
/-- VAULT.LIVE.RETIRED (R662). -/
def LIVE.RETIRED : Row := ⟨0x2d00040, 31, 16, .RO, 0x0, 1, 0x0, 1, 0x0, 0⟩
/-- VAULT.LIVE.LIVE_KIB (R662). -/
def LIVE.LIVE_KIB : Row := ⟨0x2d00040, 15, 0, .RO, 0x0, 1, 0x0, 1, 0x0, 0⟩
/-- VAULT.OPER_S_LO.VALUE (R663). -/
def OPER_S_LO.VALUE : Row := ⟨0x2d00048, 31, 0, .RO, 0x0, 1, 0x0, 1, 0x0, 0⟩
/-- VAULT.OPER_S_HI.VALUE (R663). -/
def OPER_S_HI.VALUE : Row := ⟨0x2d0004c, 31, 0, .RO, 0x0, 1, 0x0, 1, 0x0, 0⟩
/-- VAULT.PANEL_S_LO.VALUE (R663). -/
def PANEL_S_LO.VALUE : Row := ⟨0x2d00050, 31, 0, .RO, 0x0, 1, 0x0, 1, 0x0, 0⟩
/-- VAULT.PANEL_S_HI.VALUE (R663). -/
def PANEL_S_HI.VALUE : Row := ⟨0x2d00054, 31, 0, .RO, 0x0, 1, 0x0, 1, 0x0, 0⟩
/-- VAULT.CNT.COUNT (R664). -/
def CNT.COUNT : Row := ⟨0x2d000c0, 31, 0, .RO, 0x0, 6, 0x4, 1, 0x0, 0⟩

end R.VAULT

/-- Rows of the VAULT block, part 0. -/
def rowsVAULT0 : List Row := [R.VAULT.CTRL.COMPACT, R.VAULT.STATUS.LAST_CODE, R.VAULT.STATUS.FREE, R.VAULT.STATUS.DEVICES, R.VAULT.STATUS.STATE, R.VAULT.EVENT.REPLAYED, R.VAULT.EVENT.DROPPED, R.VAULT.EVENT.FULL, R.VAULT.EVENT.DEVICE_LOST, R.VAULT.EVENT.SECTOR_RETIRED, R.VAULT.EVENT.RECORD_BAD, R.VAULT.EVENT.COMMITTED, R.VAULT.IRQ_EN.REPLAYED_EN, R.VAULT.IRQ_EN.DROPPED_EN, R.VAULT.IRQ_EN.FULL_EN, R.VAULT.IRQ_EN.DEVICE_LOST_EN, R.VAULT.IRQ_EN.SECTOR_RETIRED_EN, R.VAULT.IRQ_EN.RECORD_BAD_EN, R.VAULT.IRQ_EN.COMMITTED_EN, R.VAULT.REQ_TYPE.TYPE, R.VAULT.REQ_KEY.KEY, R.VAULT.REQ_ADDR_LO.ADDR, R.VAULT.REQ_ADDR_HI.ADDR, R.VAULT.REQ_LEN.LEN, R.VAULT.REQ_GO.GO, R.VAULT.REQ_STATUS.BUSY, R.VAULT.REQ_STATUS.SEQ, R.VAULT.REQ_STATUS.STATUS, R.VAULT.SEQ.SEQ, R.VAULT.GEOM.VCP_AREA_MIB, R.VAULT.GEOM.SECTORS, R.VAULT.WEAR_MIN.COUNT, R.VAULT.WEAR_MAX.COUNT, R.VAULT.LIVE.RETIRED, R.VAULT.LIVE.LIVE_KIB, R.VAULT.OPER_S_LO.VALUE, R.VAULT.OPER_S_HI.VALUE, R.VAULT.PANEL_S_LO.VALUE, R.VAULT.PANEL_S_HI.VALUE, R.VAULT.CNT.COUNT]
/-- All register rows of the VAULT block. -/
def rowsVAULT : List Row := rowsVAULT0

namespace R.SEC

/-- SEC.MBX_CMD.GO (R634). -/
def MBX_CMD.GO : Row := ⟨0x2e00000, 31, 31, .WO, 0x0, 1, 0x0, 1, 0x0, 0⟩
/-- SEC.MBX_CMD.OPCODE (R634). -/
def MBX_CMD.OPCODE : Row := ⟨0x2e00000, 7, 0, .RW, 0x0, 1, 0x0, 1, 0x0, 0⟩
/-- SEC.MBX_ARG.VALUE (R634). -/
def MBX_ARG.VALUE : Row := ⟨0x2e00004, 31, 0, .RW, 0x0, 4, 0x4, 1, 0x0, 0⟩
/-- SEC.MBX_STATUS.BUSY (R634). -/
def MBX_STATUS.BUSY : Row := ⟨0x2e00014, 31, 31, .RO, 0x0, 1, 0x0, 1, 0x0, 0⟩
/-- SEC.MBX_STATUS.SEQ (R634). -/
def MBX_STATUS.SEQ : Row := ⟨0x2e00014, 15, 8, .RO, 0x0, 1, 0x0, 1, 0x0, 0⟩
/-- SEC.MBX_STATUS.STATUS (R634). -/
def MBX_STATUS.STATUS : Row := ⟨0x2e00014, 7, 0, .RO, 0x0, 1, 0x0, 1, 0x0, 0⟩
/-- SEC.EVENT.ROLLBACK (R635). -/
def EVENT.ROLLBACK : Row := ⟨0x2e00018, 7, 7, .W1C, 0x0, 1, 0x0, 1, 0x0, 0⟩
/-- SEC.EVENT.KEY (R635). -/
def EVENT.KEY : Row := ⟨0x2e00018, 6, 6, .W1C, 0x0, 1, 0x0, 1, 0x0, 0⟩
/-- SEC.EVENT.FIREWALL (R635). -/
def EVENT.FIREWALL : Row := ⟨0x2e00018, 5, 5, .W1C, 0x0, 1, 0x0, 1, 0x0, 0⟩
/-- SEC.EVENT.TRIAL_COMMITTED (R635). -/
def EVENT.TRIAL_COMMITTED : Row := ⟨0x2e00018, 4, 4, .W1C, 0x0, 1, 0x0, 1, 0x0, 0⟩
/-- SEC.EVENT.REVERTED (R635). -/
def EVENT.REVERTED : Row := ⟨0x2e00018, 3, 3, .W1C, 0x0, 1, 0x0, 1, 0x0, 0⟩
/-- SEC.EVENT.SWITCHED (R635). -/
def EVENT.SWITCHED : Row := ⟨0x2e00018, 2, 2, .W1C, 0x0, 1, 0x0, 1, 0x0, 0⟩
/-- SEC.EVENT.QUIESCE (R635). -/
def EVENT.QUIESCE : Row := ⟨0x2e00018, 1, 1, .W1C, 0x0, 1, 0x0, 1, 0x0, 0⟩
/-- SEC.EVENT.MBX_DONE (R635). -/
def EVENT.MBX_DONE : Row := ⟨0x2e00018, 0, 0, .W1C, 0x0, 1, 0x0, 1, 0x0, 0⟩
/-- SEC.IRQ_EN.ROLLBACK_EN (R635). -/
def IRQ_EN.ROLLBACK_EN : Row := ⟨0x2e0001c, 7, 7, .RW, 0x0, 1, 0x0, 1, 0x0, 0⟩
/-- SEC.IRQ_EN.KEY_EN (R635). -/
def IRQ_EN.KEY_EN : Row := ⟨0x2e0001c, 6, 6, .RW, 0x0, 1, 0x0, 1, 0x0, 0⟩
/-- SEC.IRQ_EN.FIREWALL_EN (R635). -/
def IRQ_EN.FIREWALL_EN : Row := ⟨0x2e0001c, 5, 5, .RW, 0x0, 1, 0x0, 1, 0x0, 0⟩
/-- SEC.IRQ_EN.TRIAL_COMMITTED_EN (R635). -/
def IRQ_EN.TRIAL_COMMITTED_EN : Row := ⟨0x2e0001c, 4, 4, .RW, 0x0, 1, 0x0, 1, 0x0, 0⟩
/-- SEC.IRQ_EN.REVERTED_EN (R635). -/
def IRQ_EN.REVERTED_EN : Row := ⟨0x2e0001c, 3, 3, .RW, 0x0, 1, 0x0, 1, 0x0, 0⟩
/-- SEC.IRQ_EN.SWITCHED_EN (R635). -/
def IRQ_EN.SWITCHED_EN : Row := ⟨0x2e0001c, 2, 2, .RW, 0x0, 1, 0x0, 1, 0x0, 0⟩
/-- SEC.IRQ_EN.QUIESCE_EN (R635). -/
def IRQ_EN.QUIESCE_EN : Row := ⟨0x2e0001c, 1, 1, .RW, 0x0, 1, 0x0, 1, 0x0, 0⟩
/-- SEC.IRQ_EN.MBX_DONE_EN (R635). -/
def IRQ_EN.MBX_DONE_EN : Row := ⟨0x2e0001c, 0, 0, .RW, 0x0, 1, 0x0, 1, 0x0, 0⟩
/-- SEC.STATE.LAST_CODE (R636). -/
def STATE.LAST_CODE : Row := ⟨0x2e00020, 31, 24, .RO, 0x0, 1, 0x0, 1, 0x0, 0⟩
/-- SEC.STATE.INTEG_CAUSE (R636). -/
def STATE.INTEG_CAUSE : Row := ⟨0x2e00020, 23, 20, .RO, 0x0, 1, 0x0, 1, 0x0, 0⟩
/-- SEC.STATE.TRIAL_BED (R636). -/
def STATE.TRIAL_BED : Row := ⟨0x2e00020, 7, 7, .RO, 0x0, 1, 0x0, 1, 0x0, 0⟩
/-- SEC.STATE.TRIAL_FW (R636). -/
def STATE.TRIAL_FW : Row := ⟨0x2e00020, 6, 6, .RO, 0x0, 1, 0x0, 1, 0x0, 0⟩
/-- SEC.STATE.SWITCH_DUE (R636). -/
def STATE.SWITCH_DUE : Row := ⟨0x2e00020, 5, 5, .RO, 0x0, 1, 0x0, 1, 0x0, 0⟩
/-- SEC.STATE.FW_PRESENT (R636). -/
def STATE.FW_PRESENT : Row := ⟨0x2e00020, 4, 4, .RO, 0x0, 1, 0x0, 1, 0x0, 0⟩
/-- SEC.STATE.BED_SLOT (R636). -/
def STATE.BED_SLOT : Row := ⟨0x2e00020, 3, 3, .RO, 0x0, 1, 0x0, 1, 0x0, 0⟩
/-- SEC.STATE.FW_SLOT (R636). -/
def STATE.FW_SLOT : Row := ⟨0x2e00020, 2, 2, .RO, 0x0, 1, 0x0, 1, 0x0, 0⟩
/-- SEC.STATE.BED_COMMITTED (R636). -/
def STATE.BED_COMMITTED : Row := ⟨0x2e00020, 1, 1, .RO, 0x0, 1, 0x0, 1, 0x0, 0⟩
/-- SEC.STATE.FW_COMMITTED (R636). -/
def STATE.FW_COMMITTED : Row := ⟨0x2e00020, 0, 0, .RO, 0x0, 1, 0x0, 1, 0x0, 0⟩
/-- SEC.FW_VERSION.VALUE (R636). -/
def FW_VERSION.VALUE : Row := ⟨0x2e00024, 31, 0, .RO, 0x0, 1, 0x0, 1, 0x0, 0⟩
/-- SEC.BED_VERSION.VALUE (R636). -/
def BED_VERSION.VALUE : Row := ⟨0x2e00028, 31, 0, .RO, 0x0, 1, 0x0, 1, 0x0, 0⟩
/-- SEC.FW_OTHER_VERSION.VALUE (R636). -/
def FW_OTHER_VERSION.VALUE : Row := ⟨0x2e0002c, 31, 0, .RO, 0x0, 1, 0x0, 1, 0x0, 0⟩
/-- SEC.ROLLBACK.BED_FUSE (R637). -/
def ROLLBACK.BED_FUSE : Row := ⟨0x2e00030, 31, 24, .RO, 0x0, 1, 0x0, 1, 0x0, 0⟩
/-- SEC.ROLLBACK.BED_MIRROR (R637). -/
def ROLLBACK.BED_MIRROR : Row := ⟨0x2e00030, 23, 16, .RO, 0x0, 1, 0x0, 1, 0x0, 0⟩
/-- SEC.ROLLBACK.FW_FUSE (R637). -/
def ROLLBACK.FW_FUSE : Row := ⟨0x2e00030, 15, 8, .RO, 0x0, 1, 0x0, 1, 0x0, 0⟩
/-- SEC.ROLLBACK.FW_MIRROR (R637). -/
def ROLLBACK.FW_MIRROR : Row := ⟨0x2e00030, 7, 0, .RO, 0x0, 1, 0x0, 1, 0x0, 0⟩
/-- SEC.WDOG.KICK (R637). -/
def WDOG.KICK : Row := ⟨0x2e00034, 31, 31, .WO, 0x0, 1, 0x0, 1, 0x0, 0⟩
/-- SEC.WDOG.CHECKIN (R637). -/
def WDOG.CHECKIN : Row := ⟨0x2e00034, 30, 30, .WO, 0x0, 1, 0x0, 1, 0x0, 0⟩
/-- SEC.WDOG.QUIESCED (R637). -/
def WDOG.QUIESCED : Row := ⟨0x2e00034, 29, 29, .WO, 0x0, 1, 0x0, 1, 0x0, 0⟩
/-- SEC.WDOG.SINCE_KICK_MS (R637). -/
def WDOG.SINCE_KICK_MS : Row := ⟨0x2e00034, 15, 0, .RO, 0x0, 1, 0x0, 1, 0x0, 0⟩
/-- SEC.FWALL_LAST.PRINCIPAL (R638). -/
def FWALL_LAST.PRINCIPAL : Row := ⟨0x2e00040, 31, 30, .RO, 0x0, 1, 0x0, 1, 0x0, 0⟩
/-- SEC.FWALL_LAST.WRITE (R638). -/
def FWALL_LAST.WRITE : Row := ⟨0x2e00040, 29, 29, .RO, 0x0, 1, 0x0, 1, 0x0, 0⟩
/-- SEC.FWALL_LAST.BAR (R638). -/
def FWALL_LAST.BAR : Row := ⟨0x2e00040, 28, 28, .RO, 0x0, 1, 0x0, 1, 0x0, 0⟩
/-- SEC.FWALL_LAST.REGION (R638). -/
def FWALL_LAST.REGION : Row := ⟨0x2e00040, 20, 16, .RO, 0x0, 1, 0x0, 1, 0x0, 0⟩
/-- SEC.FWALL_LAST.MASTER (R638). -/
def FWALL_LAST.MASTER : Row := ⟨0x2e00040, 15, 0, .RO, 0x0, 1, 0x0, 1, 0x0, 0⟩
/-- SEC.FWALL_ADDR_LO.ADDR_LO (R638). -/
def FWALL_ADDR_LO.ADDR_LO : Row := ⟨0x2e00044, 31, 0, .RO, 0x0, 1, 0x0, 1, 0x0, 0⟩
/-- SEC.FWALL_ADDR_HI.ADDR_HI (R638). -/
def FWALL_ADDR_HI.ADDR_HI : Row := ⟨0x2e00048, 3, 0, .RO, 0x0, 1, 0x0, 1, 0x0, 0⟩
/-- SEC.FWALL_COUNT.COUNT (R638). -/
def FWALL_COUNT.COUNT : Row := ⟨0x2e0004c, 31, 0, .RO, 0x0, 1, 0x0, 1, 0x0, 0⟩
/-- SEC.REGION_BASE_LO.BASE (R639). -/
def REGION_BASE_LO.BASE : Row := ⟨0x2e00100, 31, 12, .RWB, 0x0, 32, 0x10, 1, 0x0, 0⟩
/-- SEC.REGION_BASE_HI.BASE (R639). -/
def REGION_BASE_HI.BASE : Row := ⟨0x2e00104, 3, 0, .RWB, 0x0, 32, 0x10, 1, 0x0, 0⟩
/-- SEC.REGION_SIZE.PAGES (R639). -/
def REGION_SIZE.PAGES : Row := ⟨0x2e00108, 23, 0, .RWB, 0x0, 32, 0x10, 1, 0x0, 0⟩
/-- SEC.REGION_RIGHTS.ENABLE (R639). -/
def REGION_RIGHTS.ENABLE : Row := ⟨0x2e0010c, 31, 31, .RWB, 0x0, 32, 0x10, 1, 0x0, 0⟩
/-- SEC.REGION_RIGHTS.HOST (R639). -/
def REGION_RIGHTS.HOST : Row := ⟨0x2e0010c, 6, 5, .RWB, 0x0, 32, 0x10, 1, 0x0, 0⟩
/-- SEC.REGION_RIGHTS.FW (R639). -/
def REGION_RIGHTS.FW : Row := ⟨0x2e0010c, 4, 2, .RWB, 0x0, 32, 0x10, 1, 0x0, 0⟩
/-- SEC.REGION_RIGHTS.BED (R639). -/
def REGION_RIGHTS.BED : Row := ⟨0x2e0010c, 1, 0, .RWB, 0x3, 32, 0x10, 1, 0x0, 0⟩

end R.SEC

/-- Rows of the SEC block, part 0. -/
def rowsSEC0 : List Row := [R.SEC.MBX_CMD.GO, R.SEC.MBX_CMD.OPCODE, R.SEC.MBX_ARG.VALUE, R.SEC.MBX_STATUS.BUSY, R.SEC.MBX_STATUS.SEQ, R.SEC.MBX_STATUS.STATUS, R.SEC.EVENT.ROLLBACK, R.SEC.EVENT.KEY, R.SEC.EVENT.FIREWALL, R.SEC.EVENT.TRIAL_COMMITTED, R.SEC.EVENT.REVERTED, R.SEC.EVENT.SWITCHED, R.SEC.EVENT.QUIESCE, R.SEC.EVENT.MBX_DONE, R.SEC.IRQ_EN.ROLLBACK_EN, R.SEC.IRQ_EN.KEY_EN, R.SEC.IRQ_EN.FIREWALL_EN, R.SEC.IRQ_EN.TRIAL_COMMITTED_EN, R.SEC.IRQ_EN.REVERTED_EN, R.SEC.IRQ_EN.SWITCHED_EN, R.SEC.IRQ_EN.QUIESCE_EN, R.SEC.IRQ_EN.MBX_DONE_EN, R.SEC.STATE.LAST_CODE, R.SEC.STATE.INTEG_CAUSE, R.SEC.STATE.TRIAL_BED, R.SEC.STATE.TRIAL_FW, R.SEC.STATE.SWITCH_DUE, R.SEC.STATE.FW_PRESENT, R.SEC.STATE.BED_SLOT, R.SEC.STATE.FW_SLOT, R.SEC.STATE.BED_COMMITTED, R.SEC.STATE.FW_COMMITTED, R.SEC.FW_VERSION.VALUE, R.SEC.BED_VERSION.VALUE, R.SEC.FW_OTHER_VERSION.VALUE, R.SEC.ROLLBACK.BED_FUSE, R.SEC.ROLLBACK.BED_MIRROR, R.SEC.ROLLBACK.FW_FUSE, R.SEC.ROLLBACK.FW_MIRROR, R.SEC.WDOG.KICK]
/-- Rows of the SEC block, part 1. -/
def rowsSEC1 : List Row := [R.SEC.WDOG.CHECKIN, R.SEC.WDOG.QUIESCED, R.SEC.WDOG.SINCE_KICK_MS, R.SEC.FWALL_LAST.PRINCIPAL, R.SEC.FWALL_LAST.WRITE, R.SEC.FWALL_LAST.BAR, R.SEC.FWALL_LAST.REGION, R.SEC.FWALL_LAST.MASTER, R.SEC.FWALL_ADDR_LO.ADDR_LO, R.SEC.FWALL_ADDR_HI.ADDR_HI, R.SEC.FWALL_COUNT.COUNT, R.SEC.REGION_BASE_LO.BASE, R.SEC.REGION_BASE_HI.BASE, R.SEC.REGION_SIZE.PAGES, R.SEC.REGION_RIGHTS.ENABLE, R.SEC.REGION_RIGHTS.HOST, R.SEC.REGION_RIGHTS.FW, R.SEC.REGION_RIGHTS.BED]
/-- All register rows of the SEC block. -/
def rowsSEC : List Row := rowsSEC0 ++ rowsSEC1
namespace R.DICT

/-- DICT.WIN_INFO.VERSION (R80). -/
def WIN_INFO.VERSION : Row := ⟨0x10000000, 31, 24, .RO, 0x2, 1, 0x0, 1, 0x0, 0⟩
/-- DICT.WIN_INFO.SLOTS (R80). -/
def WIN_INFO.SLOTS : Row := ⟨0x10000000, 23, 16, .RO, 0x10, 1, 0x0, 1, 0x0, 0⟩
/-- DICT.WIN_DIR_COUNT.COUNT (R80). -/
def WIN_DIR_COUNT.COUNT : Row := ⟨0x10000004, 16, 0, .RO, 0x0, 1, 0x0, 1, 0x0, 0⟩
/-- DICT.WIN_DONE.DONE (R80). -/
def WIN_DONE.DONE : Row := ⟨0x10000008, 15, 0, .W1C, 0x0, 1, 0x0, 1, 0x0, 0⟩
/-- DICT.WIN_IRQ_EN.IRQ_EN (R80). -/
def WIN_IRQ_EN.IRQ_EN : Row := ⟨0x1000000c, 15, 0, .RW, 0x0, 1, 0x0, 1, 0x0, 0⟩
/-- DICT.WIN_DIR_GEN.GEN (R80). -/
def WIN_DIR_GEN.GEN : Row := ⟨0x10000010, 31, 0, .RO, 0x0, 1, 0x0, 1, 0x0, 0⟩
/-- DICT.SLOT_CMD.INDEX (R81). -/
def SLOT_CMD.INDEX : Row := ⟨0x10001000, 31, 16, .RW, 0x0, 16, 0x1000, 1, 0x0, 0⟩
/-- DICT.SLOT_CMD.SUBINDEX (R81). -/
def SLOT_CMD.SUBINDEX : Row := ⟨0x10001000, 15, 8, .RW, 0x0, 16, 0x1000, 1, 0x0, 0⟩
/-- DICT.SLOT_CMD.OPCODE (R81). -/
def SLOT_CMD.OPCODE : Row := ⟨0x10001000, 7, 0, .RW, 0x0, 16, 0x1000, 1, 0x0, 0⟩
/-- DICT.SLOT_TARGET.REMOTE (R81). -/
def SLOT_TARGET.REMOTE : Row := ⟨0x10001004, 31, 31, .RW, 0x0, 16, 0x1000, 1, 0x0, 0⟩
/-- DICT.SLOT_TARGET.NODE (R81). -/
def SLOT_TARGET.NODE : Row := ⟨0x10001004, 27, 16, .RW, 0x0, 16, 0x1000, 1, 0x0, 0⟩
/-- DICT.SLOT_TARGET.LENGTH (R81). -/
def SLOT_TARGET.LENGTH : Row := ⟨0x10001004, 12, 0, .RW, 0x0, 16, 0x1000, 1, 0x0, 0⟩
/-- DICT.SLOT_OFFSET.OFFSET (R81). -/
def SLOT_OFFSET.OFFSET : Row := ⟨0x10001008, 31, 0, .RW, 0x0, 16, 0x1000, 1, 0x0, 0⟩
/-- DICT.SLOT_GO.GO (R81). -/
def SLOT_GO.GO : Row := ⟨0x1000100c, 31, 31, .WO, 0x0, 16, 0x1000, 1, 0x0, 0⟩
/-- DICT.SLOT_GO.IRQ (R81). -/
def SLOT_GO.IRQ : Row := ⟨0x1000100c, 0, 0, .RW, 0x0, 16, 0x1000, 1, 0x0, 0⟩
/-- DICT.SLOT_STATUS.BUSY (R81). -/
def SLOT_STATUS.BUSY : Row := ⟨0x10001010, 31, 31, .RO, 0x0, 16, 0x1000, 1, 0x0, 0⟩
/-- DICT.SLOT_STATUS.RLEN (R81). -/
def SLOT_STATUS.RLEN : Row := ⟨0x10001010, 28, 16, .RO, 0x0, 16, 0x1000, 1, 0x0, 0⟩
/-- DICT.SLOT_STATUS.SEQ (R81). -/
def SLOT_STATUS.SEQ : Row := ⟨0x10001010, 15, 8, .RO, 0x0, 16, 0x1000, 1, 0x0, 0⟩
/-- DICT.SLOT_STATUS.STATUS (R81). -/
def SLOT_STATUS.STATUS : Row := ⟨0x10001010, 7, 0, .RO, 0x0, 16, 0x1000, 1, 0x0, 0⟩
/-- DICT.SLOT_TICK.TICK_LO (R81). -/
def SLOT_TICK.TICK_LO : Row := ⟨0x10001014, 31, 0, .RO, 0x0, 16, 0x1000, 1, 0x0, 0⟩

end R.DICT

/-- Rows of the DICT block, part 0. -/
def rowsDICT0 : List Row := [R.DICT.WIN_INFO.VERSION, R.DICT.WIN_INFO.SLOTS, R.DICT.WIN_DIR_COUNT.COUNT, R.DICT.WIN_DONE.DONE, R.DICT.WIN_IRQ_EN.IRQ_EN, R.DICT.WIN_DIR_GEN.GEN, R.DICT.SLOT_CMD.INDEX, R.DICT.SLOT_CMD.SUBINDEX, R.DICT.SLOT_CMD.OPCODE, R.DICT.SLOT_TARGET.REMOTE, R.DICT.SLOT_TARGET.NODE, R.DICT.SLOT_TARGET.LENGTH, R.DICT.SLOT_OFFSET.OFFSET, R.DICT.SLOT_GO.GO, R.DICT.SLOT_GO.IRQ, R.DICT.SLOT_STATUS.BUSY, R.DICT.SLOT_STATUS.RLEN, R.DICT.SLOT_STATUS.SEQ, R.DICT.SLOT_STATUS.STATUS, R.DICT.SLOT_TICK.TICK_LO]
/-- All register rows of the DICT block. -/
def rowsDICT : List Row := rowsDICT0
/-- The rows of the block an offset lies in (R29); the BAR2 window (R79) is held above 0x1000_0000. -/
def blockRows (o : Nat) : List Row :=
  if o < 0x100000 then rowsSYS else
  if o < 0x200000 then rowsTIME else
  if o < 0x300000 then rowsCHIM else
  if o < 0x400000 then rowsTHRM else
  if o < 0x800000 then rowsFLOW else
  if o < 0xc00000 then rowsHEL else
  if o < 0x1000000 then rowsGROT else
  if o < 0x1400000 then rowsGAL else
  if o < 0x1800000 then rowsSCAN else
  if o < 0x1c00000 then rowsVEIN else
  if o < 0x2000000 then rowsPASS else
  if o < 0x2400000 then rowsDRAM else
  if o < 0x2500000 then rowsHOST else
  if o < 0x2600000 then rowsDMA else
  if o < 0x2700000 then rowsBLIT else
  if o < 0x2800000 then rowsCRC else
  if o < 0x2900000 then rowsDEFL else
  if o < 0x2a00000 then rowsCAL else
  if o < 0x2b00000 then rowsHLTH else
  if o < 0x2c00000 then rowsPERF else
  if o < 0x2d00000 then rowsLANT else
  if o < 0x2e00000 then rowsVAULT else
  if o < 0x2f00000 then rowsSEC else
  if 0x10000000 ≤ o then rowsDICT else
  []

/-- The array indices at which a row's instance lies at offset `o`, if any. -/
def Row.at? (r : Row) (o : Nat) : Option (Nat × Nat) :=
  if o < r.off then none
  else
    let d := o - r.off
    let i := if r.s1 = 0 then 0 else d / r.s1
    let e := if r.s1 = 0 then d else d % r.s1
    let j := if r.s2 = 0 then 0 else e / r.s2
    let f := if r.s2 = 0 then e else e % r.s2
    if i < r.c1 ∧ j < r.c2 ∧ f = 0 then some (i, j) else none

/-- The field instances of the register at offset `o`. -/
def fieldsAt (o : Nat) : List (Row × Nat × Nat) :=
  (blockRows o).filterMap (fun r => (r.at? o).map (fun p => (r, p.1, p.2)))

end Sys2Proof.Machine
end

