-- ==== Sys2Proof/Machine/Events.lean ====
section
/-!
DEFINITION. Every event bit of the register map with its interrupt enable and the MSI-X vector of its block (R487).
-/
namespace Sys2Proof.Machine

/-- An event bit (access W1C), its enable in the IRQ_EN register beside it, and its MSI-X vector; instance `i` of an array
signals vector `vec + i * step` (the DMA channels, R487). -/
structure Ev where
  bit  : Row
  en   : Row
  vec  : Nat
  step : Nat
  deriving DecidableEq, Repr

/-- SYS.TICK_EVENT.SCENE_HELD (R33). -/
def E.SYS.SCENE_HELD : Ev := ⟨R.SYS.TICK_EVENT.SCENE_HELD, R.SYS.TICK_IRQ_EN.SCENE_HELD_EN, 0, 0⟩
/-- SYS.TICK_EVENT.SCENE_LAUNCHED (R33). -/
def E.SYS.SCENE_LAUNCHED : Ev := ⟨R.SYS.TICK_EVENT.SCENE_LAUNCHED, R.SYS.TICK_IRQ_EN.SCENE_LAUNCHED_EN, 0, 0⟩
/-- SYS.TICK_EVENT.FRAME_ABORT (R33). -/
def E.SYS.FRAME_ABORT : Ev := ⟨R.SYS.TICK_EVENT.FRAME_ABORT, R.SYS.TICK_IRQ_EN.FRAME_ABORT_EN, 0, 0⟩
/-- SYS.TICK_EVENT.COMMIT_DEFERRED (R33). -/
def E.SYS.COMMIT_DEFERRED : Ev := ⟨R.SYS.TICK_EVENT.COMMIT_DEFERRED, R.SYS.TICK_IRQ_EN.COMMIT_DEFERRED_EN, 0, 0⟩
/-- SYS.TICK_EVENT.DEADLINE (R33). -/
def E.SYS.DEADLINE : Ev := ⟨R.SYS.TICK_EVENT.DEADLINE, R.SYS.TICK_IRQ_EN.DEADLINE_EN, 0, 0⟩
/-- SYS.TICK_EVENT.TICK (R33). -/
def E.SYS.TICK : Ev := ⟨R.SYS.TICK_EVENT.TICK, R.SYS.TICK_IRQ_EN.TICK_EN, 0, 0⟩
/-- SYS.MODE_EVENT.REFUSED (R61). -/
def E.SYS.REFUSED : Ev := ⟨R.SYS.MODE_EVENT.REFUSED, R.SYS.MODE_IRQ_EN.REFUSED_EN, 0, 0⟩
/-- SYS.MODE_EVENT.FORCED (R61). -/
def E.SYS.FORCED : Ev := ⟨R.SYS.MODE_EVENT.FORCED, R.SYS.MODE_IRQ_EN.FORCED_EN, 0, 0⟩
/-- SYS.MODE_EVENT.ENTRY_MASK_CHANGED (R61). -/
def E.SYS.ENTRY_MASK_CHANGED : Ev := ⟨R.SYS.MODE_EVENT.ENTRY_MASK_CHANGED, R.SYS.MODE_IRQ_EN.ENTRY_MASK_CHANGED_EN, 0, 0⟩
/-- SYS.MODE_EVENT.CHANGED (R61). -/
def E.SYS.CHANGED : Ev := ⟨R.SYS.MODE_EVENT.CHANGED, R.SYS.MODE_IRQ_EN.CHANGED_EN, 0, 0⟩
/-- FLOW.EVENT.LANE_RETIRED (R171). -/
def E.FLOW.LANE_RETIRED : Ev := ⟨R.FLOW.EVENT.LANE_RETIRED, R.FLOW.IRQ_EN.LANE_RETIRED_EN, 4, 0⟩
/-- FLOW.EVENT.DECODE_ERR (R171). -/
def E.FLOW.DECODE_ERR : Ev := ⟨R.FLOW.EVENT.DECODE_ERR, R.FLOW.IRQ_EN.DECODE_ERR_EN, 4, 0⟩
/-- FLOW.EVENT.QUOTA_EVICT (R171). -/
def E.FLOW.QUOTA_EVICT : Ev := ⟨R.FLOW.EVENT.QUOTA_EVICT, R.FLOW.IRQ_EN.QUOTA_EVICT_EN, 4, 0⟩
/-- FLOW.EVENT.LATE_DATA (R171). -/
def E.FLOW.LATE_DATA : Ev := ⟨R.FLOW.EVENT.LATE_DATA, R.FLOW.IRQ_EN.LATE_DATA_EN, 4, 0⟩
/-- FLOW.EVENT.REFUSED (R171). -/
def E.FLOW.REFUSED : Ev := ⟨R.FLOW.EVENT.REFUSED, R.FLOW.IRQ_EN.REFUSED_EN, 4, 0⟩
/-- FLOW.EVENT.DRAINED (R171). -/
def E.FLOW.DRAINED : Ev := ⟨R.FLOW.EVENT.DRAINED, R.FLOW.IRQ_EN.DRAINED_EN, 4, 0⟩
/-- HEL.EVENT.OVERSPENT (R242). -/
def E.HEL.OVERSPENT : Ev := ⟨R.HEL.EVENT.OVERSPENT, R.HEL.IRQ_EN.OVERSPENT_EN, 5, 0⟩
/-- HEL.EVENT.DEGRADED (R242). -/
def E.HEL.DEGRADED : Ev := ⟨R.HEL.EVENT.DEGRADED, R.HEL.IRQ_EN.DEGRADED_EN, 5, 0⟩
/-- HEL.EVENT.MISS (R242). -/
def E.HEL.MISS : Ev := ⟨R.HEL.EVENT.MISS, R.HEL.IRQ_EN.MISS_EN, 5, 0⟩
/-- HEL.EVENT.RECHECK_FAIL (R242). -/
def E.HEL.RECHECK_FAIL : Ev := ⟨R.HEL.EVENT.RECHECK_FAIL, R.HEL.IRQ_EN.RECHECK_FAIL_EN, 5, 0⟩
/-- HEL.EVENT.ADMIT_FAIL (R242). -/
def E.HEL.ADMIT_FAIL : Ev := ⟨R.HEL.EVENT.ADMIT_FAIL, R.HEL.IRQ_EN.ADMIT_FAIL_EN, 5, 0⟩
/-- HEL.EVENT.ENGINE_RETIRED (R242). -/
def E.HEL.ENGINE_RETIRED : Ev := ⟨R.HEL.EVENT.ENGINE_RETIRED, R.HEL.IRQ_EN.ENGINE_RETIRED_EN, 5, 0⟩
/-- HEL.EVENT.DRAINED (R242). -/
def E.HEL.DRAINED : Ev := ⟨R.HEL.EVENT.DRAINED, R.HEL.IRQ_EN.DRAINED_EN, 5, 0⟩
/-- HEL.OPT_EVENT.SLAB_RANGE (R209). -/
def E.HEL.SLAB_RANGE : Ev := ⟨R.HEL.OPT_EVENT.SLAB_RANGE, R.HEL.OPT_IRQ_EN.SLAB_RANGE_EN, 5, 0⟩
/-- HEL.OPT_EVENT.MAP_MISMATCH (R209). -/
def E.HEL.MAP_MISMATCH : Ev := ⟨R.HEL.OPT_EVENT.MAP_MISMATCH, R.HEL.OPT_IRQ_EN.MAP_MISMATCH_EN, 5, 0⟩
/-- HEL.OPT_EVENT.MAP_BAD (R209). -/
def E.HEL.MAP_BAD : Ev := ⟨R.HEL.OPT_EVENT.MAP_BAD, R.HEL.OPT_IRQ_EN.MAP_BAD_EN, 5, 0⟩
/-- HEL.OPT_EVENT.PARAM_BAD (R209). -/
def E.HEL.PARAM_BAD : Ev := ⟨R.HEL.OPT_EVENT.PARAM_BAD, R.HEL.OPT_IRQ_EN.PARAM_BAD_EN, 5, 0⟩
/-- HEL.OPT_EVENT.HELD (R209). -/
def E.HEL.HELD : Ev := ⟨R.HEL.OPT_EVENT.HELD, R.HEL.OPT_IRQ_EN.HELD_EN, 5, 0⟩
/-- HEL.OPT_EVENT.APPLIED (R209). -/
def E.HEL.APPLIED : Ev := ⟨R.HEL.OPT_EVENT.APPLIED, R.HEL.OPT_IRQ_EN.APPLIED_EN, 5, 0⟩
/-- GROT.EVENT.PART_CHANGED (R251). -/
def E.GROT.PART_CHANGED : Ev := ⟨R.GROT.EVENT.PART_CHANGED, R.GROT.IRQ_EN.PART_CHANGED_EN, 6, 0⟩
/-- GROT.EVENT.BANK_RETIRED (R251). -/
def E.GROT.BANK_RETIRED : Ev := ⟨R.GROT.EVENT.BANK_RETIRED, R.GROT.IRQ_EN.BANK_RETIRED_EN, 6, 0⟩
/-- GROT.EVENT.ECC_UNCORR (R251). -/
def E.GROT.ECC_UNCORR : Ev := ⟨R.GROT.EVENT.ECC_UNCORR, R.GROT.IRQ_EN.ECC_UNCORR_EN, 6, 0⟩
/-- GROT.EVENT.ECC_CORR (R251). -/
def E.GROT.ECC_CORR : Ev := ⟨R.GROT.EVENT.ECC_CORR, R.GROT.IRQ_EN.ECC_CORR_EN, 6, 0⟩
/-- GAL.EVENT.TAP_DONE (R296). -/
def E.GAL.TAP_DONE : Ev := ⟨R.GAL.EVENT.TAP_DONE, R.GAL.IRQ_EN.TAP_DONE_EN, 7, 0⟩
/-- GAL.EVENT.GAIN_SETTLED (R296). -/
def E.GAL.GAIN_SETTLED : Ev := ⟨R.GAL.EVENT.GAIN_SETTLED, R.GAL.IRQ_EN.GAIN_SETTLED_EN, 7, 0⟩
/-- GAL.EVENT.SIG_MISMATCH (R296). -/
def E.GAL.SIG_MISMATCH : Ev := ⟨R.GAL.EVENT.SIG_MISMATCH, R.GAL.IRQ_EN.SIG_MISMATCH_EN, 7, 0⟩
/-- GAL.EVENT.LAYER_LATE (R296). -/
def E.GAL.LAYER_LATE : Ev := ⟨R.GAL.EVENT.LAYER_LATE, R.GAL.IRQ_EN.LAYER_LATE_EN, 7, 0⟩
/-- GAL.EVENT.REPLACED (R296). -/
def E.GAL.REPLACED : Ev := ⟨R.GAL.EVENT.REPLACED, R.GAL.IRQ_EN.REPLACED_EN, 7, 0⟩
/-- GAL.EVENT.SET_BAD (R296). -/
def E.GAL.SET_BAD : Ev := ⟨R.GAL.EVENT.SET_BAD, R.GAL.IRQ_EN.SET_BAD_EN, 7, 0⟩
/-- GAL.EVENT.HELD (R296). -/
def E.GAL.HELD : Ev := ⟨R.GAL.EVENT.HELD, R.GAL.IRQ_EN.HELD_EN, 7, 0⟩
/-- GAL.EVENT.APPLIED (R296). -/
def E.GAL.APPLIED : Ev := ⟨R.GAL.EVENT.APPLIED, R.GAL.IRQ_EN.APPLIED_EN, 7, 0⟩
/-- SCAN.EVENT.WAIT_TRAIN (R339). -/
def E.SCAN.WAIT_TRAIN : Ev := ⟨R.SCAN.EVENT.WAIT_TRAIN, R.SCAN.IRQ_EN.WAIT_TRAIN_EN, 8, 0⟩
/-- SCAN.EVENT.DRIVE_APPLIED (R339). -/
def E.SCAN.DRIVE_APPLIED : Ev := ⟨R.SCAN.EVENT.DRIVE_APPLIED, R.SCAN.IRQ_EN.DRIVE_APPLIED_EN, 8, 0⟩
/-- SCAN.EVENT.DRIVE_BAD (R339). -/
def E.SCAN.DRIVE_BAD : Ev := ⟨R.SCAN.EVENT.DRIVE_BAD, R.SCAN.IRQ_EN.DRIVE_BAD_EN, 8, 0⟩
/-- SCAN.EVENT.ECHO_LANE_CODE (R339). -/
def E.SCAN.ECHO_LANE_CODE : Ev := ⟨R.SCAN.EVENT.ECHO_LANE_CODE, R.SCAN.IRQ_EN.ECHO_LANE_CODE_EN, 8, 0⟩
/-- SCAN.EVENT.ECHO_MISMATCH (R339). -/
def E.SCAN.ECHO_MISMATCH : Ev := ⟨R.SCAN.EVENT.ECHO_MISMATCH, R.SCAN.IRQ_EN.ECHO_MISMATCH_EN, 8, 0⟩
/-- SCAN.EVENT.TICK_LATE (R339). -/
def E.SCAN.TICK_LATE : Ev := ⟨R.SCAN.EVENT.TICK_LATE, R.SCAN.IRQ_EN.TICK_LATE_EN, 8, 0⟩
/-- SCAN.EVENT.TICK_EARLY (R339). -/
def E.SCAN.TICK_EARLY : Ev := ⟨R.SCAN.EVENT.TICK_EARLY, R.SCAN.IRQ_EN.TICK_EARLY_EN, 8, 0⟩
/-- SCAN.EVENT.ABORT (R339). -/
def E.SCAN.ABORT : Ev := ⟨R.SCAN.EVENT.ABORT, R.SCAN.IRQ_EN.ABORT_EN, 8, 0⟩
/-- VEIN.EVENT.TAP_REJECT (R381). -/
def E.VEIN.TAP_REJECT : Ev := ⟨R.VEIN.EVENT.TAP_REJECT, R.VEIN.IRQ_EN.TAP_REJECT_EN, 9, 0⟩
/-- VEIN.EVENT.BC_LINE_CRC (R381). -/
def E.VEIN.BC_LINE_CRC : Ev := ⟨R.VEIN.EVENT.BC_LINE_CRC, R.VEIN.IRQ_EN.BC_LINE_CRC_EN, 9, 0⟩
/-- VEIN.EVENT.RESTRIPED (R381). -/
def E.VEIN.RESTRIPED : Ev := ⟨R.VEIN.EVENT.RESTRIPED, R.VEIN.IRQ_EN.RESTRIPED_EN, 9, 0⟩
/-- VEIN.EVENT.TRAIN_FAILED (R381). -/
def E.VEIN.TRAIN_FAILED : Ev := ⟨R.VEIN.EVENT.TRAIN_FAILED, R.VEIN.IRQ_EN.TRAIN_FAILED_EN, 9, 0⟩
/-- VEIN.EVENT.GEN_REVERTED (R381). -/
def E.VEIN.GEN_REVERTED : Ev := ⟨R.VEIN.EVENT.GEN_REVERTED, R.VEIN.IRQ_EN.GEN_REVERTED_EN, 9, 0⟩
/-- VEIN.EVENT.LANE_RETIRED (R381). -/
def E.VEIN.LANE_RETIRED : Ev := ⟨R.VEIN.EVENT.LANE_RETIRED, R.VEIN.IRQ_EN.LANE_RETIRED_EN, 9, 0⟩
/-- VEIN.EVENT.LANE_READY (R381). -/
def E.VEIN.LANE_READY : Ev := ⟨R.VEIN.EVENT.LANE_READY, R.VEIN.IRQ_EN.LANE_READY_EN, 9, 0⟩
/-- VEIN.EVENT.LANE_LOST (R381). -/
def E.VEIN.LANE_LOST : Ev := ⟨R.VEIN.EVENT.LANE_LOST, R.VEIN.IRQ_EN.LANE_LOST_EN, 9, 0⟩
/-- PASS.EVENT.MERGED (R415). -/
def E.PASS.MERGED : Ev := ⟨R.PASS.EVENT.MERGED, R.PASS.IRQ_EN.MERGED_EN, 10, 0⟩
/-- PASS.EVENT.TIME_SOURCE (R415). -/
def E.PASS.TIME_SOURCE : Ev := ⟨R.PASS.EVENT.TIME_SOURCE, R.PASS.IRQ_EN.TIME_SOURCE_EN, 10, 0⟩
/-- PASS.EVENT.CLAIM_REVOKED (R415). -/
def E.PASS.CLAIM_REVOKED : Ev := ⟨R.PASS.EVENT.CLAIM_REVOKED, R.PASS.IRQ_EN.CLAIM_REVOKED_EN, 10, 0⟩
/-- PASS.EVENT.UNREACHABLE (R415). -/
def E.PASS.UNREACHABLE : Ev := ⟨R.PASS.EVENT.UNREACHABLE, R.PASS.IRQ_EN.UNREACHABLE_EN, 10, 0⟩
/-- PASS.EVENT.LINK_CHANGED (R415). -/
def E.PASS.LINK_CHANGED : Ev := ⟨R.PASS.EVENT.LINK_CHANGED, R.PASS.IRQ_EN.LINK_CHANGED_EN, 10, 0⟩
/-- PASS.EVENT.LEADER (R415). -/
def E.PASS.LEADER : Ev := ⟨R.PASS.EVENT.LEADER, R.PASS.IRQ_EN.LEADER_EN, 10, 0⟩
/-- PASS.EVENT.EXCLUDED (R415). -/
def E.PASS.EXCLUDED : Ev := ⟨R.PASS.EVENT.EXCLUDED, R.PASS.IRQ_EN.EXCLUDED_EN, 10, 0⟩
/-- PASS.EVENT.JOINED (R415). -/
def E.PASS.JOINED : Ev := ⟨R.PASS.EVENT.JOINED, R.PASS.IRQ_EN.JOINED_EN, 10, 0⟩
/-- TIME.EVENT.TRIG_LATE (R443). -/
def E.TIME.TRIG_LATE : Ev := ⟨R.TIME.EVENT.TRIG_LATE, R.TIME.IRQ_EN.TRIG_LATE_EN, 11, 0⟩
/-- TIME.EVENT.TRIG (R443). -/
def E.TIME.TRIG : Ev := ⟨R.TIME.EVENT.TRIG, R.TIME.IRQ_EN.TRIG_EN, 11, 0⟩
/-- TIME.EVENT.UNLOCKED (R443). -/
def E.TIME.UNLOCKED : Ev := ⟨R.TIME.EVENT.UNLOCKED, R.TIME.IRQ_EN.UNLOCKED_EN, 11, 0⟩
/-- TIME.EVENT.SWITCHED (R443). -/
def E.TIME.SWITCHED : Ev := ⟨R.TIME.EVENT.SWITCHED, R.TIME.IRQ_EN.SWITCHED_EN, 11, 0⟩
/-- TIME.EVENT.HOLDOVER (R443). -/
def E.TIME.HOLDOVER : Ev := ⟨R.TIME.EVENT.HOLDOVER, R.TIME.IRQ_EN.HOLDOVER_EN, 11, 0⟩
/-- TIME.EVENT.STEPPED (R443). -/
def E.TIME.STEPPED : Ev := ⟨R.TIME.EVENT.STEPPED, R.TIME.IRQ_EN.STEPPED_EN, 11, 0⟩
/-- TIME.EVENT.LOCKED (R443). -/
def E.TIME.LOCKED : Ev := ⟨R.TIME.EVENT.LOCKED, R.TIME.IRQ_EN.LOCKED_EN, 11, 0⟩
/-- DRAM.EVENT.REGION_LOST (R475). -/
def E.DRAM.REGION_LOST : Ev := ⟨R.DRAM.EVENT.REGION_LOST, R.DRAM.IRQ_EN.REGION_LOST_EN, 12, 0⟩
/-- DRAM.EVENT.REMAP_DONE (R475). -/
def E.DRAM.REMAP_DONE : Ev := ⟨R.DRAM.EVENT.REMAP_DONE, R.DRAM.IRQ_EN.REMAP_DONE_EN, 12, 0⟩
/-- DRAM.EVENT.RETIRED (R475). -/
def E.DRAM.RETIRED : Ev := ⟨R.DRAM.EVENT.RETIRED, R.DRAM.IRQ_EN.RETIRED_EN, 12, 0⟩
/-- DRAM.EVENT.FREQ_REVERTED (R475). -/
def E.DRAM.FREQ_REVERTED : Ev := ⟨R.DRAM.EVENT.FREQ_REVERTED, R.DRAM.IRQ_EN.FREQ_REVERTED_EN, 12, 0⟩
/-- DRAM.EVENT.SETPOINT (R475). -/
def E.DRAM.SETPOINT : Ev := ⟨R.DRAM.EVENT.SETPOINT, R.DRAM.IRQ_EN.SETPOINT_EN, 12, 0⟩
/-- DRAM.EVENT.TRAIN_FAILED (R475). -/
def E.DRAM.TRAIN_FAILED : Ev := ⟨R.DRAM.EVENT.TRAIN_FAILED, R.DRAM.IRQ_EN.TRAIN_FAILED_EN, 12, 0⟩
/-- DRAM.EVENT.ECC_UNCORR (R475). -/
def E.DRAM.ECC_UNCORR : Ev := ⟨R.DRAM.EVENT.ECC_UNCORR, R.DRAM.IRQ_EN.ECC_UNCORR_EN, 12, 0⟩
/-- DRAM.EVENT.ECC_CORR (R475). -/
def E.DRAM.ECC_CORR : Ev := ⟨R.DRAM.EVENT.ECC_CORR, R.DRAM.IRQ_EN.ECC_CORR_EN, 12, 0⟩
/-- HOST.EVENT.RESET (R507). -/
def E.HOST.RESET : Ev := ⟨R.HOST.EVENT.RESET, R.HOST.IRQ_EN.RESET_EN, 3, 0⟩
/-- HOST.EVENT.READ_FAILED (R507). -/
def E.HOST.READ_FAILED : Ev := ⟨R.HOST.EVENT.READ_FAILED, R.HOST.IRQ_EN.READ_FAILED_EN, 3, 0⟩
/-- HOST.EVENT.RING_BAD (R507). -/
def E.HOST.RING_BAD : Ev := ⟨R.HOST.EVENT.RING_BAD, R.HOST.IRQ_EN.RING_BAD_EN, 3, 0⟩
/-- HOST.EVENT.BAR4_FAULT (R507). -/
def E.HOST.BAR4_FAULT : Ev := ⟨R.HOST.EVENT.BAR4_FAULT, R.HOST.IRQ_EN.BAR4_FAULT_EN, 3, 0⟩
/-- HOST.EVENT.LINK_SLOW (R507). -/
def E.HOST.LINK_SLOW : Ev := ⟨R.HOST.EVENT.LINK_SLOW, R.HOST.IRQ_EN.LINK_SLOW_EN, 3, 0⟩
/-- DMA.CH_EVENT.TRIG_OVERRUN (R513). -/
def E.DMA.TRIG_OVERRUN : Ev := ⟨R.DMA.CH_EVENT.TRIG_OVERRUN, R.DMA.CH_IRQ_EN.TRIG_OVERRUN_EN, 32, 1⟩
/-- DMA.CH_EVENT.DRAINED (R513). -/
def E.DMA.DRAINED : Ev := ⟨R.DMA.CH_EVENT.DRAINED, R.DMA.CH_IRQ_EN.DRAINED_EN, 32, 1⟩
/-- DMA.CH_EVENT.ABORTED (R513). -/
def E.DMA.ABORTED : Ev := ⟨R.DMA.CH_EVENT.ABORTED, R.DMA.CH_IRQ_EN.ABORTED_EN, 32, 1⟩
/-- DMA.CH_EVENT.DONE (R513). -/
def E.DMA.DONE : Ev := ⟨R.DMA.CH_EVENT.DONE, R.DMA.CH_IRQ_EN.DONE_EN, 32, 1⟩
/-- DMA.CH_EVENT.DESC_DONE (R513). -/
def E.DMA.DESC_DONE : Ev := ⟨R.DMA.CH_EVENT.DESC_DONE, R.DMA.CH_IRQ_EN.DESC_DONE_EN, 32, 1⟩
/-- BLIT.EVENT.REFUSED (R531). -/
def E.BLIT.REFUSED : Ev := ⟨R.BLIT.EVENT.REFUSED, R.BLIT.IRQ_EN.REFUSED_EN, 19, 0⟩
/-- BLIT.EVENT.DRAINED (R531). -/
def E.BLIT.DRAINED : Ev := ⟨R.BLIT.EVENT.DRAINED, R.BLIT.IRQ_EN.DRAINED_EN, 19, 0⟩
/-- BLIT.EVENT.ABORTED (R531). -/
def E.BLIT.ABORTED : Ev := ⟨R.BLIT.EVENT.ABORTED, R.BLIT.IRQ_EN.ABORTED_EN, 19, 0⟩
/-- BLIT.EVENT.DONE (R531). -/
def E.BLIT.DONE : Ev := ⟨R.BLIT.EVENT.DONE, R.BLIT.IRQ_EN.DONE_EN, 19, 0⟩
/-- CRC.UNIT_EVENT.REFUSED (R540). -/
def E.CRC.REFUSED : Ev := ⟨R.CRC.UNIT_EVENT.REFUSED, R.CRC.UNIT_IRQ_EN.REFUSED_EN, 20, 0⟩
/-- CRC.UNIT_EVENT.STOPPED (R540). -/
def E.CRC.STOPPED : Ev := ⟨R.CRC.UNIT_EVENT.STOPPED, R.CRC.UNIT_IRQ_EN.STOPPED_EN, 20, 0⟩
/-- CRC.UNIT_EVENT.ABORTED (R540). -/
def E.CRC.ABORTED : Ev := ⟨R.CRC.UNIT_EVENT.ABORTED, R.CRC.UNIT_IRQ_EN.ABORTED_EN, 20, 0⟩
/-- CRC.UNIT_EVENT.DONE (R540). -/
def E.CRC.DONE : Ev := ⟨R.CRC.UNIT_EVENT.DONE, R.CRC.UNIT_IRQ_EN.DONE_EN, 20, 0⟩
/-- DEFL.EVENT.REFUSED (R531). -/
def E.DEFL.REFUSED : Ev := ⟨R.DEFL.EVENT.REFUSED, R.DEFL.IRQ_EN.REFUSED_EN, 21, 0⟩
/-- DEFL.EVENT.DRAINED (R531). -/
def E.DEFL.DRAINED : Ev := ⟨R.DEFL.EVENT.DRAINED, R.DEFL.IRQ_EN.DRAINED_EN, 21, 0⟩
/-- DEFL.EVENT.ABORTED (R531). -/
def E.DEFL.ABORTED : Ev := ⟨R.DEFL.EVENT.ABORTED, R.DEFL.IRQ_EN.ABORTED_EN, 21, 0⟩
/-- DEFL.EVENT.DONE (R531). -/
def E.DEFL.DONE : Ev := ⟨R.DEFL.EVENT.DONE, R.DEFL.IRQ_EN.DONE_EN, 21, 0⟩
/-- CHIM.EVENT.TOO_LARGE (R576). -/
def E.CHIM.TOO_LARGE : Ev := ⟨R.CHIM.EVENT.TOO_LARGE, R.CHIM.IRQ_EN.TOO_LARGE_EN, 13, 0⟩
/-- CHIM.EVENT.REFUSED (R576). -/
def E.CHIM.REFUSED : Ev := ⟨R.CHIM.EVENT.REFUSED, R.CHIM.IRQ_EN.REFUSED_EN, 13, 0⟩
/-- CHIM.EVENT.REVOKED (R576). -/
def E.CHIM.REVOKED : Ev := ⟨R.CHIM.EVENT.REVOKED, R.CHIM.IRQ_EN.REVOKED_EN, 13, 0⟩
/-- CHIM.EVENT.RESERVE_OVER (R576). -/
def E.CHIM.RESERVE_OVER : Ev := ⟨R.CHIM.EVENT.RESERVE_OVER, R.CHIM.IRQ_EN.RESERVE_OVER_EN, 13, 0⟩
/-- CHIM.EVENT.SETTLED (R576). -/
def E.CHIM.SETTLED : Ev := ⟨R.CHIM.EVENT.SETTLED, R.CHIM.IRQ_EN.SETTLED_EN, 13, 0⟩
/-- THRM.EVENT.NO_STEP (R579). -/
def E.THRM.NO_STEP : Ev := ⟨R.THRM.EVENT.NO_STEP, R.THRM.IRQ_EN.NO_STEP_EN, 13, 0⟩
/-- THRM.EVENT.SENSOR (R579). -/
def E.THRM.SENSOR : Ev := ⟨R.THRM.EVENT.SENSOR, R.THRM.IRQ_EN.SENSOR_EN, 13, 0⟩
/-- THRM.EVENT.RISE_WARN (R579). -/
def E.THRM.RISE_WARN : Ev := ⟨R.THRM.EVENT.RISE_WARN, R.THRM.IRQ_EN.RISE_WARN_EN, 13, 0⟩
/-- THRM.EVENT.STEP_UP (R579). -/
def E.THRM.STEP_UP : Ev := ⟨R.THRM.EVENT.STEP_UP, R.THRM.IRQ_EN.STEP_UP_EN, 13, 0⟩
/-- THRM.EVENT.STEP_DOWN (R579). -/
def E.THRM.STEP_DOWN : Ev := ⟨R.THRM.EVENT.STEP_DOWN, R.THRM.IRQ_EN.STEP_DOWN_EN, 13, 0⟩
/-- THRM.EVENT.EDGE (R579). -/
def E.THRM.EDGE : Ev := ⟨R.THRM.EVENT.EDGE, R.THRM.IRQ_EN.EDGE_EN, 13, 0⟩
/-- THRM.EVENT.THROTTLE (R579). -/
def E.THRM.THROTTLE : Ev := ⟨R.THRM.EVENT.THROTTLE, R.THRM.IRQ_EN.THROTTLE_EN, 13, 0⟩
/-- THRM.EVENT.WARN (R579). -/
def E.THRM.WARN : Ev := ⟨R.THRM.EVENT.WARN, R.THRM.IRQ_EN.WARN_EN, 13, 0⟩
/-- THRM.EVENT.CLEAR (R579). -/
def E.THRM.CLEAR : Ev := ⟨R.THRM.EVENT.CLEAR, R.THRM.IRQ_EN.CLEAR_EN, 13, 0⟩
/-- CAL.EVENT.VCP_DONE (R603). -/
def E.CAL.VCP_DONE : Ev := ⟨R.CAL.EVENT.VCP_DONE, R.CAL.IRQ_EN.VCP_DONE_EN, 14, 0⟩
/-- CAL.EVENT.AGING (R603). -/
def E.CAL.AGING : Ev := ⟨R.CAL.EVENT.AGING, R.CAL.IRQ_EN.AGING_EN, 14, 0⟩
/-- CAL.EVENT.REF (R603). -/
def E.CAL.REF : Ev := ⟨R.CAL.EVENT.REF, R.CAL.IRQ_EN.REF_EN, 14, 0⟩
/-- CAL.EVENT.QUALITY_LOW (R603). -/
def E.CAL.QUALITY_LOW : Ev := ⟨R.CAL.EVENT.QUALITY_LOW, R.CAL.IRQ_EN.QUALITY_LOW_EN, 14, 0⟩
/-- CAL.EVENT.ABORTED (R603). -/
def E.CAL.ABORTED : Ev := ⟨R.CAL.EVENT.ABORTED, R.CAL.IRQ_EN.ABORTED_EN, 14, 0⟩
/-- CAL.EVENT.DONE (R603). -/
def E.CAL.DONE : Ev := ⟨R.CAL.EVENT.DONE, R.CAL.IRQ_EN.DONE_EN, 14, 0⟩
/-- HLTH.EVENT.TELEM_SKIPPED (R726). -/
def E.HLTH.TELEM_SKIPPED : Ev := ⟨R.HLTH.EVENT.TELEM_SKIPPED, R.HLTH.IRQ_EN.TELEM_SKIPPED_EN, 15, 0⟩
/-- HLTH.EVENT.DRIP_DRAINED (R726). -/
def E.HLTH.DRIP_DRAINED : Ev := ⟨R.HLTH.EVENT.DRIP_DRAINED, R.HLTH.IRQ_EN.DRIP_DRAINED_EN, 15, 0⟩
/-- HLTH.EVENT.DRIP_LATE (R726). -/
def E.HLTH.DRIP_LATE : Ev := ⟨R.HLTH.EVENT.DRIP_LATE, R.HLTH.IRQ_EN.DRIP_LATE_EN, 15, 0⟩
/-- HLTH.EVENT.DRIP_UNCORR (R726). -/
def E.HLTH.DRIP_UNCORR : Ev := ⟨R.HLTH.EVENT.DRIP_UNCORR, R.HLTH.IRQ_EN.DRIP_UNCORR_EN, 15, 0⟩
/-- HLTH.EVENT.SUMP_WRAPPED (R726). -/
def E.HLTH.SUMP_WRAPPED : Ev := ⟨R.HLTH.EVENT.SUMP_WRAPPED, R.HLTH.IRQ_EN.SUMP_WRAPPED_EN, 15, 0⟩
/-- HLTH.EVENT.RESTORED (R726). -/
def E.HLTH.RESTORED : Ev := ⟨R.HLTH.EVENT.RESTORED, R.HLTH.IRQ_EN.RESTORED_EN, 15, 0⟩
/-- HLTH.EVENT.CROSSED (R726). -/
def E.HLTH.CROSSED : Ev := ⟨R.HLTH.EVENT.CROSSED, R.HLTH.IRQ_EN.CROSSED_EN, 15, 0⟩
/-- HLTH.EVENT.BUCKET (R726). -/
def E.HLTH.BUCKET : Ev := ⟨R.HLTH.EVENT.BUCKET, R.HLTH.IRQ_EN.BUCKET_EN, 15, 0⟩
/-- HLTH.EVENT.OVF (R726). -/
def E.HLTH.OVF : Ev := ⟨R.HLTH.EVENT.OVF, R.HLTH.IRQ_EN.OVF_EN, 15, 0⟩
/-- HLTH.EVENT.THRESH (R726). -/
def E.HLTH.THRESH : Ev := ⟨R.HLTH.EVENT.THRESH, R.HLTH.IRQ_EN.THRESH_EN, 15, 0⟩
/-- LANT.EVENT.GLOW_NOT_READY (R692). -/
def E.LANT.GLOW_NOT_READY : Ev := ⟨R.LANT.EVENT.GLOW_NOT_READY, R.LANT.IRQ_EN.GLOW_NOT_READY_EN, 16, 0⟩
/-- LANT.EVENT.RECOVERED (R692). -/
def E.LANT.RECOVERED : Ev := ⟨R.LANT.EVENT.RECOVERED, R.LANT.IRQ_EN.RECOVERED_EN, 16, 0⟩
/-- LANT.EVENT.BAND_SLIP (R692). -/
def E.LANT.BAND_SLIP : Ev := ⟨R.LANT.EVENT.BAND_SLIP, R.LANT.IRQ_EN.BAND_SLIP_EN, 16, 0⟩
/-- LANT.EVENT.LABEL_END (R692). -/
def E.LANT.LABEL_END : Ev := ⟨R.LANT.EVENT.LABEL_END, R.LANT.IRQ_EN.LABEL_END_EN, 16, 0⟩
/-- LANT.EVENT.WAKE_TIMEOUT (R692). -/
def E.LANT.WAKE_TIMEOUT : Ev := ⟨R.LANT.EVENT.WAKE_TIMEOUT, R.LANT.IRQ_EN.WAKE_TIMEOUT_EN, 16, 0⟩
/-- LANT.EVENT.WAKE (R692). -/
def E.LANT.WAKE : Ev := ⟨R.LANT.EVENT.WAKE, R.LANT.IRQ_EN.WAKE_EN, 16, 0⟩
/-- LANT.EVENT.ALARM (R692). -/
def E.LANT.ALARM : Ev := ⟨R.LANT.EVENT.ALARM, R.LANT.IRQ_EN.ALARM_EN, 16, 0⟩
/-- VAULT.EVENT.REPLAYED (R660). -/
def E.VAULT.REPLAYED : Ev := ⟨R.VAULT.EVENT.REPLAYED, R.VAULT.IRQ_EN.REPLAYED_EN, 17, 0⟩
/-- VAULT.EVENT.DROPPED (R660). -/
def E.VAULT.DROPPED : Ev := ⟨R.VAULT.EVENT.DROPPED, R.VAULT.IRQ_EN.DROPPED_EN, 17, 0⟩
/-- VAULT.EVENT.FULL (R660). -/
def E.VAULT.FULL : Ev := ⟨R.VAULT.EVENT.FULL, R.VAULT.IRQ_EN.FULL_EN, 17, 0⟩
/-- VAULT.EVENT.DEVICE_LOST (R660). -/
def E.VAULT.DEVICE_LOST : Ev := ⟨R.VAULT.EVENT.DEVICE_LOST, R.VAULT.IRQ_EN.DEVICE_LOST_EN, 17, 0⟩
/-- VAULT.EVENT.SECTOR_RETIRED (R660). -/
def E.VAULT.SECTOR_RETIRED : Ev := ⟨R.VAULT.EVENT.SECTOR_RETIRED, R.VAULT.IRQ_EN.SECTOR_RETIRED_EN, 17, 0⟩
/-- VAULT.EVENT.RECORD_BAD (R660). -/
def E.VAULT.RECORD_BAD : Ev := ⟨R.VAULT.EVENT.RECORD_BAD, R.VAULT.IRQ_EN.RECORD_BAD_EN, 17, 0⟩
/-- VAULT.EVENT.COMMITTED (R660). -/
def E.VAULT.COMMITTED : Ev := ⟨R.VAULT.EVENT.COMMITTED, R.VAULT.IRQ_EN.COMMITTED_EN, 17, 0⟩
/-- SEC.EVENT.ROLLBACK (R635). -/
def E.SEC.ROLLBACK : Ev := ⟨R.SEC.EVENT.ROLLBACK, R.SEC.IRQ_EN.ROLLBACK_EN, 18, 0⟩
/-- SEC.EVENT.KEY (R635). -/
def E.SEC.KEY : Ev := ⟨R.SEC.EVENT.KEY, R.SEC.IRQ_EN.KEY_EN, 18, 0⟩
/-- SEC.EVENT.FIREWALL (R635). -/
def E.SEC.FIREWALL : Ev := ⟨R.SEC.EVENT.FIREWALL, R.SEC.IRQ_EN.FIREWALL_EN, 18, 0⟩
/-- SEC.EVENT.TRIAL_COMMITTED (R635). -/
def E.SEC.TRIAL_COMMITTED : Ev := ⟨R.SEC.EVENT.TRIAL_COMMITTED, R.SEC.IRQ_EN.TRIAL_COMMITTED_EN, 18, 0⟩
/-- SEC.EVENT.REVERTED (R635). -/
def E.SEC.REVERTED : Ev := ⟨R.SEC.EVENT.REVERTED, R.SEC.IRQ_EN.REVERTED_EN, 18, 0⟩
/-- SEC.EVENT.SWITCHED (R635). -/
def E.SEC.SWITCHED : Ev := ⟨R.SEC.EVENT.SWITCHED, R.SEC.IRQ_EN.SWITCHED_EN, 18, 0⟩
/-- SEC.EVENT.QUIESCE (R635). -/
def E.SEC.QUIESCE : Ev := ⟨R.SEC.EVENT.QUIESCE, R.SEC.IRQ_EN.QUIESCE_EN, 18, 0⟩
/-- SEC.EVENT.MBX_DONE (R635). -/
def E.SEC.MBX_DONE : Ev := ⟨R.SEC.EVENT.MBX_DONE, R.SEC.IRQ_EN.MBX_DONE_EN, 18, 0⟩

end Sys2Proof.Machine
end

