-- ==== Sys2Proof/Machine/State.lean ====
section
/-!
DEFINITION. The state of the UTH-9400: every register field of BAR0, the dictionary values no register holds, and the block
state behind them; the DRAM contents; the one-time fuses; and the queue of waiting commands. Plain data throughout.
-/
namespace Sys2Proof.Machine

/-- Why a command stops the machine. -/
inductive Fault where
  /-- A DRAM access named an address at or above the 64 GiB the device can address (R448). Raised by no command of the
  present model: every access is judged against capacity first. Safe. -/
  | noSuchAddress (addr : Nat)
  deriving DecidableEq, Repr

/-- Why a command has no meaning. -/
inductive Refusal where
  /-- Raised by Dispatch for a command the model does not yet carry out. Safe: nothing can be proved of it. -/
  | notModelled (mnemonic : String)
  deriving DecidableEq, Repr

/-- Everything but the DRAM contents, the fuses and the command queue. -/
structure Mach where
  regs   : SMap Nat          -- register fields in force, by Row.key; an unlisted field has its reset value
  held1  : SMap Nat          -- RWT values held for the coming tick (R7)
  held2  : SMap Nat          -- RWT values held for the following tick (R7)
  latch  : SMap Nat          -- latched _HI words by register offset (R30)
  dict   : SMap (List Byte)  -- dictionary values no register holds, by index * 256 + subindex
  dict1  : SMap (List Byte)  -- AT_TICK values of those entries due at the coming tick (R70)
  dict2  : SMap (List Byte)  -- AT_TICK values due at the following tick
  out    : List Out          -- what the latest command sent out, first first
  freeN  : Nat               -- the model's own: how many free values have been drawn
  msix   : Msix
  mc     : ModeCtl
  vlt    : Vault
  hl     : Hlth
  ch     : Chim
  th     : Thrm
  lanes  : List Lane
  scan   : Scan
  dr     : Dram
  cal    : Cal
  sec    : Sec
  fab    : Pass
  tim    : Tim
  flow   : Flow
  hel    : Hel
  gal    : Gal
  lant   : Lant
  host   : HostIf
  dic    : Dic
  dma    : List DmaChan     -- DMA0 to DMA15
  side   : List Side        -- blit engine, DEFLATE engine
  crc    : List CrcUnit     -- CRC0 to CRC3
  deriving DecidableEq, Repr

/-- The one-time programmable fuses (spec/18_firmware_trust_and_live_update.md R611, R615, R617). -/
structure Fuse where
  dieId   : List Byte
  slots   : List (Option (List Byte))  -- key hashes of slots 2 to 5, none where unfused
  revoked : Nat                        -- bit per slot
  locked  : Bool                       -- enrolment lock (R615)
  closed  : Bool                       -- key state C: customer enrolment fused closed
  rollFw  : Nat                        -- anti-rollback counters
  rollBed : Nat
  deriving DecidableEq, Repr

/-- The whole machine. -/
structure State where
  m       : Mach
  mem     : SMap (BitVec 8)   -- DRAM contents by device address; an unlisted byte reads 0 (R452)
  fuse    : Fuse
  pending : List Sys2Proof.Instr  -- commands waiting, first in first out
  deriving DecidableEq, Repr

/-! ## The blocks before anything has happened. Values no rule gives are the log's (assumption log 10). -/

/-- One factory journal sector (assumption log 11): erased, with a valid header; the first is the head. -/
def VSector.init (k : Nat) : VSector := ⟨k + 1, 1, 0, true, k != 0, false, 32, []⟩

/-- The Vault with an empty journal of the smallest density (R641). -/
def Vault.init : Vault :=
  { sectors := (List.range 240).map VSector.init, head := 0, tail := 0, held := [], opened := none, erasing := none,
    suspended := false, failRun := (0, 0), devOk := 3, replayHours := (0, 0), cycles := 0, areaA := ⟨[], false⟩,
    areaB := ⟨[], false⟩, storeLost := false, pfwHours := false, oscSec := 0 }

/-- The mode controller, CORE held in reset. -/
def ModeCtl.init : ModeCtl :=
  { imm := none, due := none, latchedM0 := false, latchedWk := false, losing := [], left := none, trips := [],
    rayBlack := false, deadline := false, firstTick := false, pfwLow := false, grantHold := false, off := true, rstCause := 0 }

/-- The health plane. -/
def Hlth.init : Hlth :=
  { level := [], retired := [], sump := [], nextSeq := 0, allowance := 64,
    drip := List.replicate 3 ⟨false, false, false, false, false⟩, pulse := [], pulseOv := [], perfHi := [], perfLatch := [],
    recNo := 0 }

/-- The thermal monitor. -/
def Thrm.init : Thrm :=
  { sens := List.replicate 48 ⟨0, 0⟩, hist := [], fastRise := false, calm := 0, warn := false, throttle := false,
    stepDown := false, edge := false, tripMask := 0, tripSrc := 0, armed := true, sinceStep := 0, stepped := none,
    reqEntry := 0, stepDue := none, subMs := 0, comp := 0 }

/-- A lane. -/
def Lane.init : Lane :=
  { target := 1, kept := [none, none, none], attempts := 0, fast := false, required := false, wait := false,
    answered := false, ended := false, back := none, tap := none, tapTick := false, leave := false, rejoin := false,
    early := false, partnerEye := false, partnerTap := 0xFF, only := 0 }

/-- Scan-out. -/
def Scan.init : Scan :=
  { frame := 0, frameTick := 0, nextY := 0, nextQ := 0, nextK := 0, phi := false, masks := List.replicate 12 0,
    crcs := List.replicate 12 0, lineCrcs := [], mism := 0, mismBand := 0, lpEntry := 0, waking := [], echoMode := 0,
    spur := [], lastEntry := 0 }

/-- The DRAM controller: 8 channels of 16 banks (R449). -/
def Dram.init : Dram :=
  { chans := List.replicate 8 ⟨List.replicate 16 ⟨none, []⟩, [], 0, false, false, 0⟩, change := none, walk := none,
    walkOld := 0, second := [], poison := [], qused := List.replicate 8 0, kept := false, typ := 0, density := 0 }

/-- The calibration controller. -/
def Cal.init : Cal :=
  { waiting := 0, edges := 0, cycles := 0, oscGoal := none, sensGoal := List.replicate 48 none, dose := [], shown := [], doseGen := 0,
    dosePend := [], vcp := none }

/-- Bedrock; slots A hold the factory images (assumption log 11). -/
def Sec.init : Sec :=
  { slots := [⟨none, true, 0, 0, 0⟩, ⟨none, false, 0, 0, 0⟩, ⟨none, true, 0, 0, 0⟩, ⟨none, false, 0, 0, 0⟩],
    sel := [some (0, 0, 0), none], fwDue := none, bedDue := none, bedGo := true, absent := false, install := none,
    prevFw := 0, prevBed := 0, await := 0, cores := false, quiesced := false, handover := [], nonce := none, log := [],
    sig7 := 0, sinceNs := 0, swap := none, swap2 := none, roll := [], ext := [] }

/-- The fabric router. -/
def Pass.init : Pass :=
  { links := List.replicate 4 ⟨false, 0, 0, 0, [], [], [], 0⟩, cand := none, epochMax := 0, rel := none, reports := [],
    ident := none, ident0 := none, map := [], mapDirty := false, claims := [], granted := none, claim := none,
    headOut := false, send := [], merge := none, timeSeq := 0, stamp := none, timeLink := 0 }

/-- The time unit. -/
def Tim.init : Tim :=
  { now := 0, n := 0, rate := (60, 1), doms := List.replicate 3 ⟨[], none, none, none, none, 0, [], []⟩, fabOk := false,
    was := false, hist := [], pend := none, unitAt := none, trigs := List.replicate 8 ⟨none, none, 0⟩ }

/-- The scene queue and Flowstone. -/
def Flow.init : Flow :=
  { frames := [], mark := none, paths := [⟨none, none⟩, ⟨none, none⟩], missed := [], ctxs := [], demands := [],
    nextArr := 0, bg := [], bgGrant := false }

/-- Helictite and Grotto: 34 engines. -/
def Hel.init : Hel :=
  { rows := [], relNo := 0, bundles := [], engs := List.replicate 34 ⟨0, 0, 0⟩, setups := [], mi := (0, 0, 0, 0),
    everSet := false, keep := none, held := false, maps := [0, 0, 0], mapOk := [false, false, false], band := 0,
    spent := [], failBand := none, accrued := 0, layout := (24, 64), black := false }

/-- Gallery. -/
def Gal.init : Gal :=
  { force := ⟨0, [], 32000, [0, 0], [], []⟩, pend := none, defer := none, cnt := [0, 0], gain := [], settled := false,
    plForce := ⟨0, [], []⟩, plPend := none, plDefer := none, line := [], late := [], sums := [], sigs := List.replicate 8 0,
    tap := none, tapBuf := 0 }

/-- Lantern when VDD_LANT is first applied: the power outputs are asserted and the supplies awaited (R670, R746). -/
def Lant.init : Lant :=
  { target := [], current := [], targetOk := false, currentOk := false, run := none, leave := false, stop := false,
    count := 0, record := none, recover := false, power := 3, rtcHi := 0, sub := 0, glow := [], copy := none, load := false,
    bad := [], quar := none }

/-- The host interface; PERST# is low. -/
def HostIf.init : HostIf := { frags := [], begun := false, wait := [], phase := true, bar4 := 6, perst := false }

/-- The dictionary engine: 16 BAR2 slots, 64 subscription places. -/
def Dic.init : Dic :=
  { slots := List.replicate 16 ⟨[], none⟩, sess := [], nonces := [], subs := List.replicate 64 none, remote := [],
    nextTag := 64, store := none, gen := [], ceil1 := none, ceil2 := none }

/-- The block after first power: every register field at its reset value. -/
def Mach.init : Mach :=
  { regs := [], held1 := [], held2 := [], latch := [], dict := [], dict1 := [], dict2 := [], out := [], freeN := 0,
    msix := ⟨[], 0, false⟩, mc := ModeCtl.init, vlt := Vault.init, hl := Hlth.init, ch := ⟨[], [], 0, 560⟩, th := Thrm.init,
    lanes := List.replicate 64 Lane.init, scan := Scan.init, dr := Dram.init, cal := Cal.init, sec := Sec.init,
    fab := Pass.init, tim := Tim.init, flow := Flow.init, hel := Hel.init, gal := Gal.init, lant := Lant.init,
    host := HostIf.init, dic := Dic.init, dma := List.replicate 16 ⟨false, none, false, 0, false⟩,
    side := List.replicate 2 ⟨[], false, false, false⟩,
    crc := List.replicate 4 ⟨.fw, 0, false, 0, 0xFFFFFFFF, false⟩ }

/-- Unprogrammed fuses (assumption log 11): no customer key, nothing revoked, counters at 0. -/
def Fuse.init : Fuse :=
  { dieId := List.replicate 16 0, slots := [none, none, none, none], revoked := 0, locked := false, closed := false, rollFw := 0, rollBed := 0 }

/-- The machine right after VDD_LANT is first applied (R746): registers at their reset values, CORE held until the supplies are
judged valid, memory with nothing listed, no command waiting. -/
def State.reset : State := { m := Mach.init, mem := [], fuse := Fuse.init, pending := [] }

end Sys2Proof.Machine
end

