-- ==== Sys2Proof/Machine/Ops.lean ====
section
/-!
DEFINITION. The named operations on registers, dictionary values, outputs and free values that every command is written in.
-/
namespace Sys2Proof.Machine

/-! ## Registers (R3-R7) -/

/-- The value in force of a field instance. -/
def Mach.rd (m : Mach) (r : Row) (i : Nat := 0) (j : Nat := 0) : Nat := SMap.get (r.reset i j) m.regs (r.key i j)

/-- Set a field instance, kept to its width. -/
def Mach.wr (m : Mach) (r : Row) (v : Nat) (i : Nat := 0) (j : Nat := 0) : Mach :=
  { m with regs := SMap.put (r.reset i j) m.regs (r.key i j) (v % 2 ^ r.width) }

/-- The present read value of an RWT field: the newest held value, or the value in force (R7). -/
def Mach.rdNew (m : Mach) (r : Row) (i : Nat := 0) (j : Nat := 0) : Nat :=
  match SMap.look m.held2 (r.key i j) with
  | some v => v
  | none => match SMap.look m.held1 (r.key i j) with
    | some v => v
    | none => m.rd r i j

/-- Hold an RWT value for the tick a write now is due at (R7, R17). -/
def Mach.hold (m : Mach) (r : Row) (v : Nat) (i : Nat := 0) (j : Nat := 0) : Mach :=
  let w := v % 2 ^ r.width
  if m.mc.deadline then { m with held2 := SMap.ins m.held2 (r.key i j) w }
  else { m with held1 := SMap.ins m.held1 (r.key i j) w }

/-- Add to a counter field, wrapping at its width. -/
def Mach.add (m : Mach) (r : Row) (n : Nat) (i : Nat := 0) (j : Nat := 0) : Mach := m.wr r (m.rd r i j + n) i j

/-- Add to a counter field that saturates. -/
def Mach.addSat (m : Mach) (r : Row) (n : Nat) (i : Nat := 0) (j : Nat := 0) : Mach :=
  m.wr r (satN (m.rd r i j + n) (2 ^ r.width - 1)) i j

/-- A one-bit field as a Bool. -/
def Mach.flag (m : Mach) (r : Row) (i : Nat := 0) (j : Nat := 0) : Bool := m.rd r i j == 1

/-- Whether a field key lies in a register range of BAR0. -/
def keyIn (lo hi k : Nat) : Bool := decide (lo * 32 ≤ k) && decide (k < hi * 32)

/-- Return every field of a register range to its reset value, held values included. -/
def Mach.resetRange (m : Mach) (lo hi : Nat) : Mach :=
  { m with regs := SMap.keep m.regs (fun k => !keyIn lo hi k)
           held1 := SMap.keep m.held1 (fun k => !keyIn lo hi k)
           held2 := SMap.keep m.held2 (fun k => !keyIn lo hi k) }

/-! ## Dictionary values that no register holds (R63-R70) -/

/-- The key of an entry. -/
def DKey.key (d : DKey) : Nat := d.ix * 256 + d.sb

/-- The bytes of an entry in force: its default where nothing was written. -/
def Mach.dbytes (m : Mach) (d : DKey) : List Byte := (SMap.look m.dict d.key).getD (toLE d.sz d.dflt)

/-- The value in force of an entry read as an unsigned number. -/
def Mach.dv (m : Mach) (d : DKey) : Nat := fromLE (m.dbytes d)

/-- Set an entry's value at once. -/
def Mach.dset (m : Mach) (d : DKey) (v : Nat) : Mach := { m with dict := SMap.ins m.dict d.key (toLE d.sz v) }

/-- Set an entry's bytes at once. -/
def Mach.dsetB (m : Mach) (d : DKey) (v : List Byte) : Mach := { m with dict := SMap.ins m.dict d.key v }

/-- Add to a 32-bit dictionary counter, wrapping. -/
def Mach.dadd (m : Mach) (d : DKey) (n : Nat) : Mach := m.dset d ((m.dv d + n) % 2 ^ (8 * d.sz))

/-! ## Outputs and free values -/

/-- Send something out. -/
def Mach.emit (m : Mach) (o : Out) : Mach := { m with out := m.out ++ [o] }

/-- Send several things out. -/
def Mach.emits (m : Mach) (l : List Out) : Mach := { m with out := m.out ++ l }

/-- The next free value below `bound`, where the manual gives none, and the state after drawing it. -/
def Mach.draw (m : Mach) (bound : Nat) : Nat × Mach :=
  (if bound = 0 then 0 else Config.free m.freeN % bound, { m with freeN := m.freeN + 1 })

/-- `n` free bytes. -/
def Mach.drawBytes (m : Mach) (n : Nat) : List Byte × Mach :=
  ((List.range n).map (fun k => BitVec.ofNat 8 (Config.free (m.freeN + k))), { m with freeN := m.freeN + n })

/-- Fold a function over a list of indices. -/
def Mach.each {α : Type} (m : Mach) (l : List α) (f : Mach → α → Mach) : Mach := l.foldl f m

/-- Apply `f` where `c` holds. -/
def Mach.when (m : Mach) (c : Bool) (f : Mach → Mach) : Mach := if c then f m else m

/-- The current mode, 0 to 11 for M0 to M11 (R56). -/
def Mach.mode (m : Mach) : Nat := m.rd R.SYS.MODE_STATUS.CURRENT

/-- The timing entry in force (R56). -/
def Mach.entry (m : Mach) : Nat := m.rd R.SYS.MODE_STATUS.ENTRY

/-- Modes that drive the panel: M1, M2 and M6 to M9 (R36). -/
def drivesPanel (mode : Nat) : Bool := mode == 1 || mode == 2 || (6 ≤ mode && mode ≤ 9)

/-- M6 to M9, whose rasters come from the ray path. -/
def drivesRays (mode : Nat) : Bool := 6 ≤ mode && mode ≤ 9

/-- The 64-bit tick count (R30). -/
def Mach.tickCount (m : Mach) : Nat := m.rd R.SYS.TICK_COUNT_HI.COUNT_HI * 2 ^ 32 + m.rd R.SYS.TICK_COUNT_LO.COUNT_LO

/-- The Lantern real-time seconds (R667). -/
def Mach.rtc (m : Mach) : Nat := m.rd R.LANT.RTC_SEC_HI.SEC * 2 ^ 32 + m.rd R.LANT.RTC_SEC_LO.SEC

end Sys2Proof.Machine
end

