-- ==== Sys2Proof/Machine/RegTable.lean ====
section
/-!
DEFINITION. Register words: the fields of a BAR0 offset and the 32-bit word they make (spec/01_architecture.md R3-R5, R29).
-/
namespace Sys2Proof.Machine

/-- A field instance. -/
abbrev Fld := Row × Nat × Nat

/-- The word a register reads as: RWT fields show the newest held value (R7), write-only fields 0. -/
def regWord (m : Mach) (a : Nat) : Nat :=
  (fieldsAt a).foldl (fun acc (f : Fld) =>
    let v := match f.1.acc with
      | .WO => 0
      | .RWT => m.rdNew f.1 f.2.1 f.2.2
      | _ => m.rd f.1 f.2.1 f.2.2
    acc + v * 2 ^ f.1.lo) 0

/-- A word's part for a field. -/
def Row.part (r : Row) (w : Nat) : Nat := w / 2 ^ r.lo % 2 ^ r.width

/-- `n` bytes of registers from an offset. -/
def regBytes (m : Mach) (a n : Nat) : List Byte :=
  (List.range ((n + 3) / 4)).foldr (fun k acc => toLE 4 (regWord m (a + 4 * k)) ++ acc) []

/-- Load plain read-write registers from bytes: every field takes its part of the image. -/
def regLoad (m : Mach) (a : Nat) (b : List Byte) : Mach :=
  m.each (List.range (b.length / 4)) (fun m k =>
    let w := fieldLE b (4 * k) 4
    m.each (fieldsAt (a + 4 * k)) (fun m (f : Fld) => if f.1.acc = .RW then m.wr f.1 (f.1.part w) f.2.1 f.2.2 else m))

end Sys2Proof.Machine
end

