-- ==== Sys2Proof/Machine/Flags.lean ====
section
/-!
DEFINITION. Event bits, interrupts and the MSI-X table (R6, R33, R487, R488): an event sets its bit; where the bit goes from
0 to 1 while its enable is 1, the block's vector is raised; a raise sends one message, or sets the pending bit of a masked vector.
-/
namespace Sys2Proof.Machine

/-- A table word as an unlisted key reads it: vector control has its mask bit set (assumption log 3), the rest 0. -/
def msixDflt (k : Nat) : Nat := if k % 4 = 3 then 1 else 0

/-- A word of the MSI-X table. -/
def Mach.msixWord (m : Mach) (k : Nat) : Nat := SMap.get (msixDflt k) m.msix.tab k

/-- Write a word of the MSI-X table. -/
def Mach.msixSet (m : Mach) (k v : Nat) : Mach := { m with msix := { m.msix with tab := SMap.put (msixDflt k) m.msix.tab k v } }

/-- Whether vector `v` is masked, by itself or with the whole function. -/
def Mach.msixMasked (m : Mach) (v : Nat) : Bool := m.msix.fmask || bit (m.msixWord (4 * v + 3)) 0

/-- Send vector `v`'s message (R487). -/
def Mach.msixSend (m : Mach) (v : Nat) : Mach :=
  m.emit (.msix v (m.msixWord (4 * v) + 2 ^ 32 * m.msixWord (4 * v + 1)) (m.msixWord (4 * v + 2)))

/-- A source raises vector `v` (R488). -/
def Mach.raise (m : Mach) (v : Nat) : Mach :=
  if m.msixMasked v then { m with msix := { m.msix with pba := setBit m.msix.pba v } } else m.msixSend v

/-- An event of instance `i` occurs (R6, R33, R339). -/
def Mach.ev (m : Mach) (e : Ev) (i : Nat := 0) : Mach :=
  if m.flag e.bit i then m
  else
    let m := m.wr e.bit 1 i
    if m.flag e.en i then m.raise (e.vec + i * e.step) else m

/-- An event that occurs where `c` holds. -/
def Mach.evIf (m : Mach) (c : Bool) (e : Ev) (i : Nat := 0) : Mach := if c then m.ev e i else m

end Sys2Proof.Machine
end

