-- ==== Sys2Proof/Machine/Counts.lean ====
section
/-!
DEFINITION. Health counters and the crossings that carry events to them (spec/21_health_faults_and_counters.md R713, R714;
spec/22_clock_crossing_and_reset.md R739, R740).
-/
namespace Sys2Proof.Machine

def ABORTED_BY_DISABLE : Nat := 0x26
def ABORT_LATE : Nat := 0x27

/-! ## Health counters (R713, R714) -/

/-- Add to one health counter: wrap and threshold (R714). -/
def cntAdd (m : Mach) (n : Nat) (src amount : Nat) : Mach :=
  if m.flag R.HLTH.CNT_CTRL.ENABLE n && m.rd R.HLTH.CNT_CTRL.SRC n == src then
    let old := m.rd R.HLTH.CNT_VALUE.COUNT n
    let thr := m.rd R.HLTH.CNT_THRESH.THRESH n
    let new := old + amount
    let m := m.wr R.HLTH.CNT_VALUE.COUNT new n
    let m := if 2 ^ 32 ≤ new then (m.wr R.HLTH.CNT_CTRL.OVF 1 n).ev E.HLTH.OVF else m
    m.evIf (m.flag R.HLTH.CNT_CTRL.THRESH_IRQ n && decide (old < thr) && decide (thr ≤ new)) E.HLTH.THRESH
  else m

/-- An increment of a catalogue event reaches the counters in CD35. -/
def healthCount (m : Mach) (src amount : Nat) : Mach := m.each (List.range 64) (fun m n => cntAdd m n src amount)

/-- The counters of an event whose crossing lost counts set their sticky OVF (R714, R739). -/
def healthLost (m : Mach) (src : Nat) : Mach :=
  m.each (List.range 64) (fun m n =>
    if m.flag R.HLTH.CNT_CTRL.ENABLE n && m.rd R.HLTH.CNT_CTRL.SRC n == src then
      (m.wr R.HLTH.CNT_CTRL.OVF 1 n).ev E.HLTH.OVF else m)

/-- Groups of R713 whose sources lie in CD35 itself: host and DMA, side engines, Vault, buckets, Dripstone. -/
def sourceInCD35 (src : Nat) : Bool :=
  let g := src / 32
  g == 7 || g == 8 || g == 10 || g == 12 || g == 13 || g == 14

/-- Events worth more than 1, which cross as running totals (R740): late_bytes, rays_terminated, rays_subst. -/
def sourceIsTotal (src : Nat) : Bool := src == 4 || src == 33 || src == 37

/-- A catalogue event occurs (R713): counted at once in CD35, or gathered at its crossing until a COUNTER_INCREMENT (R739, R740). -/
def hev (m : Mach) (src : Nat) (amount : Nat := 1) : Mach :=
  if sourceInCD35 src then healthCount m src amount
  else
    let acc := SMap.get 0 m.hl.pulse src + amount
    let lim := if sourceIsTotal src then 32768 else 256
    let kept := if sourceIsTotal src then acc % 65536 else satN acc 255
    { m with hl := { m.hl with
        pulse := SMap.put 0 m.hl.pulse src kept
        pulseOv := if lim ≤ acc then SMap.put 0 m.hl.pulseOv src 1 else m.hl.pulseOv } }

end Sys2Proof.Machine
end

