-- ==== Sys2Proof/Machine/LabelOps.lean ====
section
/-!
DEFINITION. Lantern's shared operations: the real-time count, the alarm, the wake sources, and the label's images, bands and ends of
update (spec/20_lantern_and_label.md R667-R684).
-/
namespace Sys2Proof.Machine

def LABEL_DONE : Nat := 0xE8
def LABEL_BAD_IMAGE : Nat := 0xE9
def LABEL_TABLE_BAD : Nat := 0xEA
def BAND_SLIP : Nat := 0xEB
def LABEL_RECOVERED : Nat := 0xEC
def LABEL_ABANDONED : Nat := 0xED
def WAKE_TIMEOUT : Nat := 0xEE

/-- Report a code of R689. -/
def lantCode (m : Mach) (c : Nat) : Mach := m.wr R.LANT.STATUS.LAST_CODE c

/-! ## Wake sources (R669, R671) -/

/-- The pins of the two power outputs, as this model numbers them. -/
def PIN_PWREN_CORE : Nat := 1
def PIN_PWREN_DRAM : Nat := 2

/-- Drive the two power outputs (R670). -/
def pwren (m : Mach) (core dram : Bool) : Mach :=
  let set (m : Mach) (r : Row) (pin : Nat) (v : Bool) : Mach :=
    if m.rd r = b2n v then m else (m.wr r (b2n v)).emit (.pin pin (b2n v))
  set (set m R.LANT.STATUS.PWREN_CORE PIN_PWREN_CORE core) R.LANT.STATUS.PWREN_DRAM PIN_PWREN_DRAM dram

/-- A wake source fires: 1 PIN, 2 ALARM, 3 SUPPLY. From M0 an enabled source wakes the device; the first is the cause, later ones are
pending. A wake during entry to M0 is latched (R52). In the other modes only the event bit is set. -/
def wakeFire (m : Mach) (src : Nat) : Mach :=
  let en := if src = 1 then m.flag R.LANT.WAKE.PIN_EN else if src = 2 then m.flag R.LANT.WAKE.ALARM_EN else m.flag R.LANT.WAKE.SUPPLY_EN
  let entering : Bool := match m.mc.imm with
    | some t => t.target == 0
    | none => false
  if m.mode = 0 then
    if !en then m
    else
      let m := m.ev E.LANT.WAKE
      if 3 ≤ m.lant.power ∨ m.lant.power = 0 then m.wr R.LANT.WAKE.PENDING (setBit (m.rd R.LANT.WAKE.PENDING) (src - 1))
      else
        let m := hev (m.wr R.LANT.WAKE.CAUSE src) 490
        -- an OFF_DELAY under way is cancelled: the supplies are still valid
        let next := if m.lant.power = 1 then 0 else 3
        pwren { m with lant := { m.lant with power := next } } true true
  else
    let m := m.ev E.LANT.WAKE
    if entering && en then
      let first := !m.mc.latchedWk
      let m := { m with mc := { m.mc with latchedWk := true } }
      if first then hev (m.wr R.LANT.WAKE.CAUSE src) 490 else m.wr R.LANT.WAKE.PENDING (setBit (m.rd R.LANT.WAKE.PENDING) (src - 1))
    else m

/-! ## The real-time count (R667, R668) -/

/-- The alarm value; 0 disables it (R690). -/
def alarmAt (m : Mach) : Nat := m.rd R.LANT.ALARM_HI.SEC * 2 ^ 32 + m.rd R.LANT.ALARM_LO.SEC

/-- The alarm fires. -/
def alarmFire (m : Mach) : Mach := wakeFire (m.ev E.LANT.ALARM) 2

/-- Set the seconds count, and fire the alarm where `judge` holds and the alarm value lies between. -/
def rtcSet (m : Mach) (sec : Nat) (judge : Bool) : Mach :=
  let old := m.rtc
  let a := alarmAt m
  let m := (m.wr R.LANT.RTC_SEC_LO.SEC (sec % 2 ^ 32)).wr R.LANT.RTC_SEC_HI.SEC (sec / 2 ^ 32)
  if judge && m.flag R.LANT.WAKE.ALARM_EN && a != 0 && decide (old < a) && decide (a ≤ sec) then alarmFire m else m

/-- One second in units of 2^-16 ns. -/
def secondQ : Nat := 1000000000 * 65536

/-- The count runs on by a time in 2^-16 ns (assumption log 50). -/
def rtcRun (m : Mach) (q : Nat) : Mach :=
  let s := m.lant.sub + q
  let m := { m with lant := { m.lant with sub := s % secondQ } }
  let m := m.wr R.LANT.RTC_SUB.SUB (s % secondQ * 32768 / secondQ)
  if s < secondQ then m else rtcSet m (m.rtc + s / secondQ) true

/-- Load the seconds count and clear the cycles within the second (R667). -/
def rtcLoad (m : Mach) (sec : Nat) (judge : Bool) : Mach :=
  let m := ({ m with lant := { m.lant with sub := 0 } }).wr R.LANT.RTC_SUB.SUB 0
  rtcSet m sec judge

/-! ## Images and bands (R673-R677) -/

/-- The label's width, height and bytes per row. -/
def labelW (m : Mach) : Nat := m.dv D.label_geometry % 65536
def labelH (m : Mach) : Nat := m.dv D.label_geometry / 65536
def labelRow (m : Mach) : Nat := ceilDiv (labelW m) 4

/-- The two bits of pixel `i` of a byte. -/
def px2 (b : Byte) (i : Nat) : Nat := b.toNat / 4 ^ i % 4

/-- Whether an image is valid (R673). -/
def imageValid (m : Mach) (img : List Byte) : Bool :=
  let r := labelRow m
  let w := labelW m
  img.length == labelH m * r &&
  ((List.range img.length).zip img).all (fun e => (List.range 4).all (fun i =>
    if 4 * (e.1 % r) + i < w then px2 e.2 i != 3 else px2 e.2 i == 0))

/-- An image of one pixel code, for the geometry in force. -/
def imageOf (m : Mach) (code : Nat) : List Byte :=
  let r := labelRow m
  let w := labelW m
  (List.range (labelH m * r)).map (fun k =>
    BitVec.ofNat 8 (sumN ((List.range 4).map (fun i => if 4 * (k % r) + i < w then code * 4 ^ i else 0))))

/-- The label's temperature in use, 1/16 C (R675). -/
def labelTemp (m : Mach) : Int :=
  if m.dv D.label_temp_source = 1 ∨ m.flag R.LANT.LABEL_STATUS.TEMP_FAULT then sInt 16 (m.dv D.label_temp_written)
  else sInt 16 (m.rd R.LANT.LABEL_TEMP.TEMP)

/-- Band edge k, 1 to 7, in 1/16 C. -/
def bandEdge (m : Mach) (k : Nat) : Int := 16 * fieldLES (m.dbytes D.band_edges) (k - 1) 1

/-- The band of a temperature (R676). -/
def bandOf (m : Mach) (t : Int) : Nat := ((List.range 7).filter (fun k => decide (bandEdge m (k + 1) ≤ t))).length

/-- Whether a temperature has slipped out of a band by 10 K (R680). -/
def bandSlipped (m : Mach) (k : Nat) (t : Int) : Bool :=
  (decide (1 ≤ k) && decide (t < bandEdge m k - 160)) || (decide (k < 7) && decide (bandEdge m (k + 1) + 160 ≤ t))

/-- The waveform table of a band: the default is one phase of 20 frames that drives every transition to its new colour (R690). -/
def waveTable (m : Mach) (k : Nat) : List Byte :=
  (SMap.look m.dict (0xC020 * 256 + k + 1)).getD ([20] ++ toLE 3 (sumN ((List.range 9).map (fun i =>
    (if i % 3 = 0 then 2 else if i % 3 = 1 then 1 else 3) * 4 ^ i))))

/-- Whether a table keeps to R677: 1 to 64 rows of 4 bytes, each phase at least one frame. -/
def tableValid (t : List Byte) : Bool :=
  t.length % 4 == 0 && decide (4 ≤ t.length) && decide (t.length ≤ 256) &&
  (List.range (t.length / 4)).all (fun p => fieldLE t (4 * p) 1 != 0)

/-! ## Ends of an update (R679, R682, R683) -/

/-- The state a label driver rests in. -/
def labelRest (m : Mach) : Nat := if m.flag R.LANT.LABEL_CTRL.ENABLE then 0 else 4

/-- An update ends with a code. -/
def labelEnd (m : Mach) (code : Nat) : Mach :=
  let m := { m with lant := { m.lant with run := none, leave := false, stop := false } }
  let m := (lantCode m code).wr R.LANT.LABEL_STATUS.CODE code
  let m := (m.wr R.LANT.LABEL_STATUS.STATE (labelRest m)).wr R.LANT.LABEL_STATUS.PHASE 0
  hev (m.ev E.LANT.LABEL_END) 488

/-- The Vault will not commit a LABEL record: an update that waits for it ends (R679). -/
def labelRefused (m : Mach) : Mach :=
  match m.lant.run with
  | some r => if r.ok then m else labelEnd m LABEL_ABANDONED
  | none => m

/-! ## Modes (R682, R686, R687) -/

/-- What a mode that takes effect does to the label and the glow buffer. -/
def lantMode (m : Mach) (new : Nat) : Mach :=
  let m := if (new = 0 ∨ new = 3 ∨ new = 11) ∧ m.lant.run.isSome then { m with lant := { m.lant with leave := true } } else m
  let m := if new = 0 ∨ new = 3 ∨ new = 4 ∨ new = 11 then
      let base := m.rd R.LANT.GLOW_BASE_LO.BASE + m.rd R.LANT.GLOW_BASE_HI.BASE
      { m.wr R.LANT.GLOW_STATUS.READY 0 with lant := { m.lant with glow := [], copy := none, load := base != 0, bad := [] } }
    else m
  m.evIf (new == 2 && !m.flag R.LANT.GLOW_STATUS.READY) E.LANT.GLOW_NOT_READY

end Sys2Proof.Machine
end

