-- ==== Sys2Proof/Machine/VaultOps.lean ====
section
/-!
DEFINITION. The Vault's shared operations: record requests and their order, the journal's sectors and records, the live set,
and what is latest (spec/19_vault_persistent_state.md R641-R657).
-/
namespace Sys2Proof.Machine

/-! ## Codes (R657) and record types (R645) -/

def VAULT_FAILED : Nat := 0xA6
def VAULT_DENIED : Nat := 0xA7
def VAULT_COMMITTED : Nat := 0xA8
def VAULT_REPLAYED : Nat := 0xA9
def VAULT_EMPTY : Nat := 0xAA
def VAULT_SINGLE : Nat := 0xAB
def VAULT_RECORD_BAD : Nat := 0xAC
def VAULT_SECTOR_RETIRED : Nat := 0xAD
def VAULT_FULL : Nat := 0xAE
def VAULT_DROPPED : Nat := 0xAF

/-- The place of a record type in the opening order of R646. -/
def vaultPrio (typ : Nat) : Nat :=
  match typ with
  | 9 => 0 | 3 => 1 | 8 => 2 | 2 => 3 | 7 => 4 | 0xA => 5 | 1 => 6 | 4 => 7 | 5 => 8 | 6 => 8
  | _ => 9

/-- The party that may request a type (R645): DOSE and DOSE_END are firmware's, the other listed types Bedrock's. -/
def vaultMay (p : Principal) (typ : Nat) : Bool :=
  match p with
  | .fw => typ == 5 || typ == 6
  | .bed => (1 ≤ typ && typ ≤ 4) || (7 ≤ typ && typ ≤ 10)
  | _ => false

/-- Bytes a record of a payload length takes in its sector (R643). -/
def recSize (len : Nat) : Nat := 32 + 16 * ceilDiv len 16

/-- Bytes of one sector (R640). -/
def sectorBytes : Nat := 65536

/-! ## The journal -/

/-- Journal sectors erased with a valid header ahead of the head (R659 FREE). -/
def Vault.free (v : Vault) : Nat := (v.sectors.filter (fun s => s.erased && !s.retired)).length

/-- Every present record of the journal. -/
def Vault.records (v : Vault) : List VRec := v.sectors.foldr (fun s acc => s.recs ++ acc) []

/-- The highest generation that has a DOSE_END record (R653), 0 when none has. -/
def Vault.doseGen (v : Vault) : Nat := maxN ((v.records.filter (fun r => r.typ == 6 && !r.bad)).map (·.key))

/-- The latest good record of a type and key (R645): highest seq; for ROLLBACK the largest counter. -/
def Vault.latest (v : Vault) (typ key : Nat) : Option VRec :=
  (v.records.filter (fun r => r.typ == typ && r.key == key && !r.bad)).foldl
    (fun best r => match best with
      | none => some r
      | some b =>
        if typ = 9 then (if fieldLE b.pay 0 1 ≤ fieldLE r.pay 0 1 then some r else some b)
        else if b.seq ≤ r.seq then some r else some b) none

/-- Whether reclamation would copy a record (R647): it is latest for its type and key, and a DOSE or DOSE_END record is not of a
generation older than the one a replay would use (assumption log 20). -/
def Vault.isLive (v : Vault) (r : VRec) : Bool :=
  (match v.latest r.typ r.key with
   | some l => l.seq == r.seq
   | none => false) &&
  (if r.typ = 5 then v.doseGen ≤ r.key / 256 else if r.typ = 6 then v.doseGen ≤ r.key else true)

/-- The live set in bytes (R647). -/
def Vault.liveBytes (v : Vault) : Nat :=
  sumN ((v.records.filter v.isLive).map (fun r => recSize r.pay.length))

/-- The next erased sector after the head in ring order, passing over retired ones (R647). -/
def Vault.nextErased (v : Vault) : Option Nat :=
  ((List.range v.sectors.length).map (fun k => (v.head + 1 + k) % v.sectors.length)).find? (fun i =>
    match v.sectors[i]? with
    | some s => s.erased && !s.retired
    | none => false)

/-- Whether the record fits in the head sector. -/
def Vault.fitsHead (v : Vault) (size : Nat) : Bool :=
  match v.sectors[v.head]? with
  | some s => s.valid && !s.retired && decide (s.used + size ≤ sectorBytes)
  | none => false

/-- Put a record into the journal: into the head sector, or into the next erased one, which becomes the head (R643). -/
def Vault.append (v : Vault) (r : VRec) : Vault :=
  let size := recSize r.pay.length
  let put (v : Vault) (i : Nat) : Vault :=
    { v with sectors := modAt v.sectors i (fun s => { s with erased := false, used := s.used + size, recs := s.recs ++ [r] }) }
  if v.fitsHead size then put v v.head
  else match v.nextErased with
    | some i => put { v with head := i } i
    | none => v

/-! ## Status registers (R659, R662) -/

/-- Bring the reported figures up to date. -/
def vaultRefresh (m : Mach) : Mach :=
  let v := m.vlt
  let ok := v.sectors.filter (fun s => !s.retired)
  let wmin := match ok.map (·.erase) with
    | [] => 0
    | e :: es => es.foldl Nat.min e
  let m := m.wr R.VAULT.STATUS.FREE v.free
  let m := m.wr R.VAULT.STATUS.DEVICES v.devOk
  let m := m.wr R.VAULT.WEAR_MIN.COUNT wmin
  let m := m.wr R.VAULT.WEAR_MAX.COUNT (maxN (ok.map (·.erase)))
  let m := m.wr R.VAULT.LIVE.RETIRED (v.sectors.length - ok.length)
  m.wr R.VAULT.LIVE.LIVE_KIB (ceilDiv v.liveBytes 1024)

/-- Report a code of R657. -/
def vaultCode (m : Mach) (c : Nat) : Mach := m.wr R.VAULT.STATUS.LAST_CODE c

/-- STATE values of R659. -/
def vaultState (m : Mach) : Nat := m.rd R.VAULT.STATUS.STATE

/-! ## Requests (R646, R661) -/

/-- The outcome of a request that came through the request registers (R661). -/
def vaultAnswerReg (m : Mach) (c : Nat) : Mach :=
  (m.wr R.VAULT.REQ_STATUS.BUSY 0).wr R.VAULT.REQ_STATUS.STATUS c

/-- Tell a requester that its record will not commit: the registers' status, the STORE in progress (R76), the label update that
waits for its DIRTY record (R679), or a package store, which leaves the stored package as it was (R595). -/
def vaultRefuse (m : Mach) (r : VReq) (c : Nat) : Mach :=
  match r.by_ with
  | .reg => vaultAnswerReg m c
  | .store => { m with vlt := { m.vlt with storeLost := true } }
  | .label => labelRefused m
  | .vcp =>
    let m := (m.wr R.CAL.VCP_STATUS.BUSY 0).evIf m.cal.vcp.isSome E.CAL.VCP_DONE
    { m with cal := { m.cal with vcp := none } }
  | _ => m
/-- The request the controller would open next (R646), limited to ROLLBACK, RETIRE, LABEL and HOURS while fewer than 2
erased sectors remain (R647). -/
def Vault.pick (v : Vault) : Option VReq :=
  let ok (r : VReq) : Bool := decide (2 ≤ v.free) || r.typ == 9 || r.typ == 3 || r.typ == 8 || r.typ == 4
  (v.held.filter ok).foldl (fun best r => match best with
    | none => some r
    | some b => if vaultPrio r.typ < vaultPrio b.typ then some r else some b) none

/-- The HOURS payload in force (R645, R652). -/
def hoursPayload (m : Mach) : List Byte :=
  toLE 4 (m.rd R.VAULT.OPER_S_LO.VALUE) ++ toLE 4 (m.rd R.VAULT.OPER_S_HI.VALUE) ++
  toLE 4 (m.rd R.VAULT.PANEL_S_LO.VALUE) ++ toLE 4 (m.rd R.VAULT.PANEL_S_HI.VALUE) ++ toLE 4 m.vlt.cycles ++ toLE 12 0

/-- Whether a payload length finds a place in the journal. -/
def Vault.room (v : Vault) (len : Nat) : Bool := v.fitsHead (recSize len) || v.nextErased.isSome

/-- The length of a payload. -/
def VPay.len : VPay → Nat
  | .bytes b => b.length
  | .dram _ n => n

/-- Open the next record where none is open and one may open (R646, R647, R650). -/
def vaultKick (m : Mach) : Mach :=
  let st := vaultState m
  if m.vlt.opened.isSome || (st != 2 && st != 3 && st != 4) then m
  else if m.vlt.pfwHours then
    -- R650: one HOURS record opens on the falling edge of PFW_N
    { m with vlt := { m.vlt with pfwHours := false, opened := some ⟨4, 0, .bytes (hoursPayload m), .pfw⟩ } }
  else if m.mc.pfwLow || st == 4 then m
  else
    match m.vlt.pick with
    | some r =>
      if m.vlt.room r.pay.len then
        { m with vlt := { m.vlt with opened := some r, held := m.vlt.held.erase r, suspended := m.vlt.erasing.isSome } }
      else m
    | none => if m.vlt.held.isEmpty then m else (vaultCode m VAULT_FULL).ev E.VAULT.FULL

/-- Hold a record request (R646): it replaces a held one of the same type and key; with all 64 places taken it is refused
with VAULT_FULL; with both devices failed it is answered VAULT_FAILED (R649). -/
def vaultRequest (m : Mach) (r : VReq) : Mach :=
  if vaultState m = 5 then vaultRefuse (vaultCode m VAULT_FAILED) r VAULT_FAILED
  else
    match m.vlt.held.findIdx? (fun h => h.typ == r.typ && h.key == r.key) with
    | some i => vaultKick { m with vlt := { m.vlt with held := setAt m.vlt.held i r } }
    | none =>
      if 64 ≤ m.vlt.held.length then vaultRefuse (vaultCode m VAULT_FULL) r VAULT_FULL
      else vaultKick { m with vlt := { m.vlt with held := m.vlt.held ++ [r] } }

/-- A RETIRE record (R645): state 1 retired, 0 restored. -/
def retireRecord (m : Mach) (kind unit state code : Nat) : Mach :=
  vaultRequest m ⟨3, kind * 65536 + unit,
    .bytes ([BitVec.ofNat 8 state, BitVec.ofNat 8 code, 0, 0] ++ toLE 8 m.tickCount), .retire⟩

end Sys2Proof.Machine
end

