-- ==== Sys2Proof/Machine/HealthOps.lean ====
section
/-!
DEFINITION. Leaky buckets, the Sump ledger and performance counters as every block uses them
(spec/21_health_faults_and_counters.md R697-R706, R715-R721).
-/
namespace Sys2Proof.Machine

def UNIT_RETIRED : Nat := 0x68
def UNIT_RESTORED : Nat := 0x69
def DRIP_DONE : Nat := 0x6A
def DRIP_LATE : Nat := 0x6B
def DRIP_DRAINED : Nat := 0x6C
def SUMP_WRAPPED : Nat := 0x6D
def TELEM_SKIPPED : Nat := 0x6E

/-! ## The Sump ledger (R703-R706) -/

def SF_TRANSIENT : Nat := 1
def SF_PERMANENT : Nat := 2
def SF_RETIRED : Nat := 4
def SF_RESTORED : Nat := 8
def SF_FATAL : Nat := 16
def SF_COALESCED : Nat := 32
def SF_NOT_PERSISTED : Nat := 64

/-- Whether an entry's flags leave it coalescable (R704). -/
def coalescable (flags : Nat) : Bool := flags / 2 % 16 == 0

/-- An entry's 32 bytes (R703). -/
def SumpE.bytes (e : SumpE) : List Byte :=
  toLE 4 e.seq ++ toLE 4 e.tick ++ toLE 8 e.rtc ++ toLE 1 e.kind ++ toLE 1 e.flags ++ toLE 2 e.unit ++ toLE 1 e.code ++
  toLE 1 e.weight ++ toLE 2 e.level ++ toLE 4 e.count ++ toLE 4 e.detail

/-- Bits `f` set in `flags`. -/
def orFlags (flags f : Nat) : Nat := (bitList 8 f).foldl setBit flags

/-- Ask the Vault to keep an entry (R705). -/
def sumpPersist (m : Mach) (e : SumpE) : Mach := vaultRequest m ⟨2, e.seq % 4096, .bytes e.bytes, .sump⟩

/-- Record an event in the ledger (R703-R706): in place where it may be coalesced, else as a new entry. -/
def sumpAdd (m : Mach) (kind unit flags code weight level detail : Nat) : Mach :=
  let now := m.rtc
  let same (e : SumpE) : Bool := e.kind == kind && e.unit == unit
  let fits (e : SumpE) : Bool := same e && coalescable e.flags && e.window && decide (now < e.opened + m.dv D.sump_coalesce_s)
  let newest := m.hl.sump.findIdx? same
  match newest with
  | some i =>
    match m.hl.sump[i]? with
    | some e =>
      if coalescable flags && fits e then
        let e' := { e with count := e.count + 1, tick := m.tickCount % 2 ^ 32, rtc := now, code := code, weight := weight,
                           level := level, detail := detail, flags := setBit (orFlags e.flags flags) 5 }
        { m with hl := { m.hl with sump := setAt m.hl.sump i e' } }
      else fresh m now
    | none => fresh m now
  | none => fresh m now
where
  /-- A new entry (R704, R706). -/
  fresh (m : Mach) (now : Nat) : Mach :=
    let e : SumpE := ⟨m.hl.nextSeq, m.tickCount % 2 ^ 32, now, kind, flags, unit, code, weight, level, 1, detail, now,
      coalescable flags⟩
    let full := decide (4096 ≤ m.hl.sump.length)
    let m := { m with hl := { m.hl with sump := e :: (m.hl.sump.take 4095), nextSeq := (m.hl.nextSeq + 1) % 2 ^ 32 } }
    let m := m.wr R.HLTH.SUMP_SEQ.SEQ e.seq
    let m := m.wr R.HLTH.STATUS.SUMP_FILL m.hl.sump.length
    let m := if full then (m.wr R.HLTH.STATUS.LAST_CODE SUMP_WRAPPED).ev E.HLTH.SUMP_WRAPPED else m
    if coalescable flags then m else sumpPersist m e

/-- A SYSTEM entry, named by its catalogue event, which it also counts (R704, R713). -/
def sumpSystem (m : Mach) (event code detail : Nat) (fatal : Bool := false) : Mach :=
  hev (sumpAdd m 0 event (if fatal then SF_FATAL else 0) code 0 0 detail) event

/-! ## Leaky buckets (R697-R701) -/

/-- How many units a kind has (R697); kind 7 has the journal's sectors. -/
def kindUnits (m : Mach) (kind : Nat) : Nat :=
  match kind with
  | 1 => 34 | 2 => 68 | 3 => 26 | 4 => 64 | 5 => 8 | 6 => 48 | 7 => m.vlt.sectors.length | 8 => 12 | 9 => 4 | 10 => 16
  | 11 => 1 | 12 => 4 | 13 => 1
  | _ => 0

/-- The key of a unit's bucket. -/
def bktKey (kind unit : Nat) : Nat := kind * 65536 + unit

/-- A unit's bucket level. -/
def bktLevel (m : Mach) (kind unit : Nat) : Nat := SMap.get 0 m.hl.level (bktKey kind unit)

/-- Whether a unit is retired. -/
def isRetired (m : Mach) (kind unit : Nat) : Bool := SMap.get 0 m.hl.retired (bktKey kind unit) == 1

/-- Set a unit's bucket level. -/
def setLevel (m : Mach) (kind unit v : Nat) : Mach :=
  { m with hl := { m.hl with level := SMap.put 0 m.hl.level (bktKey kind unit) v } }

/-- The dictionary entry of a kind's threshold and leak interval. -/
def bktEntry (kind : Nat) : DKey := ⟨0xA010, kind, 8, match kind with
  | 1 => D.bucket_kind_0.dflt | 2 => D.bucket_kind_1.dflt | 3 => D.bucket_kind_2.dflt | 4 => D.bucket_kind_3.dflt
  | 5 => D.bucket_kind_4.dflt | 6 => D.bucket_kind_5.dflt | 7 => D.bucket_kind_6.dflt | 8 => D.bucket_kind_7.dflt
  | 9 => D.bucket_kind_8.dflt | 10 => D.bucket_kind_9.dflt | 11 => D.bucket_kind_10.dflt | 12 => D.bucket_kind_11.dflt
  | _ => D.bucket_kind_12.dflt⟩

/-- A kind's threshold in force (R697). -/
def bktThreshold (m : Mach) (kind : Nat) : Nat := m.dv (bktEntry kind) % 65536

/-- Mark a unit retired: kinds 1 to 7 are committed as a RETIRE record (R699). -/
def markRetired (m : Mach) (kind unit code : Nat) : Mach :=
  let m := { m with hl := { m.hl with retired := SMap.put 0 m.hl.retired (bktKey kind unit) 1 } }
  if 1 ≤ kind ∧ kind ≤ 7 then retireRecord m kind unit 1 code else m

/-- Count an event in a unit's bucket (R698-R701) and tell whether it crossed. A crossing retires the unit where its kind
retires (R697) and `may` allows it; kinds 8 and 9 are emptied. What the owning block does at the crossing is its own. -/
def bucketAdd (m : Mach) (kind unit weight code detail : Nat) (may : Bool := true) : Bool × Mach :=
  if isRetired m kind unit then
    (false, sumpAdd m kind unit 0 code weight (bktLevel m kind unit) detail)
  else
    let lv := satN (bktLevel m kind unit + weight) 0xFFFF
    let m := (hev (setLevel m kind unit lv) (384 + kind)).ev E.HLTH.BUCKET
    if bktThreshold m kind ≤ lv then
      let empties := kind == 8 || kind == 9
      let retires := may && !empties
      let flags := SF_PERMANENT + (if retires then SF_RETIRED else 0)
      let m := sumpAdd m kind unit flags code weight lv detail
      let m := (hev m (416 + kind)).ev E.HLTH.CROSSED
      let m := if empties then setLevel m kind unit 0 else m
      (true, if retires then markRetired m kind unit code else m)
    else (false, sumpAdd m kind unit SF_TRANSIENT code weight lv detail)

/-- Weight of an uncorrectable memory error (R698). -/
def wUncorr : Nat := 4

/-! ## Performance counters (R715-R719) -/

/-- What an access brings to the filters of R716. -/
structure Access where
  principal : Nat          -- 0 BED, 1 FW, 2 HOST
  master    : Nat
  addr      : Nat
  cls       : Option Nat   -- quota class of R466, none outside them
  rayPath   : Bool
  deriving DecidableEq, Repr

/-- The 48-bit value of counter `n`. -/
def perfValue (m : Mach) (n : Nat) : Nat :=
  m.rd R.PERF.CNT_VALUE_HI.VALUE n * 2 ^ 32 + m.rd R.PERF.CNT_VALUE_LO.VALUE n

/-- Set the 48-bit value of counter `n`. -/
def perfSet (m : Mach) (n v : Nat) : Mach :=
  (m.wr R.PERF.CNT_VALUE_LO.VALUE (v % 2 ^ 32) n).wr R.PERF.CNT_VALUE_HI.VALUE (v / 2 ^ 32) n

/-- A wrap of counter `n` is flagged and carried into a chained successor (R718, R732). -/
def perfCarry (m : Mach) : Nat → Nat → Mach
  | 0, _ => m
  | fuel + 1, n =>
    let had := bit (m.rd R.PERF.OVF.OVF) n
    let m := m.wr R.PERF.OVF.OVF (setBit (m.rd R.PERF.OVF.OVF) n)
    let m := if !had && bit (m.rd R.PERF.OVF_IRQ_EN.EN) n then m.raise 15 else m
    if n + 1 < 32 ∧ m.flag R.PERF.CNT_CTRL.CHAIN (n + 1) ∧ m.flag R.PERF.CNT_CTRL.ENABLE (n + 1) then
      let v := perfValue m (n + 1) + 1
      let m := perfSet m (n + 1) v
      if 2 ^ 48 ≤ v then perfCarry m fuel (n + 1) else m
    else m

/-- Whether an access passes counter `n`'s filters (R716). -/
def perfMatches (m : Mach) (n : Nat) (a : Access) : Bool :=
  let priv := bit (m.rd R.PERF.CNT_CTRL.PRIV n) a.principal
  let id := m.rd R.PERF.CNT_FILT_MASTER.ID n
  let mask := m.rd R.PERF.CNT_FILT_MASTER.MASK n
  let mast := !m.flag R.PERF.CNT_CTRL.MASTER_EN n || (Nat.land a.master mask == Nat.land id mask)
  let base := m.rd R.PERF.CNT_FILT_BASE_HI.BASE n * 2 ^ 32 + m.rd R.PERF.CNT_FILT_BASE_LO.BASE n
  let fin := m.rd R.PERF.CNT_FILT_END_HI.END n * 2 ^ 32 + m.rd R.PERF.CNT_FILT_END_LO.END n
  let addr := !m.flag R.PERF.CNT_CTRL.ADDR_EN n || (decide (base ≤ a.addr) && decide (a.addr < fin))
  let cl := match a.cls with
    | some c => bit (m.rd R.PERF.CNT_CTRL.CLASS n) c
    | none => m.rd R.PERF.CNT_CTRL.CLASS n == 0xFF
  addr && (a.rayPath || (priv && mast && cl))

/-- Where an event has no access to filter. -/
def noAccess : Access := ⟨0, 0, 0, none, false⟩

/-- Events of R715 that accept filters. -/
def perfFiltered (e : Nat) : Bool := (0x10 ≤ e && e ≤ 0x18) || (0x20 ≤ e && e ≤ 0x22)

/-- An increment of a performance event (R715-R718, R721 FREEZE). -/
def perfCount (m : Mach) (event amount : Nat) (a : Access) : Mach :=
  if m.flag R.PERF.GLOBAL_CTRL.FREEZE then m
  else m.each (List.range 32) (fun m n =>
    if m.flag R.PERF.CNT_CTRL.ENABLE n && (n == 0 || !m.flag R.PERF.CNT_CTRL.CHAIN n) &&
        m.rd R.PERF.CNT_CTRL.EVENT n == event && event != 0 && (!perfFiltered event || perfMatches m n a) then
      let v := perfValue m n + amount
      let m := perfSet m n v
      if 2 ^ 48 ≤ v then perfCarry m 32 n else m
    else m)

/-! ## Values due at a tick (R7, R17) -/

/-- A value that arrives after the commit deadline is reported (R17, R32). -/
def deferNote (m : Mach) : Mach := if m.mc.deadline then hev (m.ev E.SYS.COMMIT_DEFERRED) 484 else m

end Sys2Proof.Machine
end

