-- ==== Sys2Proof/Machine/Timing.lean ====
section
/-!
DEFINITION. The 24 fixed timing entries and the payload of the lanes (spec/09_scanout_and_panel_driving.md R304-R309).
-/
namespace Sys2Proof.Machine

/-- A timing entry (R304): active width and height in pixels, rate as num/den Hz, total lines, bundles, columns per bundle and
lane generation. -/
structure TEntry where
  w     : Nat
  h     : Nat
  num   : Nat
  den   : Nat
  lines : Nat
  b     : Nat
  cols  : Nat
  gen   : Nat
  deriving DecidableEq, Repr

/-- T00 to T07. -/
def entryTableA : List TEntry :=
  [⟨30720, 17280, 60, 1, 17600, 12, 2560, 3⟩, ⟨30720, 17280, 60000, 1001, 17600, 12, 2560, 3⟩,
   ⟨30720, 17280, 50, 1, 17600, 12, 2560, 3⟩, ⟨30720, 17280, 48, 1, 17600, 12, 2560, 3⟩,
   ⟨30720, 17280, 30, 1, 17600, 12, 2560, 2⟩, ⟨30720, 17280, 25, 1, 17600, 12, 2560, 2⟩,
   ⟨30720, 17280, 24, 1, 17600, 12, 2560, 2⟩, ⟨30720, 17280, 24000, 1001, 17600, 12, 2560, 2⟩]

/-- T08 to T15. -/
def entryTableB : List TEntry :=
  [⟨15360, 8640, 240, 1, 8800, 12, 1280, 3⟩, ⟨15360, 8640, 240000, 1001, 8800, 12, 1280, 3⟩,
   ⟨15360, 8640, 120, 1, 8800, 12, 1280, 2⟩, ⟨15360, 8640, 120000, 1001, 8800, 12, 1280, 2⟩,
   ⟨15360, 8640, 100, 1, 8800, 12, 1280, 2⟩, ⟨15360, 8640, 60, 1, 8800, 12, 1280, 2⟩,
   ⟨15360, 8640, 60000, 1001, 8800, 12, 1280, 2⟩, ⟨15360, 8640, 50, 1, 8800, 12, 1280, 1⟩]

/-- T16 to T23. -/
def entryTableC : List TEntry :=
  [⟨20480, 11520, 120, 1, 11776, 10, 2048, 3⟩, ⟨20480, 11520, 120000, 1001, 11776, 10, 2048, 3⟩,
   ⟨20480, 11520, 60, 1, 11776, 10, 2048, 2⟩, ⟨20480, 11520, 60000, 1001, 11776, 10, 2048, 2⟩,
   ⟨10240, 5760, 240, 1, 5888, 8, 1280, 3⟩, ⟨10240, 5760, 120, 1, 5888, 8, 1280, 2⟩,
   ⟨10240, 5760, 60, 1, 5888, 8, 1280, 1⟩, ⟨10240, 5760, 50, 1, 5888, 8, 1280, 1⟩]

/-- Entry Tn; T00 for a number above 23, which no register holds (R55, R58). -/
def tentry (n : Nat) : TEntry := (entryTableA ++ entryTableB ++ entryTableC).getD n ⟨30720, 17280, 60, 1, 17600, 12, 2560, 3⟩

/-- Bands of a frame (R24). -/
def TEntry.bands (t : TEntry) : Nat := t.h / 64

/-- Blanking lines (R304). -/
def TEntry.blank (t : TEntry) : Nat := t.lines - t.h

/-- Rays per second are 3WH times the rate (R304), as a quotient. -/
def TEntry.rays (t : TEntry) : Nat × Nat := (3 * t.w * t.h * t.num, t.den)

/-- Tokens = 48 + ceil(320 * Rays / 95,551,488,000) (R304). -/
def TEntry.tokens (t : TEntry) : Nat := 48 + ceilDiv (320 * (3 * t.w * t.h * t.num)) (95551488000 * t.den)

/-- Demand of each used bundle in bit/s: (columns * 30 + 2,048) * line rate, as a quotient (R304). -/
def TEntry.demand (t : TEntry) : Nat × Nat := ((t.cols * 30 + 2048) * t.lines * t.num, t.den)

/-- Payload of one lane in bit/s at a generation, as a quotient (R306). -/
def lanePayload (gen : Nat) : Nat × Nat :=
  match gen with
  | 1 => (8000000000 * 8, 10)
  | 2 => (16000000000 * 64, 66)
  | 3 => (32000000000 * 128, 130)
  | _ => (0, 1)

/-- Whether `n` lanes at the entry's generation carry its demand (R309). -/
def TEntry.carried (t : TEntry) (n : Nat) : Bool :=
  let d := t.demand
  let p := lanePayload t.gen
  decide (d.1 * p.2 ≤ n * p.1 * d.2)

/-- CD03 cycles per line: floor(1.2 GHz * line time) (R307). -/
def TEntry.n (t : TEntry) : Nat := 1200000000 * t.den / (t.lines * t.num)

/-- Line time rounded down to whole ns (R326). -/
def TEntry.lineNs (t : TEntry) : Nat := 1000000000 * t.den / (t.lines * t.num)

/-- Band time in ns, rounded down (R24). -/
def TEntry.bandNs (t : TEntry) : Nat := 64 * 1000000000 * t.den / (t.lines * t.num)

/-- Band sample budget with `e` active engines, in samples: 0.9 * e * 12 * 1.6 GHz * the band time (R13), rounded down. -/
def TEntry.budget (t : TEntry) (e : Nat) : Nat := 9 * e * 12 * 1600000000 * 64 * t.den / (10 * t.lines * t.num)

end Sys2Proof.Machine
end

