-- ==== Sys2Proof/Machine/ChimneyOps.lean ====
section
/-!
DEFINITION. Chimney: the reservation, the side pool, requests, grants and their settlement (spec/16_power_and_thermal.md
R551-R561).
-/
namespace Sys2Proof.Machine

def CHIM_RESERVE_OVER : Nat := 0xF0
def CHIM_REVOKED : Nat := 0xF1
def CHIM_TOO_LARGE : Nat := 0xF2

/-! Classes of R554. -/
def C_TRAIN : Nat := 0
def C_DECODE : Nat := 1
def C_CAL : Nat := 2
def C_SCRUB : Nat := 3
def C_TAP : Nat := 4
def C_DMA : Nat := 5
def C_BLIT : Nat := 6
def C_CRC : Nat := 7
def C_DEFL : Nat := 8

/-- The reservation of a mode and entry (R552). -/
def reservation (mode entry reqEntry : Nat) : Nat :=
  match mode with
  | 1 => 24 | 2 => 24
  | 3 => 80
  | 4 => 48 | 11 => 48
  | 5 => (tentry reqEntry).tokens
  | 6 => (tentry entry).tokens | 7 => (tentry entry).tokens | 8 => (tentry entry).tokens | 9 => (tentry entry).tokens
  | 10 => 368
  | _ => 0

/-- The reservation in force (R575). -/
def chimReserve (m : Mach) : Nat := m.rd R.CHIM.STATUS.RESERVE

/-- Whether THROTTLE is applied: the level, a fast rise, or too few GOOD sensors (R565-R568). -/
def throttleOn (m : Mach) : Bool := m.th.throttle || m.th.stepDown || m.th.fastRise || m.flag R.THRM.STATUS.FLOOR

/-- The side pool (R553, R568). -/
def sidePool (m : Mach) : Nat :=
  let side := m.ch.pool - chimReserve m
  if throttleOn m then m.dv D.throttle_share * side / 100 else side

/-- Tokens a class holds, those of a holder on its way to its pause point included (R555). -/
def Chim.held (c : Chim) (cls : Nat) : Nat := sumN ((c.grants.filter (fun g => g.cls == cls)).map (·.tok))

/-- Tokens all grants hold. -/
def Chim.total (c : Chim) : Nat := sumN (c.grants.map (·.tok))

/-- Free tokens of the side pool. -/
def chimFree (m : Mach) : Nat := sidePool m - m.ch.total

/-- A request whose count exceeds the pool in force less the reservation (R557). -/
def tooLarge (m : Mach) (r : CReq) : Bool := decide (m.ch.pool - chimReserve m < r.tok)

/-- A blocking request: passed over at 8 consecutive ticks (R557). -/
def isBlocking (m : Mach) (r : CReq) : Bool := decide (8 ≤ r.passed) && !tooLarge m r

/-- Whether a request fits (R556). -/
def chimFits (m : Mach) (r : CReq) : Bool :=
  decide (r.tok ≤ chimFree m) && decide (m.ch.held r.cls + r.tok ≤ m.rd R.CHIM.CLASS.QUOTA r.cls)

/-- Bring CHIM.STATUS, GRANTED, WAITING and CLASSn up to date (R575-R577). -/
def chimRefresh (m : Mach) : Mach :=
  let m := m.wr R.CHIM.STATUS.FREE (chimFree m)
  let m := m.wr R.CHIM.GRANTED.TOKENS (sumN ((m.ch.grants.filter (·.live)).map (·.tok)))
  let m := m.wr R.CHIM.WAITING.COUNT m.ch.waits.length
  let m := m.wr R.CHIM.WAITING.BLOCKING (match m.ch.waits.find? (isBlocking m) with
    | some r => 0x8000 + r.cls
    | none => 0)
  m.each (List.range 9) (fun m c => m.wr R.CHIM.CLASS.HELD (m.ch.held c) c)

/-- The order in which waiting requests are judged (R557): blocking ones first, then class priority, then arrival. -/
def judgeOrder (m : Mach) : List CReq :=
  let blk := m.ch.waits.filter (isBlocking m)
  let rest := m.ch.waits.filter (fun r => !isBlocking m r)
  blk ++ (List.range 9).foldr (fun c acc => rest.filter (fun r => r.cls == c) ++ acc) []

/-- Give a request its grant. -/
def giveGrant (m : Mach) (r : CReq) : Mach :=
  { m with ch := { m.ch with
      waits := m.ch.waits.filter (fun w => w.arr != r.arr)
      grants := m.ch.grants ++ [⟨r.cls, r.holder, r.tok, r.arr, false, false⟩] } }

/-- Judge the waiting requests in order (R556, R557). At a tick a request that does not fit counts as passed over; after a
blocking request that does not fit, no other is granted. -/
def judgeWaiting (m : Mach) (atTick : Bool) : Mach :=
  if m.mc.pfwLow || m.mc.grantHold then m
  else ((judgeOrder m).foldl (fun (acc : Bool × Mach) r =>
    let (stop, m) := acc
    if stop then acc
    else if chimFits m r then (false, giveGrant m r)
    else
      let m := if atTick && !tooLarge m r then
          { m with ch := { m.ch with waits := m.ch.waits.map (fun w => if w.arr == r.arr then { w with passed := w.passed + 1 } else w) } }
        else m
      (decide (8 ≤ r.passed) && !tooLarge m r, m)) (false, m)).2

/-- A request that can never be granted as things stand sets TOO_LARGE (R557). -/
def markTooLarge (m : Mach) : Mach :=
  if m.ch.waits.any (tooLarge m) then (m.wr R.CHIM.STATUS.LAST_CODE CHIM_TOO_LARGE).ev E.CHIM.TOO_LARGE else m

/-- A request arrives (R554, R556); a holder that already waits or holds a grant adds nothing. -/
def chimRequest (m : Mach) (cls holder tok : Nat) : Mach :=
  if m.ch.waits.any (fun r => r.cls == cls && r.holder == holder) ||
     m.ch.grants.any (fun g => g.cls == cls && g.holder == holder) then m
  else
    let m := { m with ch := { m.ch with waits := m.ch.waits ++ [⟨cls, holder, tok, m.ch.nextArr, 0⟩], nextArr := m.ch.nextArr + 1 } }
    chimRefresh (markTooLarge (judgeWaiting m false))

/-- An operation ends: its grant is released, or its request withdrawn, and the waiting requests are judged (R555, R556). -/
def chimRelease (m : Mach) (cls holder : Nat) : Mach :=
  let m := { m with ch := { m.ch with
    grants := m.ch.grants.filter (fun g => !(g.cls == cls && g.holder == holder))
    waits := m.ch.waits.filter (fun r => !(r.cls == cls && r.holder == holder)) } }
  chimRefresh (judgeWaiting m false)

/-- A holder reaches its pause point (R555): the tokens are released and it waits again in its original arrival order. -/
def chimPaused (m : Mach) (cls holder : Nat) : Mach :=
  match m.ch.grants.find? (fun g => g.cls == cls && g.holder == holder && g.ending) with
  | none => m
  | some g =>
    let w : CReq := ⟨cls, holder, g.tok, g.arr, 0⟩
    let m := { m with ch := { m.ch with
      grants := m.ch.grants.filter (fun h => !(h.cls == cls && h.holder == holder))
      waits := m.ch.waits.filter (fun r => decide (r.arr < g.arr)) ++ [w] ++ m.ch.waits.filter (fun r => decide (g.arr < r.arr)) } }
    chimRefresh (judgeWaiting m false)

/-- Whether a holder's grant is in force. -/
def hasGrant (m : Mach) (cls holder : Nat) : Bool :=
  m.ch.grants.any (fun g => g.cls == cls && g.holder == holder && g.live && !g.ending)

/-- Whether a holder has a grant, in force or not. -/
def holdsGrant (m : Mach) (cls holder : Nat) : Bool := m.ch.grants.any (fun g => g.cls == cls && g.holder == holder)

/-- Whether a holder's tokens are in force, be it only until its pause point (R555). -/
def stillGranted (m : Mach) (cls holder : Nat) : Bool :=
  m.ch.grants.any (fun g => g.cls == cls && g.holder == holder && g.live)

/-- A grant's tokens come into force (R558): only the oldest grant not yet in force does. -/
def grantInForce (m : Mach) (cls holder : Nat) : Bool × Mach :=
  match m.ch.grants.find? (fun g => !g.live && !g.ending) with
  | some g =>
    if g.cls == cls && g.holder == holder then
      (true, chimRefresh { m with ch := { m.ch with
        grants := m.ch.grants.map (fun h => if h.arr == g.arr then { h with live := true } else h) } })
    else (false, m)
  | none => (false, m)

/-- A grant whose holder must stop at its pause point. -/
def Grant.stop (g : Grant) : Grant := { g with ending := true }

/-- Every side grant is revoked (R560, R571); holders keep their tokens until their pause points. -/
def chimRevokeAll (m : Mach) : Mach :=
  let gs := m.ch.grants.map Grant.stop
  let m := { m with ch := { m.ch with grants := gs } }
  chimRefresh ((m.wr R.CHIM.STATUS.LAST_CODE CHIM_REVOKED).ev E.CHIM.REVOKED)

/-- Renewals at a tick (R557 step 2): oldest first, each needing only free tokens. Where the reservation rose with a change of
mode or entry, the newest are refused first until the rest fit (R561). -/
def renewals (side : Nat) (raised : Bool) (l : List Grant) : List Grant :=
  let pinned := sumN ((l.filter (·.ending)).map (·.tok))
  (l.foldl (fun (acc : Nat × Bool × List Grant) g =>
    let (used, broken, out) := acc
    if g.ending then (used, broken, out ++ [g])
    else if used + g.tok ≤ side ∧ !(raised && broken) then (used + g.tok, broken, out ++ [g])
    else (used, true, out ++ [{ g with ending := true }])) (pinned, false, [])).2.2

/-- The settlement of action 4 (R553, R557): `raised` tells that the mode or entry changed at this tick. -/
def chimSettle (m : Mach) : Mach :=
  let m := { m with ch := { m.ch with pool := Nat.min (m.rd R.CHIM.LIMITS.CEILING) (m.rd R.CHIM.LIMITS.POOL) } }
  let res := reservation m.mode m.entry (m.rd R.SYS.MODE_REQ.ENTRY)
  let raised := decide (chimReserve m < res)
  let m := m.wr R.CHIM.STATUS.RESERVE res
  let m := if m.ch.pool < res then (m.wr R.CHIM.STATUS.LAST_CODE CHIM_RESERVE_OVER).ev E.CHIM.RESERVE_OVER else m
  let new := renewals (sidePool m) raised m.ch.grants
  let refused := (new.filter (·.ending)).length - (m.ch.grants.filter (·.ending)).length
  let m := { m with ch := { m.ch with grants := new } }
  let m := if refused = 0 then m else (hev (m.dadd D.grants_refused refused) 291 refused).ev E.CHIM.REFUSED
  let m := markTooLarge (judgeWaiting m true)
  (chimRefresh m).ev E.CHIM.SETTLED

end Sys2Proof.Machine
end

