-- ==== Sys2Proof/Machine/SecOps.lean ====
section
/-!
DEFINITION. Bedrock's shared operations: mailbox answers, the memory firewall, the checks of an image, and the abandonment of a
switch (spec/18_firmware_trust_and_live_update.md R607-R639).
-/
namespace Sys2Proof.Machine

def SEC_DONE : Nat := 0x52
def SEC_PENDING : Nat := 0x53
def SEC_BUSY : Nat := 0x54
def SEC_DENIED : Nat := 0x55
def IMG_BAD_FORMAT : Nat := 0x56
def IMG_BAD_SIGNATURE : Nat := 0x57
def IMG_KEY_REJECTED : Nat := 0x58
def IMG_ROLLBACK : Nat := 0x59
def IMG_BAD_ENTRIES : Nat := 0x5A
def SWITCH_REVERTED : Nat := 0x5B
def FUSE_FAILED : Nat := 0x5C
def ENROL_CLOSED : Nat := 0x5D
def RELEASE_BAD : Nat := 0x5E
def FLASH_FAILED : Nat := 0x5F

/-! ## The mailbox (R632, R634) -/

/-- Report a code in SEC.STATE.LAST_CODE. -/
def secCode (m : Mach) (c : Nat) : Mach := m.wr R.SEC.STATE.LAST_CODE c

/-- A GO is accepted: SEQ and BUSY. -/
def secGo (m : Mach) (op : Nat) : Mach :=
  ((m.wr R.SEC.MBX_CMD.OPCODE op).add R.SEC.MBX_STATUS.SEQ 1).wr R.SEC.MBX_STATUS.BUSY 1

/-- The outcome of a command is known. -/
def secEnd (m : Mach) (c : Nat) : Mach :=
  (secCode ((m.wr R.SEC.MBX_STATUS.STATUS c).wr R.SEC.MBX_STATUS.BUSY 0) c).ev E.SEC.MBX_DONE

/-- The command goes on: SEC_PENDING, BUSY kept. -/
def secPend (m : Mach) : Mach := secCode (m.wr R.SEC.MBX_STATUS.STATUS SEC_PENDING) SEC_PENDING

/-- Whether a mailbox command is served: with NO_STAGE2 or a failed ROM self-test the ROM alone serves IMAGE_INSTALL of stage 2 and
RELEASE (R614). -/
def secServes (m : Mach) (op kind : Nat) : Bool :=
  let c := m.rd R.SEC.STATE.INTEG_CAUSE
  if m.mode == 11 && (c == 1 || c == 2) then (op == 1 && kind == 1) || op == 9 else true

/-- Whether firmware-backed requests are served (R72, R622, R625). -/
def fwServes (m : Mach) : Bool := m.flag R.SEC.STATE.FW_PRESENT && !m.sec.absent

/-! ## The memory firewall (R618-R620) -/

/-- A region's base address. -/
def regionBase (m : Mach) (n : Nat) : Nat :=
  m.rd R.SEC.REGION_BASE_HI.BASE n * 2 ^ 32 + m.rd R.SEC.REGION_BASE_LO.BASE n * 4096

/-- A region's size in bytes. -/
def regionSize (m : Mach) (n : Nat) : Nat := m.rd R.SEC.REGION_SIZE.PAGES n * 4096

/-- The deciding region of an address: the lowest-numbered enabled one that contains it (R619). -/
def regionOf (m : Mach) (a : Nat) : Option Nat :=
  (List.range 32).find? (fun n =>
    m.flag R.SEC.REGION_RIGHTS.ENABLE n && decide (regionBase m n ≤ a) && decide (a < regionBase m n + regionSize m n))

/-- Whether a principal may read or write an address (R619); NET has no access to device memory of its own. -/
def regionGrants (m : Mach) (p : Principal) (a : Nat) (write : Bool) : Bool :=
  match regionOf m a with
  | none => true
  | some n =>
    let k := if write then 1 else 0
    match p with
    | .bed => bit (m.rd R.SEC.REGION_RIGHTS.BED n) k
    | .fw => bit (m.rd R.SEC.REGION_RIGHTS.FW n) k
    | .host => bit (m.rd R.SEC.REGION_RIGHTS.HOST n) k
    | .net => false

/-- PRINCIPAL of FWALL_LAST (R638). -/
def fwallPrincipal : Principal → Nat
  | .bed => 0
  | .fw => 1
  | .host => 2
  | .net => 3

/-- Record a denial (R620, R638): counted, logged, and the FIREWALL event set. -/
def fwallDeny (m : Mach) (p : Principal) (bar write : Bool) (region master a : Nat) : Mach :=
  let last := fwallPrincipal p * 2 ^ 30 + b2n write * 2 ^ 29 + b2n bar * 2 ^ 28 + region * 2 ^ 16 + master
  let m := m.wr R.SEC.FWALL_LAST.PRINCIPAL (fwallPrincipal p)
  let m := (m.wr R.SEC.FWALL_LAST.WRITE (b2n write)).wr R.SEC.FWALL_LAST.BAR (b2n bar)
  let m := (m.wr R.SEC.FWALL_LAST.REGION region).wr R.SEC.FWALL_LAST.MASTER master
  let m := (m.wr R.SEC.FWALL_ADDR_LO.ADDR_LO (a % 2 ^ 32)).wr R.SEC.FWALL_ADDR_HI.ADDR_HI (a / 2 ^ 32)
  let m := m.add R.SEC.FWALL_COUNT.COUNT 1
  let row := (last, a % 2 ^ 32, a / 2 ^ 32 % 16, m.tickCount % 2 ^ 32)
  let m := perfCount { m with sec := { m.sec with log := row :: m.sec.log.take 63 } } 0x17 1 ⟨fwallPrincipal p, master, a, none, false⟩
  (hev m 352).ev E.SEC.FIREWALL

/-- The 4 KiB pages a range touches, by an address in each. -/
def pagesOf (a n : Nat) : List Nat :=
  if n = 0 then [] else a :: (List.range ((a + n - 1) / 4096 - a / 4096)).map (fun k => (a / 4096 + k + 1) * 4096)

/-- Judge an access to device memory (R618-R620): whether it is performed, and the state with a denial recorded. -/
def firewall (m : Mach) (p : Principal) (master a n : Nat) (write : Bool) : Bool × Mach :=
  match (pagesOf a n).find? (fun x => !regionGrants m p x write) with
  | none => (true, m)
  | some x => (false, fwallDeny m p false write ((regionOf m x).getD 31) master x)

/-- Whether an access would be allowed, nothing recorded. -/
def mayAccess (m : Mach) (p : Principal) (a n : Nat) (write : Bool) : Bool :=
  (pagesOf a n).all (fun x => regionGrants m p x write)

/-- Set a region descriptor. -/
def setRegion (m : Mach) (n base pages rights : Nat) : Mach :=
  let m := (m.wr R.SEC.REGION_BASE_LO.BASE (base / 4096 % 2 ^ 20) n).wr R.SEC.REGION_BASE_HI.BASE (base / 2 ^ 32) n
  let m := m.wr R.SEC.REGION_SIZE.PAGES pages n
  let m := (m.wr R.SEC.REGION_RIGHTS.ENABLE (bits rights 31 31) n).wr R.SEC.REGION_RIGHTS.HOST (bits rights 6 5) n
  (m.wr R.SEC.REGION_RIGHTS.FW (bits rights 4 2) n).wr R.SEC.REGION_RIGHTS.BED (bits rights 1 0) n

/-- Regions 0 to 2, set at step 4 of R612 (R619): Bedrock alone; main code A and B, which FW reads and executes. -/
def fixedRegions (m : Mach) : Mach :=
  let m := setRegion m 0 0x2000000 0x1000 (2 ^ 31 + 3)
  let m := setRegion m 1 0 0x1000 (2 ^ 31 + 5 * 4 + 3)
  setRegion m 2 0x1000000 0x1000 (2 ^ 31 + 5 * 4 + 3)

/-! ## Images (R609-R611, R615-R617) -/

/-- Image kinds. -/
def K_STAGE2 : Nat := 1
def K_MAIN : Nat := 2

/-- The place of a kind's slot in the list of four. -/
def slotIdx (kind slot : Nat) : Nat := (kind - 1) * 2 + slot

/-- A slot. -/
def secSlot (m : Mach) (kind slot : Nat) : Slot := m.sec.slots.getD (slotIdx kind slot) ⟨none, false, 0, 0, 0⟩

/-- The key hash of a slot 0 to 5, where enrolled and not revoked (R610, R615). -/
def keyHash (f : Fuse) (n : Nat) : Option (List Byte) :=
  if bit f.revoked n then none
  else if n < 2 then some (Config.romKeyHash n)
  else f.slots.getD (n - 2) none

/-- The effective anti-rollback counter of a kind (R616). -/
def rollCounter (m : Mach) (kind : Nat) : Nat :=
  if kind = K_STAGE2 then Nat.max (m.rd R.SEC.ROLLBACK.BED_FUSE) (m.rd R.SEC.ROLLBACK.BED_MIRROR)
  else Nat.max (m.rd R.SEC.ROLLBACK.FW_FUSE) (m.rd R.SEC.ROLLBACK.FW_MIRROR)

/-- Bytes `lo` to `hi` of an image are 0. -/
def zeroBytes (b : List Byte) (lo hi : Nat) : Bool := (slice b lo (hi + 1 - lo)).all (· == 0)

/-- The format check of R610. -/
def imgFormat (kind : Nat) (hdr : List Byte) : Bool :=
  let pay := fieldLE hdr 12 4
  let max := if kind = K_STAGE2 then 98304 else 16776832
  let ext := fieldLE hdr 20 4
  let cnt := fieldLE hdr 24 4
  fieldLE hdr 0 4 == 0x49574655 && fieldLE hdr 4 1 == 1 && fieldLE hdr 5 1 == kind &&
  zeroBytes hdr 28 47 && zeroBytes hdr 288 383 && decide (1 ≤ pay) && decide (pay ≤ max) &&
  decide (fieldLE hdr 16 4 < pay) && (ext == 0 || decide (ext + 8 * cnt ≤ pay))

/-- The extension descriptors of an image (R609, R83). -/
def imgExt (hdr pay : List Byte) : List (List Byte) :=
  let ext := fieldLE hdr 20 4
  if ext = 0 then [] else (List.range (fieldLE hdr 24 4)).map (fun k => slice pay (ext + 8 * k) 8)

/-- The checks of R610 in their order: the first failure, or none. -/
def imgCheck (f : Fuse) (m : Mach) (kind : Nat) (hdr pay : List Byte) : Option Nat :=
  let ks := fieldLE hdr 6 1
  let pub := slice hdr 48 96
  if !imgFormat kind hdr then some IMG_BAD_FORMAT
  else if keyHash f ks ≠ some (Config.sha384 pub) then some IMG_KEY_REJECTED
  else if 2 ≤ ks ∧ (kind = K_STAGE2 ∨ m.dv D.key_state = 1) then some IMG_KEY_REJECTED
  else if !Config.ecdsaOk pub (Config.sha384 (slice hdr 0 192)) (slice hdr 192 96) then some IMG_BAD_SIGNATURE
  else if Config.sha384 pay ≠ slice hdr 144 48 then some IMG_BAD_SIGNATURE
  else if fieldLE hdr 7 1 < rollCounter m kind then some IMG_ROLLBACK
  else if kind = K_MAIN ∧ 2 ≤ ks ∧ !(imgExt hdr pay).all (fun d =>
      decide (0xE000 ≤ fieldLE d 0 2) && decide (fieldLE d 0 2 ≤ 0xEFFF)) then some IMG_BAD_ENTRIES
  else none

/-- Whether a slot's image still passes R610: its bytes did, its key is accepted and its step is high enough. -/
def slotPasses (f : Fuse) (m : Mach) (kind slot : Nat) : Bool :=
  let s := secSlot m kind slot
  s.ok && (keyHash f s.key).isSome && (decide (s.key < 2) || (kind == K_MAIN && m.dv D.key_state != 1)) &&
  decide (rollCounter m kind ≤ s.step)

/-- The device address of a main slot's code region (R619). -/
def codeBase (slot : Nat) : Nat := slot * 0x1000000

/-- Show the versions in force (R636, 0x1000:07 and :08). -/
def secVersions (m : Mach) : Mach :=
  let fw := m.rd R.SEC.STATE.FW_SLOT
  let v := (secSlot m K_MAIN fw).ver
  let b := (secSlot m K_STAGE2 (m.rd R.SEC.STATE.BED_SLOT)).ver
  let m := (m.wr R.SEC.FW_VERSION.VALUE v).wr R.SEC.FW_OTHER_VERSION.VALUE (secSlot m K_MAIN (1 - fw)).ver
  ((m.wr R.SEC.BED_VERSION.VALUE b).dset D.firmware_version v).dset D.bedrock_version b

/-- Put main slot `slot` in force: its code region, its dictionary directory (R623). -/
def mapMain (m : Mach) (slot : Nat) : Mach :=
  let ext := match (secSlot m K_MAIN slot).img with
    | some (h, p) => imgExt h p
    | none => []
  let m := { m with sec := { m.sec with ext := ext } }
  secVersions ((m.wr R.SEC.STATE.FW_SLOT slot).add R.DICT.WIN_DIR_GEN.GEN 1)

/-- Bedrock releases the halted cores: the CPU group is reset (R744, R746), and a check-in is awaited. -/
def releaseCores (m : Mach) (await : Nat) : Mach :=
  let m := m.add R.SYS.RESET_STATUS.CPU_RESETS 1
  let m := (m.wr R.SEC.STATE.FW_PRESENT 0).wr R.SEC.WDOG.SINCE_KICK_MS 0
  { m with sec := { m.sec with await := await, cores := true, sinceNs := 0, quiesced := false } }

/-- Show whether a switch is due. -/
def dueRefresh (m : Mach) : Mach := m.wr R.SEC.STATE.SWITCH_DUE (b2n (m.sec.fwDue.isSome || m.sec.bedDue.isSome))

/-- A switch due is abandoned on the way to M0, M3 or M11 (R629). -/
def switchAbandon (m : Mach) : Mach :=
  if m.sec.fwDue.isSome || m.sec.bedDue.isSome then
    secEnd (dueRefresh { m with sec := { m.sec with fwDue := none, bedDue := none, absent := false } }) SEC_DENIED
  else m

/-- The boot selector is written anew into the older copy's place (R611). -/
def writeSelector (m : Mach) (bed fw : Nat) : Mach :=
  let a := m.sec.sel.getD 0 none
  let b := m.sec.sel.getD 1 none
  let seq (c : Option (Nat × Nat × Nat)) : Nat := match c with
    | some (s, _) => s
    | none => 0
  -- serial arithmetic of R105: the newer copy is ahead by less than half the number space
  let newerA : Bool := a.isSome && (b.isNone || decide ((seq a + 2 ^ 32 - seq b) % 2 ^ 32 < 2 ^ 31))
  let next := (seq (if newerA then a else b) + 1) % 2 ^ 32
  let sel := if newerA then [a, some (next, bed, fw)] else [some (next, bed, fw), b]
  let m := { m with sec := { m.sec with sel := sel } }
  (m.wr R.SEC.STATE.BED_COMMITTED bed).wr R.SEC.STATE.FW_COMMITTED fw

end Sys2Proof.Machine
end

