-- ==== Sys2Proof/Machine/EngineStop.lean ====
section
/-!
DEFINITION. The DMA channels, the CRC units and the blit and DEFLATE engines as queues and runs: how work begins and how it ends
(spec/14_host_interface_and_dma.md R495-R505; spec/15_blit_crc_deflate.md R515-R520, R535-R538).
-/
namespace Sys2Proof.Machine

def DMA_DONE : Nat := 0xC0
def DMA_ABORTED : Nat := 0xC1
def SELF_LINK : Nat := 0xC2
def LOOP_SUSPECT : Nat := 0xC3
def BUS_TIMEOUT : Nat := 0xC4
def DESC_BAD : Nat := 0xC5
def DMA_FIREWALL : Nat := 0xC6
def DMA_DRAINED : Nat := 0xC7
def TRIG_OVERRUN : Nat := 0xC8
def HOST_READ_FAILED : Nat := 0xC9
def HOST_RING_BAD : Nat := 0xCA
def SCENE_DROPPED : Nat := 0xCB
def HOST_RESET_CODE : Nat := 0xCC
def JOB_DONE : Nat := 0xD0
def JOB_ABORTED : Nat := 0xD1
def JOB_FLUSHED : Nat := 0xD2
def JOB_QUEUE_FULL : Nat := 0xD3
def ENGINE_DRAINED : Nat := 0xD4
def ENGINE_BUSY : Nat := 0xD5
def JOB_BAD_PARAM : Nat := 0xD6
def OVERLAP_TRANSFORM : Nat := 0xD7
def OVERLAP_LAYOUT : Nat := 0xD8
def CRC_INCOMPLETE : Nat := 0xD9

/-! ## CRC units (R535-R538) -/

/-- Width of a CRC. -/
def crcWidth (poly : Nat) : Nat := if poly = 2 then 16 else if poly = 3 then 64 else 32

/-- Initial value, all ones in the CRC's width (R535). -/
def crcInit (poly : Nat) : Nat := 2 ^ crcWidth poly - 1

/-- Final XOR (R535). -/
def crcFinal (poly : Nat) : Nat := if poly = 2 then 0 else 2 ^ crcWidth poly - 1

/-- Fold bytes into a running state. The reflected CRCs keep their state in reflected bit order (R536). -/
def crcFold (poly s : Nat) (b : List Byte) : Nat :=
  match poly with
  | 0 => crc32cRun s b
  | 1 => b.foldl (fun s x => crcByteR 0xEDB88320 s x.toNat) s
  | 2 => b.foldl (fun s x => crcByteN 16 0x1021 s x.toNat) s
  | _ => b.foldl (fun s x => crcByteR 0xC96C5795D7870F42 s x.toNat) s

/-- A unit. -/
def crcUnit (m : Mach) (n : Nat) : CrcUnit := m.crc.getD n ⟨.fw, 0, false, 0, 0xFFFFFFFF, false⟩

/-- Change a unit. -/
def crcMod (m : Mach) (n : Nat) (f : CrcUnit → CrcUnit) : Mach := { m with crc := modAt m.crc n f }

/-- VALUE as a 64-bit number. -/
def crcValue (m : Mach) (n : Nat) : Nat := m.rd R.CRC.UNIT_VALUE_LO.VALUE n + 2 ^ 32 * m.rd R.CRC.UNIT_VALUE_HI.VALUE n

/-- The running state in the CRC's width. -/
def crcState (m : Mach) (n : Nat) : Nat := crcValue m n % 2 ^ crcWidth (crcUnit m n).poly

/-- Load the running state; bits of VALUE above the CRC's width keep what they hold, and RESULT reads 0 there (R536). -/
def crcLoad (m : Mach) (n s : Nat) : Mach :=
  let w := crcWidth (crcUnit m n).poly
  let v := crcValue m n / 2 ^ w * 2 ^ w + s % 2 ^ w
  let r := Nat.xor (s % 2 ^ w) (crcFinal (crcUnit m n).poly)
  let m := (m.wr R.CRC.UNIT_VALUE_LO.VALUE (v % 2 ^ 32) n).wr R.CRC.UNIT_VALUE_HI.VALUE (v / 2 ^ 32) n
  (m.wr R.CRC.UNIT_RESULT_LO.RESULT (r % 2 ^ 32) n).wr R.CRC.UNIT_RESULT_HI.RESULT (r / 2 ^ 32) n

/-- Fold bytes in a unit and count them. -/
def crcTake (m : Mach) (n : Nat) (b : List Byte) : Mach :=
  (crcLoad m n (crcFold (crcUnit m n).poly (crcState m n) b)).add R.CRC.UNIT_BYTES.BYTES b.length n

/-- A run of a unit ends (R518, R537). -/
def crcEnd (m : Mach) (n code : Nat) : Mach :=
  let done := code == JOB_DONE
  let m := (m.wr R.CRC.UNIT_STATUS.STATE 0 n).wr R.CRC.UNIT_STATUS.LAST_CODE code n
  let m := m.wr R.CRC.UNIT_STATUS.FINAL (b2n !done) n
  let m := crcMod m n (fun u => { u with tmo := false })
  let m := hev m (if done then 262 else 263)
  chimRelease (m.ev (if done then E.CRC.DONE else E.CRC.ABORTED) n) C_CRC n

/-- Units that snoop a source and are in a state. -/
def snoopers (m : Mach) (src st : Nat) : List Nat :=
  (List.range 4).filter (fun n => (crcUnit m n).snoop && (crcUnit m n).src == src && m.rd R.CRC.UNIT_STATUS.STATE n == st)

/-- A snooped source begins a run or job: the units armed on it fold from now on (R537). -/
def snoopBegin (m : Mach) (src : Nat) : Mach := m.each (snoopers m src 3) (fun m n => m.wr R.CRC.UNIT_STATUS.STATE 2 n)

/-- A snooped source writes bytes; `rev` tells that it writes them against address order (R537). -/
def snoopBytes (m : Mach) (src : Nat) (b : List Byte) (rev : Bool) : Mach :=
  m.each (snoopers m src 2) (fun m n =>
    let m := crcTake m n b
    if rev && !b.isEmpty then m.wr R.CRC.UNIT_STATUS.REVERSED 1 n else m)

/-- A snooped run or job ends (R537). -/
def snoopEnd (m : Mach) (src : Nat) (done : Bool) : Mach :=
  m.each (snoopers m src 2) (fun m n => crcEnd m n (if done then JOB_DONE else CRC_INCOMPLETE))

/-! ## The blit and DEFLATE engines: 0 blit, 1 DEFLATE (R515-R520) -/

/-- A register row of the blit engine as the same register of engine `e`. -/
def Row.eng (r : Row) (e : Nat) : Row := { r with off := r.off + e * 0x200000 }

/-- An event of an engine. -/
def sideEv (e : Nat) (b d : Ev) : Ev := if e = 0 then b else d

/-- An engine. -/
def sideOf (m : Mach) (e : Nat) : Side := m.side.getD e ⟨[], false, false, false⟩

/-- Change an engine; QUEUED follows. -/
def sideMod (m : Mach) (e : Nat) (f : Side → Side) : Mach :=
  let m := { m with side := modAt m.side e f }
  m.wr (R.BLIT.STATUS.QUEUED.eng e) (sideOf m e).jobs.length

/-- The engine's state: 0 IDLE, 1 WAIT_GRANT, 2 RUN, 3 DRAINING, 4 STOPPED. -/
def sideState (m : Mach) (e : Nat) : Nat := m.rd (R.BLIT.STATUS.STATE.eng e)

/-- Set it. -/
def sideSet (m : Mach) (e st : Nat) : Mach := m.wr (R.BLIT.STATUS.STATE.eng e) st

/-- The Chimney class of an engine. -/
def sideClass (e : Nat) : Nat := if e = 0 then C_BLIT else C_DEFL

/-- Whether the engines run jobs in a mode (R520). -/
def engineMode (mode : Nat) : Bool := 4 ≤ mode && mode ≤ 10

/-- Whether an engine may start a job. -/
def sideMay (m : Mach) (e : Nat) : Bool := m.flag (R.BLIT.CTRL.ENABLE.eng e) && engineMode m.mode

/-- Bytes per pixel of a format code (R521); 0 where the code is none. -/
def pixBytes (f : Nat) : Nat := match f with
  | 0 => 4 | 1 => 4 | 2 => 8 | 3 => 1 | 4 => 1
  | _ => 0

/-- A word of a job image. -/
def Job.word (j : Job) (off : Nat) : Nat := fieldLE j.img (off - 0x10) 4

/-- The bytes of a blit job's destination rectangle: W' times H' times bytes per pixel (R517). -/
def Job.blitBytes (j : Job) : Nat :=
  let wh := j.word 0x28
  wh % 65536 * (wh / 65536) * pixBytes (bits (j.word 0x14) 10 8)

/-- Tokens a job asks for; 0 where it asks none (R517). -/
def jobTokens (m : Mach) (e : Nat) (j : Job) : Nat :=
  if e = 1 then m.dv D.deflate_tokens
  else if 2 ^ 20 < j.blitBytes then m.dv D.blit_tokens
  else 0

/-- The work of the running job begins, or goes on. -/
def sideRun (m : Mach) (e : Nat) : Mach :=
  let first := !(sideOf m e).begun
  let m := sideMod (sideSet m e 2) e (fun s => { s with begun := true })
  if !first then m
  else if e = 0 then snoopBegin m 16 else snoopBegin (snoopBegin m 17) 18

/-- Start the first queued job where the engine may (R515, R517). -/
def sideNext (m : Mach) (e : Nat) : Mach :=
  if (sideOf m e).busy ∨ !sideMay m e then m
  else match (sideOf m e).jobs with
    | [] => sideSet m e 0
    | j :: _ =>
      let m := sideMod m e (fun s => { s with busy := true, begun := false, tmo := false })
      let t := jobTokens m e j
      if t = 0 then sideRun m e else chimRequest (sideSet m e 1) (sideClass e) 0 t

/-- A drain ends (R519). -/
def sideStopped (m : Mach) (e : Nat) : Mach :=
  let m := (sideSet m e 4).wr (R.BLIT.STATUS.LAST_CODE.eng e) ENGINE_DRAINED
  m.ev (sideEv e E.BLIT.DRAINED E.DEFL.DRAINED)

/-- A job has reached its final state: the code, its number, the counters (R518, R531). -/
def jobFinal (m : Mach) (e num code : Nat) : Mach :=
  let done := code == JOB_DONE
  let m := (m.wr (R.BLIT.STATUS.LAST_CODE.eng e) code).wr (R.BLIT.STATUS.LAST_JOB.eng e) num
  let m := m.wr (R.BLIT.STATUS.FINAL.eng e) (b2n !done)
  if done then
    let m := hev (m.add (R.BLIT.JOBS_DONE.COUNT.eng e) 1) (256 + 3 * e)
    m.ev (sideEv e E.BLIT.DONE E.DEFL.DONE)
  else
    let m := hev (m.add (R.BLIT.JOBS_ABORTED.COUNT.eng e) 1) (257 + 3 * e)
    m.ev (sideEv e E.BLIT.ABORTED E.DEFL.ABORTED)

/-- The running job ends (R518, R519): the next one starts, or the drain is over. -/
def sideEnd (m : Mach) (e code : Nat) : Mach :=
  match (sideOf m e).jobs with
  | [] => m
  | j :: rest =>
    if !(sideOf m e).busy then m
    else
      let draining := sideState m e == 3
      let m := sideMod m e (fun _ => ⟨rest, false, false, false⟩)
      let m := chimRelease (jobFinal m e j.num code) (sideClass e) 0
      let ok := code == JOB_DONE
      let m := if e = 0 then snoopEnd m 16 ok else snoopEnd (snoopEnd m 17 ok) 18 ok
      if draining then sideStopped m e else sideNext (sideSet m e 0) e

/-! ## DMA channels (R495-R504) -/

/-- A channel. -/
def dmaOf (m : Mach) (n : Nat) : DmaChan := m.dma.getD n ⟨false, none, false, 0, false⟩

/-- SUMMARY and OWNER follow the channels (R514). -/
def dmaRefresh (m : Mach) : Mach :=
  let ev (n : Nat) : Bool := m.flag R.DMA.CH_EVENT.TRIG_OVERRUN n || m.flag R.DMA.CH_EVENT.DRAINED n ||
    m.flag R.DMA.CH_EVENT.ABORTED n || m.flag R.DMA.CH_EVENT.DONE n || m.flag R.DMA.CH_EVENT.DESC_DONE n
  let st (n : Nat) : Nat := m.rd R.DMA.CH_STATUS.STATE n
  (m.wr R.DMA.SUMMARY.EVENT (maskOf 16 ev)).wr R.DMA.SUMMARY.ACTIVE (maskOf 16 (fun n => st n != 0 && st n != 4))

/-- Change a channel. -/
def dmaMod (m : Mach) (n : Nat) (f : DmaChan → DmaChan) : Mach := { m with dma := modAt m.dma n f }

/-- Whether the host owns a channel (R495). -/
def dmaHost (m : Mach) (n : Nat) : Bool := bit (m.rd R.DMA.OWNER.HOST) n

/-- The principal a channel's accesses carry. -/
def dmaPrincipal (m : Mach) (n : Nat) : Principal := if dmaHost m n then .host else .fw

/-- A run begins (R501, R502): at HEAD, waiting for its grant. -/
def dmaBegin (m : Mach) (n : Nat) : Mach :=
  let m := dmaMod m n (fun _ => ⟨true, none, false, 0, false⟩)
  let m := (m.wr R.DMA.CH_STATUS.STATE 1 n).wr R.DMA.CH_STATUS.LATE 0 n
  let m := (m.wr R.DMA.CH_CUR_LO.CUR (m.rd R.DMA.CH_HEAD_LO.HEAD n * 32) n).wr R.DMA.CH_CUR_HI.CUR (m.rd R.DMA.CH_HEAD_HI.HEAD n) n
  let m := m.wr R.DMA.CH_COUNT.COUNT 0 n
  dmaRefresh (chimRequest (snoopBegin m n) C_DMA n (m.dv D.dma_tokens))

/-- A start from any source (R501): it begins a run, is held while one is active, or is lost. A retired channel refuses it (R699). -/
def dmaStart (m : Mach) (n : Nat) : Mach :=
  if 16 ≤ n then m
  else if isRetired m 10 n then m.wr R.DMA.CH_STATUS.REASON UNIT_RETIRED n
  else if (dmaOf m n).active then
    if m.flag R.DMA.CH_STATUS.HELD n then
      dmaRefresh ((m.addSat R.DMA.CH_STATUS.MISSED 1 n).ev E.DMA.TRIG_OVERRUN n)
    else m.wr R.DMA.CH_STATUS.HELD 1 n
  else if m.flag R.DMA.CH_CTRL.ENABLE n then dmaBegin m n
  else m

/-- A held start begins once the active run has ended (R501, R504). -/
def dmaHeld (m : Mach) (n : Nat) : Mach :=
  if m.flag R.DMA.CH_STATUS.HELD n && m.flag R.DMA.CH_CTRL.ENABLE n && !(dmaOf m n).active then
    dmaBegin (m.wr R.DMA.CH_STATUS.HELD 0 n) n
  else m

/-- A run ends in its final state (R503). -/
def dmaFinal (m : Mach) (n code : Nat) : Mach :=
  let done := code == DMA_DONE
  let draining := m.rd R.DMA.CH_STATUS.STATE n == 3
  let m := dmaMod m n (fun _ => ⟨false, none, false, 0, false⟩)
  let m := (m.wr R.DMA.CH_STATUS.FINAL (b2n !done) n).wr R.DMA.CH_STATUS.REASON code n
  let m := m.wr R.DMA.CH_STATUS.STATE (if draining then 4 else 0) n
  let m := if done then (hev (m.add R.DMA.RUNS_DONE.COUNT 1) 226).ev E.DMA.DONE n
    else (hev (m.add R.DMA.RUNS_ABORTED.COUNT 1) 227).ev E.DMA.ABORTED n
  let m := if draining then m.ev E.DMA.DRAINED n else m
  dmaRefresh (snoopEnd (chimRelease m C_DMA n) n done)

/-- A run ends; DONE starts the channels that chain on it, and a held start begins (R501). -/
def dmaEnd (m : Mach) (n code : Nat) : Mach :=
  if !(dmaOf m n).active then m
  else
    let m := dmaFinal m n code
    let chain (c : Nat) : Bool := m.rd R.DMA.CH_CTRL.TRIG_SRC c == 3 && m.rd R.DMA.CH_CTRL.TRIG_SEL c == n
    let m := if code = DMA_DONE then m.each ((List.range 16).filter chain) dmaStart else m
    dmaRefresh (dmaHeld m n)

/-- Channels that start at a trigger line (R436, R501), or at each tick. -/
def dmaLine (m : Mach) (line : Nat) : Mach :=
  m.each ((List.range 16).filter (fun c => m.rd R.DMA.CH_CTRL.TRIG_SRC c == 1 && m.rd R.DMA.CH_CTRL.TRIG_SEL c == line)) dmaStart

def dmaTick (m : Mach) : Mach := m.each ((List.range 16).filter (fun c => m.rd R.DMA.CH_CTRL.TRIG_SRC c == 2)) dmaStart

/-! ## The engines at a mode boundary (R520) -/

/-- M1 and M2 end the running jobs; M11 drains; M4 to M10 go on with what is queued. -/
def enginesMode (m : Mach) (mode : Nat) : Mach :=
  if mode = 1 ∨ mode = 2 then
    let m := m.each (List.range 2) (fun m e => sideEnd m e ABORTED_BY_DISABLE)
    m.each ((List.range 4).filter (fun n => m.rd R.CRC.UNIT_STATUS.STATE n != 0)) (fun m n => crcEnd m n ABORTED_BY_DISABLE)
  else if mode = 11 then
    let m := m.each (List.range 2) (fun m e =>
      if (sideOf m e).busy then sideSet m e 3 else sideStopped m e)
    m.each (List.range 4) (fun m n =>
      let st := m.rd R.CRC.UNIT_STATUS.STATE n
      if (crcUnit m n).snoop && (st == 2 || st == 3) then crcEnd m n CRC_INCOMPLETE
      else if st = 1 then ((chimRelease m C_CRC n).wr R.CRC.UNIT_STATUS.STATE 4 n).ev E.CRC.STOPPED n
      else m)
  else if engineMode mode then
    let m := m.each (List.range 2) (fun m e =>
      if sideMay m e && sideState m e == 4 then sideNext (sideSet m e 0) e else sideNext m e)
    m.each (List.range 4) (fun m n =>
      if m.rd R.CRC.UNIT_STATUS.STATE n == 4 && m.flag R.CRC.UNIT_CTRL.ENABLE n then
        chimRequest (m.wr R.CRC.UNIT_STATUS.STATE 1 n) C_CRC n (m.dv D.crc_tokens)
      else m)
  else m

end Sys2Proof.Machine
end

