-- ==== Sys2Proof/Machine/VeinOps.lean ====
section
/-!
DEFINITION. Lanes: their registers, training and its fast path, sleep states and the grants training needs
(spec/10_vein_and_lanes.md R347-R386). Lanes 0 to 47 are Vein lanes, 48 to 63 Passage lanes.
-/
namespace Sys2Proof.Machine

def LANE_TRAINED : Nat := 0x80
def LANE_GEN_PENDING : Nat := 0x81
def GEN_REVERTED : Nat := 0x82
def LANE_TRAIN_FAILED : Nat := 0x83
def LANE_LOCK_LOST : Nat := 0x84
def LANE_NO_SIGNAL : Nat := 0x85
def LANE_RETIRED : Nat := 0x86
def LANE_REJOINED : Nat := 0x87
def LANE_RESTORED : Nat := 0x88
def LANE_BUSY : Nat := 0x89
def LANE_TAP_REJECT : Nat := 0x8A

/-! States of R363. -/
def L_OFF : Nat := 0
def L_BLIND : Nat := 1
def L_LINK : Nat := 2
def L_EQ : Nat := 3
def L_CHECK : Nat := 4
def L_DESKEW : Nat := 5
def L_READY : Nat := 6
def L_ACTIVE : Nat := 7
def L_LOST : Nat := 8
def L_RETIRED : Nat := 9
def L_LOOP : Nat := 10

/-! ## Registers of a lane -/

/-- A lane register row of the VEIN block, or the same row in the PASS block for lanes 48 to 63 (R383). -/
def laneRow (n : Nat) (r : Row) : Row := if n < 48 then r else { r with off := r.off - 0x1800000 + 0x1C00000 }

/-- The instance of a lane in its block. -/
def laneIdx (n : Nat) : Nat := if n < 48 then n else n - 48

/-- Read a lane register field, named by its VEIN row. -/
def Mach.lrd (m : Mach) (n : Nat) (r : Row) : Nat := m.rd (laneRow n r) (laneIdx n)

/-- Write a lane register field. -/
def Mach.lwr (m : Mach) (n : Nat) (r : Row) (v : Nat) : Mach := m.wr (laneRow n r) v (laneIdx n)

/-- A lane's training state. -/
def laneState (m : Mach) (n : Nat) : Nat := m.lrd n R.VEIN.LANE_STATUS.STATE

/-- A lane's own record. -/
def laneRec (m : Mach) (n : Nat) : Lane :=
  m.lanes.getD n ⟨1, [none, none, none], 0, false, false, false, false, false, none, none, false, false, false, false, false, 0xFF, 0⟩

/-- Change a lane's own record. -/
def laneMod (m : Mach) (n : Nat) (f : Lane → Lane) : Mach := { m with lanes := modAt m.lanes n f }

/-- Report a code of R379. -/
def laneCode (m : Mach) (n c : Nat) : Mach := m.lwr n R.VEIN.LANE_STATUS.LAST_CODE c

/-- READY or ACTIVE (R363). -/
def laneServ (m : Mach) (n : Nat) : Bool := laneState m n == L_READY || laneState m n == L_ACTIVE

/-- The generation in force on a lane. -/
def laneGen (m : Mach) (n : Nat) : Nat := m.lrd n R.VEIN.LANE_STATUS.GEN

/-- In LINK, EQ, CHECK or DESKEW. -/
def laneTraining (m : Mach) (n : Nat) : Bool := L_LINK ≤ laneState m n && laneState m n ≤ L_DESKEW

/-- The four lanes of a quad or bundle. -/
def quadLanes (q : Nat) : List Nat := [4 * q, 4 * q + 1, 4 * q + 2, 4 * q + 3]

/-- Lanes of a bundle that are READY or ACTIVE at a generation. -/
def servAt (m : Mach) (k gen : Nat) : List Nat := (quadLanes k).filter (fun n => laneServ m n && laneGen m n == gen)

/-- Bring BUNDLEk_STATUS and VEIN.GEN up to date (R382). -/
def veinRefresh (m : Mach) : Mach :=
  let m := m.each (List.range 12) (fun m k =>
    let serv := maskOf 4 (fun i => laneServ m (4 * k + i))
    let ret := maskOf 4 (fun i => laneState m (4 * k + i) == L_RETIRED)
    let st := if (quadLanes k).any (laneServ m) then 3
      else if (quadLanes k).any (fun n => laneTraining m n || laneState m n == L_BLIND) then 2
      else if (quadLanes k).any (fun n => m.lrd n R.VEIN.LANE_CTRL.TX_PWR == 1) then 1 else 0
    ((m.wr R.VEIN.BUNDLE_STATUS.SERVICEABLE serv k).wr R.VEIN.BUNDLE_STATUS.RETIRED ret k).wr R.VEIN.BUNDLE_STATUS.STATE st k)
  let pend := (List.range 48).find? (fun n => m.lrd n R.VEIN.LANE_STATUS.PENDING == 1)
  let m := m.wr R.VEIN.GEN.PENDING (b2n pend.isSome)
  m.wr R.VEIN.GEN.PEND_GEN (match pend with
    | some n => m.lrd n R.VEIN.LANE_STATUS.PEND_GEN
    | none => 0)

/-- Set a lane's state. -/
def setLane (m : Mach) (n st : Nat) : Mach := veinRefresh (m.lwr n R.VEIN.LANE_STATUS.STATE st)

/-! ## Coefficients (R366) -/

/-- PRE and POST of a preset (R366). -/
def preset (p : Nat) : Nat × Nat :=
  [(0, 0), (0, 6), (0, 10), (0, 14), (4, 0), (4, 6), (4, 10), (6, 12)].getD p (4, 6)

/-- Whether taps meet R366: PRE 0 to 8, POST 0 to 16, MAIN at least 24. -/
def tapsOk (pre post : Nat) : Bool := decide (pre ≤ 8) && decide (post ≤ 16) && decide (pre + post ≤ 24)

/-- Put taps in force. -/
def setTaps (m : Mach) (n pre post : Nat) : Mach :=
  ((m.lwr n R.VEIN.LANE_TXFIR.PRE pre).lwr n R.VEIN.LANE_TXFIR.POST post).lwr n R.VEIN.LANE_TXFIR.MAIN (48 - pre - post)

/-- The coefficients a lane runs with. -/
def curCoef (m : Mach) (n : Nat) : Coef :=
  ⟨m.lrd n R.VEIN.LANE_TXFIR.PRE, m.lrd n R.VEIN.LANE_TXFIR.POST, m.lrd n R.VEIN.LANE_RXEQ.CTLE⟩

/-- Coefficients kept for a generation. -/
def keptCoef (m : Mach) (n gen : Nat) : Option Coef := ((laneRec m n).kept.getD (gen - 1) none)

/-- Keep coefficients for a generation. -/
def keepCoef (m : Mach) (n gen : Nat) (c : Option Coef) : Mach :=
  laneMod m n (fun l => { l with kept := setAt l.kept (gen - 1) c })

/-! ## Training (R363-R370) -/

/-- Send a training set on a lane: kind 0x40 TS1, 0x41 TS2, 0x42 ALIGN (R350). -/
def sendTs (m : Mach) (n kind : Nat) : Mach :=
  let c := curCoef m n
  m.emit (.lane n kind [n % 4, n / 4, (laneRec m n).target, 0xFF, c.pre, 48 - c.pre - c.post, c.post, b2n (laneRec m n).fast])

/-- Enter LINK of an attempt: at the target generation on the fast path, at V1 otherwise. -/
def enterLink (m : Mach) (n : Nat) (fast : Bool) : Mach :=
  let l := laneRec m n
  let m := match (if fast then keptCoef m n l.target else none) with
    | some c => (setTaps m n c.pre c.post).lwr n R.VEIN.LANE_RXEQ.CTLE c.ctle
    | none => setTaps m n (preset 1).1 (preset 1).2
  let m := laneMod m n (fun l => { l with fast := fast, wait := false, attempts := l.attempts + 1, answered := false, ended := false,
                                          partnerEye := true, partnerTap := 0xFF })
  let m := m.lwr n R.VEIN.LANE_STATUS.GEN (if fast then l.target else 1)
  let m := m.lwr n R.VEIN.LANE_STATUS.TRAINS (m.lrd n R.VEIN.LANE_STATUS.TRAINS + 1)
  let m := (m.lwr n R.VEIN.LANE_EYE_FWD.VALID 0).lwr n R.VEIN.LANE_EYE_REV.VALID 0
  let m := (m.lwr n R.VEIN.LANE_CTRL.TX_PWR 0).lwr n R.VEIN.LANE_CTRL.RX_PWR 0
  sendTs (setLane m n L_LINK) n 0x40

/-- Enter BLIND: TS1 at V1 with preset P1, receiver hunting (R363, R364). -/
def enterBlind (m : Mach) (n : Nat) : Mach :=
  let m := setTaps m n (preset 1).1 (preset 1).2
  let m := laneMod m n (fun l => { l with fast := false, answered := false })
  let m := m.lwr n R.VEIN.LANE_STATUS.GEN 1
  let m := (m.lwr n R.VEIN.LANE_CTRL.TX_PWR 0).lwr n R.VEIN.LANE_CTRL.RX_PWR 0
  sendTs (setLane m n L_BLIND) n 0x40

/-- Ask Chimney for the quad's training tokens (R370). -/
def askQuad (m : Mach) (n : Nat) : Mach := chimRequest m C_TRAIN (n / 4) (m.dv D.retrain_tokens)

/-- A VEIN event of a lane; Passage lanes have none. -/
def veinEv (m : Mach) (n : Nat) (e : Ev) : Mach := if n < 48 then m.ev e else m

/-- Start a training of a lane toward a generation: by the fast path where coefficients are kept for it, else from BLIND (R364, R365). -/
def startTraining (m : Mach) (n gen : Nat) (required : Bool) : Mach :=
  let m := laneMod m n (fun l => { l with target := gen, required := required, attempts := 0, ended := false, leave := false })
  if required || hasGrant m C_TRAIN (n / 4) then
    if (keptCoef m n gen).isSome then enterLink m n true else enterBlind m n
  else
    -- BLIND needs no grant; anything beyond it waits for the quad's grant
    let m := laneMod m n (fun l => { l with wait := true })
    askQuad (if (keptCoef m n gen).isSome then m else enterBlind m n) n

/-- The quad's grant came into force: its waiting lanes begin (R370). -/
def quadGranted (m : Mach) (q : Nat) : Mach :=
  m.each (quadLanes q) (fun m n =>
    let l := laneRec m n
    if !l.wait then m
    else
      let st := laneState m n
      if st == L_RETIRED || st == L_OFF || st == L_LOOP || st == L_ACTIVE then laneMod m n (fun l => { l with wait := false })
      else if (keptCoef m n l.target).isSome then enterLink m n true
      else if st == L_BLIND then
        if l.answered then enterLink m n false else laneMod m n (fun l => { l with wait := false })
      else enterBlind (laneMod m n (fun l => { l with wait := false })) n)

/-- Training on a quad is over: its grant is released (R555). -/
def quadDone (m : Mach) (q : Nat) : Mach :=
  if (quadLanes q).any (fun n => laneTraining m n || (laneRec m n).wait) then m else chimRelease m C_TRAIN q

/-- An attempt ends without success (R364, R365, R369). -/
def attemptFailed (m : Mach) (n : Nat) : Mach :=
  let l := laneRec m n
  if l.fast then enterBlind (laneMod m n (fun l => { l with attempts := 0 })) n   -- falls back to full training
  else if l.attempts < m.dv D.train_retries then enterLink m n false
  else
    match l.back with
    | some (gen, c) =>
      let m := (setTaps m n c.pre c.post).lwr n R.VEIN.LANE_RXEQ.CTLE c.ctle
      let m := laneMod m n (fun l => { l with back := none, target := gen, rejoin := false, required := false, only := gen })
      let m := (m.lwr n R.VEIN.LANE_STATUS.GEN gen)
      let m := laneCode (setLane m n L_READY) n GEN_REVERTED
      let m := hev (m.add R.VEIN.GEN_REVERTS.COUNT 1) 130
      quadDone (veinEv m n E.VEIN.GEN_REVERTED) (n / 4)
    | none =>
      let m := laneMod (enterBlind m n) n (fun l => { l with ended := true, wait := false })
      let m := hev (laneCode m n LANE_TRAIN_FAILED) 132
      quadDone (veinEv m n E.VEIN.TRAIN_FAILED) (n / 4)

/-- Training completes: the lane is READY and its coefficients are kept for its generation (R363, R365). -/
def laneReady (m : Mach) (n : Nat) : Mach :=
  let l := laneRec m n
  let m := m.lwr n R.VEIN.LANE_STATUS.GEN l.target
  let m := keepCoef m n l.target (some (curCoef m n))
  let m := laneMod m n (fun l => { l with back := none, required := false, wait := false, early := false,
                                          only := if l.only == l.target then l.only else 0 })
  let m := laneCode (setLane m n L_READY) n LANE_TRAINED
  quadDone (veinEv m n E.VEIN.LANE_READY) (n / 4)

/-- A change of generation is asked of a lane (R369). -/
def requestGen (m : Mach) (n gen : Nat) (required : Bool) : Mach :=
  let st := laneState m n
  if st == L_EQ || st == L_CHECK || st == L_DESKEW then
    if (laneRec m n).target == gen then m
    else
      let m := (m.lwr n R.VEIN.LANE_STATUS.PENDING 1).lwr n R.VEIN.LANE_STATUS.PEND_GEN gen
      veinRefresh (laneCode (laneMod m n (fun l => { l with required := l.required || required })) n LANE_GEN_PENDING)
  else if st == L_BLIND || st == L_LINK then
    laneMod m n (fun l => { l with target := gen, required := l.required || required, ended := false,
                                   attempts := if l.ended then 0 else l.attempts })
  else if st == L_READY || st == L_ACTIVE then
    if laneGen m n == gen then m
    else
      let old := (laneGen m n, curCoef m n)
      startTraining (laneMod m n (fun l => { l with back := some old })) n gen required
  else if st == L_OFF then startTraining m n gen required
  else laneMod m n (fun l => { l with target := gen })   -- LOST trains toward it once granted; RETIRED, LOOP do not train

/-- A latched generation change is applied after the gathering step (R369). -/
def applyLatchedGen (m : Mach) (n : Nat) : Mach :=
  if m.lrd n R.VEIN.LANE_STATUS.PENDING == 1 then
    let gen := m.lrd n R.VEIN.LANE_STATUS.PEND_GEN
    let m := (m.lwr n R.VEIN.LANE_STATUS.PENDING 0).lwr n R.VEIN.LANE_STATUS.PEND_GEN 0
    let m := laneMod m n (fun l => { l with target := gen, attempts := 0 })
    enterLink m n (keptCoef m n gen).isSome
  else m

/-! ## Sleep (R376, R377) -/

/-- Put both directions of a lane to sleep level `lvl` (1 SLEEP, 2 OFF): a SLEEP unit first; training is abandoned (R375). -/
def laneSleep (m : Mach) (n lvl : Nat) : Mach :=
  let st := laneState m n
  if st == L_RETIRED || st == L_LOOP || (st == L_OFF && lvl == 2) then m
  else
    let m := if laneServ m n then m.emit (.lane n 0x30 [3, lvl - 1]) else m
    let m := (m.lwr n R.VEIN.LANE_CTRL.TX_PWR lvl).lwr n R.VEIN.LANE_CTRL.RX_PWR lvl
    let m := laneMod m n (fun l => { l with wait := false, required := false, tap := none, back := none, leave := false })
    let m := (m.lwr n R.VEIN.LANE_STATUS.PENDING 0).lwr n R.VEIN.LANE_STATUS.PEND_GEN 0
    if lvl == 2 then quadDone (setLane m n L_OFF) (n / 4) else veinRefresh m

/-- Bring a sleeping or trained lane back to both directions ACTIVE. -/
def laneAwake (m : Mach) (n : Nat) : Mach :=
  veinRefresh ((m.lwr n R.VEIN.LANE_CTRL.TX_PWR 0).lwr n R.VEIN.LANE_CTRL.RX_PWR 0)

/-- Put a whole Vein bundle OFF (R377). -/
def bundleOff (m : Mach) (k : Nat) : Mach := m.each (quadLanes k) (fun m n => laneSleep m n 2)

/-- Train every Vein bundle an entry uses at its generation, and put the others OFF (R305, R314, R377). -/
def trainEntry (m : Mach) (e : Nat) : Mach :=
  let t := tentry e
  let m := m.wr R.VEIN.GEN.GEN t.gen
  m.each (List.range 12) (fun m k =>
    if k < t.b then m.each (quadLanes k) (fun m n => requestGen m n t.gen true) else bundleOff m k)

/-- Whether a bundle is trained at a generation (R314): no lane is under way in an attempt at it that the mode or entry
requires, and at least one lane is READY or ACTIVE at it. -/
def bundleTrained (m : Mach) (k gen : Nat) : Bool :=
  !(quadLanes k).any (fun n => laneTraining m n && (laneRec m n).target == gen && (laneRec m n).required) &&
  !(servAt m k gen).isEmpty

/-- Whether every bundle an entry uses is trained at its generation. -/
def entryTrained (m : Mach) (e : Nat) : Bool :=
  let t := tentry e
  (List.range t.b).all (fun k => bundleTrained m k t.gen)

/-- Whether a lane can carry units at a generation: it is READY or ACTIVE, or the mode keeps it off, or it is in training that
the mode or entry requires; and it is not held to another generation (R309, R314, R364, R369; assumption log 31). -/
def laneAble (m : Mach) (n gen : Nat) : Bool :=
  let st := laneState m n
  let l := laneRec m n
  (laneServ m n || st == L_OFF || ((laneTraining m n || st == L_BLIND) && l.required && !l.ended)) &&
  (l.only == 0 || l.only == gen)

/-- A quad powered down with its coefficients lost (R39, R377: M0 and M3). -/
def laneForget (m : Mach) (n : Nat) : Mach :=
  if laneState m n == L_RETIRED then m
  else setLane (laneMod ((m.lwr n R.VEIN.LANE_CTRL.TX_PWR 2).lwr n R.VEIN.LANE_CTRL.RX_PWR 2) n
    (fun l => { l with kept := [none, none, none], wait := false, required := false, tap := none, back := none })) n L_OFF

end Sys2Proof.Machine
end

