-- ==== Sys2Proof/Machine/ScanOps.lean ====
section
/-!
DEFINITION. Scan-out's shared operations: frame abort, permission of timing entries, the drive block and frame-start messages
(spec/09_scanout_and_panel_driving.md R304-R326, spec/02_operating_modes.md R37-R38).
-/
namespace Sys2Proof.Machine

def ABORT_UNDERRUN : Nat := 0x70
def ABORT_RECHECK : Nat := 0x71
def ABORT_LANE_LOSS : Nat := 0x72
def ABORT_DATAPATH : Nat := 0x73
def ABORT_FORCED : Nat := 0x74
def ABORT_TICK_EARLY : Nat := 0x75
def SCAN_DRIVE_APPLIED : Nat := 0x78
def SCAN_DRIVE_BAD : Nat := 0x79

/-- How many units of a kind are not retired. -/
def unitsLeft (m : Mach) (kind : Nat) : Nat :=
  ((List.range (kindUnits m kind)).filter (fun u => !isRetired m kind u)).length

/-- Helictite engines that can be in service: at most 32 are active (R210). -/
def enginesServ (m : Mach) : Nat := Nat.min 32 (unitsLeft m 1)

/-- Whether an entry is configured for the panel (R308). -/
def configured (m : Mach) (e : Nat) : Bool := decide (e < 24) && bit (m.rd R.SCAN.PANEL_CFG.ENTRIES) e

/-- Whether every bundle an entry uses can carry its demand (R309). -/
def lanesCarry (m : Mach) (e : Nat) : Bool :=
  let t := tentry e
  (List.range t.b).all (fun k => t.carried ((quadLanes k).filter (fun n => laneAble m n t.gen)).length)

/-- Whether an entry is permitted in M7, M8 and M9 (R309). -/
def permitted (m : Mach) (e : Nat) : Bool :=
  let t := tentry e
  configured m e && decide (t.rays.1 ≤ enginesServ m * 3200000000 * t.rays.2) && lanesCarry m e

/-- Whether a mode permits an entry: M6 every configured one, the others by R309 (R38). -/
def entryOk (m : Mach) (mode e : Nat) : Bool := if mode = 6 then configured m e else permitted m e

/-- Whether any resource is below its full complement (R37); a Vein bundle counts where the entry uses it (assumption log 32). -/
def reduced (m : Mach) (e : Nat) : Bool :=
  let t := tentry e
  decide (unitsLeft m 1 < 32) || decide (unitsLeft m 2 < 64) || decide (unitsLeft m 3 < 24) || decide (unitsLeft m 5 < 8) ||
  (List.range t.b).any (fun k => decide (((quadLanes k).filter (fun n => laneAble m n t.gen)).length < 3))

/-- The bundles that carry messages: those the entry in force uses while the panel is driven. -/
def usedBundles (m : Mach) : List Nat := List.range (m.rd R.SCAN.STATUS.BUNDLES)

/-- The generation of the entry whose raster runs. -/
def scanGen (m : Mach) : Nat := (tentry (m.rd R.SCAN.STATUS.ENTRY)).gen

/-- Report a code of R336. -/
def scanCode (m : Mach) (c : Nat) : Mach := m.wr R.SCAN.STATUS.LAST_CODE c

/-- Abort the frame in progress (R14, R319, R320): the first cause in a frame acts, later ones have no further effect. -/
def frameAbort (m : Mach) (code : Nat) (bundle : Nat := 0xF) : Mach :=
  if m.scan.frame != 1 then m
  else
    let tick := m.scan.frameTick % 65536
    let m := m.emits ((usedBundles m).filterMap (fun k =>
      if (servAt m k (scanGen m)).isEmpty then none else some (Out.vein k 0x12 [code, tick])))
    let fin (c : Capture) : Capture := { c with fin := 2 }
    let tap := m.gal.tap.map fin
    let m := { m with scan := { m.scan with frame := 2 }, hel := { m.hel with bundles := [] }, gal := { m.gal with line := [], tap := tap } }
    let m := m.wr R.SYS.TICK_STATUS.LAST_ABORTED 1
    let m := (m.wr R.SYS.TICK_STATUS.IN_BLANK 1).wr R.SCAN.STATUS.DARK 1
    let m := m.wr R.SCAN.ABORT_LAST.CODE code
    let m := m.wr R.SCAN.ABORT_LAST.BUNDLE (if code = ABORT_LANE_LOSS then bundle else 0xF)
    let m := m.wr R.SCAN.ABORT_LAST.LINE (m.rd R.SYS.TICK_STATUS.LINE)
    let m := m.wr R.SCAN.ABORT_TICK.TICK_LO (m.scan.frameTick % 2 ^ 32)
    let m := scanCode m code
    let m := hev (hev (m.add R.SCAN.FRAMES_ABORTED.COUNT 1) 96) 481
    (m.ev E.SYS.FRAME_ABORT).ev E.SCAN.ABORT

/-- The drive block in force as 16 bytes (R325, R343). -/
def driveBytes (m : Mach) : List Byte := (List.range 4).foldr (fun i acc => toLE 4 (m.rd R.SCAN.DRIVE.BYTES i) ++ acc) []

/-- The drive block the newest held values give, 16 bytes. -/
def driveHeld (m : Mach) : List Byte :=
  (List.range 4).foldr (fun i acc =>
    toLE 4 ((SMap.look m.held1 (R.SCAN.DRIVE.BYTES.key i 0)).getD (m.rd R.SCAN.DRIVE.BYTES i)) ++ acc) []

/-- The check of R326 against a line time in ns. -/
def driveOk (d : List Byte) (tl : Nat) : Bool :=
  let width := fieldLE d 2 2
  let off := fieldLES d 0 2
  let pre := fieldLE d 4 2
  let latch := fieldLES d 8 2
  width == 0 ||
    (decide (-(tl : Int) < off) && decide (off + (width : Int) ≤ (tl : Int)) && decide (pre ≤ width) && decide (latch.natAbs < tl))

/-- The block as it is sent (R326): reduced where an entry change left it failing. -/
def driveSent (d : List Byte) (tl : Nat) : List Byte :=
  if driveOk d tl then d
  else
    let w := ((tl : Int) - fieldLES d 0 2).toNat % 65536
    let p := Nat.min (fieldLE d 4 2) w
    splice (splice d 2 (toLE 2 w)) 4 (toLE 2 p)

end Sys2Proof.Machine
end

