-- ==== Sys2Proof/Machine/PassOps.lean ====
section
/-!
DEFINITION. The Passage fabric: links, packets, routing, election and addresses (spec/11_passage_fabric.md R387-R419).
-/
namespace Sys2Proof.Machine

def FAB_JOINED : Nat := 0x90
def LINK_MISWIRED : Nat := 0x91
def COORD_CONFLICT : Nat := 0x92
def MESH_TOO_LARGE : Nat := 0x93
def ADDRESS_MOVED : Nat := 0x94
def LEADER_CHANGED : Nat := 0x95
def LINK_DEGRADED : Nat := 0x96
def LINK_DOWN : Nat := 0x97
def ROUTE_UNREACHABLE : Nat := 0x98
def PKT_TTL_EXPIRED : Nat := 0x99
def CLAIM_REVOKED : Nat := 0x9A
def TIME_SOURCE_CHANGED : Nat := 0x9B
def FABRIC_MERGED : Nat := 0x9C

/-! States of R408. -/
def FS_OFF : Nat := 0
def FS_ISOLATED : Nat := 1
def FS_ELECTING : Nat := 2
def FS_ASSIGNING : Nat := 3
def FS_JOINED : Nat := 4
def FS_EXCLUDED : Nat := 5

/-- Report a code of R412. -/
def passCode (m : Mach) (c : Nat) : Mach := m.wr R.PASS.STATUS.LAST_CODE c

/-- The fabric state. -/
def fabState (m : Mach) : Nat := m.rd R.PASS.STATUS.STATE

/-- The four lanes of a link. -/
def linkLanes (n : Nat) : List Nat := quadLanes (12 + n)

/-- A link's record. -/
def linkRec (m : Mach) (n : Nat) : PLink := m.fab.links.getD n ⟨false, 0, 0, 0, [], [], [], 0⟩

/-- Change a link's record. -/
def linkMod (m : Mach) (n : Nat) (f : PLink → PLink) : Mach := { m with fab := { m.fab with links := modAt m.fab.links n f } }

/-- Full credits, in 16-byte units: CONTROL 4 KiB, MGMT 12 KiB, SCENE 48 KiB for each channel (R391). -/
def fullCredits : List Nat := [3072, 3072, 768, 768, 256, 256]

/-- Modes in which a node takes part in the fabric; M10 as the test selects, which the model takes as not. -/
def fabricMode (mode : Nat) : Bool := (4 ≤ mode && mode ≤ 9) || mode == 11

/-- Whether a link is up (R388). -/
def linkUp (m : Mach) (n : Nat) : Bool := m.flag R.PASS.LINK_STATUS.UP n

/-- Whether a link carries packets: up, with HELLO, wired as R387 says. -/
def linkUsable (m : Mach) (n : Nat) : Bool := linkUp m n && (linkRec m n).hello && !m.flag R.PASS.LINK_STATUS.MISWIRED n

/-- This node's die identifier as a number (R395). -/
def dieNum (m : Mach) : Nat := fromLE (m.dbytes D.die_id)

/-- This node's address, where it holds one. -/
def fabAddr (m : Mach) : Option Nat := if fabState m = FS_JOINED then some (m.rd R.PASS.STATUS.ADDRESS) else none

/-- The leader's die_id registers. -/
def leaderNum (m : Mach) : Nat := (List.range 4).foldl (fun a i => a + m.rd R.PASS.LEADER_ID.VALUE i * 2 ^ (32 * i)) 0

/-- Set them. -/
def setLeaderNum (m : Mach) (d : Nat) : Mach :=
  m.each (List.range 4) (fun m i => m.wr R.PASS.LEADER_ID.VALUE (d / 2 ^ (32 * i)) i)

/-! ## Sending on a link (R390-R392) -/

/-- The units a packet takes in the receiver's buffer: head, data units and tail. -/
def Packet.units (p : Packet) : Nat := ceilDiv p.data.length 16 + 2

/-- The credit index of a packet. -/
def Packet.channel (p : Packet) : Nat := 2 * p.cls + b2n p.detour

/-- A packet as it goes out. -/
def Packet.out (n : Nat) (p : Packet) : Out :=
  .passage n p.kind ([p.cls, b2n p.mcast, p.dest, p.src, p.lseq, p.hops, b2n p.detour] ++ p.data.map (·.toNat))

/-- Put a packet on a link now, if it has the credits and fewer than 128 are unacknowledged; else it waits. -/
def linkPush (m : Mach) (n : Nat) (p : Packet) : Mach :=
  let l := linkRec m n
  let c := l.credits.getD p.channel 0
  if p.units ≤ c ∧ l.unacked.length < 128 then
    let p := { p with lseq := l.txSeq }
    let m := linkMod m n (fun l => { l with txSeq := (l.txSeq + 1) % 256, unacked := l.unacked ++ [p],
                                            credits := setAt l.credits p.channel (c - p.units) })
    m.emit (p.out n)
  else linkMod m n (fun l => { l with waiting := l.waiting ++ [p] })

/-- Try the waiting packets again, higher classes first (R391). -/
def linkFlush (m : Mach) (n : Nat) : Mach :=
  let w := (linkRec m n).waiting
  let m := linkMod m n (fun l => { l with waiting := [] })
  m.each (w.filter (·.cls == 2) ++ w.filter (·.cls == 1) ++ w.filter (·.cls == 0)) (fun m p => linkPush m n p)

/-! ## Routing (R397-R399) -/

/-- The link toward a destination in x-then-y order, or y-then-x where `yx`; none where this is the destination. -/
def nextLink (x y dx dy : Int) (yx : Bool) : Option Nat :=
  let ew : Option Nat := if x < dx then some 1 else if dx < x then some 3 else none
  let ns : Option Nat := if y < dy then some 2 else if dy < y then some 0 else none
  if yx then (match ns with | some n => some n | none => ew) else (match ew with | some n => some n | none => ns)

/-- The coordinates of an address. -/
def addrXY (a : Nat) : Int × Int := ((a % 64 : Nat), (a / 64 % 64 : Nat))

/-- Where this node stands: its address, or its relative coordinate before it holds one (R396). -/
def herePos (m : Mach) : Int × Int :=
  match fabAddr m with
  | some a => addrXY a
  | none => m.fab.rel.getD (0, 0)

/-- A packet is dropped without a route (R398). -/
def routeDrop (m : Mach) : Mach :=
  let m := hev (m.add R.PASS.PKT_DROPPED.COUNT 1) 161
  (passCode m ROUTE_UNREACHABLE).ev E.PASS.UNREACHABLE

/-- The weight of a node's link by the map (R398): link 1 PE, 2 PS; PW and PN are those of the neighbour. -/
def mapWeight (m : Mach) (x y : Int) (link : Nat) : Nat :=
  let at_ (x y : Int) (hi : Bool) : Nat :=
    if x < 0 ∨ y < 0 then 0
    else let v := SMap.get 0 m.fab.map (y.toNat * 64 + x.toNat)
         if hi then v / 16 % 16 else v % 16
  match link with
  | 1 => at_ x y false
  | 2 => at_ x y true
  | 3 => at_ (x - 1) y false
  | _ => at_ x (y - 1) true

/-- The lowest weight along a path of at most `fuel` links. -/
def pathMin (m : Mach) : Nat → Int → Int → Int → Int → Bool → Nat
  | 0, _, _, _, _, _ => 15
  | fuel + 1, x, y, dx, dy, yx =>
    match nextLink x y dx dy yx with
    | none => 15
    | some n =>
      let w := mapWeight m x y n
      let x' := if n = 1 then x + 1 else if n = 3 then x - 1 else x
      let y' := if n = 2 then y + 1 else if n = 0 then y - 1 else y
      Nat.min w (pathMin m fuel x' y' dx dy yx)

/-- Forward a unicast packet toward a position (R398). -/
def routeTo (m : Mach) (p : Packet) (dx dy : Int) : Mach :=
  let (x, y) := herePos m
  match nextLink x y dx dy p.detour with
  | none => m
  | some n =>
    if linkUsable m n then linkPush m n p
    else if p.detour then routeDrop m
    else
      match nextLink x y dx dy true with
      | some k => if k != n && linkUsable m k then linkPush m k { p with detour := true } else routeDrop m
      | none => routeDrop m

/-- The rectangle of a multicast destination (R390). -/
def mcastRect (d : Nat) : Nat × Nat × Nat × Nat := (bits d 5 0, bits d 11 6, bits d 17 12, bits d 23 18)

/-- The destination of a rectangle. -/
def rectDest (x0 x1 y0 y1 : Nat) : Nat := x0 + x1 * 2 ^ 6 + y0 * 2 ^ 12 + y1 * 2 ^ 18

/-- The links a multicast takes from this node on (R397): along the source's row, then along the columns. -/
def mcastLinks (x y sx sy : Nat) (r : Nat × Nat × Nat × Nat) : List Nat :=
  let (x0, x1, y0, y1) := r
  let inCol := x0 ≤ x && x ≤ x1
  if y = sy then
    (if sx ≤ x ∧ x < x1 then [1] else []) ++ (if x ≤ sx ∧ x0 < x then [3] else []) ++
    (if inCol ∧ y0 < y then [0] else []) ++ (if inCol ∧ y < y1 then [2] else [])
  else if sy < y then (if y < y1 then [2] else [])
  else (if y0 < y then [0] else [])

/-- The destinations of a branch, for a split (R398). -/
def branchDests (x y sy n : Nat) (r : Nat × Nat × Nat × Nat) : List Nat :=
  let (x0, x1, y0, y1) := r
  let all := (List.range (y1 + 1 - y0)).foldr (fun j acc => (List.range (x1 + 1 - x0)).map (fun i => (y0 + j) * 64 + x0 + i) ++ acc) []
  all.filter (fun a =>
    let ax := a % 64
    let ay := a / 64
    if n = 1 then x < ax && y == sy
    else if n = 3 then ax < x && y == sy
    else if n = 0 then ax == x && ay < y
    else ax == x && y < ay)

/-- Forward a multicast packet from this node; a branch whose link is down is split into unicast copies (R398). -/
def mcastOn (m : Mach) (p : Packet) : Mach :=
  match fabAddr m with
  | none => m
  | some a =>
    let x := a % 64
    let y := a / 64
    let r := mcastRect p.dest
    m.each (mcastLinks x y (p.src % 64) (p.src / 64) r) (fun m n =>
      if linkUsable m n then linkPush m n p
      else
        let m := hev (m.add R.PASS.MCAST_SPLITS.COUNT 1) 163
        m.each (branchDests x y (p.src / 64) n r) (fun m d =>
          routeTo m { p with mcast := false, dest := d } (addrXY d).1 (addrXY d).2))

/-- Send a packet of this node's own (R390, R399). -/
def fabSend (m : Mach) (cls kind : Nat) (mcast : Bool) (dest : Nat) (data : List Byte) : Mach :=
  let src := (fabAddr m).getD 0xFFF
  let p : Packet := ⟨cls, kind, mcast, dest, src, 0, 255, false, data⟩
  if mcast then mcastOn m p
  else
    let (x, y) := herePos m
    let (dx, dy) := addrXY dest
    let better := cls < 2 && decide (pathMin m 126 x y dx dy false < pathMin m 126 x y dx dy true)
    routeTo m { p with detour := better } dx dy

/-- Whether this node takes a copy of a packet. -/
def forMe (m : Mach) (p : Packet) : Bool :=
  match fabAddr m with
  | none => true
  | some a =>
    if p.mcast then
      let (x0, x1, y0, y1) := mcastRect p.dest
      x0 ≤ a % 64 && a % 64 ≤ x1 && y0 ≤ a / 64 && a / 64 ≤ y1
    else p.dest == a

/-- The rectangle of the whole mesh. -/
def wholeMesh (m : Mach) : Nat := rectDest 0 (m.rd R.PASS.MESH.WIDTH_M1) 0 (m.rd R.PASS.MESH.HEIGHT_M1)

/-! ## Receiving (R392) -/

/-- Answer with LINK_ACK: next LSEQ expected, NAK, credits returned. -/
def sendAck (m : Mach) (n : Nat) (nak : Bool) (credits : List Nat) : Mach :=
  m.emit (.passage n 0x52 ([(linkRec m n).rxSeq, b2n nak] ++ credits))

/-- A packet arrives whole on a link: `none` where it is discarded or only passes through, else it is for this node. A packet
that goes on has its HOPS decremented. -/
def pktArrive (m : Mach) (n : Nat) (crc : Bool) (p : Packet) : Bool × Mach :=
  if 4 ≤ n ∨ !linkUp m n ∨ m.flag R.PASS.LINK_STATUS.MISWIRED n then (false, m)
  else if !crc ∨ p.lseq ≠ (linkRec m n).rxSeq then
    (false, sendAck (hev (m.add R.PASS.LINK_RETRIES.COUNT 1) 160) n true [])
  else
    let m := linkMod m n (fun l => { l with rxSeq := (l.rxSeq + 1) % 256 })
    let m := sendAck m n false [p.channel, p.units]
    let mine := forMe m p
    let on := p.mcast || !mine
    let m := if on then
        (if p.hops ≤ 1 then passCode (hev (m.add R.PASS.TTL_EXPIRED.COUNT 1) 162) PKT_TTL_EXPIRED
         else if p.mcast then mcastOn m { p with hops := p.hops - 1 }
         else routeTo m { p with hops := p.hops - 1 } (addrXY p.dest).1 (addrXY p.dest).2)
      else m
    (mine, m)

/-- A packet of one link only (HELLO, ELECT) arrives: whether it is accepted. -/
def pktLocal (m : Mach) (n : Nat) (crc : Bool) (p : Packet) : Bool × Mach :=
  if 4 ≤ n ∨ !linkUp m n then (false, m)
  else if !crc ∨ p.lseq ≠ (linkRec m n).rxSeq then
    (false, sendAck (hev (m.add R.PASS.LINK_RETRIES.COUNT 1) 160) n true [])
  else (true, sendAck (linkMod m n (fun l => { l with rxSeq := (l.rxSeq + 1) % 256 })) n false [p.channel, p.units])

/-- Resend every unacknowledged packet of a link: counted, and one event of the link's bucket each (R392); a crossing retrains
every lane of the link. -/
def linkResend (m : Mach) (n : Nat) : Mach :=
  m.each (linkRec m n).unacked (fun m p =>
    let m := hev (m.add R.PASS.LINK_RETRIES.COUNT 1) 160
    let (crossed, m) := bucketAdd m 9 n 1 0 0
    let m := m.emit (p.out n)
    if crossed then m.each (linkLanes n) (fun m k =>
      if laneServ m k then startTraining (laneMod m k (fun l => { l with rejoin := true })) k (laneGen m k) false else m) else m)

/-! ## Links as their lanes stand (R388) -/

/-- The link weights this node reports: PE and PS (R398). -/
def myWeights (m : Mach) : Nat := m.rd R.PASS.LINK_STATUS.WEIGHT 1 + 16 * m.rd R.PASS.LINK_STATUS.WEIGHT 2

/-- Send this node's link state to the leader, or take it into the map where it leads. -/
def sendLinkState (m : Mach) : Mach :=
  match fabAddr m with
  | none => m
  | some a =>
    if m.flag R.PASS.STATUS.IS_LEADER then
      { m with fab := { m.fab with map := SMap.put 0 m.fab.map a (myWeights m), mapDirty := true } }
    else fabSend m 2 0x05 false (m.rd R.PASS.LEADER.LEADER_ADDR) (toLE 2 a ++ toLE 1 (myWeights m))

/-- Send ELECT on every up link (R395). -/
def sendElect (m : Mach) : Mach :=
  match m.fab.cand with
  | none => m
  | some c => m.each ((List.range 4).filter (linkUp m)) (fun m n =>
      linkPush m n ⟨2, 0x02, false, 0, (fabAddr m).getD 0xFFF, 0, 255, false, toLE 16 c ++ toLE 2 m.fab.epochMax⟩)

/-- The election begins at this node (R395). -/
def startElection (m : Mach) : Mach :=
  let c := if m.flag R.PASS.CTRL.LEADER_ELIGIBLE then some (dieNum m) else none
  let m := { m with fab := { m.fab with cand := c, rel := none, reports := [], claims := [], granted := none } }
  let m := (m.wr R.PASS.STATUS.STATE FS_ELECTING).wr R.PASS.STATUS.IS_LEADER 0
  sendElect m

/-- Packets a link that went down had not delivered are routed again from here (R392). -/
def linkReroute (m : Mach) (n : Nat) : Mach :=
  let l := linkRec m n
  let ps := l.unacked ++ l.waiting
  let m := linkMod m n (fun l => { l with unacked := [], waiting := [], txSeq := 0, rxSeq := 0, credits := fullCredits, hello := false })
  m.each (ps.filter (fun p => p.kind != 0x01 && p.kind != 0x02)) (fun m p =>
    if p.mcast then mcastOn m p else routeTo m p (addrXY p.dest).1 (addrXY p.dest).2)

/-- Bring one link's mask, weight and state up to date with its lanes (R388). -/
def linkRefresh (m : Mach) (n : Nat) : Mach :=
  let on := m.flag R.PASS.CTRL.ENABLE && bit (m.rd R.PASS.CTRL.LINK_EN) n && fabricMode m.mode
  let serv := (linkLanes n).filter (laneServ m)
  let up := on && decide (2 ≤ serv.length)
  let mask := if up then maskOf 4 (fun i => laneServ m (48 + 4 * n + i)) else 0
  let w := if up then serv.length else 0
  let old := m.rd R.PASS.LINK_STATUS.WEIGHT n
  let oldMask := m.rd R.PASS.LINK_STATUS.MASK n
  if mask = oldMask then m
  else
    let m := m.each (bitList 4 oldMask) (fun m i => m.emit (.lane (48 + 4 * n + i) 0x54 [mask]))
    -- lanes join the mask at the packet boundary
    let m := if up then m.each serv (fun m k =>
        let l := laneRec m k
        let m := if laneState m k = L_READY then m.lwr k R.VEIN.LANE_STATUS.STATE L_ACTIVE else m
        if l.rejoin then
          let m := laneMod m k (fun l => { l with rejoin := false })
          hev (laneCode (m.add R.VEIN.LANE_REJOINS.COUNT 1) k LANE_REJOINED) 129
        else m) else m
    let m := ((m.wr R.PASS.LINK_STATUS.MASK mask n).wr R.PASS.LINK_STATUS.WEIGHT w n).wr R.PASS.LINK_STATUS.UP (b2n up) n
    if w = old then m
    else
      let m := m.ev E.PASS.LINK_CHANGED
      let m := if old ≠ 0 ∧ w = 0 then linkReroute (passCode m LINK_DOWN) n
        else if w < old then passCode m LINK_DEGRADED else m
      let m := if old = 0 ∧ w ≠ 0 then linkMod m n (fun l => { l with credits := fullCredits, txSeq := 0, rxSeq := 0 }) else m
      let m := if n = 1 ∨ n = 2 then sendLinkState m else m
      let any := (List.range 4).any (linkUp m)
      if fabState m = FS_ISOLATED ∧ any then startElection m else m

/-- Bring all four links up to date. -/
def passRefresh (m : Mach) : Mach := m.each (List.range 4) linkRefresh

/-- The generation the links train at (R387). -/
def passGen (m : Mach) : Nat := if m.flag R.PASS.CTRL.GEN then 3 else 2

/-- What the mode, fabric_enable, link_enable and link_gen mean for the Passage lanes (R387, R413): on, they train; else they are off. -/
def passMode (m : Mach) : Mach :=
  let run := m.flag R.PASS.CTRL.ENABLE && fabricMode m.mode
  let m := m.each (List.range 4) (fun m n =>
    if run && bit (m.rd R.PASS.CTRL.LINK_EN) n then
      m.each (linkLanes n) (fun m k => if laneState m k = L_OFF then startTraining m k (passGen m) true else m)
    else m.each (linkLanes n) (fun m k => laneSleep m k 2))
  let m := passRefresh m
  if !run then (m.wr R.PASS.STATUS.STATE FS_OFF).wr R.PASS.STATUS.IS_LEADER 0
  else if fabState m = FS_OFF then
    let m := m.wr R.PASS.STATUS.STATE FS_ISOLATED
    if (List.range 4).any (linkUp m) then startElection m else m
  else m

/-! ## Leader, addresses, identity (R395, R396, R400, R409) -/

/-- A node is excluded (R408). -/
def fabExclude (m : Mach) (c : Nat) : Mach := (passCode (m.wr R.PASS.STATUS.STATE FS_EXCLUDED) c).ev E.PASS.EXCLUDED

/-- A leader takes office (R395, R412). -/
def leaderTakes (m : Mach) (die : Nat) : Mach :=
  if leaderNum m = die ∧ m.flag R.PASS.STATUS.IS_LEADER = (die == dieNum m) then m
  else
    let m := setLeaderNum m die
    let m := m.wr R.PASS.STATUS.IS_LEADER (b2n (die == dieNum m))
    hev ((passCode (m.add R.PASS.LEADER_CHANGES.COUNT 1) LEADER_CHANGED).ev E.PASS.LEADER) 164

/-- The time source in force: the leader (R400; assumption log 40). -/
def setTimeSource (m : Mach) (addr : Nat) : Mach :=
  let mine := decide (fabAddr m = some addr)
  let m' := (m.wr R.PASS.LEADER.TIME_ADDR addr).wr R.PASS.STATUS.IS_TIME_SOURCE (b2n mine)
  if m.rd R.PASS.LEADER.TIME_ADDR = addr then m' else (passCode m' TIME_SOURCE_CHANGED).ev E.PASS.TIME_SOURCE

/-- The node takes its final address (R396, R409). -/
def takeAddress (m : Mach) (x y : Int) (leader w h fid epoch : Nat) : Mach :=
  if x < 0 ∨ 63 < x ∨ y < 0 ∨ 63 < y then fabExclude m MESH_TOO_LARGE
  else
    let a := y.toNat * 64 + x.toNat
    let moved : Bool := match m.fab.ident with
      | some (_, old, _) => old != a
      | none => false
    let was := fabState m == FS_JOINED
    let m := (m.wr R.PASS.STATUS.STATE FS_JOINED).wr R.PASS.STATUS.ADDRESS a
    let m := ((m.wr R.PASS.MESH.WIDTH_M1 w).wr R.PASS.MESH.HEIGHT_M1 h).wr R.PASS.MESH.EPOCH epoch
    let m := (m.wr R.PASS.FABRIC_ID.VALUE (fid % 2 ^ 32) 0).wr R.PASS.FABRIC_ID.VALUE (fid / 2 ^ 32) 1
    let m := m.wr R.PASS.LEADER.LEADER_ADDR leader
    let m := { m with fab := { m.fab with ident := some (fid, a, epoch) } }
    let m := vaultRequest m ⟨7, 0, .bytes (toLE 8 fid ++ toLE 2 a ++ toLE 2 epoch), .fabric⟩
    let m := passCode m (if moved then ADDRESS_MOVED else FAB_JOINED)
    let m := sendLinkState (setTimeSource (if was then m else m.ev E.PASS.JOINED) leader)
    -- R402: an ingest partway through a frame claims again
    match m.fab.claim with
    | some q => if m.fab.headOut then fabSend m 2 0x09 false leader (toLE 4 1 ++ toLE 4 q) else fabSend m 2 0x09 false leader (toLE 4 0 ++ toLE 4 q)
    | none => m

/-- The fabric_id a leader forms (R396). -/
def formFabricId (m : Mach) (epoch : Nat) : Nat := dieNum m % 2 ^ 48 + epoch * 2 ^ 48

/-- The leader chooses the offset from the reports it has, tells every node and takes its own address (R396). -/
def assignOffset (m : Mach) : Mach :=
  let xs := 0 :: m.fab.reports.map (fun r => r.2.1)
  let ys := 0 :: m.fab.reports.map (fun r => r.2.2.1)
  let lo (l : List Int) : Int := l.foldl (fun a b => if b < a then b else a) 0
  let hi (l : List Int) : Int := l.foldl (fun a b => if a < b then b else a) 0
  let epoch := m.rd R.PASS.MESH.EPOCH
  let (ox, oy, fid) : Int × Int × Nat := match m.fab.ident0 with
    | some (f, a, _) => ((addrXY a).1, (addrXY a).2, f)
    | none => (-(lo xs), -(lo ys), formFabricId m epoch)
  let w := (hi xs + ox).toNat
  let h := (hi ys + oy).toNat
  let leader := oy.toNat * 64 + ox.toNat
  let data := [BitVec.ofNat 8 (uNat 8 ox), BitVec.ofNat 8 (uNat 8 oy), BitVec.ofNat 8 w, BitVec.ofNat 8 h] ++ toLE 8 fid ++ toLE 2 epoch
  let m := takeAddress m ox oy leader w h fid epoch
  m.each ((List.range 4).filter (linkUsable m)) (fun m n =>
    linkPush m n ⟨2, 0x04, true, rectDest 0 63 0 63, (fabAddr m).getD 0xFFF, 0, 255, false, data⟩)

/-- The payload of this node's HELLO on a link (R393). -/
def helloData (m : Mach) (n : Nat) : List Byte :=
  let r := m.fab.rel.getD (0, 0)
  toLE 16 (dieNum m) ++ [BitVec.ofNat 8 n, BitVec.ofNat 8 (fabState m)] ++ toLE 2 ((fabAddr m).getD 0xFFFF) ++
  [BitVec.ofNat 8 (uNat 8 r.1), BitVec.ofNat 8 (uNat 8 r.2)] ++ toLE 2 (m.rd R.PASS.MESH.EPOCH) ++
  toLE 16 (if fabState m = FS_JOINED ∨ fabState m = FS_ASSIGNING then leaderNum m else m.fab.cand.getD 0) ++
  toLE 8 (m.rd R.PASS.FABRIC_ID.VALUE 0 + m.rd R.PASS.FABRIC_ID.VALUE 1 * 2 ^ 32) ++ [BitVec.ofNat 8 (passGen m)] ++ toLE 15 0

end Sys2Proof.Machine
end

