-- ==== Sys2Proof/Machine/QueueOps.lean ====
section
/-!
DEFINITION. The scene queue: its space, its states, refusals and the flush (spec/05_flowstone_decoder.md R137-R143, R174-R176).
-/
namespace Sys2Proof.Machine

def MSF_BAD_MAGIC : Nat := 0x01
def MSF_BAD_VERSION : Nat := 0x02
def MSF_HEADER_CRC : Nat := 0x03
def MSF_FRAME_CRC : Nat := 0x04
def MSF_TILE_CRC : Nat := 0x05
def MSF_SYNTAX : Nat := 0x06
def MSF_LIMIT : Nat := 0x07
def MSF_TABLE : Nat := 0x08
def MSF_STALE : Nat := 0x09
def MSF_BASE_MISSING : Nat := 0x0A
def MSF_BASE_MISMATCH : Nat := 0x0B
def MSF_WRONG_MODE : Nat := 0x0C
def MSF_SEGMENT_OVERRUN : Nat := 0x10
def MSF_STATE_CHECK : Nat := 0x11
def MSF_CLASS_MISMATCH : Nat := 0x12
def MSF_DEPTH_RANGE : Nat := 0x13
def FRAME_INCOMPLETE : Nat := 0x20
def QUEUE_FULL : Nat := 0x21
def FLUSHED : Nat := 0x22
def SCENE_OVER_BUDGET : Nat := 0x23
def SOURCE_DISABLED : Nat := 0x24
def FLOW_IN_USE : Nat := 0x25
def FLOW_DRAINED : Nat := 0x28

/-- States of R139. -/
def F_RECEIVING : Nat := 0
def F_COMPLETE : Nat := 1
def F_ADMITTED : Nat := 2
def F_CURRENT : Nat := 3
def F_BASE : Nat := 4

/-! ## The queue (R137-R140, R174, R175) -/

/-- Change the queue's frames. -/
def setFrames (m : Mach) (l : List Frame) : Mach := { m with flow := { m.flow with frames := l } }

/-- A held frame by sequence. -/
def frameOf (m : Mach) (seq : Nat) : Option Frame := m.flow.frames.find? (fun f => f.seq == seq)

/-- Change a held frame. -/
def frameMod (m : Mach) (seq : Nat) (g : Frame → Frame) : Mach :=
  setFrames m (m.flow.frames.map (fun f => if f.seq == seq then g f else f))

/-- The current frame. -/
def currentFrame (m : Mach) : Option Frame := m.flow.frames.find? (fun f => f.st == F_CURRENT)

/-- The queue's region. -/
def queueBase (m : Mach) : Nat := m.rd R.FLOW.QUEUE_BASE_HI.BASE_HI * 2 ^ 32 + m.rd R.FLOW.QUEUE_BASE_LO.BASE_LO * 2 ^ 20
def queueSize (m : Mach) : Nat := m.rd R.FLOW.QUEUE_SIZE.SIZE_MIB * 2 ^ 20

/-- Where free pieces may begin: the base, and the end of each held frame. -/
def pieceStarts (m : Mach) : List Nat := queueBase m :: m.flow.frames.map (fun f => f.addr + f.bytes)

/-- Where the free piece that begins at `a` ends; `a` itself where no piece begins there. -/
def pieceEnd (m : Mach) (a : Nat) : Nat :=
  if m.flow.frames.any (fun f => f.addr ≤ a && a < f.addr + f.bytes) then a
  else m.flow.frames.foldl (fun e f => if a < f.addr then Nat.min e f.addr else e) (queueBase m + queueSize m)

/-- The lowest address with `n` bytes free in one piece (R138). -/
def queuePlace (m : Mach) (n : Nat) : Option Nat :=
  (pieceStarts m).foldl (fun best a =>
    if a + n ≤ pieceEnd m a then (match best with | some b => some (Nat.min a b) | none => some a) else best) none

/-- Plan slots in use (R226): one for each plan held and each walk under way. -/
def planSlots (m : Mach) : Nat :=
  sumN (m.flow.frames.map (fun f =>
    b2n (f.plan.isSome || (f.walk && !f.planOpt)) + b2n (f.plan2.isSome || (f.walk && f.planOpt))))

/-- Bring the queue's registers up to date (R174, R175, R247). -/
def queueRefresh (m : Mach) : Mach :=
  let fs := m.flow.frames
  let m := m.wr R.GROT.STATUS.PLAN_SLOTS_USED (planSlots m)
  let cnt (p : Frame → Bool) : Nat := (fs.filter p).length
  let m := m.wr R.FLOW.QUEUE_STATUS.HAS_CURRENT (b2n (currentFrame m).isSome)
  let m := m.wr R.FLOW.QUEUE_STATUS.RECEIVING (cnt (fun f => f.st == F_RECEIVING))
  let m := m.wr R.FLOW.QUEUE_STATUS.WAITING (cnt (fun f => f.st == F_COMPLETE || f.st == F_ADMITTED))
  let m := m.wr R.FLOW.QUEUE_STATUS.BASE_ONLY (cnt (fun f => f.st == F_BASE))
  let m := m.wr R.FLOW.QUEUE_STATUS.HELD_M1 (fs.length - 1)
  let m := match currentFrame m with
    | some f => m.wr R.FLOW.CURRENT_SEQ.SEQ f.seq
    | none => m
  m.wr R.FLOW.QUEUE_FREE.FREE_MIB (maxN ((pieceStarts m).map (fun a => pieceEnd m a - a)) / 2 ^ 20)

/-- The slab a frame lists under an id. -/
def Frame.slab (f : Frame) (id : Nat) : Option MSlab := f.slabs.find? (fun s => s.id == id)

/-- The frame a frame builds on (R107, R133). -/
def baseOf (m : Mach) (f : Frame) : Option Frame := if f.ver = 2 then frameOf m f.base else currentFrame m

/-- The frame whose tile data a slab refers to (R109), through at most `fuel` frames. -/
def traceSrc (m : Mach) : Nat → Frame → Nat → Option Nat
  | 0, _, _ => none
  | fuel + 1, f, id =>
    match f.slab id with
    | none => none
    | some s =>
      if s.pers = 0 then some f.seq
      else if F_ADMITTED ≤ f.st then some s.src
      else match baseOf m f with
        | some b => if b.seq = f.seq then none else traceSrc m fuel b id
        | none => none

/-- The frames whose tile data held frames refer to. -/
def referred (m : Mach) : List Nat :=
  (m.flow.frames.filter (fun f => f.st != F_BASE)).foldr (fun f acc =>
    f.slabs.filterMap (fun s => traceSrc m 64 f s.id) ++ acc) []

/-- Free the BASE_ONLY frames nothing refers to any longer (R139). -/
def queueSweep (m : Mach) : Mach :=
  let r := referred m
  queueRefresh (setFrames m (m.flow.frames.filter (fun f => f.st != F_BASE || r.contains f.seq)))

/-- Take a frame out of the queue. -/
def dropFrame (m : Mach) (seq : Nat) : Mach := queueSweep (setFrames m (m.flow.frames.filter (fun f => f.seq != seq)))

/-- Report a refusal (R176). -/
def reportRefusal (m : Mach) (path seq code : Nat) : Mach :=
  let m := (m.wr R.FLOW.REFUSAL.CODE code).wr R.FLOW.REFUSAL.PATH path
  hev (((m.add R.FLOW.REFUSAL.COUNT 1).wr R.FLOW.REFUSAL_SEQ.SEQ seq).ev E.FLOW.REFUSED) 6

/-- A frame will be missing at the tick its launch time names (R32). -/
def sceneMissed (m : Mach) (launch : Int) : Mach := { m with flow := { m.flow with missed := launch :: m.flow.missed } }

/-- Change a reception path. -/
def pathMod (m : Mach) (p : Nat) (g : RxPath → RxPath) : Mach := { m with flow := { m.flow with paths := modAt m.flow.paths p g } }

/-- A reception path. -/
def pathOf (m : Mach) (p : Nat) : RxPath := m.flow.paths.getD p ⟨none, none⟩

/-- Refuse or discard a held frame: its path goes on counting the bytes still to come (R129, R142, R143); on the FABRIC path those are
the frame's fragments up to the next start of a frame (R404). -/
def refuseFrame (m : Mach) (f : Frame) (code : Nat) : Mach :=
  let m := reportRefusal m f.path f.seq code
  let m := if code = FLUSHED then m else sceneMissed m f.launch
  let m := if (pathOf m f.path).rx = some f.seq then
      pathMod m f.path (fun _ => ⟨none, if f.path = 1 then some (none, false) else if f.got < f.bytes then some (some (f.bytes - f.got), false) else none⟩)
    else m
  dropFrame m f.seq

/-- A flush (R140): every frame that is not current, nor kept for the current one, is discarded; sequences start afresh. -/
def queueFlush (m : Mach) : Mach :=
  let m := m.each (m.flow.frames.filter (fun f => f.st < F_CURRENT)) (fun m f => refuseFrame m f FLUSHED)
  queueSweep { m with flow := { m.flow with mark := none } }

/-- The same with the current frame as well (R470). -/
def queueLost (m : Mach) : Mach :=
  let m := queueFlush m
  let m := m.each (m.flow.frames.filter (fun f => f.st == F_CURRENT)) (fun m f => reportRefusal m f.path f.seq FLUSHED)
  let m := { m with hel := { m.hel with black := true, setups := [], bundles := [] } }
  queueRefresh (setFrames m [])

end Sys2Proof.Machine
end

