-- ==== Sys2Proof/Machine/Storage.lean ====
section
/-!
DEFINITION. What a mode transition loses (spec/02_operating_modes.md R39) and what a smaller DRAM capacity loses
(spec/13_memory_dram.md R470).
-/
namespace Sys2Proof.Machine

/-- The plan area's end (R226). -/
def planEnd (m : Mach) : Nat :=
  m.rd R.GROT.PLAN_BASE_HI.BASE_HI * 2 ^ 32 + m.rd R.GROT.PLAN_BASE_LO.BASE_LO * 2 ^ 20 + m.rd R.GROT.PLAN_SIZE.SIZE_MIB * 2 ^ 20

/-- Whether the plan area lies within capacity; a lost one has no free slot (R470). -/
def planWhole (m : Mach) : Bool := decide (planEnd m ≤ m.rd R.DRAM.CAPACITY.MIB * 2 ^ 20)

/-- Every plan and walk is lost. -/
def plansLost (m : Mach) : Mach :=
  (setFrames m (m.flow.frames.map (fun f => { f with plan := none, plan2 := none, walk := false }))).wr R.GROT.STATUS.PLAN_SLOTS_USED 0

/-- The scene queue and the plan area are checked against the new capacity at a channel retirement (R470). -/
def regionsLost (m : Mach) : Mach :=
  let cap := m.rd R.DRAM.CAPACITY.MIB * 2 ^ 20
  let report (m : Mach) : Mach := (m.wr R.DRAM.STATUS.LAST_CODE 0xB9).ev E.DRAM.REGION_LOST
  let m := if cap < queueBase m + queueSize m then queueLost (report m) else m
  if planWhole m then m else plansLost (report m)

/-- Contexts, Grotto rows, demands and bundles are lost where CD00 to CD02 stop: into M0 to M4 and M11 (R39, R163, R235). -/
def decodeLost (m : Mach) : Mach :=
  let m := { m with flow := { m.flow with ctxs := [], demands := [], bg := [], bgGrant := false } }
  let m := { m with hel := { m.hel with rows := [], bundles := [] } }
  let m := (m.wr R.FLOW.STATUS.STATE 0).wr R.HEL.STATUS.STATE 0
  m.wr R.FLOW.DEMAND_STATUS.OUTSTANDING 0

/-- CD00 to CD02 run again: M5 to M9 (R169, R240). -/
def decodeRun (m : Mach) : Mach :=
  let m := if m.rd R.FLOW.STATUS.STATE = 0 then m.wr R.FLOW.STATUS.STATE (if m.flag R.FLOW.CTRL.ENABLE then 1 else 3) else m
  if m.rd R.HEL.STATUS.STATE = 0 then m.wr R.HEL.STATUS.STATE (if m.flag R.HEL.CTRL.ENABLE then 1 else 3) else m

/-- State lost on the way from one mode to another (R39). -/
def storageLoss (m : Mach) (_old new : Nat) : Mach :=
  let m := if new = 0 ∨ new = 3 ∨ new = 11 then switchAbandon m else m
  let m := lantMode m new
  if new ≤ 4 ∨ new = 11 then decodeLost m else decodeRun m

end Sys2Proof.Machine
end

