-- ==== Sys2Proof/Machine/ModeOps.lean ====
section
/-!
DEFINITION. The mode controller: requests, tick-aligned and immediate transitions, forced transitions and coincidences
(spec/02_operating_modes.md R35-R62).
-/
namespace Sys2Proof.Machine

/-! Causes of R57 and codes of R60. -/
def CAUSE_REQUEST : Nat := 0
def CAUSE_BOOT : Nat := 1
def CAUSE_WAKE : Nat := 2
def CAUSE_TRIP : Nat := 3
def CAUSE_RESUME : Nat := 4
def CAUSE_INTEGRITY : Nat := 5
def CAUSE_DATAPATH : Nat := 6
def CAUSE_RETIREMENT : Nat := 7
def CAUSE_RELEASE : Nat := 8
def MODE_DONE : Nat := 0
def MODE_PENDING : Nat := 1
def MODE_BAD_TRANSITION : Nat := 2
def MODE_BAD_ENTRY : Nat := 3
def MODE_BUSY : Nat := 4
def MODE_ABANDONED : Nat := 5
def MODE_FAILED : Nat := 6
def MODE_LOCKED : Nat := 7

/-- The outcome of the newest request (R59, R61). -/
def answerMode (m : Mach) (code : Nat) : Mach :=
  (m.wr R.SYS.MODE_RESULT.STATUS code).evIf (code != MODE_DONE && code != MODE_PENDING) E.SYS.REFUSED

/-- A request with a lower priority, or an older one, is abandoned (R50, R51). -/
def abandonRequest (m : Mach) (isReq : Bool) : Mach := if isReq then answerMode m MODE_ABANDONED else m

/-- The priority of a cause (R50): 1 is highest. -/
def causePrio (cause target : Nat) : Nat :=
  if cause = CAUSE_TRIP then 1
  else if cause = CAUSE_INTEGRITY then 2
  else if cause = CAUSE_DATAPATH then 3
  else if cause = CAUSE_RETIREMENT then (if target = 4 then 3 else 4)
  else if cause = CAUSE_WAKE then 5
  else 6

/-- M6 stands for M9 while resources are below the full complement, and M9 for M6 while they are not (R37). -/
def m6or9 (m : Mach) (mode e : Nat) : Nat := if mode = 6 ∨ mode = 9 then (if reduced m e then 9 else 6) else mode

/-- The entries MODE_ENTRY_MASK shows (R62): those the mode permits in M6 to M9, the configured ones elsewhere (assumption log 33). -/
def maskNow (m : Mach) : Nat :=
  let md := m.mode
  maskOf 24 (fun e => if drivesRays md then entryOk m md e else configured m e)

/-- Renew MODE_ENTRY_MASK; it changes only at a tick (R62). -/
def renewMask (m : Mach) : Mach :=
  let v := maskNow m
  if v = m.rd R.SYS.MODE_ENTRY_MASK.PERMITTED then m
  else (m.wr R.SYS.MODE_ENTRY_MASK.PERMITTED v).ev E.SYS.ENTRY_MASK_CHANGED

/-- Begin an immediate transition (R41, R56). PENDING shows a mode only where training is waited for (assumption log 34). -/
def beginImm (m : Mach) (t : Imm) : Mach :=
  let m := { m with mc := { m.mc with imm := some t } }
  (m.wr R.SYS.MODE_STATUS.IN_TRANSITION 1).wr R.SYS.MODE_STATUS.PENDING (if t.train then t.target else 0xF)

/-- Schedule a tick-aligned transition (R41). -/
def schedule (m : Mach) (d : Due) : Mach :=
  let m := match m.mc.due with
    | some old => abandonRequest m old.isReq
    | none => m
  let m := { m with mc := { m.mc with due := some d } }
  m.wr R.SYS.MODE_STATUS.PENDING d.target

/-- Drop the tick-aligned transition not yet in force. -/
def dropDue (m : Mach) : Mach :=
  ({ m with mc := { m.mc with due := none } }).wr R.SYS.MODE_STATUS.PENDING 0xF

/-- Ticks a tick-aligned request now has to wait beyond the coming one (R17, R41). -/
def tickWait (m : Mach) : Nat := if m.mc.deadline then 1 else 0

/-- Bundles that the BEACON rectangles or the glow region touch (R328), for the entry whose raster runs. -/
def coverBy (rd : Row → Nat → Nat) (mode e : Nat) : List Nat :=
  let t := tentry e
  let hits (x w h : Nat) (k : Nat) : Bool :=
    decide (0 < w) && decide (0 < h) && decide (x < (k + 1) * t.cols) && decide (k * t.cols < x + w)
  (List.range t.b).filter (fun k =>
    if mode = 1 then (List.range 16).any (fun i => rd R.LANT.BEACON_BLINK.ENABLE i == 1 &&
      hits (rd R.LANT.BEACON_XY.X i) (rd R.LANT.BEACON_WH.W i) (rd R.LANT.BEACON_WH.H i) k)
    else hits (rd R.LANT.GLOW_XY.X 0) (rd R.LANT.GLOW_WH.W 0) (rd R.LANT.GLOW_WH.H 0) k)

/-- The bundles covered by what is in force. -/
def coveringBundles (m : Mach) (mode e : Nat) : List Nat := coverBy (fun r i => m.rd r i) mode e

/-- Train a sleeping bundle that the mode requires (R328, R370). -/
def wakeBundle (m : Mach) (k gen : Nat) : Mach :=
  m.each (quadLanes k) (fun m n => if laneState m n = L_OFF then startTraining m n gen true else m)

/-- The fields that place rectangles and the glow region. -/
def lantPlace (k : Nat) : Bool := keyIn 0x2C00080 0x2C00088 k || keyIn 0x2C00100 0x2C00200 k

/-- In M1 and M2 a change held for a tick wakes the sleeping bundles it needs at once (R328). -/
def lantWake (m : Mach) : Mach :=
  if m.mode = 1 ∨ m.mode = 2 then
    let e := m.scan.lpEntry
    let ks := (coverBy (fun r i => m.rdNew r i) m.mode e).filter (fun k => !(quadLanes k).any (laneServ m))
    let m := m.each ks (fun m k => wakeBundle m k (tentry e).gen)
    { m with scan := { m.scan with waking := (m.scan.waking ++ ks).eraseDups } }
  else m

/-- The lanes of each mode (R377). -/
def lanesForMode (m : Mach) (mode : Nat) (e : Nat) : Mach :=
  if mode = 4 ∨ mode = 11 then m.each (List.range 12) bundleOff
  else if mode = 1 ∨ mode = 2 then
    let cov := coveringBundles m mode e
    m.each (List.range 12) (fun m k =>
      if cov.contains k then
        let live := (quadLanes k).filter (laneServ m)
        let m := if live.isEmpty then wakeBundle m k (tentry e).gen else m
        m.each live (fun m n => m.lwr n R.VEIN.LANE_CTRL.RX_PWR (if live.head? = some n then 0 else 1))
      else bundleOff m k)
  else if 5 ≤ mode ∧ mode ≤ 9 then
    m.each (List.range 48) (fun m n => if laneServ m n then laneAwake m n else m)
  else if mode = 0 ∨ mode = 3 then m.each (List.range 48) laneForget
  else m

/-- A mode takes effect (R56): status, scan-out and lanes, and the state R39 says is lost. -/
def enterMode (m : Mach) (mode entry cause : Nat) (forced : Bool) : Mach :=
  let old := m.mode
  let m := storageLoss m old mode
  let m := m.wr R.SYS.MODE_STATUS.PREVIOUS old
  let m := m.wr R.SYS.MODE_STATUS.CURRENT mode
  let m := m.wr R.SYS.MODE_STATUS.CAUSE cause
  let m := m.wr R.SYS.MODE_STATUS.ENTRY (if drivesPanel mode then entry else 0)
  let m := if m.mc.imm.isNone then m.wr R.SYS.MODE_STATUS.IN_TRANSITION 0 else m
  let m := if m.mc.due.isNone then m.wr R.SYS.MODE_STATUS.PENDING 0xF else m
  let m := m.wr R.SYS.TICK_STATUS.RASTER_RUN (b2n (drivesPanel mode))
  let m := if drivesPanel mode then m
    else ((m.wr R.SCAN.STATUS.STATE 0).wr R.SCAN.STATUS.BUNDLES 0).wr R.SCAN.STATUS.DARK 1
  let m := enginesMode (passMode (lanesForMode m mode entry)) mode
  let m := m.evIf (old != mode) E.SYS.CHANGED
  if forced then hev (m.ev E.SYS.FORCED) 485 else m

/-- A request's pair and entry are judged (R42, R44): `none` where it may go ahead, else the refusal. -/
def judgePair (m : Mach) (mode entry : Nat) : Option Nat :=
  let cur := m.mode
  let ray (x : Nat) : Bool := 6 ≤ x && x ≤ 9
  let needEntry := if configured m entry && (mode == 6 || entryOk m (m6or9 m mode entry) entry) then none else some MODE_BAD_ENTRY
  if mode = 0 ∧ (cur = 1 ∨ cur = 2 ∨ cur = 4 ∨ cur = 5) then none
  else if cur = 4 ∧ mode = 5 then none
  else if cur = 5 ∧ mode = 4 then none
  else if cur = 5 ∧ ray mode then needEntry
  else if ray cur ∧ mode = 5 then none
  else if (cur = 6 ∨ cur = 9) ∧ ray mode then needEntry
  else if (cur = 7 ∨ cur = 8) ∧ (mode = 6 ∨ mode = 9 ∨ mode = cur) then needEntry
  else if (5 ≤ cur ∧ cur ≤ 9) ∧ (mode = 1 ∨ mode = 2) then none
  else if (cur = 1 ∨ cur = 2) ∧ mode = 5 then none
  else if (cur = 1 ∨ cur = 2) ∧ (mode = 6 ∨ mode = 9) then needEntry
  else if (cur = 1 ∧ mode = 2) ∨ (cur = 2 ∧ mode = 1) then none
  else if (cur = 4 ∨ cur = 5) ∧ mode = 10 then (if m.dv D.test_unlock = 1 then none else some MODE_BAD_TRANSITION)
  else some MODE_BAD_TRANSITION

/-- Whether the pair is taken by an immediate transition, and whether that waits for lane training (R42). -/
def immediatePair (cur mode : Nat) : Bool × Bool :=
  if mode = 0 ∨ mode = 10 ∨ mode = 3 then (true, false)
  else if cur = 4 ∧ mode = 5 then (true, true)
  else if (cur = 1 ∨ cur = 2) ∧ (mode = 5 ∨ mode = 6 ∨ mode = 9) then (true, true)
  else if cur = 11 then (true, false)
  else (false, false)

/-- An immediate transition begins: HOURS before M0, lane training toward M5 or M6. -/
def startImm (m : Mach) (mode entry cause : Nat) (isReq : Bool) : Mach :=
  let cur := m.mode
  let train := (immediatePair cur mode).2
  let m := if train then trainEntry m entry else m
  let m := if mode = 0 then vaultRequest m ⟨4, 0, .bytes (hoursPayload m), .hours⟩ else m
  -- an operator release clears the quarantine flag (R46)
  let m := if cause = CAUSE_RELEASE then { m with lant := { m.lant with quar := none } } else m
  beginImm m ⟨mode, entry, cause, cur, isReq, train, false⟩

/-- A mode request after GO (R41-R44, R51, R58, R59). `bed` tells whether Bedrock asks. -/
def modeRequest (m : Mach) (bed : Bool) (mode entry : Nat) : Mach :=
  let m := m.add R.SYS.MODE_RESULT.SEQ 1
  if 24 ≤ entry then answerMode m MODE_BAD_ENTRY
  else
    let m := (m.wr R.SYS.MODE_REQ.MODE mode).wr R.SYS.MODE_REQ.ENTRY entry
    let cur := m.mode
    if 12 ≤ mode then answerMode m MODE_BAD_TRANSITION
    else if cur = 11 then
      if bed ∧ (mode = 3 ∨ mode = 4) ∧ m.mc.imm.isNone then
        startImm (m.wr R.SYS.MODE_RESULT.STATUS MODE_PENDING) mode entry CAUSE_RELEASE true
      else answerMode m MODE_LOCKED
    else if cur = 10 then
      if mode = 3 then startImm (m.wr R.SYS.MODE_RESULT.STATUS MODE_PENDING) mode entry CAUSE_REQUEST true
      else answerMode m MODE_LOCKED
    else if m.flag R.SYS.MODE_STATUS.IN_TRANSITION then
      if mode = 0 ∧ (cur = 1 ∨ cur = 2 ∨ cur = 4 ∨ cur = 5) then
        { m.wr R.SYS.MODE_RESULT.STATUS MODE_PENDING with mc := { m.mc with latchedM0 := true } }
      else answerMode m MODE_BUSY
    else
      match judgePair m mode entry with
      | some code => answerMode m code
      | none =>
        let m := { m with th := { m.th with reqEntry := if 6 ≤ mode ∧ mode ≤ 9 then entry else m.th.reqEntry } }
        if (immediatePair cur mode).1 then
          let m := match m.mc.due with
            | some d => dropDue (abandonRequest m d.isReq)
            | none => m
          startImm (m.wr R.SYS.MODE_RESULT.STATUS MODE_PENDING) mode entry CAUSE_REQUEST true
        else
          let m := schedule m ⟨mode, entry, CAUSE_REQUEST, true, tickWait m⟩
          m.wr R.SYS.MODE_RESULT.STATUS MODE_PENDING

/-! ## Forced transitions (R46-R53) -/

/-- A forcing event starts an immediate transition, unless one of higher or equal priority is under way, which it then follows
if it still applies (R50). -/
def forceImm (m : Mach) (target cause : Nat) : Mach :=
  let prio := causePrio cause target
  match m.mc.imm with
  | some t =>
    if causePrio t.cause t.target ≤ prio then { m with mc := { m.mc with losing := m.mc.losing ++ [cause] } }
    else
      let m := abandonRequest m t.isReq
      let m := { m with mc := { m.mc with losing := if 1 ≤ t.cause ∧ causePrio t.cause t.target < 5 then m.mc.losing ++ [t.cause] else m.mc.losing } }
      start m
  | none => start m
where
  /-- The winner begins. -/
  start (m : Mach) : Mach :=
    let m := match m.mc.due with
      | some d => dropDue (abandonRequest m d.isReq)
      | none => m
    beginImm m ⟨target, m.entry, cause, m.mode, false, false, false⟩

/-- The hardware trip (R46, R48, R571): M4 with the frame aborted, or M0. The trip logic revokes all side grants. -/
def forceTrip (m : Mach) (now : Nat) : Mach :=
  let cur := m.mode
  let m := chimRevokeAll m
  let m := { m with mc := { m.mc with trips := (now :: m.mc.trips).filter (fun t => decide (now < t + 3600)) } }
  if cur = 0 then m
  else if cur = 3 ∨ cur = 4 ∨ cur = 11 then forceImm m 0 CAUSE_TRIP
  else
    let m := if cur = 10 then { (m.dset D.test_unlock 0) with mc := { m.mc with left := none } }
      else { m with mc := { m.mc with left := some (cur, m.entry) } }
    forceImm (frameAbort m ABORT_FORCED) 4 CAUSE_TRIP

/-- An integrity failure (R46): M11 from any mode but M0. -/
def forceIntegrity (m : Mach) : Mach :=
  let cur := m.mode
  if cur = 0 ∨ cur = 11 then m else forceImm (frameAbort m ABORT_FORCED) 11 CAUSE_INTEGRITY

/-- An integrity failure during boot with its cause (R46, R447, R614), recorded as a fatal fault. -/
def bootIntegrity (m : Mach) (cause : Nat) : Mach :=
  forceIntegrity (sumpSystem (m.wr R.SEC.STATE.INTEG_CAUSE cause) 354 cause 0 true)

/-- A data-path failure of a block without a spare (R46): M4 from M1, M2, M5 to M9; recorded as a fatal fault (R700). -/
def forceDatapath (m : Mach) (code detail : Nat) : Mach :=
  let cur := m.mode
  let m := sumpSystem m 493 code detail true
  if cur = 1 ∨ cur = 2 ∨ (5 ≤ cur ∧ cur ≤ 9) then forceImm (frameAbort m ABORT_DATAPATH) 4 CAUSE_DATAPATH else m

/-- Whether any timing entry remains permitted after a retirement (R46); with no entry configured nothing is forced
(assumption log 35). -/
def anyPermitted (m : Mach) : Bool :=
  m.rd R.SCAN.PANEL_CFG.ENTRIES == 0 || (List.range 24).any (permitted m)

/-- The mode controller's answer to a retirement (R46, R47, R53): M4 where no entry remains permitted, M9 at the next tick from
M6 below the full complement. -/
def forceRetirement (m : Mach) : Mach :=
  let cur := m.mode
  if (cur = 1 ∨ cur = 2 ∨ (5 ≤ cur ∧ cur ≤ 9)) ∧ !anyPermitted m then forceImm (frameAbort m ABORT_FORCED) 4 CAUSE_RETIREMENT
  else if cur = 6 ∧ reduced m m.entry ∧ m.mc.imm.isNone then
    match m.mc.due with
    | some d => if d.cause = CAUSE_RETIREMENT then m else schedule m ⟨9, m.entry, CAUSE_RETIREMENT, false, 0⟩
    | none => schedule m ⟨9, m.entry, CAUSE_RETIREMENT, false, 0⟩
  else m

/-! ## Completion -/

/-- Events that lost under R50 are acted on after the winner completes, if they still apply. -/
def actLosing (m : Mach) : Mach :=
  let l := m.mc.losing
  let m := { m with mc := { m.mc with losing := [] } }
  m.each l (fun m c =>
    if c = CAUSE_INTEGRITY then forceIntegrity m
    else if c = CAUSE_DATAPATH then
      (let cur := m.mode
       if cur = 1 ∨ cur = 2 ∨ (5 ≤ cur ∧ cur ≤ 9) then forceImm m 4 CAUSE_DATAPATH else m)
    else if c = CAUSE_TRIP then m
    else forceRetirement m)

/-- The latched request for M0 is taken as soon as the transition completes (R51). -/
def takeLatchedM0 (m : Mach) : Mach :=
  if m.mc.latchedM0 && m.mc.imm.isNone then
    let m := { m with mc := { m.mc with latchedM0 := false } }
    if m.mode = 1 ∨ m.mode = 2 ∨ m.mode = 4 ∨ m.mode = 5 then startImm m 0 (m.rd R.SYS.MODE_REQ.ENTRY) CAUSE_REQUEST true
    else answerMode m MODE_BAD_TRANSITION
  else m

/-- An immediate transition ends in `mode`, and its request is answered. -/
def endImm (m : Mach) (t : Imm) (mode : Nat) (code : Nat) : Mach :=
  let m := { m with mc := { m.mc with imm := none } }
  -- a trip re-arms when the transition it forced has completed (R571)
  let m := if t.cause = CAUSE_TRIP then { m with th := { m.th with armed := true, tripMask := 0 } } else m
  let forced := t.cause == CAUSE_TRIP || t.cause == CAUSE_INTEGRITY || t.cause == CAUSE_DATAPATH || t.cause == CAUSE_RETIREMENT
  let m := enterMode m mode t.entry t.cause forced
  let m := if t.isReq then answerMode m code else m
  takeLatchedM0 (actLosing m)

/-- An immediate transition fails: the device keeps, or returns to, the mode it started from (R54). -/
def failImm (m : Mach) (t : Imm) : Mach :=
  let m := { m with mc := { m.mc with imm := none } }
  let m := (m.wr R.SYS.MODE_STATUS.IN_TRANSITION 0).wr R.SYS.MODE_STATUS.PENDING 0xF
  let m := lanesForMode m t.start t.entry
  let m := if t.isReq then answerMode m MODE_FAILED else m
  takeLatchedM0 (actLosing m)

/-- Whether every used bundle of an entry has at least one lane serviceable at its generation (R54). -/
def everyBundleServ (m : Mach) (e : Nat) : Bool :=
  let t := tentry e
  (List.range t.b).all (fun k => (quadLanes k).any (fun n => laneServ m n && (laneGen m n == t.gen)))

end Sys2Proof.Machine
end

