-- ==== Sys2Proof/Machine/CalOps.lean ====
section
/-!
DEFINITION. The calibration controller's shared operations: runs, ramps, references, drain (spec/17_calibration.md R582-R600).
-/
namespace Sys2Proof.Machine

def CAL_DONE : Nat := 0x30
def CAL_BUSY : Nat := 0x31
def CAL_MODE : Nat := 0x32
def CAL_ABANDONED : Nat := 0x33
def CAL_DRAINED : Nat := 0x34
def CAL_NOT_STEADY : Nat := 0x35
def CAL_QUALITY_LOW : Nat := 0x36
def REF_OUT_OF_TOL : Nat := 0x37
def REF_PPS_MISSING : Nat := 0x38
def VREF_BAD : Nat := 0x39
def VCP_BAD : Nat := 0x3A
def VCP_PARTIAL : Nat := 0x3B
def CAL_MAP_IN_USE : Nat := 0x3C
def VCP_TOO_LARGE : Nat := 0x3D

/-! Kinds of R584. -/
def KIND_LANE : Nat := 0
def KIND_DRAM : Nat := 1
def KIND_OSC : Nat := 2
def KIND_SENSOR : Nat := 3
def KIND_OPTICS : Nat := 4
def KIND_AGING : Nat := 5

/-- Report a code of R599. -/
def calCode (m : Mach) (c : Nat) : Mach := m.wr R.CAL.STATUS.LAST_CODE c

/-- Whether a kind is running. -/
def calRunning (m : Mach) (k : Nat) : Bool := bit (m.rd R.CAL.STATUS.RUNNING) k

/-- Whether the controller runs: ENABLE is 1 and it is not draining or stopped (R598). -/
def calEnabled (m : Mach) : Bool := m.flag R.CAL.CTRL.ENABLE && m.rd R.CAL.STATUS.STATE == 1

/-- Modes a kind runs in (R584). -/
def calModeOk (k mode : Nat) : Bool :=
  match k with
  | 0 => (4 ≤ mode && mode ≤ 9) || mode == 11
  | 1 => 4 ≤ mode && mode ≤ 11
  | 2 => 3 ≤ mode && mode ≤ 11
  | 3 => mode == 4 || mode == 5 || mode == 10 || mode == 11
  | 4 => 5 ≤ mode && mode ≤ 9
  | 5 => 6 ≤ mode && mode ≤ 9
  | _ => false

/-- The measured deviation of CAL_REFCLK in ppb. -/
def refPpb (m : Mach) : Int := sInt 16 (m.rd R.CAL.REF.REFCLK_PPB)

/-- Start one kind (R583-R585). -/
def calStart (m : Mach) (k : Nat) : Mach :=
  if calRunning m k then calCode m CAL_BUSY
  else if !calModeOk k m.mode then calCode m CAL_MODE
  else if k = KIND_OSC ∧ 100 < (refPpb m).natAbs then calCode m REF_OUT_OF_TOL
  else if k = KIND_SENSOR ∧ !m.flag R.CAL.REF.VREF_OK then calCode m VREF_BAD
  else
    let m := m.wr R.CAL.STATUS.RUNNING (setBit (m.rd R.CAL.STATUS.RUNNING) k)
    if k < 4 then chimRequest m C_CAL k (m.dv D.cal_tokens) else m

/-- A request for kinds (R585): it waits while the controller is not enabled (R598). -/
def calRun (m : Mach) (mask : Nat) : Mach :=
  if calEnabled m then m.each (bitList 6 mask) calStart
  else { m with cal := { m.cal with waiting := (bitList 6 mask).foldl setBit m.cal.waiting } }

/-- A kind's run is over: its mark and its grant go. -/
def calStop (m : Mach) (k : Nat) : Mach :=
  let m := m.wr R.CAL.STATUS.RUNNING (clrBit (m.rd R.CAL.STATUS.RUNNING) k)
  if k < 4 then chimRelease m C_CAL k else m

/-- A run ends CAL_DONE (R599, R603). -/
def calFinish (m : Mach) (k : Nat) : Mach := (calCode (calStop m k) CAL_DONE).ev E.CAL.DONE

/-- A write changes a result of a kind that runs: the run is abandoned (R597). -/
def calAbandon (m : Mach) (k : Nat) : Mach :=
  if calRunning m k then
    let m := { m with cal := { m.cal with
      oscGoal := if k = KIND_OSC then none else m.cal.oscGoal
      sensGoal := if k = KIND_SENSOR then List.replicate 48 none else m.cal.sensGoal } }
    (calCode (calStop m k) CAL_ABANDONED).ev E.CAL.ABORTED
  else m

/-- Drain by ENABLE 0, and resumption by 1 (R598): a step is applied whole at its tick, so a drain finds none half done. -/
def calDrain (m : Mach) (enable : Bool) : Mach :=
  let m := m.wr R.CAL.CTRL.ENABLE (b2n enable)
  if enable then
    let m := m.wr R.CAL.STATUS.STATE 1
    let w := m.cal.waiting
    calRun { m with cal := { m.cal with waiting := 0 } } w
  else if m.rd R.CAL.STATUS.STATE = 1 then calCode (m.wr R.CAL.STATUS.STATE 3) CAL_DRAINED
  else m

/-- FORCE_STOP (R598): runs in `late` reached completion in the same cycle and count as done. -/
def calForceStop (m : Mach) (late : Nat) : Mach :=
  let ks := (List.range 6).filter (calRunning m)
  let m := m.each ks (fun m k =>
    if bit late k then calCode (calFinish m k) ABORT_LATE
    else (calCode (calStop m k) ABORTED_BY_DISABLE).ev E.CAL.ABORTED)
  let m := { m with cal := { m.cal with oscGoal := none, sensGoal := List.replicate 48 none } }
  (m.wr R.CAL.CTRL.ENABLE 0).wr R.CAL.STATUS.STATE 3

/-- Show a reference condition, and report a change of it (R583, R603). -/
def refSet (m : Mach) (r : Row) (ok : Bool) : Mach :=
  if m.flag r == ok then m else (m.wr r (b2n ok)).ev E.CAL.REF

/-- CAL_PPS missing or irregular (R583): a new run of edges begins with `first` edges. -/
def ppsBad (m : Mach) (first : Nat) : Mach :=
  let m := { m with cal := { m.cal with edges := first, cycles := 0 } }
  refSet (calCode m REF_PPS_MISSING) R.CAL.REF.PPS_OK false

/-- A CAL_PPS edge, `n` CAL_REFCLK cycles after the previous one (R583). The rounding of the deviation to whole ppb is open. -/
def ppsEdge (m : Mach) (n : Nat) : Mach :=
  if m.cal.edges = 0 then { m with cal := { m.cal with edges := 1, cycles := 0 } }
  else if 1000 < ((n : Int) - 10000000).natAbs then ppsBad m 1
  else
    let m := refSet m R.CAL.REF.PPS_OK true
    let e := m.cal.edges + 1
    let c := m.cal.cycles + n
    if e < 17 then { m with cal := { m.cal with edges := e, cycles := c } }
    else
      let x : Int := ((c : Int) - 160000000) * 25
      let (r, m) := if x % 4 = 0 then (0, m) else m.draw 2
      let ppb := clampI (floorDiv x 4 + r) (-32768) 32767
      let was := decide (100 < (refPpb m).natAbs)
      let now := decide (100 < ppb.natAbs)
      let m := { m with cal := { m.cal with edges := 1, cycles := 0 } }
      let m := m.wr R.CAL.REF.REFCLK_PPB (uNat 16 ppb)
      let m := if now then calCode m REF_OUT_OF_TOL else m
      m.evIf (was != now) E.CAL.REF

/-- One step of a value toward a goal by at most `step` (R586). -/
def stepToward (v goal step : Int) : Int :=
  if v < goal then (if goal - v < step then goal else v + step)
  else if goal < v then (if v - goal < step then goal else v - step)
  else v

/-- The ramps at a tick: the oscillator by one trim step, each sensor offset by 1/16 K (R584, R586). -/
def calTick (m : Mach) : Mach :=
  if !calEnabled m then m
  else
    let m := match m.cal.oscGoal with
      | none => m
      | some g =>
        let v := stepToward (sInt 16 (m.rd R.CAL.OSC.TRIM)) g 1
        let m := m.wr R.CAL.OSC.TRIM (uNat 16 v)
        if v = g then calFinish { m with cal := { m.cal with oscGoal := none } } KIND_OSC else m
    if m.cal.sensGoal.all (·.isNone) then m
    else
      let m := m.each (List.range 48) (fun m n =>
        match m.cal.sensGoal.getD n none with
        | none => m
        | some g =>
          let v := stepToward (sInt 8 (m.rd R.CAL.SENS.OFFSET n)) (clampI g (-32) 32) 1
          let m := m.wr R.CAL.SENS.OFFSET (uNat 8 v) n
          if v = clampI g (-32) 32 then { m with cal := { m.cal with sensGoal := setAt m.cal.sensGoal n none } } else m)
      if m.cal.sensGoal.all (·.isNone) then calFinish m KIND_SENSOR else m

end Sys2Proof.Machine
end

