-- ==== Sys2Proof/Machine/DramOps.lean ====
section
/-!
DEFINITION. The DRAM controller: the address map, reads and writes of device addresses, errors, training, set points and
retirement (spec/13_memory_dram.md R447-R481). The contents are a sparse map from device address to byte; an unlisted byte
reads 0, the value initialisation writes (R452).
-/
namespace Sys2Proof.Machine

def DRAM_TRAINED : Nat := 0xB0
def FREQ_PENDING : Nat := 0xB1
def FREQ_REVERTED : Nat := 0xB2
def DRAM_TRAIN_FAILED : Nat := 0xB3
def DRAM_IN_USE : Nat := 0xB4
def CHANNEL_RETIRED : Nat := 0xB5
def REMAP_DONE : Nat := 0xB6
def DRAM_POISONED : Nat := 0xB7
def DRAM_RANGE : Nat := 0xB8
def DRAM_REGION_LOST : Nat := 0xB9
def SETPOINT_APPLIED : Nat := 0xBA

/-! ## Contents -/

/-- The DRAM contents by device address. -/
abbrev Mem := SMap (BitVec 8)

/-- What an unlisted byte reads as (R452). -/
def memDefault : BitVec 8 := 0

/-- One byte. -/
def Mem.byte (d : Mem) (a : Nat) : BitVec 8 := SMap.get memDefault d a

/-- `n` bytes from an address. -/
def Mem.read (d : Mem) : Nat → Nat → List Byte
  | _, 0 => []
  | a, n + 1 => d.byte a :: Mem.read d (a + 1) n

/-- Write bytes from an address. -/
def Mem.write (d : Mem) : Nat → List Byte → Mem
  | _, [] => d
  | a, b :: bs => Mem.write (SMap.put memDefault d a b) (a + 1) bs

/-- The canonical form: addresses strictly rising, no byte listed that reads as an unlisted one. -/
def Mem.wf (d : Mem) : Bool := SMap.wf memDefault d

/-! ## Capacity and the address map (R449, R450) -/

/-- Serviceable channels, ascending. -/
def dramChannels (m : Mach) : List Nat := bitList 8 (m.rd R.DRAM.STATUS.SERVICEABLE)

/-- Data capacity in MiB with `n` channels (R449): 7/8 of the density of each. -/
def capMib (m : Mach) (n : Nat) : Nat := n * (1024 * 2 ^ m.dr.density) * 7 / 8

/-- The capacity in bytes (R449, R476). -/
def capacity (m : Mach) : Nat := m.rd R.DRAM.CAPACITY.MIB * 2 ^ 20

/-- Whether a range of device addresses lies below capacity. -/
def inCap (m : Mach) (a n : Nat) : Bool := decide (a + n ≤ capacity m)

/-- Report capacity and retire_safe (R476). -/
def capRefresh (m : Mach) : Mach :=
  let n := (dramChannels m).length
  (m.wr R.DRAM.CAPACITY.MIB (capMib m n)).wr R.DRAM.RETIRE_SAFE.MIB (capMib m (n - 1))

/-- The place of a device address: channel, bank, row, column (R450); lines below the boundary of a walk use the old map (R469). -/
def dramPlace (m : Mach) (a : Nat) : Nat × Nat × Nat × Nat :=
  let serv := dramChannels m
  let line := a / 256
  let old := bitList 8 m.dr.walkOld
  let chs := match m.dr.walk with
    | some left => if line < left then old else serv
    | none => serv
  let n := chs.length
  let n := if n = 0 then 1 else n
  let c := line % n
  let r := line / n
  let p := r / 7
  let s := r % 7
  let bank := Nat.xor (Nat.xor p (p / 16)) (p / 256) % 16
  (chs.getD c 0, bank, p / 16, s * 256 + a % 256)

/-- Report a code of R472. -/
def dramCode (m : Mach) (c : Nat) : Mach := m.wr R.DRAM.STATUS.LAST_CODE c

/-- Whether any block of a range carries POISON, and the first such block's address. -/
def poisoned (m : Mach) (a n : Nat) : Option Nat :=
  if n = 0 then none
  else
    (m.dr.poison.find? (fun e => decide (a / 32 ≤ e.1) && decide (e.1 ≤ (a + n - 1) / 32))).map (fun e => e.1 * 32)

/-- Set or clear POISON on every block of a range: whole blocks only are cleared (R451, R454). -/
def setPoison (m : Mach) (a n : Nat) (on : Bool) : Mach :=
  if n = 0 then m
  else
    let lo := a / 32
    let hi := (a + n - 1) / 32
    if on then
      { m with dr := { m.dr with poison := (List.range (hi + 1 - lo)).foldl (fun p k => SMap.put 0 p (lo + k) 1) m.dr.poison } }
    else
      -- a partial write merges with the block read, so it keeps that block's POISON
      let lo' := (a + 31) / 32
      let hi' := (a + n) / 32
      { m with dr := { m.dr with poison := SMap.keep m.dr.poison (fun b => !(decide (lo' ≤ b) && decide (b < hi'))) } }

/-- Note the location of an error (R477). -/
def eccNote (m : Mach) (a : Nat) (uncorr poison : Bool) : Mach :=
  let (ch, bank, row, _) := dramPlace m a
  let m := (m.wr R.DRAM.ECC_LAST.UNCORR (b2n uncorr)).wr R.DRAM.ECC_LAST.POISON (b2n poison)
  let m := ((m.wr R.DRAM.ECC_LAST.CHANNEL ch).wr R.DRAM.ECC_LAST.BANK bank).wr R.DRAM.ECC_LAST.ROW row
  (m.wr R.DRAM.ECC_ADDR_LO.ADDR_LO (a / 32 % 2 ^ 27)).wr R.DRAM.ECC_ADDR_HI.ADDR_HI (a / 2 ^ 32)

/-! ## Rows, row hammer (R457-R460) -/

/-- Change a bank. -/
def bankMod (m : Mach) (ch bank : Nat) (f : DBank → DBank) : Mach :=
  { m with dr := { m.dr with chans := modAt m.dr.chans ch (fun c => { c with banks := modAt c.banks bank f }) } }

/-- A bank. -/
def bankOf (m : Mach) (ch bank : Nat) : DBank :=
  match m.dr.chans[ch]? with
  | some c => c.banks.getD bank ⟨none, []⟩
  | none => ⟨none, []⟩

/-- The row-hammer table after an activate, and whether the count reached the threshold (R459). -/
def rhActivate (t : List (Nat × Nat)) (row thr : Nat) : Bool × List (Nat × Nat) :=
  let bump (c : Nat) : Bool × Nat := if thr ≤ c + 1 then (true, 0) else (false, c + 1)
  match t.find? (fun e => e.1 == row) with
  | some e =>
    let b := bump e.2
    (b.1, t.map (fun x => if x.1 == row then (row, b.2) else x))
  | none =>
    if t.length < 32 then (let b := bump 0; (b.1, t ++ [(row, b.2)]))
    else
      let low := t.foldl (fun acc e => Nat.min acc e.2) (t.head?.map (·.2) |>.getD 0)
      match t.findIdx? (fun e => e.2 == low) with
      | some i => (let b := bump low; (b.1, setAt t i (row, b.2)))
      | none => (false, t)

/-- An access opens its row: an activate where another row, or none, was open. -/
def dramOpen (m : Mach) (a : Nat) : Mach :=
  let (ch, bank, row, _) := dramPlace m a
  let b := bankOf m ch bank
  if b.row = some row then perfCount m 0x29 1 noAccess
  else
    let m := perfCount m 0x28 1 noAccess
    let (hit, t) := rhActivate b.table row (m.rd R.DRAM.RH.THRESHOLD)
    let keep := if m.rd R.DRAM.PAGE.IDLE = 0 then none else some row
    let m := bankMod m ch bank (fun _ => ⟨keep, t⟩)
    if hit then hev (m.add R.DRAM.RH_REFRESHES.COUNT 1) 194 else m

/-- Count bytes of a quota class (R466). -/
def quotaUse (m : Mach) (cls n : Nat) : Mach :=
  { m with dr := { m.dr with qused := modAt m.dr.qused cls (· + n) } }

/-! ## Reads and writes as the engines make them -/

/-- A system or ray-path read of a range: zero data beyond capacity (R450); the first poisoned block's address (R454). -/
structure MemRead where
  data  : List Byte
  range : Bool
  bad   : Option Nat
  deriving DecidableEq, Repr

/-- Read a range for a requester. -/
def memRead (d : Mem) (m : Mach) (a n : Nat) : MemRead :=
  if inCap m a n then ⟨d.read a n, false, poisoned m a n⟩
  else ⟨(List.range n).map (fun k => if a + k < capacity m then d.byte (a + k) else 0), true, none⟩

/-- Count a poisoned read (R454, R480 poison_reads). -/
def notePoison (m : Mach) (a : Nat) : Mach :=
  hev (eccNote (m.add R.DRAM.POISON_READS.COUNT 1) a true true) 197

/-! ## Channels, training and set points (R461-R464) -/

/-- A channel's own record. -/
def chanMod (m : Mach) (ch : Nat) (f : DChan → DChan) : Mach :=
  { m with dr := { m.dr with chans := modAt m.dr.chans ch f } }

/-- The queue of set points a channel is to train. -/
def chanQueue (m : Mach) (ch : Nat) : List Nat :=
  match m.dr.chans[ch]? with
  | some c => c.queue
  | none => []

/-- States of CHn_STATUS.STATE (R481). -/
def chanState (m : Mach) (ch : Nat) : Nat := m.rd R.DRAM.CH_STATUS.STATE ch

/-- Whether a channel holds results for a set point. -/
def chanTrained (m : Mach) (ch sp : Nat) : Bool := bit (m.rd R.DRAM.CH_STATUS.TRAINED_SP ch) sp

/-- Bring DRAM.STATUS.STATE up to date (R474). -/
def dramRefresh (m : Mach) : Mach :=
  let chs := dramChannels m
  let st := if chs.any (fun c => chanState m c == 3) then 4
    else if chs.any (fun c => chanState m c == 1) then 1
    else if m.dr.walk.isSome then 5
    else if chs.any (fun c => chanState m c == 2) then 3 else 0
  m.wr R.DRAM.STATUS.STATE st

/-- Whether any training data are being gathered. -/
def dramTraining (m : Mach) : Bool := (dramChannels m).any (fun c => chanState m c == 1)

/-- Put a set point in force on every serviceable channel (R464). -/
def applySetpoint (m : Mach) (sp : Nat) : Mach :=
  let m := (m.wr R.DRAM.STATUS.SP sp).wr R.DRAM.STATUS.PENDING 0
  let m := m.wr R.DRAM.STATUS.PEND_SP 0
  let m := { m with dr := { m.dr with change := none } }
  (dramCode m SETPOINT_APPLIED).ev E.DRAM.SETPOINT

/-- The TRAIN holder number of a channel. -/
def chanHolder (ch : Nat) : Nat := 16 + ch

/-- Queue full training of a channel at set points: at once in M3, else once Chimney grants it (R462). -/
def queueTraining (m : Mach) (ch : Nat) (sps : List Nat) : Mach :=
  let m := chanMod m ch (fun c => { c with queue := sps, attempt := 1, wait := m.mode != 3 })
  if m.mode = 3 then
    let m := m.wr R.DRAM.CH_STATUS.STATE 1 ch
    let m := (m.wr R.DRAM.CH_STATUS.TRAINS (m.rd R.DRAM.CH_STATUS.TRAINS ch + 1) ch)
    dramRefresh (hev (m.add R.DRAM.TRAIN_RUNS.COUNT 1) 195)
  else chimRequest m C_TRAIN (chanHolder ch) (m.dv D.train_tokens)

/-- A channel's grant came into force: its training begins (R462). -/
def chanGranted (m : Mach) (ch : Nat) : Mach :=
  match m.dr.chans[ch]? with
  | some c =>
    if c.wait && !c.queue.isEmpty && chanState m ch == 2 then
      let m := chanMod m ch (fun c => { c with wait := false })
      let m := m.wr R.DRAM.CH_STATUS.STATE 1 ch
      let m := m.wr R.DRAM.CH_STATUS.TRAINS (m.rd R.DRAM.CH_STATUS.TRAINS ch + 1) ch
      dramRefresh (hev (m.add R.DRAM.TRAIN_RUNS.COUNT 1) 195)
    else m
  | none => m

/-- Modes in which full training may take a channel out of service (R462). -/
def trainMode (mode : Nat) : Bool := mode == 3 || mode == 4 || mode == 5 || mode == 10 || mode == 11

/-- A set-point change is requested (R464). -/
def setpointRequest (m : Mach) (sp : Nat) : Mach :=
  let chs := dramChannels m
  if chs.any (fun c => chanState m c == 3) then
    -- latched in self-refresh, applied on exit
    dramCode ((m.wr R.DRAM.STATUS.PENDING 1).wr R.DRAM.STATUS.PEND_SP sp) FREQ_PENDING
  else if dramTraining m then
    dramCode ((m.wr R.DRAM.STATUS.PENDING 1).wr R.DRAM.STATUS.PEND_SP sp) FREQ_PENDING
  else if sp = m.rd R.DRAM.STATUS.SP then m
  else if chs.all (fun c => chanTrained m c sp) then applySetpoint m sp
  else if trainMode m.mode then
    let m := { m with dr := { m.dr with change := some (sp, m.rd R.DRAM.STATUS.SP) } }
    m.each (chs.filter (fun c => !chanTrained m c sp)) (fun m c => queueTraining m c [sp])
  else dramCode m DRAM_IN_USE

/-- Training of a channel is over without a change of set point. -/
def chanDone (m : Mach) (ch : Nat) : Mach :=
  let m := chanMod m ch (fun c => { c with queue := [], attempt := 0, wait := false })
  let m := m.wr R.DRAM.CH_STATUS.STATE 2 ch
  chimRelease (dramRefresh m) C_TRAIN (chanHolder ch)

/-! ## Retirement (R468-R471) -/

/-- The eight quota registers and the values in force (R479). -/
def quotaRows : List Row :=
  [R.DRAM.QUOTA0.MBPS, R.DRAM.QUOTA1.MBPS, R.DRAM.QUOTA2.MBPS, R.DRAM.QUOTA3.MBPS, R.DRAM.QUOTA4.MBPS, R.DRAM.QUOTA5.MBPS,
   R.DRAM.QUOTA6.MBPS, R.DRAM.QUOTA7.MBPS]

/-- The rows of the quotas in force. -/
def quotaForceRows : List Row :=
  [R.DRAM.QUOTA_INFORCE0.MBPS, R.DRAM.QUOTA_INFORCE1.MBPS, R.DRAM.QUOTA_INFORCE2.MBPS, R.DRAM.QUOTA_INFORCE3.MBPS,
   R.DRAM.QUOTA_INFORCE4.MBPS, R.DRAM.QUOTA_INFORCE5.MBPS, R.DRAM.QUOTA_INFORCE6.MBPS, R.DRAM.QUOTA_INFORCE7.MBPS]

/-- The side budget (R467). -/
def sideBudget (m : Mach) : Nat := 239000 * (dramChannels m).length / 8 - 120000

/-- The quotas in force, scaled where the budget is below their sum (R467); done at each tick. -/
def quotaTick (m : Mach) : Mach :=
  let sum := sumN (quotaRows.map (m.rd ·))
  let b := sideBudget m
  let m := { m with dr := { m.dr with qused := List.replicate 8 0 } }
  m.each (List.zip quotaRows quotaForceRows) (fun m p =>
    let v := m.rd p.1
    m.wr p.2 (if b < sum then v * b / sum else v))

/-- The walk's boundary as reported (R476). -/
def walkReport (m : Mach) : Mach :=
  let a := match m.dr.walk with
    | some left => left * 256
    | none => 0
  (m.wr R.DRAM.REMAP_LO.BOUNDARY_LO (a % 2 ^ 32)).wr R.DRAM.REMAP_HI.BOUNDARY_HI (a / 2 ^ 32)

/-- The TRAIN holder number of the remap walk. -/
def walkHolder : Nat := 32

/-- Retire channel `ch` now (R468): capacity falls, the walk starts, the mode controller acts, and regions are checked (R470). -/
def retireChannel (m : Mach) (ch : Nat) : Mach :=
  let oldMask := m.rd R.DRAM.STATUS.SERVICEABLE
  let m := m.wr R.DRAM.STATUS.SERVICEABLE (clrBit (m.rd R.DRAM.STATUS.SERVICEABLE) ch)
  let m := m.wr R.DRAM.CH_STATUS.STATE 4 ch
  let m := chanMod m ch (fun c => { c with queue := [], wait := false })
  let m := chimRelease m C_TRAIN (chanHolder ch)
  let m := capRefresh m
  let m := hev ((dramCode m CHANNEL_RETIRED).ev E.DRAM.RETIRED) 198
  let lines := capacity m / 256
  let m := { m with dr := { m.dr with walk := some lines, walkOld := oldMask } }
  let m := chimRequest (dramRefresh (walkReport m)) C_TRAIN walkHolder (m.dv D.remap_tokens)
  let m := regionsLost m
  forceRetirement (frameAbort m ABORT_FORCED)

/-- An event in a channel's leaky bucket (R468); the last serviceable channel is never retired, and a second channel that
crosses during a walk is retired when the walk ends (R471). -/
def channelEvent (m : Mach) (ch weight code detail : Nat) : Mach :=
  let may := decide (2 ≤ (dramChannels m).length)
  let (crossed, m) := bucketAdd m 5 ch weight code detail may
  if crossed && may then
    if m.dr.walk.isSome then { m with dr := { m.dr with second := m.dr.second ++ [ch] } } else retireChannel m ch
  else m

end Sys2Proof.Machine
end

