-- ==== Sys2Proof/Machine/Effect.lean ====
section
/-!
DEFINITION. How a command's meaning acts on the whole state. A meaning is a function on the block state, on the block state with
the DRAM contents to read, or one that also answers DRAM writes; the fuses are touched only by Bedrock's own commands, through onF. While CORE does
not run (M0, or held in reset) no domain that would carry a command out is clocked (R35, R744), so the command leaves the
state as it is; the commands of the Lantern domain and of the supplies act in any case.
-/
namespace Sys2Proof.Machine

/-- The outcome of a command. -/
abbrev Out' := Host.Outcome State Fault Refusal

/-- A new block state with the DRAM writes the command makes, in order; `clear` returns every byte to its initial value (R452). -/
structure Effect where
  m     : Mach
  wr    : List (Nat × List Byte)
  clear : Bool
  deriving DecidableEq, Repr

/-- A record request that opened with its payload in DRAM takes the payload now (R661). -/
def settle (d : Mem) (m : Mach) : Mach :=
  match m.vlt.opened with
  | some ⟨t, k, .dram a n, b⟩ => { m with vlt := { m.vlt with opened := some ⟨t, k, .bytes (d.read a n), b⟩ } }
  | _ => m

/-- Outputs are those of the latest command. -/
def Mach.fresh (m : Mach) : Mach := { m with out := [] }

/-- The DRAM contents after writes, in order. -/
def applyWrites (d : Mem) (w : List (Nat × List Byte)) : Mem := w.foldl (fun d e => Mem.write d e.1 e.2) d

/-- A command carried out in the Lantern domain or by the supplies, whether or not CORE runs. -/
def onLantern (s : State) (f : Mem → Mach → Effect) : Out' :=
  let e := f s.mem s.m.fresh
  let d := if e.clear then [] else s.mem
  let d := applyWrites d e.wr
  .next { s with m := settle d e.m, mem := d }

/-- A command that may write DRAM. -/
def onW (s : State) (f : Mem → Mach → Effect) : Out' :=
  if s.m.mc.off then .next { s with m := s.m.fresh } else onLantern s f

/-- A command that reads DRAM and writes none. -/
def onR (s : State) (f : Mem → Mach → Mach) : Out' := onW s (fun d m => ⟨f d m, [], false⟩)

/-- A command that touches neither DRAM contents nor fuses. -/
def onM (s : State) (f : Mach → Mach) : Out' := onW s (fun _ m => ⟨f m, [], false⟩)

/-- The same, whether or not CORE runs. -/
def onL (s : State) (f : Mach → Mach) : Out' := onLantern s (fun _ m => ⟨f m, [], false⟩)

/-- A command of Bedrock that may program fuses (R611, R615, R617). -/
def onF (s : State) (f : Mem → Mach → Fuse → Fuse × Effect) : Out' :=
  if s.m.mc.off then .next { s with m := s.m.fresh }
  else
    let e := f s.mem s.m.fresh s.fuse
    .next { s with m := settle s.mem e.2.m, mem := applyWrites s.mem e.2.wr, fuse := e.1 }

end Sys2Proof.Machine
end

