-- ==== Sys2Proof/Machine/DramCmds.lean ====
section
/-!
DEFINITION. The DRAM commands (spec/13_memory_dram.md).
-/
namespace Sys2Proof.Machine

/-- The quota class of a master (R466, R717): 0 HOST, 1 DMA, 2 BLIT, 3 CRC, 4 DEFL, 5 FW, 6 SCRUB, 7 TAP; none for the Vault
controller, the remap walk, the telemetry writer and the ray path. -/
def classOf (master : Nat) : Option Nat :=
  if master ≤ 4 then some 5
  else if 0x10 ≤ master ∧ master ≤ 0x12 then some 0
  else if 0x20 ≤ master ∧ master ≤ 0x2F then some 1
  else if master = 0x30 then some 2
  else if 0x31 ≤ master ∧ master ≤ 0x34 then some 3
  else if master = 0x35 then some 4
  else if master = 0x40 then some 6
  else if master = 0x41 then some 7
  else none

/-- The ray-path port's masters (R455, R717). -/
def isRayPath (master : Nat) : Bool := 0x50 ≤ master && master ≤ 0x53

/-- The principal number of a master for the filters of R716: BED for Bedrock, HOST for the host's, FW for the rest (R618). -/
def masterPrincipal (master : Nat) : Nat :=
  if master = 0 then 0 else if 0x10 ≤ master ∧ master ≤ 0x12 then 2 else 1

/-- Count `k` accepted accesses that move `n` bytes: quota, performance events (R466, R715). -/
def countAccess (m : Mach) (master addr n : Nat) (write : Bool) (k : Nat := 1) : Mach :=
  let a : Access := ⟨masterPrincipal master, master, addr, classOf master, isRayPath master⟩
  let m := match classOf master with
    | some c => quotaUse m c n
    | none => m
  if isRayPath master then
    if write then m else perfCount (perfCount m 0x20 k a) 0x21 n a
  else if write then perfCount (perfCount m 0x11 k a) 0x13 n a
  else perfCount (perfCount m 0x10 k a) 0x12 n a

/-- Whether the channel of an address takes accesses now: they wait while it trains or is in self-refresh (R462, R465). -/
def chanReady (m : Mach) (a : Nat) : Bool := chanState m (dramPlace m a).1 == 2

/-- The 256-byte lines a range touches. -/
def lineStarts (a n : Nat) : List Nat :=
  if n = 0 then [] else (List.range ((a + n - 1) / 256 + 1 - a / 256)).map (fun k => (a / 256 + k) * 256)

/-- DRAM_READ (R450, R453, R454): `err` 0 none, 1 a correctable error, 2 an uncorrectable error in the block at `addr`, whose
bytes as returned are open. -/
def dramRead (d : Mem) (m : Mach) (master addr len err : Nat) : Mach :=
  let r := memRead d m addr len
  if r.range then dramCode (m.emit (.dram master false true r.data)) DRAM_RANGE
  else if !chanReady m addr then m
  else
    let m := countAccess m master addr len false
    let m := m.each (lineStarts addr len) dramOpen
    if err = 1 then
      let m := hev ((eccNote (m.add R.DRAM.ECC_CORRECTED.COUNT 1) addr false false).ev E.DRAM.ECC_CORR) 192
      m.emit (.dram master r.bad.isSome false r.data)
    else if err = 2 then
      let m := hev ((eccNote (m.add R.DRAM.ECC_UNCORRECTED.COUNT 1) addr true false).ev E.DRAM.ECC_UNCORR) 193
      let m := channelEvent m (dramPlace m addr).1 wUncorr DRAM_POISONED (addr % 2 ^ 32)
      let (x, m) := m.drawBytes 32
      m.emit (.dram master true false (splice r.data 0 (slice x (addr % 32) (Nat.min len (32 - addr % 32)))))
    else
      match r.bad with
      | some b => (dramCode (notePoison m b) DRAM_POISONED).emit (.dram master true false r.data)
      | none => m.emit (.dram master false false r.data)

def execDramRead (master addr len err : Nat) (s : State) : Out' := onR s (fun d m => dramRead d m master addr len err)

/-- DRAM_WRITE (R451, R454): whole blocks are written, partial ones merged; poisoned data sets POISON. -/
def dramWrite (m : Mach) (master addr : Nat) (data : List Byte) (bad : Bool) : Effect :=
  if !inCap m addr data.length then ⟨dramCode m DRAM_RANGE, [], false⟩
  else if !chanReady m addr then ⟨m, [], false⟩
  else
    let m := countAccess m master addr data.length true
    let m := m.each (lineStarts addr data.length) dramOpen
    ⟨setPoison m addr data.length bad, [(addr, data)], false⟩

def execDramWrite (master addr : Nat) (data : List Byte) (bad : Bool) (s : State) : Out' :=
  onW s (fun _ m => dramWrite m master addr data bad)

/-- DRAM_REFRESH (R457, R458): the refresh closes the bank's row. -/
def execDramRefresh (ch bank : Nat) (s : State) : Out' := onM s (fun m => bankMod m ch bank (fun b => { b with row := none }))

/-- REFRESH_WINDOW_END (R459): the channel's tables are cleared. -/
def execRefreshWindowEnd (ch : Nat) (s : State) : Out' :=
  onM s (fun m => chanMod m ch (fun c => { c with banks := c.banks.map (fun b => ({ b with table := [] } : DBank)) }))

/-- DRAM_TEMP_POLL (R458): the refresh multiplier, and a report beyond range. -/
def dramTempPoll (m : Mach) (ch rate : Nat) (beyond : Bool) : Mach :=
  let m := (m.wr R.DRAM.CH_STATUS.REFRESH_RATE rate ch).wr R.DRAM.CH_STATUS.TEMP_HIGH (b2n beyond) ch
  if beyond then channelEvent m ch 1 0 0 else m

def execDramTempPoll (ch rate : Nat) (beyond : Bool) (s : State) : Out' :=
  onM s (fun m => if (dramChannels m).contains ch then dramTempPoll m ch rate beyond else m)

/-- PAGE_IDLE_CLOSE (R457). -/
def execPageIdleClose (ch bank : Nat) (s : State) : Out' := onM s (fun m => bankMod m ch bank (fun b => { b with row := none }))

/-- Report a channel's margins (R481). -/
def setMargins (m : Mach) (ch ca rd wr vref : Nat) : Mach :=
  (((m.wr R.DRAM.CH_MARGIN.CA ca ch).wr R.DRAM.CH_MARGIN.RD rd ch).wr R.DRAM.CH_MARGIN.WR wr ch).wr R.DRAM.CH_MARGIN.VREF vref ch

/-- Whether every margin is at or above margin_min (R461). -/
def marginsOk (m : Mach) (ca rd wr vref : Nat) : Bool :=
  let k := m.dv D.margin_min
  decide (k ≤ ca) && decide (k ≤ rd) && decide (k ≤ wr) && decide (k ≤ vref)

/-- DRAM_TRACKING (R463): the read DQ delay moves by at most 2 taps; a margin below margin_min counts an event. -/
def dramTracking (m : Mach) (ch : Nat) (move : Int) (ca rd wr vref : Nat) : Mach :=
  if chanState m ch != 2 then m
  else
    let m := chanMod m ch (fun c => { c with dq := c.dq + clampI move (-2) 2 })
    let m := setMargins m ch ca rd wr vref
    if marginsOk m ca rd wr vref then m else channelEvent m ch 1 0 0

def execDramTracking (ch : Nat) (move : Int) (ca rd wr vref : Nat) (s : State) : Out' :=
  onM s (fun m => dramTracking m ch move ca rd wr vref)

/-- DRAM_RETRAIN (R462): full training of the channels in CH_MASK at the set point in force. -/
def dramRetrain (m : Mach) : Mach :=
  if trainMode m.mode then
    m.each ((dramChannels m).filter (fun c => bit (m.rd R.DRAM.CTRL.CH_MASK) c)) (fun m c =>
      if (chanQueue m c).isEmpty then queueTraining m c [m.rd R.DRAM.STATUS.SP] else m)
  else dramCode m DRAM_IN_USE

def execDramRetrain (s : State) : Out' := onM s dramRetrain

/-- The change of set point failed on a channel: all channels return to the old one (R464). -/
def revertSetpoint (m : Mach) (old : Nat) : Mach :=
  let m := { m with dr := { m.dr with change := none } }
  let m := m.each ((dramChannels m).filter (fun c => !(chanQueue m c).isEmpty)) chanDone
  let m := hev (m.add R.DRAM.FREQ_REVERTS.COUNT 1) 196
  (dramCode (m.wr R.DRAM.STATUS.SP old) FREQ_REVERTED).ev E.DRAM.FREQ_REVERTED

/-- A channel's training at its next set point begins, or its training is over (R461). -/
def nextTraining (m : Mach) (ch : Nat) : Mach :=
  match chanQueue m ch with
  | [] => m
  | [_] => chanDone m ch
  | _ :: rest =>
    let m := chanMod m ch (fun c => { c with queue := rest, attempt := 1 })
    let m := m.wr R.DRAM.CH_STATUS.TRAINS (m.rd R.DRAM.CH_STATUS.TRAINS ch + 1) ch
    hev (m.add R.DRAM.TRAIN_RUNS.COUNT 1) 195

/-- A training of a channel ends (R461, R464): `ok` tells that every step of the training itself succeeded; it passes if every margin is
at or above margin_min. -/
def dramTrainingDone (m : Mach) (ch ca rd wr vref : Nat) (ok : Bool) : Mach :=
  match chanQueue m ch with
  | [] => m
  | sp :: _ =>
    if chanState m ch != 1 || (m.mode != 3 && !stillGranted m C_TRAIN (chanHolder ch)) then m
    else
      let m := setMargins m ch ca rd wr vref
      if ok && marginsOk m ca rd wr vref then
        let m := m.wr R.DRAM.CH_STATUS.TRAINED_SP (setBit (m.rd R.DRAM.CH_STATUS.TRAINED_SP ch) sp) ch
        let m := nextTraining (dramCode m DRAM_TRAINED) ch
        match m.dr.change with
        | some (new, _) =>
          if (dramChannels m).all (fun c => chanTrained m c new && (chanQueue m c).isEmpty) then applySetpoint m new else m
        | none => m
      else if (m.dr.chans.getD ch ⟨[], [], 0, false, false, 0⟩).attempt < 2 then
        -- a failed training is tried again once
        let m := chanMod m ch (fun c => { c with attempt := 2 })
        let m := m.wr R.DRAM.CH_STATUS.TRAINS (m.rd R.DRAM.CH_STATUS.TRAINS ch + 1) ch
        hev (m.add R.DRAM.TRAIN_RUNS.COUNT 1) 195
      else
        let m := (dramCode m DRAM_TRAIN_FAILED).ev E.DRAM.TRAIN_FAILED
        let m := match m.dr.change with
          | some (_, old) => revertSetpoint m old
          | none => if m.mode = 3 then
              -- without results at boot the channel does not run
              dramRefresh ((chanMod m ch (fun c => { c with queue := [] })).wr R.DRAM.CH_STATUS.STATE 0 ch)
            else chanDone m ch
        let m := channelEvent m ch 1 DRAM_TRAIN_FAILED 0
        if m.mode = 3 && (dramChannels m).all (fun c => chanState m c == 0 && (chanQueue m c).isEmpty) then
          bootIntegrity m 0x7   -- DRAM_TRAIN (R447, R614)
        else m

/-- SETPOINT_REQUEST (R464), by a write of setpoint_request or DRAM.CTRL.SETPOINT. -/
def execSetpointRequest (sp : Nat) (s : State) : Out' :=
  onM s (fun m => setpointRequest (m.wr R.DRAM.CTRL.SETPOINT sp) (sp % 4))

/-- SELF_REFRESH_ENTRY (R465): 50 us after M1 or M2, or on entry to M0 with hibernate_dram 1; a walk pauses. -/
def selfRefreshEntry (m : Mach) : Mach :=
  let toM0 : Bool := match m.mc.imm with
    | some t => t.target == 0 && m.dv D.hibernate_dram == 1
    | none => false
  if m.mode = 1 ∨ m.mode = 2 ∨ toM0 then
    let m := m.each (dramChannels m) (fun m c => m.wr R.DRAM.CH_STATUS.STATE 3 c)
    let m := { m with dr := { m.dr with kept := toM0 && m.dr.walk.isNone } }
    dramRefresh (chimRelease m C_TRAIN walkHolder)
  else m

def execSelfRefreshEntry (s : State) : Out' := onM s selfRefreshEntry

/-- SELF_REFRESH_EXIT (R465, R54): on exit from M1 or M2 a latched set point is applied first and a paused walk asks again;
a DRAM that fails to exit makes the transition fail. -/
def selfRefreshExit (m : Mach) (ok : Bool) : Mach :=
  if (dramChannels m).any (fun c => chanState m c == 3) then
    if ok then
      let m := m.each (dramChannels m) (fun m c => m.wr R.DRAM.CH_STATUS.STATE 2 c)
      let m := dramRefresh m
      let m := if m.dr.walk.isSome then chimRequest m C_TRAIN walkHolder (m.dv D.remap_tokens) else m
      if m.flag R.DRAM.STATUS.PENDING then
        let sp := m.rd R.DRAM.STATUS.PEND_SP
        setpointRequest ((m.wr R.DRAM.STATUS.PENDING 0).wr R.DRAM.STATUS.PEND_SP 0) sp
      else m
    else
      match m.mc.imm with
      | some t => if t.train then failImm m t else m
      | none => m
  else m

def execSelfRefreshExit (ok : Bool) (s : State) : Out' := onM s (fun m => selfRefreshExit m ok)

/-- REMAP_WALK_DONE (R469, R471): the walk has moved every line; a channel that crossed meanwhile is retired now. -/
def remapWalkDone (m : Mach) : Mach :=
  if m.dr.walk.isNone || !stillGranted m C_TRAIN walkHolder then m
  else
    let m := { m with dr := { m.dr with walk := none, walkOld := 0 } }
    let m := (dramCode (walkReport m) REMAP_DONE).ev E.DRAM.REMAP_DONE
    let m := dramRefresh (chimRelease m C_TRAIN walkHolder)
    match m.dr.second with
    | [] => m
    | c :: rest => retireChannel { m with dr := { m.dr with second := rest } } c

def execRemapWalkDone (s : State) : Out' := onM s remapWalkDone

/-- LATCHED_SETPOINT_APPLY (R464): the gathering step completes, the latched change is applied and training restarts. -/
def latchedSetpoint (m : Mach) : Mach :=
  if m.flag R.DRAM.STATUS.PENDING && dramTraining m then
    let sp := m.rd R.DRAM.STATUS.PEND_SP
    let m := (m.wr R.DRAM.STATUS.PENDING 0).wr R.DRAM.STATUS.PEND_SP 0
    let m := { m with dr := { m.dr with change := some (sp, m.rd R.DRAM.STATUS.SP) } }
    let m := m.each (dramChannels m) (fun m c =>
      if chanState m c == 1 then chanMod m c (fun x => { x with queue := [sp], attempt := 1 })
      else if chanTrained m c sp then m
      else queueTraining m c [sp])
    m
  else m

def execLatchedSetpointApply (s : State) : Out' := onM s latchedSetpoint

end Sys2Proof.Machine
end

