-- ==== Sys2Proof/Machine/CalCmds.lean ====
section
/-!
DEFINITION. The calibration commands that need neither the Gallery nor the Vault's stored VCP (spec/17_calibration.md).
-/
namespace Sys2Proof.Machine

/-- CAL_RUN (R585). -/
def execCalRun (mask : Nat) (s : State) : Out' := onM s (fun m => calRun m mask)

/-- TRACK_INTERVAL (R585): the kinds of track_mask. -/
def execTrackInterval (s : State) : Out' := onM s (fun m => calRun m (m.dv D.track_mask))

/-- A quality figure below its limit (R600). -/
def qualityLow (m : Mach) (low : Bool) : Mach := if low then (calCode m CAL_QUALITY_LOW).ev E.CAL.QUALITY_LOW else m

/-- The reverse eyes a LANE sweep measured: rows of lane, width, height; other lanes are marked not measured (R584). -/
def calLanes (m : Mach) (rows : List (List Int)) : Mach :=
  let m := m.each (List.range 64) (fun m n => m.lwr n R.VEIN.LANE_EYE_REV.VALID 0)
  rows.foldl (fun m r =>
    let n := (r.getD 0 0).toNat
    let w := (r.getD 1 0).toNat
    let h := (r.getD 2 0).toNat
    if n < 64 && laneServ m n && m.lrd n R.VEIN.LANE_CTRL.RX_PWR == 0 then
      let m := (m.lwr n R.VEIN.LANE_EYE_REV.VALID 1).lwr n R.VEIN.LANE_EYE_REV.WIDTH_MUI w
      let m := m.lwr n R.VEIN.LANE_EYE_REV.HEIGHT_MV h
      qualityLow m (decide (w < m.dv D.eye_width_min) || decide (h < m.dv D.eye_height_min))
    else m) m

/-- The margins a DRAM sweep measured: rows of channel and the four margins (R584). -/
def calChannels (m : Mach) (rows : List (List Int)) : Mach :=
  rows.foldl (fun m r =>
    let g (k : Nat) : Nat := (r.getD k 0).toNat
    if g 0 < 8 && chanState m (g 0) == 2 then
      qualityLow (setMargins m (g 0) (g 1) (g 2) (g 3) (g 4)) (!marginsOk m (g 1) (g 2) (g 3) (g 4))
    else m) m

/-- The reported maximum has changed by less than 0.5 K over the preceding 10 s (R584). -/
def thermSteady (m : Mach) : Bool :=
  match m.th.hist with
  | [] => false
  | e :: l => l.all (fun x => decide ((x.1 - e.1).natAbs < 8))

/-- CAL_RUN_DONE (R584, R586, R600): the measurement of a kind is complete. Rows: LANE and DRAM as their sweeps say; OSC one row of
residual (ppb) and trim target; SENSOR rows of sensor, gain, offset target and residual (1/16 K). OSC and SENSOR are done once
their ramps reach the targets; a SENSOR run that found the maximum unsteady trims the gain alone. -/
def calRunDone (m : Mach) (k : Nat) (rows : List (List Int)) : Mach :=
  let steady := thermSteady m
  if !calRunning m k || !calEnabled m || (k < 4 && !hasGrant m C_CAL k) then m
  else if k = KIND_LANE then calFinish (calLanes m rows) k
  else if k = KIND_DRAM then calFinish (calChannels m rows) k
  else if k = KIND_OSC then
    let res := (rows.getD 0 []).getD 0 0
    let goal := (rows.getD 0 []).getD 1 0
    let m := m.wr R.CAL.OSC.RESIDUAL_PPB (uNat 16 (clampI res (-32768) 32767))
    let m := qualityLow m (decide (200 < res.natAbs))
    { m with cal := { m.cal with oscGoal := some (clampI goal (-32768) 32767) } }
  else if k = KIND_SENSOR then
    let m := rows.foldl (fun m r =>
      let n := (r.getD 0 0).toNat
      let res := r.getD 3 0
      if n < 48 then
        let m := m.wr R.CAL.SENS.GAIN (r.getD 1 0).toNat n
        let m := m.wr R.CAL.SENS.RESIDUAL (uNat 8 (clampI res (-128) 127)) n
        let m := qualityLow m (decide (32 < res.natAbs))
        if steady then { m with cal := { m.cal with sensGoal := setAt m.cal.sensGoal n (some (r.getD 2 0)) } } else m
      else m) m
    if steady && !m.cal.sensGoal.all (·.isNone) then m
    else if steady then calFinish m k
    else calCode (calFinish m k) CAL_NOT_STEADY
  else calFinish m k

def execCalRunDone (kind : Nat) (rows : List (List Int)) (s : State) : Out' :=
  onM s (fun m => calRunDone m kind rows)

/-- CAL_PPS_EDGE (R583): CAL_REFCLK cycles since the previous edge. -/
def execCalPpsEdge (cycles : Nat) (s : State) : Out' := onM s (fun m => ppsEdge m cycles)

/-- CAL_PPS_MISSING (R583): no edge within 1.1 s. -/
def execCalPpsMissing (s : State) : Out' := onM s (fun m => ppsBad m 0)

/-- VREF_MEASURE (R583): VREF_CAL in 0.1 mV, within 1 % of 1.2000 V or bad. -/
def execVrefMeasure (mv10 : Nat) (s : State) : Out' :=
  onM s (fun m =>
    let ok := decide (((mv10 : Int) - 12000).natAbs ≤ 120)
    let m := m.wr R.CAL.REF.VREF_MV10 mv10
    refSet (if ok then m else calCode m VREF_BAD) R.CAL.REF.VREF_OK ok)

/-- CAL_DRAIN (R598). -/
def execCalDrain (enable : Bool) (s : State) : Out' := onM s (fun m => calDrain m enable)

/-- CAL_FORCE_STOP (R598). -/
def execCalForceStop (late : Nat) (s : State) : Out' := onM s (fun m => calForceStop m late)

end Sys2Proof.Machine
end

