-- ==== Sys2Proof/Machine/DictCodes.lean ====
section
/-!
DEFINITION. The status codes of dictionary replies (spec/03_object_dictionary.md R78).
-/
namespace Sys2Proof.Machine

def DICT_OK : Nat := 0x00
def DICT_PENDING : Nat := 0x01
def COMMIT_DEFERRED : Nat := 0x02
def DICT_NO_ENTRY : Nat := 0x03
def DICT_NO_SUBINDEX : Nat := 0x04
def DICT_READ_DENIED : Nat := 0x05
def DICT_WRITE_DENIED : Nat := 0x06
def DICT_LENGTH : Nat := 0x07
def DICT_RANGE : Nat := 0x08
def DICT_MODE : Nat := 0x09
def DICT_UNAVAILABLE : Nat := 0x0A
def DICT_BUSY : Nat := 0x0B
def DICT_BAD_OPCODE : Nat := 0x0C
def DICT_BAD_VERSION : Nat := 0x0D
def DICT_BAD_OFFSET : Nat := 0x0E
def DICT_AUTH_REQUIRED : Nat := 0x0F
def DICT_AUTH_FAILED : Nat := 0x10
def DICT_REPLAY : Nat := 0x11
def DICT_SESSION_LIMIT : Nat := 0x12
def DICT_NODE_UNREACHABLE : Nat := 0x13
def DICT_NODE_TIMEOUT : Nat := 0x14
def DICT_STORE_FAILED : Nat := 0x15
def DICT_SUB_LIMIT : Nat := 0x16
def DICT_V1_READ_ONLY : Nat := 0x17

end Sys2Proof.Machine
end

