-- ==== Sys2Proof/Machine/DictTable.lean ====
section
/-!
DEFINITION. The object dictionary's entries (spec/03_object_dictionary.md R63-R70, R97; the tables of R55, R136, R167, R205, R239, R293,
R337, R380, R413, R440, R473, R506, R550, R574, R601, R633, R658, R690, R725): type, size, range, access mask, class, timing, backing,
where the value is held and whether it has a default.
-/
namespace Sys2Proof.Machine

/-- Types of R64. -/
inductive DTy where
  | bool | uint | sint | f32 | q16 | time64 | enum8 | bits32 | octets | str | table
  deriving DecidableEq, Repr

/-- Persistence classes of R69. -/
inductive DCls where
  | v | p | f
  deriving DecidableEq, Repr

/-- Where an entry's value is held: dictionary bytes; one register field (instance); two byte fields; a 64-bit count in two
registers; single bits; whole register words; a base or size of whole MiB; or in state of its own, which DictValue reads. -/
inductive Home where
  | own (d : DKey)
  | field (r : Row) (i : Nat)
  | two8 (a b : Row)
  | pair (lo hi : Row)
  | flags (l : List Row)
  | words (l : List Nat)
  | mib (lo hi : Row)
  | mib1 (r : Row)
  | special
  deriving DecidableEq, Repr

/-- A dictionary entry: index, subindex, type, size (of a row for a TABLE), least and greatest value (row count for a TABLE), access
mask, class, AT_TICK, firmware-backed, home, and whether it has a default. -/
structure DEntry where
  ix   : Nat
  sb   : Nat
  ty   : DTy
  sz   : Nat
  lo   : Int
  hi   : Int
  acc  : Nat
  cls  : DCls
  tick : Bool
  fw   : Bool
  home : Home
  dflt : Bool
  deriving DecidableEq, Repr

def dictRows0 : List DEntry := [
  ⟨0x1000, 0x01, .str, 16, 0, 0, 0x0F, .f, false, false, .own D.vendor_name, true⟩,  -- vendor_name
  ⟨0x1000, 0x02, .str, 16, 0, 0, 0x0F, .f, false, false, .own D.part_number, true⟩,  -- part_number
  ⟨0x1000, 0x03, .enum8, 1, 0, 1, 0x0F, .f, false, false, .own D.stepping, true⟩,  -- stepping
  ⟨0x1000, 0x04, .octets, 16, 0, 0, 0x0F, .f, false, false, .own D.die_id, false⟩,  -- die_id
  ⟨0x1000, 0x05, .str, 32, 0, 0, 0x0F, .f, false, true, .own D.serial_number, false⟩,  -- serial_number
  ⟨0x1000, 0x06, .enum8, 1, 0, 1, 0x0F, .f, false, false, .own D.key_state, false⟩,  -- key_state
  ⟨0x1000, 0x07, .uint, 4, 0, 4294967295, 0x0F, .v, false, true, .own D.firmware_version, false⟩,  -- firmware_version
  ⟨0x1000, 0x08, .uint, 4, 0, 4294967295, 0x0F, .v, false, false, .own D.bedrock_version, false⟩,  -- bedrock_version
  ⟨0x1000, 0x09, .uint, 4, 0, 4294967295, 0x0F, .v, false, false, .own D.dictionary_version, true⟩,  -- dictionary_version
  ⟨0x1001, 0x01, .table, 8, 0, 65536, 0x0F, .v, false, false, .special, false⟩,  -- directory
  ⟨0x1100, 0x01, .bool, 1, 0, 1, 0x7F, .p, false, false, .own D.idp_enable, true⟩,  -- idp_enable
  ⟨0x1100, 0x02, .uint, 2, 1, 65535, 0x7F, .p, false, false, .own D.idp_port, true⟩,  -- idp_port
  ⟨0x1100, 0x03, .uint, 4, 0, 4294967295, 0x7F, .p, false, true, .own D.ipv4_address, true⟩,  -- ipv4_address
  ⟨0x1100, 0x04, .uint, 4, 0, 4294967295, 0x7F, .p, false, true, .own D.ipv4_netmask, true⟩,  -- ipv4_netmask
  ⟨0x1100, 0x05, .uint, 4, 0, 4294967295, 0x7F, .p, false, true, .own D.ipv4_gateway, true⟩,  -- ipv4_gateway
  ⟨0x1100, 0x06, .octets, 16, 0, 0, 0x7F, .p, false, true, .own D.ipv6_address, true⟩,  -- ipv6_address
  ⟨0x1100, 0x07, .uint, 1, 1, 128, 0x7F, .p, false, true, .own D.ipv6_prefix_len, true⟩,  -- ipv6_prefix_len
  ⟨0x1100, 0x08, .bool, 1, 0, 1, 0x7F, .p, false, false, .own D.idp_v1_enable, true⟩,  -- idp_v1_enable
  ⟨0x1100, 0x09, .bool, 1, 0, 1, 0x3F, .p, false, false, .own D.host_fabric_write, true⟩,  -- host_fabric_write
  ⟨0x1101, 0x01, .octets, 16, 0, 0, 0x08, .v, false, false, .special, false⟩,  -- session_challenge
  ⟨0x1101, 0x02, .octets, 52, 0, 0, 0x80, .v, false, false, .special, false⟩,  -- session_open
  ⟨0x1101, 0x03, .uint, 2, 0, 65535, 0x80, .v, false, false, .special, false⟩,  -- session_close
  ⟨0x1101, 0x04, .uint, 1, 0, 8, 0x0F, .v, false, false, .special, true⟩,  -- sessions_open
  ⟨0x1101, 0x05, .uint, 2, 10, 3600, 0x7F, .p, false, false, .own D.session_idle_timeout, true⟩,  -- session_idle_timeout
  ⟨0x1102, 0x01, .uint, 4, 0, 4294967295, 0x0F, .v, false, false, .own D.idp_rx, true⟩,  -- idp_rx
  ⟨0x1102, 0x02, .uint, 4, 0, 4294967295, 0x0F, .v, false, false, .own D.idp_dropped, true⟩,  -- idp_dropped
  ⟨0x1102, 0x03, .uint, 4, 0, 4294967295, 0x0F, .v, false, false, .own D.idp_auth_fail, true⟩,  -- idp_auth_fail
  ⟨0x1102, 0x04, .uint, 4, 0, 4294967295, 0x0F, .v, false, false, .own D.idp_replay, true⟩,  -- idp_replay
  ⟨0x1102, 0x05, .uint, 4, 0, 4294967295, 0x0F, .v, false, false, .own D.idp_late_remote, true⟩,  -- idp_late_remote
  ⟨0x1200, 0x01, .enum8, 1, 0, 6, 0x3F, .p, false, true, .own D.bar4_size, true⟩  -- bar4_size
  ]

def dictRows1 : List DEntry := [
  ⟨0x1200, 0x02, .enum8, 1, 3, 5, 0x3F, .p, false, false, .own D.link_speed_max, true⟩,  -- link_speed_max
  ⟨0x1200, 0x03, .uint, 4, 0, 4294967295, 0x0F, .v, false, false, .words [0x2400000], false⟩,  -- link_status
  ⟨0x1201, 0x01, .uint, 4, 0, 4294967295, 0x0F, .v, false, false, .field R.HOST.SCENE_FRAGMENTS.COUNT 0, true⟩,  -- scene_fragments
  ⟨0x1201, 0x02, .uint, 4, 0, 4294967295, 0x0F, .v, false, false, .field R.HOST.SCENE_READ_FAILURES.COUNT 0, true⟩,  -- scene_read_failures
  ⟨0x2000, 0x01, .enum8, 1, 0, 11, 0x0F, .v, false, false, .field R.SYS.MODE_STATUS.CURRENT 0, false⟩,  -- mode_current
  ⟨0x2000, 0x02, .enum8, 1, 0, 11, 0xFF, .v, false, false, .field R.SYS.MODE_REQ.MODE 0, true⟩,  -- mode_request
  ⟨0x2000, 0x03, .uint, 1, 0, 23, 0xFF, .v, false, false, .field R.SYS.MODE_REQ.ENTRY 0, true⟩,  -- entry_request
  ⟨0x2000, 0x04, .uint, 1, 0, 255, 0x0F, .v, false, false, .field R.SYS.MODE_RESULT.STATUS 0, true⟩,  -- mode_result
  ⟨0x2000, 0x05, .enum8, 1, 4, 5, 0x7F, .p, false, true, .own D.boot_target, true⟩,  -- boot_target
  ⟨0x2000, 0x06, .enum8, 1, 0, 1, 0x7F, .p, false, true, .own D.hibernate_dram, true⟩,  -- hibernate_dram
  ⟨0x2000, 0x07, .bool, 1, 0, 1, 0x7F, .v, false, true, .own D.test_unlock, true⟩,  -- test_unlock
  ⟨0x2000, 0x08, .bool, 1, 0, 1, 0x7F, .p, false, true, .own D.thermal_auto_resume, true⟩,  -- thermal_auto_resume
  ⟨0x2000, 0x09, .bits32, 4, 0, 16777215, 0x0F, .v, false, false, .field R.SYS.MODE_ENTRY_MASK.PERMITTED 0, false⟩,  -- entry_mask
  ⟨0x2100, 0x01, .uint, 2, 48, 560, 0x1F, .p, true, false, .field R.CHIM.LIMITS.CEILING 0, true⟩,  -- chimney_ceiling
  ⟨0x2100, 0x02, .uint, 2, 48, 560, 0x7F, .p, true, false, .field R.CHIM.LIMITS.POOL 0, true⟩,  -- pool_limit
  ⟨0x2100, 0x03, .octets, 12, 0, 0, 0x0F, .v, false, false, .words [0x200004, 0x200008, 0x20000c], false⟩,  -- chimney_status
  ⟨0x2110, 0x01, .uint, 2, 0, 560, 0x7F, .p, true, false, .field R.CHIM.CLASS.QUOTA 0, true⟩,  -- quota_train
  ⟨0x2110, 0x02, .uint, 2, 0, 560, 0x7F, .p, true, false, .field R.CHIM.CLASS.QUOTA 1, true⟩,  -- quota_decode
  ⟨0x2110, 0x03, .uint, 2, 0, 560, 0x7F, .p, true, false, .field R.CHIM.CLASS.QUOTA 2, true⟩,  -- quota_cal
  ⟨0x2110, 0x04, .uint, 2, 0, 560, 0x7F, .p, true, false, .field R.CHIM.CLASS.QUOTA 3, true⟩,  -- quota_scrub
  ⟨0x2110, 0x05, .uint, 2, 0, 560, 0x7F, .p, true, false, .field R.CHIM.CLASS.QUOTA 4, true⟩,  -- quota_tap
  ⟨0x2110, 0x06, .uint, 2, 0, 560, 0x7F, .p, true, false, .field R.CHIM.CLASS.QUOTA 5, true⟩,  -- quota_dma
  ⟨0x2110, 0x07, .uint, 2, 0, 560, 0x7F, .p, true, false, .field R.CHIM.CLASS.QUOTA 6, true⟩,  -- quota_blit
  ⟨0x2110, 0x08, .uint, 2, 0, 560, 0x7F, .p, true, false, .field R.CHIM.CLASS.QUOTA 7, true⟩,  -- quota_crc
  ⟨0x2110, 0x09, .uint, 2, 0, 560, 0x7F, .p, true, false, .field R.CHIM.CLASS.QUOTA 8, true⟩,  -- quota_defl
  ⟨0x2200, 0x01, .uint, 1, 0, 100, 0x3F, .p, false, false, .own D.throttle_share, true⟩,  -- throttle_share
  ⟨0x2200, 0x02, .uint, 2, 0, 10000, 0x3F, .p, false, false, .own D.throttle_pause, true⟩,  -- throttle_pause
  ⟨0x2200, 0x03, .bool, 1, 0, 1, 0x3F, .p, false, false, .own D.step_up_auto, true⟩,  -- step_up_auto
  ⟨0x2200, 0x04, .octets, 8, 0, 0, 0x0F, .v, false, false, .words [0x300000, 0x300004], false⟩,  -- thermal_status
  ⟨0x2200, 0x05, .table, 8, 48, 48, 0x0F, .v, false, false, .special, false⟩  -- sensor_table
  ]

def dictRows2 : List DEntry := [
  ⟨0x2210, 0x01, .uint, 4, 0, 4294967295, 0x0F, .v, false, false, .field R.THRM.TRIPS.COUNT 0, true⟩,  -- trips
  ⟨0x2210, 0x02, .uint, 4, 0, 4294967295, 0x0F, .v, false, false, .own D.step_downs, true⟩,  -- step_downs
  ⟨0x2210, 0x03, .uint, 4, 0, 4294967295, 0x0F, .v, false, false, .own D.throttle_ms, true⟩,  -- throttle_ms
  ⟨0x2210, 0x04, .uint, 4, 0, 4294967295, 0x0F, .v, false, false, .own D.grants_refused, true⟩,  -- grants_refused
  ⟨0x3000, 0x01, .enum8, 1, 0, 2, 0x7F, .p, false, false, .own D.scene_source, true⟩,  -- scene_source
  ⟨0x3000, 0x02, .uint, 8, 0, 18446744073709551615, 0x7F, .p, false, false, .mib R.FLOW.QUEUE_BASE_LO.BASE_LO R.FLOW.QUEUE_BASE_HI.BASE_HI, true⟩,  -- queue_base
  ⟨0x3000, 0x03, .uint, 8, 16777216, 17179869184, 0x7F, .p, false, false, .mib1 R.FLOW.QUEUE_SIZE.SIZE_MIB, true⟩,  -- queue_bytes
  ⟨0x3000, 0x04, .uint, 4, 1, 60000, 0x7F, .p, false, false, .own D.stall_timeout, true⟩,  -- stall_timeout
  ⟨0x3000, 0x05, .bool, 1, 1, 1, 0xF0, .v, false, false, .own D.queue_flush, false⟩,  -- queue_flush
  ⟨0x3000, 0x06, .octets, 24, 0, 0, 0x0F, .v, false, false, .words [0x400050, 0x400054, 0x400058, 0x40005c, 0x400060, 0], false⟩,  -- queue_state
  ⟨0x3010, 0x01, .bool, 1, 0, 1, 0x7F, .p, false, false, .own D.msf_v1_enable, true⟩,  -- msf_v1_enable
  ⟨0x3010, 0x02, .uint, 1, 0, 63, 0x7F, .p, false, false, .own D.msf_v1_cost, true⟩,  -- msf_v1_cost
  ⟨0x3010, 0x03, .bool, 1, 0, 1, 0x7F, .p, false, false, .own D.msf_flat_enable, true⟩,  -- msf_flat_enable
  ⟨0x3010, 0x04, .uint, 1, 0, 255, 0x0F, .f, false, false, .own D.msf_version_max, true⟩,  -- msf_version_max
  ⟨0x3020, 0x01, .uint, 4, 0, 262144, 0x7F, .p, true, false, .field R.FLOW.CTX_QUOTA_SCENE.QUOTA 0, true⟩,  -- ctx_quota_scene
  ⟨0x3020, 0x02, .uint, 4, 0, 262144, 0x7F, .p, true, false, .field R.FLOW.CTX_QUOTA_AUX.QUOTA 0, true⟩,  -- ctx_quota_aux
  ⟨0x3020, 0x03, .uint, 4, 0, 4294967295, 0x0F, .v, false, false, .special, false⟩,  -- scene_quota_min
  ⟨0x3020, 0x04, .enum8, 1, 0, 1, 0x7F, .p, true, false, .own D.subst_policy, true⟩,  -- subst_policy
  ⟨0x3020, 0x05, .bool, 1, 0, 1, 0x7F, .p, false, false, .own D.retry_enable, true⟩,  -- retry_enable
  ⟨0x3020, 0x06, .bool, 1, 0, 1, 0x7F, .p, false, false, .field R.FLOW.CTRL.BG_EN 0, true⟩,  -- precheck_enable
  ⟨0x3020, 0x07, .uint, 1, 1, 48, 0x7F, .p, true, false, .own D.bg_tokens, true⟩,  -- bg_tokens
  ⟨0x3030, 0x01, .uint, 4, 0, 4294967295, 0x0F, .v, false, false, .field R.FLOW.ROWS_DECODED.COUNT 0, true⟩,  -- rows_decoded
  ⟨0x3030, 0x02, .uint, 4, 0, 4294967295, 0x0F, .v, false, false, .field R.FLOW.ROWS_RESTARTED.COUNT 0, true⟩,  -- rows_restarted
  ⟨0x3030, 0x03, .uint, 4, 0, 4294967295, 0x0F, .v, false, false, .field R.FLOW.ROWS_SUBSTITUTED.COUNT 0, true⟩,  -- rows_substituted
  ⟨0x3030, 0x04, .uint, 4, 0, 4294967295, 0x0F, .v, false, false, .field R.FLOW.CTX_EVICTIONS.COUNT 0, true⟩,  -- ctx_evictions
  ⟨0x3030, 0x05, .uint, 4, 0, 4294967295, 0x0F, .v, false, false, .field R.FLOW.LATE_BYTES.COUNT 0, true⟩,  -- late_bytes
  ⟨0x3030, 0x06, .uint, 4, 0, 4294967295, 0x0F, .v, false, false, .field R.FLOW.LATE_FRAMES.COUNT 0, true⟩,  -- late_frames
  ⟨0x4000, 0x01, .enum8, 1, 0, 1, 0xFF, .p, true, false, .field R.HEL.OPT_CTRL.MODEL 0, true⟩,  -- optical_model
  ⟨0x4000, 0x02, .enum8, 1, 0, 1, 0xFF, .p, true, false, .field R.HEL.OPT_CTRL.SUBPIX_ORDER 0, true⟩,  -- subpixel_order
  ⟨0x4000, 0x03, .enum8, 1, 0, 1, 0xFF, .p, true, false, .field R.HEL.OPT_CTRL.RAY_MODE 0, true⟩  -- ray_mode
  ]

def dictRows3 : List DEntry := [
  ⟨0x4000, 0x04, .uint, 2, 0, 65535, 0xFF, .p, true, false, .two8 R.HEL.OPT_CTRL.VIEW_NX_M1 R.HEL.OPT_CTRL.VIEW_NY_M1, true⟩,  -- view_grid
  ⟨0x4000, 0x05, .enum8, 1, 0, 2, 0xFF, .p, true, false, .field R.HEL.OPT_CTRL.ZONE_POLICY 0, true⟩,  -- zone_policy
  ⟨0x4001, 0x01, .uint, 4, 0, 4294967295, 0xFF, .p, true, false, .field R.HEL.OPT_SUBPIX_PITCH.VALUE 0, true⟩,  -- subpix_pitch
  ⟨0x4001, 0x02, .uint, 4, 0, 4294967295, 0xFF, .p, true, false, .field R.HEL.OPT_LINE_PITCH.VALUE 0, true⟩,  -- line_pitch
  ⟨0x4001, 0x03, .uint, 4, 0, 4294967295, 0xFF, .p, true, false, .field R.HEL.OPT_GAP.VALUE 0, true⟩,  -- gap
  ⟨0x4001, 0x04, .sint, 4, -2147483648, 2147483647, 0xFF, .p, true, false, .field R.HEL.OPT_L0_X.VALUE 0, true⟩,  -- lat_l0_x
  ⟨0x4001, 0x05, .sint, 4, -2147483648, 2147483647, 0xFF, .p, true, false, .field R.HEL.OPT_L0_Y.VALUE 0, true⟩,  -- lat_l0_y
  ⟨0x4001, 0x06, .sint, 4, -2147483648, 2147483647, 0xFF, .p, true, false, .field R.HEL.OPT_E1_X.VALUE 0, true⟩,  -- lat_e1_x
  ⟨0x4001, 0x07, .sint, 4, -2147483648, 2147483647, 0xFF, .p, true, false, .field R.HEL.OPT_E1_Y.VALUE 0, true⟩,  -- lat_e1_y
  ⟨0x4001, 0x08, .sint, 4, -2147483648, 2147483647, 0xFF, .p, true, false, .field R.HEL.OPT_E2_X.VALUE 0, true⟩,  -- lat_e2_x
  ⟨0x4001, 0x09, .sint, 4, -2147483648, 2147483647, 0xFF, .p, true, false, .field R.HEL.OPT_E2_Y.VALUE 0, true⟩,  -- lat_e2_y
  ⟨0x4001, 0x0A, .uint, 4, 0, 4294967295, 0xFF, .p, true, false, .field R.HEL.OPT_VIEW_DIST.VALUE 0, true⟩,  -- view_dist
  ⟨0x4001, 0x0B, .sint, 4, -2147483648, 2147483647, 0xFF, .p, true, false, .field R.HEL.OPT_VIEWER_Y.VALUE 0, true⟩,  -- viewer_y
  ⟨0x4001, 0x0C, .sint, 4, -2147483648, 2147483647, 0xFF, .p, true, false, .field R.HEL.OPT_VIEW_X0.VALUE 0, true⟩,  -- view_x0
  ⟨0x4001, 0x0D, .sint, 4, -2147483648, 2147483647, 0xFF, .p, true, false, .field R.HEL.OPT_VIEW_Y0.VALUE 0, true⟩,  -- view_y0
  ⟨0x4001, 0x0E, .uint, 4, 0, 4294967295, 0xFF, .p, true, false, .field R.HEL.OPT_VIEW_SX.VALUE 0, true⟩,  -- view_sx
  ⟨0x4001, 0x0F, .uint, 4, 0, 4294967295, 0xFF, .p, true, false, .field R.HEL.OPT_VIEW_SY.VALUE 0, true⟩,  -- view_sy
  ⟨0x4001, 0x10, .sint, 4, -2147483648, 2147483647, 0xFF, .p, true, false, .field R.HEL.OPT_ZONE_X_MIN.VALUE 0, true⟩,  -- zone_x_min
  ⟨0x4001, 0x11, .sint, 4, -2147483648, 2147483647, 0xFF, .p, true, false, .field R.HEL.OPT_ZONE_X_MAX.VALUE 0, true⟩,  -- zone_x_max
  ⟨0x4001, 0x12, .sint, 4, -2147483648, 2147483647, 0xFF, .p, true, false, .field R.HEL.OPT_ZONE_Y_MIN.VALUE 0, true⟩,  -- zone_y_min
  ⟨0x4001, 0x13, .sint, 4, -2147483648, 2147483647, 0xFF, .p, true, false, .field R.HEL.OPT_ZONE_Y_MAX.VALUE 0, true⟩,  -- zone_y_max
  ⟨0x4001, 0x14, .uint, 4, 0, 4294967295, 0xFF, .p, true, false, .field R.HEL.OPT_Z_NEAR.VALUE 0, true⟩,  -- z_near
  ⟨0x4001, 0x15, .uint, 4, 0, 4294967295, 0xFF, .p, true, false, .field R.HEL.OPT_Z_FAR.VALUE 0, true⟩,  -- z_far
  ⟨0x4002, 0x01, .octets, 48, 0, 0, 0xFF, .p, true, false, .words [0x8200c0, 0x8200c4, 0x8200c8, 0x8200cc, 0x8200d0, 0x8200d4, 0x8200d8, 0x8200dc, 0x8200e0, 0x8200e4, 0x8200e8, 0x8200ec], true⟩,  -- scene_to_panel
  ⟨0x4003, 0x01, .uint, 8, 0, 18446744073709551615, 0xFF, .v, true, false, .words [0x8200a0, 0x8200a4], true⟩,  -- lct_base
  ⟨0x4003, 0x02, .uint, 8, 0, 18446744073709551615, 0xFF, .v, true, false, .words [0x8200a8, 0x8200ac], true⟩,  -- resid_a_base
  ⟨0x4003, 0x03, .uint, 8, 0, 18446744073709551615, 0xFF, .v, true, false, .words [0x8200b0, 0x8200b4], true⟩,  -- resid_b_base
  ⟨0x4003, 0x04, .uint, 4, 0, 65536, 0xFF, .v, true, false, .field R.HEL.OPT_BLEND.ALPHA 0, true⟩,  -- resid_blend
  ⟨0x4003, 0x05, .uint, 4, 0, 4294967295, 0x0F, .v, false, false, .words [0x820004], false⟩,  -- optics_status
  ⟨0x4100, 0x01, .uint, 1, 0, 32, 0x0F, .v, false, false, .field R.HEL.STATUS.ACTIVE 0, false⟩  -- engines_active
  ]

def dictRows4 : List DEntry := [
  ⟨0x4100, 0x02, .uint, 8, 0, 18446744073709551615, 0x0F, .v, false, false, .words [0x800010, 0x800014], true⟩,  -- engines_retired
  ⟨0x4100, 0x03, .octets, 16, 0, 0, 0x0F, .v, false, false, .words [0x800020, 0x800024, 0x800028, 0x80002c], false⟩,  -- admit_result
  ⟨0x4110, 0x01, .uint, 4, 0, 4294967295, 0x0F, .v, false, false, .field R.HEL.BUNDLES_DEGRADED.COUNT 0, true⟩,  -- bundles_degraded
  ⟨0x4110, 0x02, .uint, 4, 0, 4294967295, 0x0F, .v, false, false, .field R.HEL.RAYS_TERMINATED.COUNT 0, true⟩,  -- rays_terminated
  ⟨0x4110, 0x03, .uint, 4, 0, 4294967295, 0x0F, .v, false, false, .field R.HEL.GROTTO_MISSES.COUNT 0, true⟩,  -- grotto_misses
  ⟨0x4110, 0x04, .uint, 4, 0, 4294967295, 0x0F, .v, false, false, .field R.HEL.BUNDLES_RECOMPUTED.COUNT 0, true⟩,  -- bundles_recomputed
  ⟨0x4110, 0x05, .uint, 4, 0, 4294967295, 0x0F, .v, false, false, .field R.HEL.BANDS_OVERSPENT.COUNT 0, true⟩,  -- bands_overspent
  ⟨0x4110, 0x06, .uint, 4, 0, 4294967295, 0x0F, .v, false, false, .field R.HEL.RAYS_SUBST.COUNT 0, true⟩,  -- rays_subst
  ⟨0x5000, 0x01, .octets, 12, 0, 0, 0xFF, .p, false, false, .words [0x1000020, 0x1000024, 0x1000028], true⟩,  -- bg_colour
  ⟨0x5000, 0x02, .enum8, 1, 0, 2, 0xFF, .p, false, false, .field R.GAL.PIPE_CTRL.DITHER 0, true⟩,  -- dither_mode
  ⟨0x5000, 0x03, .uint, 2, 1, 16384, 0xFF, .p, false, false, .field R.GAL.PIPE_CTRL.GAIN_STEP 0, true⟩,  -- gain_step
  ⟨0x5000, 0x04, .uint, 4, 0, 4294967295, 0x7F, .p, false, false, .own D.layer_read_limit, true⟩,  -- layer_read_limit
  ⟨0x5000, 0x05, .bool, 1, 0, 1, 0xFF, .p, false, false, .field R.GAL.PIPE_CTRL.SUBST_MARK 0, true⟩,  -- subst_mark
  ⟨0x5000, 0x06, .octets, 12, 0, 0, 0xFF, .p, false, false, .words [0x100002c, 0x1000030, 0x1000034], true⟩,  -- subst_colour
  ⟨0x5030, 0x01, .octets, 36, 0, 0, 0xFF, .v, false, false, .words [0x1001000, 0x1001004, 0x1001008, 0x100100c, 0x1001010, 0x1001014, 0x1001018, 0x100101c, 0x1001020], true⟩,  -- matrix_a
  ⟨0x5030, 0x02, .octets, 36, 0, 0, 0xFF, .v, false, false, .words [0x1001040, 0x1001044, 0x1001048, 0x100104c, 0x1001050, 0x1001054, 0x1001058, 0x100105c, 0x1001060], true⟩,  -- matrix_b
  ⟨0x5030, 0x03, .table, 12, 641, 641, 0xFF, .v, false, false, .special, true⟩,  -- lut
  ⟨0x5030, 0x04, .table, 28, 64, 64, 0xFF, .v, false, false, .special, true⟩,  -- scaler_0
  ⟨0x5030, 0x05, .table, 28, 64, 64, 0xFF, .v, false, false, .special, true⟩,  -- scaler_1
  ⟨0x5030, 0x06, .table, 28, 64, 64, 0xFF, .v, false, false, .special, true⟩,  -- scaler_2
  ⟨0x5030, 0x07, .table, 28, 64, 64, 0xFF, .v, false, false, .special, true⟩,  -- scaler_3
  ⟨0x5031, 0x01, .table, 6, 0, 8160, 0xFF, .v, false, false, .special, true⟩,  -- uniformity_map
  ⟨0x5031, 0x02, .table, 6, 0, 8160, 0xFF, .v, false, false, .special, true⟩,  -- aging_map
  ⟨0x5040, 0x01, .octets, 16, 0, 0, 0xFF, .v, false, false, .words [0x1007000, 0x1007004, 0x1007008, 0x100700c], true⟩,  -- sig_region_0
  ⟨0x5040, 0x02, .octets, 16, 0, 0, 0xFF, .v, false, false, .words [0x1007020, 0x1007024, 0x1007028, 0x100702c], true⟩,  -- sig_region_1
  ⟨0x5040, 0x03, .octets, 16, 0, 0, 0xFF, .v, false, false, .words [0x1007040, 0x1007044, 0x1007048, 0x100704c], true⟩,  -- sig_region_2
  ⟨0x5040, 0x04, .octets, 16, 0, 0, 0xFF, .v, false, false, .words [0x1007060, 0x1007064, 0x1007068, 0x100706c], true⟩,  -- sig_region_3
  ⟨0x5040, 0x05, .octets, 16, 0, 0, 0xFF, .v, false, false, .words [0x1007080, 0x1007084, 0x1007088, 0x100708c], true⟩,  -- sig_region_4
  ⟨0x5040, 0x06, .octets, 16, 0, 0, 0xFF, .v, false, false, .words [0x10070a0, 0x10070a4, 0x10070a8, 0x10070ac], true⟩,  -- sig_region_5
  ⟨0x5040, 0x07, .octets, 16, 0, 0, 0xFF, .v, false, false, .words [0x10070c0, 0x10070c4, 0x10070c8, 0x10070cc], true⟩  -- sig_region_6
  ]

def dictRows5 : List DEntry := [
  ⟨0x5041, 0x01, .uint, 4, 0, 4294967295, 0x0F, .v, false, false, .field R.GAL.SIG_VALUE.VALUE 0, true⟩,  -- sig_value_0
  ⟨0x5041, 0x02, .uint, 4, 0, 4294967295, 0x0F, .v, false, false, .field R.GAL.SIG_VALUE.VALUE 1, true⟩,  -- sig_value_1
  ⟨0x5041, 0x03, .uint, 4, 0, 4294967295, 0x0F, .v, false, false, .field R.GAL.SIG_VALUE.VALUE 2, true⟩,  -- sig_value_2
  ⟨0x5041, 0x04, .uint, 4, 0, 4294967295, 0x0F, .v, false, false, .field R.GAL.SIG_VALUE.VALUE 3, true⟩,  -- sig_value_3
  ⟨0x5041, 0x05, .uint, 4, 0, 4294967295, 0x0F, .v, false, false, .field R.GAL.SIG_VALUE.VALUE 4, true⟩,  -- sig_value_4
  ⟨0x5041, 0x06, .uint, 4, 0, 4294967295, 0x0F, .v, false, false, .field R.GAL.SIG_VALUE.VALUE 5, true⟩,  -- sig_value_5
  ⟨0x5041, 0x07, .uint, 4, 0, 4294967295, 0x0F, .v, false, false, .field R.GAL.SIG_VALUE.VALUE 6, true⟩,  -- sig_value_6
  ⟨0x5041, 0x08, .uint, 4, 0, 4294967295, 0x0F, .v, false, false, .field R.GAL.SIG_VALUE.VALUE 7, true⟩,  -- sig_value_7
  ⟨0x5050, 0x01, .octets, 36, 0, 0, 0xFF, .v, false, false, .words [0x1007800, 0x1007804, 0x1007808, 0x100780c, 0x1007810, 0x1007814, 0x1007818, 0x100781c, 0x1007820], true⟩,  -- tap_config
  ⟨0x5050, 0x02, .uint, 1, 1, 16, 0x7F, .p, true, false, .own D.tap_tokens, true⟩,  -- tap_tokens
  ⟨0x5060, 0x01, .table, 12, 0, 8160, 0x0F, .v, false, false, .special, false⟩,  -- zone_sums
  ⟨0x5070, 0x01, .uint, 4, 0, 4294967295, 0x1F, .v, false, false, .words [0x1007c18], false⟩,  -- pl_status
  ⟨0x5100, 0x01, .bits32, 4, 0, 16777215, 0x7F, .p, true, false, .field R.SCAN.PANEL_CFG.ENTRIES 0, true⟩,  -- entries_configured
  ⟨0x5100, 0x02, .uint, 1, 0, 23, 0x0F, .v, false, false, .field R.SCAN.STATUS.ENTRY 0, false⟩,  -- entry_in_force
  ⟨0x5100, 0x03, .uint, 4, 0, 4294967295, 0x0F, .v, false, false, .words [0x1400000], false⟩,  -- scan_status
  ⟨0x5110, 0x01, .enum8, 1, 0, 3, 0x7F, .p, true, false, .field R.SCAN.POL_CTRL.MODE 0, true⟩,  -- polarity_mode
  ⟨0x5110, 0x02, .octets, 16, 0, 0, 0x7F, .p, true, false, .words [0x1400050, 0x1400054, 0x1400058, 0x140005c], true⟩,  -- drive_block
  ⟨0x5110, 0x03, .uint, 1, 1, 8, 0x7F, .p, true, false, .field R.SCAN.LP_CTRL.DIVIDE 0, true⟩,  -- low_power_divide
  ⟨0x5111, 0x01, .octets, 16, 0, 0, 0x7F, .p, true, false, .words [0x1400060, 0x1400064, 0x1400068, 0x140006c], true⟩,  -- flat_view_map
  ⟨0x5120, 0x01, .uint, 2, 0, 65535, 0xF0, .v, false, false, .own D.commit, false⟩,  -- commit
  ⟨0x5120, 0x02, .octets, 12, 0, 0, 0x0F, .v, false, false, .words [0x1000004, 0x1000008, 0x100000c], false⟩,  -- commit_status
  ⟨0x5120, 0x03, .uint, 4, 0, 4294967295, 0x0F, .f, false, false, .own D.commit_deadline, true⟩,  -- commit_deadline
  ⟨0x5130, 0x01, .enum8, 1, 0, 2, 0x7F, .p, false, false, .field R.SCAN.ECHO_CTRL.MODE 0, true⟩,  -- echo_mode
  ⟨0x5140, 0x01, .uint, 4, 0, 4294967295, 0x0F, .v, false, false, .field R.SCAN.FRAMES_ABORTED.COUNT 0, true⟩,  -- frames_aborted
  ⟨0x5140, 0x02, .uint, 4, 0, 4294967295, 0x0F, .v, false, false, .field R.SCAN.ECHO_LINES_CHECKED.COUNT 0, true⟩,  -- echo_lines_checked
  ⟨0x5140, 0x03, .uint, 4, 0, 4294967295, 0x0F, .v, false, false, .field R.SCAN.ECHO_MISMATCH.COUNT 0, true⟩,  -- echo_mismatch
  ⟨0x5140, 0x04, .uint, 4, 0, 4294967295, 0x0F, .v, false, false, .field R.SCAN.LINE0_CLAMPED.COUNT 0, true⟩,  -- line0_clamped
  ⟨0x6000, 0x01, .uint, 2, 100, 900, 0x7F, .p, false, false, .own D.eye_width_min, true⟩,  -- eye_width_min
  ⟨0x6000, 0x02, .uint, 2, 10, 200, 0x7F, .p, false, false, .own D.eye_height_min, true⟩,  -- eye_height_min
  ⟨0x6000, 0x03, .uint, 1, 1, 16, 0x7F, .p, true, false, .own D.retrain_tokens, true⟩  -- retrain_tokens
  ]

def dictRows6 : List DEntry := [
  ⟨0x6000, 0x04, .uint, 1, 1, 8, 0x7F, .p, false, false, .own D.train_retries, true⟩,  -- train_retries
  ⟨0x6000, 0x05, .bool, 1, 0, 1, 0x7F, .p, true, false, .own D.tap_tracking, true⟩,  -- tap_tracking
  ⟨0x6001, 0x01, .table, 8, 64, 64, 0x7F, .v, true, false, .special, false⟩,  -- lane_coeffs
  ⟨0x6001, 0x02, .table, 16, 64, 64, 0x0F, .v, false, false, .special, false⟩,  -- lane_state
  ⟨0x6001, 0x03, .uint, 1, 0, 63, 0x70, .v, false, false, .own D.lane_restore, false⟩,  -- lane_restore
  ⟨0x6002, 0x01, .uint, 4, 0, 4294967295, 0x0F, .v, false, false, .field R.VEIN.LANE_LOSSES.COUNT 0, true⟩,  -- lane_losses
  ⟨0x6002, 0x02, .uint, 4, 0, 4294967295, 0x0F, .v, false, false, .field R.VEIN.LANE_REJOINS.COUNT 0, true⟩,  -- lane_rejoins
  ⟨0x6002, 0x03, .uint, 4, 0, 4294967295, 0x0F, .v, false, false, .field R.VEIN.GEN_REVERTS.COUNT 0, true⟩,  -- gen_reverts
  ⟨0x6002, 0x04, .uint, 4, 0, 4294967295, 0x0F, .v, false, false, .field R.VEIN.BC_LINE_CRC.COUNT 0, true⟩,  -- bc_line_crc
  ⟨0x6100, 0x01, .bool, 1, 0, 1, 0x7F, .p, false, false, .field R.PASS.CTRL.ENABLE 0, true⟩,  -- fabric_enable
  ⟨0x6100, 0x02, .bool, 1, 0, 1, 0x7F, .p, false, false, .field R.PASS.CTRL.LEADER_ELIGIBLE 0, true⟩,  -- leader_eligible
  ⟨0x6100, 0x03, .bits32, 4, 0, 15, 0x7F, .p, false, false, .field R.PASS.CTRL.LINK_EN 0, true⟩,  -- link_enable
  ⟨0x6100, 0x04, .enum8, 1, 2, 3, 0x7F, .p, false, false, .special, true⟩,  -- link_gen
  ⟨0x6100, 0x05, .uint, 2, 0, 65535, 0x0F, .v, false, false, .special, false⟩,  -- node_address
  ⟨0x6100, 0x06, .octets, 16, 0, 0, 0x0F, .v, false, false, .words [0x1c00004, 0x1c00010, 0x1c00014, 0x1c00018], false⟩,  -- fabric_status
  ⟨0x6100, 0x07, .bool, 1, 1, 1, 0x70, .v, false, true, .own D.fabric_forget, false⟩,  -- fabric_forget
  ⟨0x6100, 0x08, .bool, 1, 0, 1, 0x7F, .p, false, false, .field R.PASS.CTRL.TIME_ELIGIBLE 0, true⟩,  -- time_eligible
  ⟨0x6110, 0x01, .octets, 80, 0, 0, 0x7F, .p, false, false, .own D.wall_geometry, true⟩,  -- wall_geometry
  ⟨0x6130, 0x01, .uint, 4, 0, 4294967295, 0x0F, .v, false, false, .field R.PASS.LINK_RETRIES.COUNT 0, true⟩,  -- link_retries
  ⟨0x6130, 0x02, .uint, 4, 0, 4294967295, 0x0F, .v, false, false, .field R.PASS.PKT_DROPPED.COUNT 0, true⟩,  -- pkt_dropped
  ⟨0x6130, 0x03, .uint, 4, 0, 4294967295, 0x0F, .v, false, false, .field R.PASS.TTL_EXPIRED.COUNT 0, true⟩,  -- ttl_expired
  ⟨0x6130, 0x04, .uint, 4, 0, 4294967295, 0x0F, .v, false, false, .field R.PASS.MCAST_SPLITS.COUNT 0, true⟩,  -- mcast_splits
  ⟨0x6130, 0x05, .uint, 4, 0, 4294967295, 0x0F, .v, false, false, .field R.PASS.LEADER_CHANGES.COUNT 0, true⟩,  -- leader_changes
  ⟨0x7000, 0x01, .bool, 1, 0, 1, 0x7F, .p, false, false, .field R.TIME.CTRL.PTP_EN 0, true⟩,  -- ptp_enable
  ⟨0x7000, 0x02, .uint, 1, 0, 127, 0x7F, .p, false, false, .field R.TIME.DOMAINS.DOMAIN_A 0, true⟩,  -- ptp_domain_a
  ⟨0x7000, 0x03, .uint, 1, 0, 255, 0x7F, .p, false, false, .field R.TIME.DOMAINS.DOMAIN_B 0, true⟩,  -- ptp_domain_b
  ⟨0x7000, 0x04, .enum8, 1, 0, 2, 0x7F, .p, false, false, .field R.TIME.CTRL.SELECT 0, true⟩,  -- domain_select
  ⟨0x7000, 0x05, .uint, 2, 100, 3000, 0x7F, .p, true, false, .field R.TIME.LIMITS.FREQ_LIMIT 0, true⟩,  -- freq_limit_ppb
  ⟨0x7000, 0x06, .uint, 2, 0, 65535, 0x7F, .p, false, false, .field R.TIME.LIMITS.SWITCH_MAX 0, true⟩,  -- switch_max
  ⟨0x7000, 0x07, .sint, 4, -2147483648, 2147483647, 0x7F, .p, false, false, .field R.TIME.RX_LAT.VALUE 0, true⟩  -- phy_rx_latency
  ]

def dictRows7 : List DEntry := [
  ⟨0x7000, 0x08, .sint, 4, -2147483648, 2147483647, 0x7F, .p, false, false, .field R.TIME.TX_LAT.VALUE 0, true⟩,  -- phy_tx_latency
  ⟨0x7000, 0x09, .sint, 4, -2147483648, 2147483647, 0x7F, .p, false, false, .field R.TIME.ASYM.VALUE 0, true⟩,  -- delay_asymmetry
  ⟨0x7000, 0x0A, .time64, 8, 0, 0, 0x0F, .v, false, false, .special, false⟩,  -- time_now
  ⟨0x7000, 0x0B, .octets, 16, 0, 0, 0x0F, .v, false, false, .words [0x100008, 0x100040, 0x100044, 0x100048], false⟩,  -- time_status
  ⟨0x7000, 0x0C, .sint, 2, -32768, 32767, 0x0F, .v, false, true, .own D.utc_offset, true⟩,  -- utc_offset
  ⟨0x7010, 0x01, .sint, 4, -999999999, 999999999, 0x7F, .p, false, false, .field R.TIME.PHASE.PHASE 0, true⟩,  -- tick_phase
  ⟨0x7020, 0x01, .octets, 16, 0, 0, 0x7F, .v, false, false, .words [0x100100, 0x100104, 0x100108, 0x10010c], true⟩,  -- trigger_0
  ⟨0x7020, 0x02, .octets, 16, 0, 0, 0x7F, .v, false, false, .words [0x100120, 0x100124, 0x100128, 0x10012c], true⟩,  -- trigger_1
  ⟨0x7020, 0x03, .octets, 16, 0, 0, 0x7F, .v, false, false, .words [0x100140, 0x100144, 0x100148, 0x10014c], true⟩,  -- trigger_2
  ⟨0x7020, 0x04, .octets, 16, 0, 0, 0x7F, .v, false, false, .words [0x100160, 0x100164, 0x100168, 0x10016c], true⟩,  -- trigger_3
  ⟨0x7020, 0x05, .octets, 16, 0, 0, 0x7F, .v, false, false, .words [0x100180, 0x100184, 0x100188, 0x10018c], true⟩,  -- trigger_4
  ⟨0x7020, 0x06, .octets, 16, 0, 0, 0x7F, .v, false, false, .words [0x1001a0, 0x1001a4, 0x1001a8, 0x1001ac], true⟩,  -- trigger_5
  ⟨0x7020, 0x07, .octets, 16, 0, 0, 0x7F, .v, false, false, .words [0x1001c0, 0x1001c4, 0x1001c8, 0x1001cc], true⟩,  -- trigger_6
  ⟨0x7020, 0x08, .octets, 16, 0, 0, 0x7F, .v, false, false, .words [0x1001e0, 0x1001e4, 0x1001e8, 0x1001ec], true⟩,  -- trigger_7
  ⟨0x7030, 0x01, .bool, 1, 0, 1, 0x7F, .p, false, false, .field R.TIME.LAUNCH.LEGACY 0, true⟩,  -- legacy_launch
  ⟨0x7030, 0x02, .uint, 1, 0, 3, 0x7F, .p, false, false, .field R.TIME.LAUNCH.DELAY 0, true⟩,  -- legacy_delay_frames
  ⟨0x8000, 0x01, .enum8, 1, 0, 1, 0x3F, .p, false, true, .own D.dram_type, true⟩,  -- dram_type
  ⟨0x8000, 0x02, .enum8, 1, 0, 3, 0x3F, .p, false, true, .own D.channel_density, true⟩,  -- channel_density
  ⟨0x8000, 0x03, .table, 4, 4, 4, 0x3F, .p, false, true, .special, true⟩,  -- setpoints
  ⟨0x8000, 0x04, .uint, 1, 0, 3, 0xFF, .v, false, false, .field R.DRAM.CTRL.SETPOINT 0, true⟩,  -- setpoint_request
  ⟨0x8000, 0x05, .uint, 1, 0, 255, 0x0F, .v, false, false, .field R.DRAM.STATUS.SP 0, false⟩,  -- setpoint_current
  ⟨0x8000, 0x06, .uint, 8, 0, 18446744073709551615, 0x0F, .v, false, false, .special, false⟩,  -- capacity
  ⟨0x8000, 0x07, .uint, 8, 0, 18446744073709551615, 0x0F, .v, false, false, .special, false⟩,  -- retire_safe
  ⟨0x8000, 0x08, .uint, 1, 0, 255, 0x0F, .v, false, false, .field R.DRAM.STATUS.SERVICEABLE 0, false⟩,  -- channels_serviceable
  ⟨0x8000, 0x09, .uint, 2, 0, 1023, 0x7F, .p, true, false, .field R.DRAM.PAGE.IDLE 0, true⟩,  -- page_idle
  ⟨0x8000, 0x0A, .uint, 1, 1, 48, 0x7F, .p, true, false, .own D.train_tokens, true⟩,  -- train_tokens
  ⟨0x8000, 0x0B, .uint, 4, 4000, 64000, 0x7F, .p, true, false, .own D.remap_rate, true⟩,  -- remap_rate
  ⟨0x8000, 0x0C, .uint, 1, 1, 96, 0x7F, .p, true, false, .own D.remap_tokens, true⟩,  -- remap_tokens
  ⟨0x8000, 0x0D, .uint, 1, 0, 3, 0x3F, .p, false, true, .own D.setpoint_boot, true⟩,  -- setpoint_boot
  ⟨0x8000, 0x0E, .uint, 1, 1, 16, 0x3F, .p, false, false, .own D.margin_min, true⟩  -- margin_min
  ]

def dictRows8 : List DEntry := [
  ⟨0x8000, 0x0F, .uint, 1, 0, 255, 0x30, .p, false, true, .own D.channel_restore, false⟩,  -- channel_restore
  ⟨0x8010, 0x01, .uint, 4, 0, 119000, 0x7F, .p, true, false, .field R.DRAM.QUOTA0.MBPS 0, true⟩,  -- quota_host
  ⟨0x8010, 0x02, .uint, 4, 0, 119000, 0x7F, .p, true, false, .field R.DRAM.QUOTA1.MBPS 0, true⟩,  -- quota_dma
  ⟨0x8010, 0x03, .uint, 4, 0, 119000, 0x7F, .p, true, false, .field R.DRAM.QUOTA2.MBPS 0, true⟩,  -- quota_blit
  ⟨0x8010, 0x04, .uint, 4, 0, 119000, 0x7F, .p, true, false, .field R.DRAM.QUOTA3.MBPS 0, true⟩,  -- quota_crc
  ⟨0x8010, 0x05, .uint, 4, 0, 119000, 0x7F, .p, true, false, .field R.DRAM.QUOTA4.MBPS 0, true⟩,  -- quota_defl
  ⟨0x8010, 0x06, .uint, 4, 0, 119000, 0x7F, .p, true, false, .field R.DRAM.QUOTA5.MBPS 0, true⟩,  -- quota_fw
  ⟨0x8010, 0x07, .uint, 4, 0, 119000, 0x7F, .p, true, false, .field R.DRAM.QUOTA6.MBPS 0, true⟩,  -- quota_scrub
  ⟨0x8010, 0x08, .uint, 4, 0, 119000, 0x7F, .p, true, false, .field R.DRAM.QUOTA7.MBPS 0, true⟩,  -- quota_tap
  ⟨0x8020, 0x01, .uint, 2, 256, 16384, 0x3F, .p, true, false, .field R.DRAM.RH.THRESHOLD 0, true⟩,  -- rh_threshold
  ⟨0x8020, 0x02, .enum8, 1, 0, 2, 0x3F, .p, true, false, .field R.DRAM.RH.MODE 0, true⟩,  -- rh_mode
  ⟨0x8030, 0x01, .uint, 4, 0, 4294967295, 0x0F, .v, false, false, .field R.DRAM.ECC_CORRECTED.COUNT 0, true⟩,  -- ecc_corrected
  ⟨0x8030, 0x02, .uint, 4, 0, 4294967295, 0x0F, .v, false, false, .field R.DRAM.ECC_UNCORRECTED.COUNT 0, true⟩,  -- ecc_uncorrected
  ⟨0x8030, 0x03, .uint, 4, 0, 4294967295, 0x0F, .v, false, false, .field R.DRAM.RH_REFRESHES.COUNT 0, true⟩,  -- rh_refreshes
  ⟨0x8030, 0x04, .uint, 4, 0, 4294967295, 0x0F, .v, false, false, .field R.DRAM.TRAIN_RUNS.COUNT 0, true⟩,  -- train_runs
  ⟨0x8030, 0x05, .uint, 4, 0, 4294967295, 0x0F, .v, false, false, .field R.DRAM.FREQ_REVERTS.COUNT 0, true⟩,  -- freq_reverts
  ⟨0x8030, 0x06, .uint, 4, 0, 4294967295, 0x0F, .v, false, false, .field R.DRAM.POISON_READS.COUNT 0, true⟩,  -- poison_reads
  ⟨0x8100, 0x01, .uint, 1, 8, 48, 0x7F, .p, true, false, .field R.GROT.PART.GALLERY_MIB 0, true⟩,  -- grotto_gallery_mib
  ⟨0x8100, 0x02, .uint, 1, 0, 64, 0x0F, .v, false, false, .field R.GROT.STATUS.BANKS_ACTIVE 0, false⟩,  -- grotto_banks_active
  ⟨0x8100, 0x03, .uint, 4, 0, 4294967295, 0x0F, .v, false, false, .field R.GROT.WINDOW.SLOTS 0, false⟩,  -- band_window_slots
  ⟨0x8100, 0x04, .uint, 4, 0, 4294967295, 0x0F, .v, false, false, .field R.GROT.TEXEL_AREA.SLOTS 0, false⟩,  -- texel_area_slots
  ⟨0x8110, 0x01, .uint, 4, 0, 4294967295, 0x0F, .v, false, false, .field R.GROT.ECC_CORR.COUNT 0, true⟩,  -- grotto_ecc_corrected
  ⟨0x8110, 0x02, .uint, 4, 0, 4294967295, 0x0F, .v, false, false, .field R.GROT.ECC_UNCORR.COUNT 0, true⟩,  -- grotto_ecc_uncorrected
  ⟨0x8200, 0x01, .uint, 8, 0, 18446744073709551615, 0x7F, .p, false, false, .mib R.GROT.PLAN_BASE_LO.BASE_LO R.GROT.PLAN_BASE_HI.BASE_HI, true⟩,  -- plan_base
  ⟨0x8200, 0x02, .uint, 8, 167772160, 671088640, 0x7F, .p, false, false, .mib1 R.GROT.PLAN_SIZE.SIZE_MIB, true⟩,  -- plan_bytes
  ⟨0x9000, 0x01, .bool, 1, 0, 1, 0x7F, .p, false, false, .field R.CAL.CTRL.ENABLE 0, true⟩,  -- cal_enable
  ⟨0x9000, 0x02, .uint, 1, 1, 48, 0x7F, .p, true, false, .own D.cal_tokens, true⟩,  -- cal_tokens
  ⟨0x9000, 0x03, .bits32, 4, 0, 63, 0x7F, .p, false, true, .own D.track_mask, true⟩,  -- track_mask
  ⟨0x9000, 0x04, .uint, 2, 1, 3600, 0x7F, .p, false, true, .own D.track_interval, true⟩,  -- track_interval
  ⟨0x9000, 0x05, .bits32, 4, 0, 63, 0xF0, .v, false, true, .own D.cal_run, false⟩  -- cal_run
  ]

def dictRows9 : List DEntry := [
  ⟨0x9000, 0x06, .octets, 16, 0, 0, 0x7F, .p, false, true, .own D.panel_id, true⟩,  -- panel_id
  ⟨0x9000, 0x07, .octets, 16, 0, 0, 0x0F, .v, false, false, .words [0x2900004, 0x2900010, 0x2900014, 0x2900020], false⟩,  -- cal_status
  ⟨0x9010, 0x05, .octets, 8, 0, 0, 0x7F, .v, false, true, .own D.optics_quality, true⟩,  -- optics_quality
  ⟨0x9020, 0x01, .uint, 4, 0, 65536, 0xFF, .v, false, false, .field R.CAL.BLEND.TARGET 0, true⟩,  -- blend_target
  ⟨0x9020, 0x02, .uint, 2, 1, 65535, 0x7F, .p, false, false, .field R.CAL.BLEND_STEP.STEP 0, true⟩,  -- blend_step
  ⟨0x9030, 0x01, .bool, 1, 0, 1, 0x7F, .p, false, true, .own D.aging_auto, true⟩,  -- aging_auto
  ⟨0x9030, 0x02, .table, 10, 33, 33, 0x7F, .p, false, true, .special, true⟩,  -- aging_curve
  ⟨0x9030, 0x03, .table, 18, 0, 8160, 0x0F, .v, false, true, .special, false⟩,  -- dose_map
  ⟨0x9030, 0x04, .bool, 1, 1, 1, 0x70, .v, false, true, .own D.dose_reset, false⟩,  -- dose_reset
  ⟨0x9040, 0x01, .table, 256, 32, 32, 0x7F, .v, false, true, .special, false⟩,  -- dram_training
  ⟨0x9040, 0x02, .table, 2, 48, 48, 0x1F, .f, false, false, .special, false⟩,  -- sensor_offset_factory
  ⟨0x9040, 0x03, .sint, 2, -32768, 32767, 0x7F, .v, false, false, .field R.CAL.OSC.TRIM 0, true⟩,  -- osc_trim
  ⟨0x9040, 0x04, .table, 4, 48, 48, 0x7F, .v, false, false, .special, false⟩,  -- sensor_trim
  ⟨0x9100, 0x01, .octets, 16, 0, 0, 0x70, .v, false, true, .own D.vcp_export, false⟩,  -- vcp_export
  ⟨0x9100, 0x02, .octets, 16, 0, 0, 0x70, .v, false, true, .own D.vcp_store, false⟩,  -- vcp_store
  ⟨0x9100, 0x03, .octets, 16, 0, 0, 0x70, .v, false, true, .own D.vcp_restore, false⟩,  -- vcp_restore
  ⟨0x9100, 0x04, .uint, 4, 0, 4294967295, 0x0F, .v, false, false, .words [0x2900020], false⟩,  -- vcp_status
  ⟨0x9100, 0x05, .bool, 1, 0, 1, 0x7F, .p, false, true, .own D.vcp_autorestore, true⟩,  -- vcp_autorestore
  ⟨0xA000, 0x01, .octets, 8, 0, 0, 0x0F, .v, false, false, .words [0x2a00008, 0x2a00084], false⟩,  -- health_status
  ⟨0xA010, 0x01, .octets, 8, 0, 0, 0x3F, .p, true, false, .own D.bucket_kind_0, true⟩,  -- bucket_kind_1
  ⟨0xA010, 0x02, .octets, 8, 0, 0, 0x3F, .p, true, false, .own D.bucket_kind_1, true⟩,  -- bucket_kind_2
  ⟨0xA010, 0x03, .octets, 8, 0, 0, 0x3F, .p, true, false, .own D.bucket_kind_2, true⟩,  -- bucket_kind_3
  ⟨0xA010, 0x04, .octets, 8, 0, 0, 0x3F, .p, true, false, .own D.bucket_kind_3, true⟩,  -- bucket_kind_4
  ⟨0xA010, 0x05, .octets, 8, 0, 0, 0x3F, .p, true, false, .own D.bucket_kind_4, true⟩,  -- bucket_kind_5
  ⟨0xA010, 0x06, .octets, 8, 0, 0, 0x3F, .p, true, false, .own D.bucket_kind_5, true⟩,  -- bucket_kind_6
  ⟨0xA010, 0x07, .octets, 8, 0, 0, 0x3F, .p, true, false, .own D.bucket_kind_6, true⟩,  -- bucket_kind_7
  ⟨0xA010, 0x08, .octets, 8, 0, 0, 0x3F, .p, true, false, .own D.bucket_kind_7, true⟩,  -- bucket_kind_8
  ⟨0xA010, 0x09, .octets, 8, 0, 0, 0x3F, .p, true, false, .own D.bucket_kind_8, true⟩,  -- bucket_kind_9
  ⟨0xA010, 0x0A, .octets, 8, 0, 0, 0x3F, .p, true, false, .own D.bucket_kind_9, true⟩,  -- bucket_kind_10
  ⟨0xA010, 0x0B, .octets, 8, 0, 0, 0x3F, .p, true, false, .own D.bucket_kind_10, true⟩  -- bucket_kind_11
  ]

def dictRows10 : List DEntry := [
  ⟨0xA010, 0x0C, .octets, 8, 0, 0, 0x3F, .p, true, false, .own D.bucket_kind_11, true⟩,  -- bucket_kind_12
  ⟨0xA010, 0x0D, .octets, 8, 0, 0, 0x3F, .p, true, false, .own D.bucket_kind_12, true⟩,  -- bucket_kind_13
  ⟨0xA011, 0x01, .table, 8, 1294, 1294, 0x0F, .v, false, false, .special, false⟩,  -- bucket_table
  ⟨0xA020, 0x01, .uint, 4, 0, 4294967295, 0x70, .v, false, true, .own D.unit_restore, false⟩,  -- unit_restore
  ⟨0xA100, 0x01, .table, 4, 64, 64, 0x7F, .p, true, false, .special, true⟩,  -- health_counter_sel
  ⟨0xA200, 0x01, .uint, 2, 1, 3600, 0x3F, .p, false, false, .own D.sump_coalesce_s, true⟩,  -- sump_coalesce_s
  ⟨0xA200, 0x02, .uint, 2, 0, 3600, 0x3F, .p, false, false, .own D.sump_persist_rate, true⟩,  -- sump_persist_rate
  ⟨0xA200, 0x03, .table, 32, 4096, 4096, 0x0F, .v, false, false, .special, false⟩,  -- sump_ledger
  ⟨0xA300, 0x01, .uint, 4, 1, 31536000, 0x3F, .p, false, false, .own D.drip_period_dram, true⟩,  -- drip_period_dram
  ⟨0xA300, 0x02, .uint, 4, 1, 31536000, 0x3F, .p, false, false, .own D.drip_period_grotto, true⟩,  -- drip_period_grotto
  ⟨0xA300, 0x03, .uint, 4, 1, 31536000, 0x3F, .p, false, false, .own D.drip_period_nor, true⟩,  -- drip_period_nor
  ⟨0xA300, 0x04, .uint, 1, 1, 48, 0x3F, .p, true, false, .own D.scrub_tokens, true⟩,  -- scrub_tokens
  ⟨0xA300, 0x05, .bits32, 4, 0, 7, 0x3F, .p, false, false, .own D.drip_targets, true⟩,  -- drip_targets
  ⟨0xA310, 0x01, .uint, 4, 0, 4294967295, 0x0F, .v, false, false, .field R.HLTH.DRIP_CNT.COUNT 0, true⟩,  -- drip_dram_corrected
  ⟨0xA310, 0x02, .uint, 4, 0, 4294967295, 0x0F, .v, false, false, .field R.HLTH.DRIP_CNT.COUNT 1, true⟩,  -- drip_dram_uncorrected
  ⟨0xA310, 0x03, .uint, 4, 0, 4294967295, 0x0F, .v, false, false, .field R.HLTH.DRIP_CNT.COUNT 2, true⟩,  -- drip_grotto_corrected
  ⟨0xA310, 0x04, .uint, 4, 0, 4294967295, 0x0F, .v, false, false, .field R.HLTH.DRIP_CNT.COUNT 3, true⟩,  -- drip_grotto_uncorrected
  ⟨0xA310, 0x05, .uint, 4, 0, 4294967295, 0x0F, .v, false, false, .field R.HLTH.DRIP_CNT.COUNT 4, true⟩,  -- drip_nor_mismatch
  ⟨0xA310, 0x06, .uint, 4, 0, 4294967295, 0x0F, .v, false, false, .field R.HLTH.DRIP_CNT.COUNT 5, true⟩,  -- drip_passes
  ⟨0xA310, 0x07, .uint, 4, 0, 4294967295, 0x0F, .v, false, false, .field R.HLTH.DRIP_CNT.COUNT 6, true⟩,  -- drip_late
  ⟨0xA400, 0x01, .table, 24, 32, 32, 0x7F, .v, true, false, .special, true⟩,  -- perf_config
  ⟨0xA500, 0x01, .octets, 16, 0, 0, 0x7F, .p, false, false, .special, true⟩,  -- telemetry_ring
  ⟨0xB000, 0x01, .octets, 16, 0, 0, 0x0F, .v, false, false, .words [0x2e00020, 0x2e00024, 0x2e00028, 0x2e00030], false⟩,  -- sec_state
  ⟨0xB000, 0x02, .octets, 16, 0, 0, 0x70, .v, false, true, .own D.image_install, false⟩,  -- image_install
  ⟨0xB000, 0x03, .octets, 4, 0, 0, 0x70, .v, false, true, .own D.fw_switch, false⟩,  -- fw_switch
  ⟨0xB000, 0x04, .bool, 1, 1, 1, 0x70, .v, false, true, .own D.trial_commit, false⟩,  -- trial_commit
  ⟨0xB000, 0x05, .uint, 4, 10, 86400, 0x7F, .p, false, true, .own D.trial_period, true⟩,  -- trial_period
  ⟨0xB000, 0x06, .uint, 1, 1, 2, 0x30, .v, false, true, .own D.rollback_advance, false⟩,  -- rollback_advance
  ⟨0xB001, 0x01, .uint, 8, 0, 18446744073709551615, 0x30, .v, false, true, .own D.key_enrol, false⟩,  -- key_enrol
  ⟨0xB001, 0x02, .uint, 1, 0, 5, 0x30, .v, false, true, .own D.key_revoke, false⟩  -- key_revoke
  ]

def dictRows11 : List DEntry := [
  ⟨0xB001, 0x03, .bool, 1, 1, 1, 0x30, .v, false, true, .own D.enrol_lock, false⟩,  -- enrol_lock
  ⟨0xB001, 0x04, .table, 52, 6, 6, 0x0F, .f, false, false, .special, false⟩,  -- key_table
  ⟨0xB010, 0x01, .octets, 32, 0, 0, 0x0F, .v, false, false, .own D.release_challenge, false⟩,  -- release_challenge
  ⟨0xB010, 0x02, .octets, 104, 0, 0, 0xC0, .v, false, false, .own D.release_token, false⟩,  -- release_token
  ⟨0xB020, 0x01, .uint, 2, 0, 65535, 0x70, .v, true, false, .own D.spare_swap, false⟩,  -- spare_swap
  ⟨0xB030, 0x01, .table, 16, 64, 64, 0x0F, .v, false, false, .special, false⟩,  -- firewall_log
  ⟨0xB030, 0x02, .uint, 4, 0, 4294967295, 0x0F, .v, false, false, .field R.SEC.FWALL_COUNT.COUNT 0, true⟩,  -- firewall_events
  ⟨0xB040, 0x01, .uint, 1, 0, 255, 0x1F, .p, false, false, .own D.sig7_fail_frames, true⟩,  -- sig7_fail_frames
  ⟨0xB100, 0x01, .octets, 16, 0, 0, 0x0F, .v, false, false, .words [0x2d00004, 0x2d00030, 0x2d00034, 0x2d00040], false⟩,  -- vault_status
  ⟨0xB100, 0x02, .uint, 8, 0, 18446744073709551615, 0x0F, .v, false, false, .words [0x2d00048, 0x2d0004c], false⟩,  -- operating_s
  ⟨0xB100, 0x03, .uint, 8, 0, 18446744073709551615, 0x0F, .v, false, false, .words [0x2d00050, 0x2d00054], false⟩,  -- panel_on_s
  ⟨0xB100, 0x04, .uint, 4, 0, 4294967295, 0x0F, .v, false, true, .own D.power_cycles, false⟩,  -- power_cycles
  ⟨0xB100, 0x05, .octets, 8, 0, 0, 0x0F, .v, false, false, .words [0x2d00038, 0x2d0003c], false⟩,  -- journal_wear
  ⟨0xB100, 0x06, .bool, 1, 1, 1, 0x30, .v, false, false, .own D.vault_compact, false⟩,  -- vault_compact
  ⟨0xB110, 0x01, .uint, 4, 0, 4294967295, 0x0F, .v, false, false, .field R.VAULT.CNT.COUNT 0, true⟩,  -- records_committed
  ⟨0xB110, 0x02, .uint, 4, 0, 4294967295, 0x0F, .v, false, false, .field R.VAULT.CNT.COUNT 1, true⟩,  -- records_bad
  ⟨0xB110, 0x03, .uint, 4, 0, 4294967295, 0x0F, .v, false, false, .field R.VAULT.CNT.COUNT 2, true⟩,  -- records_dropped
  ⟨0xB110, 0x04, .uint, 4, 0, 4294967295, 0x0F, .v, false, false, .field R.VAULT.CNT.COUNT 3, true⟩,  -- erase_retries
  ⟨0xB110, 0x05, .uint, 4, 0, 4294967295, 0x0F, .v, false, false, .field R.VAULT.CNT.COUNT 4, true⟩,  -- sectors_retired
  ⟨0xB110, 0x06, .uint, 4, 0, 4294967295, 0x0F, .v, false, false, .field R.VAULT.CNT.COUNT 5, true⟩,  -- program_retries
  ⟨0xB200, 0x01, .octets, 32, 0, 0, 0x50, .p, false, false, .own D.net_psk_0, true⟩,  -- net_psk_0
  ⟨0xB200, 0x02, .octets, 32, 0, 0, 0x50, .p, false, false, .own D.net_psk_1, true⟩,  -- net_psk_1
  ⟨0xB200, 0x03, .octets, 32, 0, 0, 0x50, .p, false, false, .own D.net_psk_2, true⟩,  -- net_psk_2
  ⟨0xB200, 0x04, .octets, 32, 0, 0, 0x50, .p, false, false, .own D.net_psk_3, true⟩,  -- net_psk_3
  ⟨0xC000, 0x01, .uint, 8, 0, 18446744073709551615, 0x7F, .v, false, false, .pair R.LANT.RTC_SEC_LO.SEC R.LANT.RTC_SEC_HI.SEC, false⟩,  -- rtc_seconds
  ⟨0xC000, 0x02, .uint, 8, 0, 18446744073709551615, 0x7F, .v, false, false, .pair R.LANT.ALARM_LO.SEC R.LANT.ALARM_HI.SEC, false⟩,  -- rtc_alarm
  ⟨0xC000, 0x03, .bits32, 4, 0, 7, 0x7F, .p, false, false, .flags [R.LANT.WAKE.PIN_EN, R.LANT.WAKE.ALARM_EN, R.LANT.WAKE.SUPPLY_EN], true⟩,  -- wake_enable
  ⟨0xC000, 0x04, .uint, 4, 0, 4294967295, 0x3F, .p, false, false, .words [0x2c00014], true⟩,  -- power_ctrl
  ⟨0xC000, 0x05, .octets, 8, 0, 0, 0x0F, .v, false, false, .words [0x2c00000, 0x2c00010], false⟩,  -- lantern_status
  ⟨0xC010, 0x01, .table, 0, 1, 300, 0x7F, .v, false, false, .special, false⟩  -- label_target
  ]

def dictRows12 : List DEntry := [
  ⟨0xC010, 0x02, .enum8, 1, 0, 2, 0xF0, .v, false, false, .own D.label_update, false⟩,  -- label_update
  ⟨0xC010, 0x03, .uint, 4, 0, 4294967295, 0x3F, .p, false, false, .own D.label_geometry, true⟩,  -- label_geometry
  ⟨0xC010, 0x04, .table, 0, 1, 300, 0x0F, .v, false, false, .special, false⟩,  -- label_current
  ⟨0xC010, 0x05, .octets, 8, 0, 0, 0x7F, .p, false, false, .own D.band_edges, true⟩,  -- band_edges
  ⟨0xC010, 0x06, .enum8, 1, 0, 1, 0x7F, .p, false, false, .own D.label_temp_source, true⟩,  -- label_temp_source
  ⟨0xC010, 0x07, .sint, 2, -32768, 32767, 0xFF, .v, false, false, .own D.label_temp_written, true⟩,  -- label_temp_written
  ⟨0xC010, 0x08, .uint, 4, 0, 4294967295, 0x0F, .v, false, false, .words [0x2c00044], false⟩,  -- label_status
  ⟨0xC020, 0x01, .table, 4, 1, 64, 0x7F, .p, false, false, .special, true⟩,  -- waveform_0
  ⟨0xC020, 0x02, .table, 4, 1, 64, 0x7F, .p, false, false, .special, true⟩,  -- waveform_1
  ⟨0xC020, 0x03, .table, 4, 1, 64, 0x7F, .p, false, false, .special, true⟩,  -- waveform_2
  ⟨0xC020, 0x04, .table, 4, 1, 64, 0x7F, .p, false, false, .special, true⟩,  -- waveform_3
  ⟨0xC020, 0x05, .table, 4, 1, 64, 0x7F, .p, false, false, .special, true⟩,  -- waveform_4
  ⟨0xC020, 0x06, .table, 4, 1, 64, 0x7F, .p, false, false, .special, true⟩,  -- waveform_5
  ⟨0xC020, 0x07, .table, 4, 1, 64, 0x7F, .p, false, false, .special, true⟩,  -- waveform_6
  ⟨0xC020, 0x08, .table, 4, 1, 64, 0x7F, .p, false, false, .special, true⟩,  -- waveform_7
  ⟨0xC030, 0x01, .octets, 256, 0, 0, 0x7F, .p, true, false, .words [0x2c00100, 0x2c00104, 0x2c00108, 0x2c0010c, 0x2c00110, 0x2c00114, 0x2c00118, 0x2c0011c, 0x2c00120, 0x2c00124, 0x2c00128, 0x2c0012c, 0x2c00130, 0x2c00134, 0x2c00138, 0x2c0013c, 0x2c00140, 0x2c00144, 0x2c00148, 0x2c0014c, 0x2c00150, 0x2c00154, 0x2c00158, 0x2c0015c, 0x2c00160, 0x2c00164, 0x2c00168, 0x2c0016c, 0x2c00170, 0x2c00174, 0x2c00178, 0x2c0017c, 0x2c00180, 0x2c00184, 0x2c00188, 0x2c0018c, 0x2c00190, 0x2c00194, 0x2c00198, 0x2c0019c, 0x2c001a0, 0x2c001a4, 0x2c001a8, 0x2c001ac, 0x2c001b0, 0x2c001b4, 0x2c001b8, 0x2c001bc, 0x2c001c0, 0x2c001c4, 0x2c001c8, 0x2c001cc, 0x2c001d0, 0x2c001d4, 0x2c001d8, 0x2c001dc, 0x2c001e0, 0x2c001e4, 0x2c001e8, 0x2c001ec, 0x2c001f0, 0x2c001f4, 0x2c001f8, 0x2c001fc], true⟩,  -- beacon
  ⟨0xC030, 0x02, .uint, 8, 0, 18446744073709551615, 0x7F, .p, true, false, .words [0x2c00088, 0x2c0008c], true⟩,  -- glow_base
  ⟨0xC030, 0x03, .octets, 8, 0, 0, 0x7F, .p, true, false, .words [0x2c00080, 0x2c00084], true⟩,  -- glow_rect
  ⟨0xC030, 0x04, .octets, 32, 0, 0, 0x7F, .p, true, false, .words [0x2c000a0, 0x2c000a4, 0x2c000a8, 0x2c000ac, 0x2c000b0, 0x2c000b4, 0x2c000b8, 0x2c000bc], true⟩,  -- glow_palette
  ⟨0xD000, 0x01, .uint, 4, 1, 16777216, 0x3F, .p, false, false, .own D.dma_chain_limit, true⟩,  -- dma_chain_limit
  ⟨0xD000, 0x02, .uint, 1, 1, 16, 0x3F, .p, true, false, .own D.dma_tokens, true⟩,  -- dma_tokens
  ⟨0xD000, 0x03, .uint, 2, 0, 65535, 0x1F, .p, false, false, .field R.DMA.OWNER.HOST 0, true⟩,  -- dma_owner
  ⟨0xD001, 0x01, .uint, 4, 0, 4294967295, 0x0F, .v, false, false, .field R.DMA.RUNS_DONE.COUNT 0, true⟩,  -- dma_runs_done
  ⟨0xD001, 0x02, .uint, 4, 0, 4294967295, 0x0F, .v, false, false, .field R.DMA.RUNS_ABORTED.COUNT 0, true⟩,  -- dma_runs_aborted
  ⟨0xD001, 0x03, .uint, 4, 0, 4294967295, 0x0F, .v, false, false, .field R.DMA.BUS_TIMEOUTS.COUNT 0, true⟩,  -- dma_bus_timeouts
  ⟨0xD100, 0x01, .uint, 1, 1, 32, 0x7F, .p, true, false, .own D.blit_tokens, true⟩,  -- blit_tokens
  ⟨0xD100, 0x02, .uint, 4, 0, 4294967295, 0x7F, .p, false, false, .words [0x2600070], true⟩,  -- blit_pace
  ⟨0xD101, 0x01, .octets, 96, 0, 0, 0x70, .v, false, false, .words [0x2600010, 0x2600014, 0x2600018, 0x260001c, 0x2600020, 0x2600024, 0x2600028, 0x260002c, 0x2600030, 0x2600034, 0x2600038, 0x260003c, 0x2600040, 0x2600044, 0x2600048, 0x260004c, 0x2600050, 0x2600054, 0x2600058, 0x260005c, 0x2600060, 0x2600064, 0x2600068, 0x260006c], false⟩,  -- blit_job
  ⟨0xD101, 0x02, .uint, 4, 0, 4294967295, 0x0F, .v, false, false, .words [0x2600004], false⟩,  -- blit_status
  ⟨0xD102, 0x01, .uint, 4, 0, 4294967295, 0x0F, .v, false, false, .field R.BLIT.JOBS_DONE.COUNT 0, true⟩  -- blit_done
  ]

def dictRows13 : List DEntry := [
  ⟨0xD102, 0x02, .uint, 4, 0, 4294967295, 0x0F, .v, false, false, .field R.BLIT.JOBS_ABORTED.COUNT 0, true⟩,  -- blit_aborted
  ⟨0xD102, 0x03, .uint, 4, 0, 4294967295, 0x0F, .v, false, false, .field R.BLIT.GOS_REFUSED.COUNT 0, true⟩,  -- blit_refused
  ⟨0xD200, 0x01, .uint, 1, 1, 16, 0x7F, .p, true, false, .own D.crc_tokens, true⟩,  -- crc_tokens
  ⟨0xD201, 0x01, .octets, 28, 0, 0, 0x7F, .v, false, false, .words [0x2701000, 0x2701010, 0x2701014, 0x2701020, 0x2701024, 0x2701028, 0x270102c], false⟩,  -- crc_unit_0
  ⟨0xD201, 0x02, .octets, 28, 0, 0, 0x7F, .v, false, false, .words [0x2701100, 0x2701110, 0x2701114, 0x2701120, 0x2701124, 0x2701128, 0x270112c], false⟩,  -- crc_unit_1
  ⟨0xD201, 0x03, .octets, 28, 0, 0, 0x7F, .v, false, false, .words [0x2701200, 0x2701210, 0x2701214, 0x2701220, 0x2701224, 0x2701228, 0x270122c], false⟩,  -- crc_unit_2
  ⟨0xD201, 0x04, .octets, 28, 0, 0, 0x7F, .v, false, false, .words [0x2701300, 0x2701310, 0x2701314, 0x2701320, 0x2701324, 0x2701328, 0x270132c], false⟩,  -- crc_unit_3
  ⟨0xD201, 0x05, .octets, 12, 0, 0, 0x0F, .v, false, false, .words [0x2701004, 0x2701018, 0x270101c], false⟩,  -- crc_result_0
  ⟨0xD201, 0x06, .octets, 12, 0, 0, 0x0F, .v, false, false, .words [0x2701104, 0x2701118, 0x270111c], false⟩,  -- crc_result_1
  ⟨0xD201, 0x07, .octets, 12, 0, 0, 0x0F, .v, false, false, .words [0x2701204, 0x2701218, 0x270121c], false⟩,  -- crc_result_2
  ⟨0xD201, 0x08, .octets, 12, 0, 0, 0x0F, .v, false, false, .words [0x2701304, 0x2701318, 0x270131c], false⟩,  -- crc_result_3
  ⟨0xD300, 0x01, .uint, 1, 1, 48, 0x7F, .p, true, false, .own D.deflate_tokens, true⟩,  -- deflate_tokens
  ⟨0xD301, 0x01, .octets, 36, 0, 0, 0x70, .v, false, false, .words [0x2800010, 0x2800014, 0x2800018, 0x280001c, 0x2800020, 0x2800024, 0x2800028, 0x280002c, 0x2800030], false⟩,  -- deflate_job
  ⟨0xD301, 0x02, .octets, 20, 0, 0, 0x0F, .v, false, false, .words [0x2800004, 0x2800040, 0x2800044, 0x2800048, 0x280004c], false⟩,  -- deflate_result
  ⟨0xD302, 0x01, .uint, 4, 0, 4294967295, 0x0F, .v, false, false, .field R.DEFL.JOBS_DONE.COUNT 0, true⟩,  -- deflate_done
  ⟨0xD302, 0x02, .uint, 4, 0, 4294967295, 0x0F, .v, false, false, .field R.DEFL.JOBS_ABORTED.COUNT 0, true⟩,  -- deflate_aborted
  ⟨0xD302, 0x03, .uint, 4, 0, 4294967295, 0x0F, .v, false, false, .field R.DEFL.GOS_REFUSED.COUNT 0, true⟩  -- deflate_refused
  ]

/-- Layer k's entries 0x5010+k:01 to :09 (R293). -/
def layerEntries (k : Nat) : List DEntry :=
  let b := 0x1010000 + 0x1000 * k
  let e (sb : Nat) (ty : DTy) (sz : Nat) (hi : Int) (h : Home) : DEntry := ⟨0x5010 + k, sb, ty, sz, 0, hi, 0xFF, .v, false, false, h, true⟩
  [ e 1 .uint 4 4294967295 (.words [b]), e 2 .uint 8 18446744073709551615 (.words [b + 4, b + 8]),
    e 3 .uint 4 4294967295 (.words [b + 0xC]), e 4 .octets 8 0 (.words [b + 0x10, b + 0x14]),
    e 5 .octets 8 0 (.words [b + 0x18, b + 0x1C]),
    e 6 .octets 20 0 (.words [b + 0x20, b + 0x24, b + 0x28, b + 0x2C, b + 0x30]),
    e 7 .uint 2 65535 (.words [b + 0x34]), e 8 .octets 12 0 (.words [b + 0x38, b + 0x3C, b + 0x40]),
    ⟨0x5010 + k, 9, .table, 8, 256, 256, 0xFF, .v, false, false, .special, true⟩ ]

/-- Counter snapshots 0xA101:01 to :40 and 0xA401:01 to :20 (R725). -/
def snapEntries : List DEntry :=
  (List.range 64).map (fun k => ⟨0xA101, k + 1, .uint, 4, 0, 4294967295, 0x0F, .v, false, false, .field R.HLTH.CNT_SNAP.COUNT k, true⟩)
def perfSnapEntries : List DEntry :=
  (List.range 32).map (fun k => ⟨0xA401, k + 1, .uint, 8, 0, 18446744073709551615, 0x0F, .v, false, false,
    .words [0x2B01020 + 0x40 * k, 0x2B01024 + 0x40 * k], true⟩)

/-- The entries of the device, by index then subindex. -/
def dictTable : List DEntry :=
  dictRows0 ++ dictRows1 ++ dictRows2 ++ dictRows3 ++ dictRows4 ++ dictRows5 ++ dictRows6 ++ dictRows7 ++ dictRows8 ++ dictRows9 ++ dictRows10 ++ dictRows11 ++ dictRows12 ++ dictRows13 ++
  (List.range 14).foldr (fun k acc => layerEntries k ++ acc) [] ++ snapEntries ++ perfSnapEntries

end Sys2Proof.Machine
end

