-- ==== Sys2Proof/Machine/FlowDecode.lean ====
section
/-!
DEFINITION. Decoding one row of a tile (spec/04_mbaudel_scene_format.md R118-R128): rANS tokens, extra bits, the median edge
predictor, and the checks of R113, R114 and R127. A row is its 64 texel words (R121).
-/
namespace Sys2Proof.Machine

/-- A segment under decoding: states, state to use next, byte position of the next word, byte position of the end. -/
structure SegDec where
  st  : List Nat
  k   : Nat
  pos : Nat
  fin : Nat
  deriving DecidableEq, Repr

/-- Renormalise a state (R126); `rd` reads the little-endian word at a byte offset of the payload. -/
def renorm (rd : Nat → Nat) (g : SegDec) (x : Nat) : Except Nat SegDec :=
  if 0x10000 ≤ x then .ok { g with st := setAt g.st g.k x, k := (g.k + 1) % g.st.length }
  else if g.fin < g.pos + 2 then .error 0x10
  else
    let x := x * 65536 + rd g.pos
    if 0x10000 ≤ x then .ok { g with st := setAt g.st g.k x, k := (g.k + 1) % g.st.length, pos := g.pos + 2 }
    else if g.fin < g.pos + 4 then .error 0x10
    else .ok { g with st := setAt g.st g.k (x * 65536 + rd (g.pos + 2)), k := (g.k + 1) % g.st.length, pos := g.pos + 4 }

/-- The token a slot belongs to, its frequency and its cumulative start. -/
def findToken : List Nat → Nat → Nat → Nat → Nat × Nat × Nat
  | [], t, c, _ => (t, 0, c)
  | f :: fs, t, c, slot => if slot < c + f then (t, f, c) else findToken fs (t + 1) (c + f) slot

/-- Decode one token with a frequency table (R126). -/
def getToken (rd : Nat → Nat) (g : SegDec) (freq : List Nat) : Except Nat (Nat × SegDec) :=
  let x := g.st.getD g.k 0
  let slot := x % 4096
  let (t, f, c) := findToken freq 0 0 slot
  match renorm rd g (f * (x / 4096) + slot - c) with
  | .ok g => .ok (t, g)
  | .error e => .error e

/-- Decode one chunk of `k` extra bits, 1 to 8 (R126). -/
def getBits (rd : Nat → Nat) (g : SegDec) (k : Nat) : Except Nat (Nat × SegDec) :=
  let x := g.st.getD g.k 0
  let sh := 12 - k
  let slot := x % 4096
  let v := slot / 2 ^ sh
  match renorm rd g (2 ^ sh * (x / 4096) + slot - v * 2 ^ sh) with
  | .ok g => .ok (v, g)
  | .error e => .error e

/-- Decode `n` extra bits, lowest chunk first (R125). -/
def getExtra (rd : Nat → Nat) (g : SegDec) (n : Nat) : Except Nat (Nat × SegDec) :=
  if n = 0 then .ok (0, g)
  else if n ≤ 8 then getBits rd g n
  else
    match getBits rd g 8 with
    | .error e => .error e
    | .ok (lo, g) =>
      match getBits rd g (n - 8) with
      | .error e => .error e
      | .ok (hi, g) => .ok (lo + 256 * hi, g)

/-- The median edge predictor (R124). -/
def medPredict (a b c : Nat) : Nat :=
  let lo := Nat.min a b
  let hi := Nat.max a b
  if hi ≤ c then lo else if c ≤ lo then hi else a + b - c

/-- Decode one value of `n` bits from its prediction (R125). -/
def getValue (rd : Nat → Nat) (g : SegDec) (freq : List Nat) (n p : Nat) : Except Nat (Nat × SegDec) :=
  match getToken rd g freq with
  | .error e => .error e
  | .ok (t, g) =>
    match getExtra rd g (t - 1) with
    | .error e => .error e
    | .ok (x, g) =>
      let z := if t = 0 then 0 else 2 ^ (t - 1) + x
      let s := if z % 2 = 0 then z / 2 else 2 ^ n - (z + 1) / 2
      .ok ((p + s) % 2 ^ n, g)

/-! Fields of a texel word (R121). -/
def twR (w : Nat) : Nat := bits w 63 52
def twG (w : Nat) : Nat := bits w 51 40
def twB (w : Nat) : Nat := bits w 39 28
def twCov (w : Nat) : Nat := bits w 27 18
def twDepth (w : Nat) : Nat := bits w 17 4
def twSubst (w : Nat) : Bool := bit w 3

/-- A texel word from its fields. -/
def texelWord (r g b cov depth flags : Nat) : Nat :=
  r * 2 ^ 52 + g * 2 ^ 40 + b * 2 ^ 28 + cov * 2 ^ 18 + depth * 2 ^ 4 + flags

/-- What a tile's rows are decoded with: format, tables, class and depth bounds. -/
structure TileDec where
  fmt  : Nat
  freq : List (List Nat)
  cls  : Nat
  dmin : Int
  dmax : Int
  deriving DecidableEq, Repr

/-- The checks of R113 and R114 on one texel. -/
def texelCheck (t : TileDec) (cov depth : Nat) : Option Nat :=
  if (t.cls = 2 ∧ (cov = 0 ∨ 1023 < cov)) ∨ (t.cls = 3 ∧ cov ≠ 1023) then some 0x12
  else if cov ≠ 0 ∧ (sInt 14 depth < t.dmin ∨ t.dmax < sInt 14 depth) then some 0x13
  else none

/-- Decode one texel from its neighbours to the left, above and above left (R123). -/
def getTexel (rd : Nat → Nat) (t : TileDec) (g : SegDec) (a b c : Nat) : Except Nat (Nat × SegDec) := do
  let fr (i : Nat) : List Nat := t.freq.getD i []
  let pr (f : Nat → Nat) : Nat := medPredict (f a) (f b) (f c)
  let (flags, g) ← getToken rd g (fr 0)
  let (cov, g) ← if t.fmt = 0 ∨ t.fmt = 2 then getValue rd g (fr 1) 10 (pr twCov) else .ok (1023, g)
  let (w, g) ← if cov = 0 then .ok (texelWord 0 0 0 0 0 flags, g) else do
    let (r, g) ← getValue rd g (fr 2) 12 (pr twR)
    let (gr, g) ← getValue rd g (fr 2) 12 (pr twG)
    let (bl, g) ← getValue rd g (fr 2) 12 (pr twB)
    let (d, g) ← if t.fmt < 2 then getValue rd g (fr 3) 14 (pr twDepth) else .ok (0, g)
    .ok (texelWord r gr bl cov d flags, g)
  match texelCheck t cov (twDepth w) with
  | some e => .error e
  | none => .ok (w, g)

/-- Decode the texels of a row from column `i` on: `left` is the texel to the left, `above` the rest of the row above from this
column, `corner` the texel above left; `first`: the row has no row above (R124). -/
def getTexels (rd : Nat → Nat) (t : TileDec) (first : Bool) : Nat → SegDec → Nat → Nat → Nat → List Nat → Except Nat (List Nat × SegDec)
  | 0, g, _, _, _, _ => .ok ([], g)
  | n + 1, g, i, left, corner, above =>
    let b := if first then 0 else above.headD 0
    let a := if i = 0 then b else left
    let c := if first then 0 else if i = 0 then b else corner
    match getTexel rd t g a b c with
    | .error e => .error e
    | .ok (w, g) =>
      match getTexels rd t first n g (i + 1) w (above.headD 0) above.tail with
      | .error e => .error e
      | .ok (ws, g) => .ok (w :: ws, g)

/-- Decode one row (R123-R127); `above` is none for the first row of a segment, `last` tells the segment's last row. -/
def decodeRow (rd : Nat → Nat) (t : TileDec) (g : SegDec) (above : Option (List Nat)) (last : Bool) : Except Nat (List Nat × SegDec) :=
  match getTexels rd t above.isNone 64 { g with k := 0 } 0 0 0 (above.getD []) with
  | .error e => .error e
  | .ok (ws, g) =>
    if last ∧ (g.pos ≠ g.fin ∨ !g.st.all (· == 0x10000)) then .error 0x11 else .ok (ws, g)

/-- A segment at its entry point, from byte `a` to byte `e` (R119). -/
def segStart (rd : Nat → Nat) (states a e : Nat) : SegDec :=
  { st := (List.range states).map (fun i => rd (a + 4 * i) + 65536 * rd (a + 4 * i + 2)), k := 0, pos := a + 4 * states, fin := e }

/-- Decode `n` rows of a segment in order, for background work (R160): the first failure's row and code. -/
def checkRows (rd : Nat → Nat) (t : TileDec) : Nat → Nat → SegDec → Option (List Nat) → Option (Nat × Nat)
  | 0, _, _, _ => none
  | n + 1, y, g, above =>
    match decodeRow rd t g above (n = 0) with
    | .error e => some (y, e)
    | .ok (ws, g) => checkRows rd t n (y + 1) g (some ws)

end Sys2Proof.Machine
end

