-- ==== Sys2Proof/Machine/Float.lean ====
section
/-!
DEFINITION. IEEE 754 binary64 arithmetic, round to nearest, ties to even, on finite values written m * 2^e; `none` stands for
an infinity or a NaN (spec/06_ray_model_and_optics.md R190-R192, spec/11_passage_fabric.md R405). binary32 fields are read exactly.
-/
namespace Sys2Proof.Machine

/-- A finite value m * 2^e, or none. -/
abbrev F64 := Option (Int × Int)

/-- Bits of a natural. -/
def bitLen (n : Nat) : Nat := if n = 0 then 0 else Nat.log2 n + 1

/-- Shift a natural right by `k`, nearest, ties to even. -/
def shrEven (n k : Nat) : Nat :=
  let q := n / 2 ^ k
  let r := n % 2 ^ k
  if 2 * r < 2 ^ k then q else if 2 ^ k < 2 * r then q + 1 else if q % 2 = 0 then q else q + 1

/-- Round m * 2^e to binary64. -/
def round64 (m e : Int) : F64 :=
  let n := m.natAbs
  let k := Nat.max (bitLen n - 53) (-1074 - e).toNat
  let q := if k = 0 then n else shrEven n k
  let e' := e + k
  if 1024 < (bitLen q : Int) + e' then none
  else if q = 0 then some (0, 0) else some (if m < 0 then -(q : Int) else q, e')

/-- An integer as binary64. -/
def f64OfInt (i : Int) : F64 := round64 i 0

/-- Two values over one exponent. -/
def align (a b : Int × Int) : Int × Int × Int :=
  let e := if a.2 < b.2 then a.2 else b.2
  (a.1 * 2 ^ (a.2 - e).toNat, b.1 * 2 ^ (b.2 - e).toNat, e)

/-- Sum. -/
def fadd : F64 → F64 → F64
  | some a, some b => let (x, y, e) := align a b; round64 (x + y) e
  | _, _ => none

/-- Negation. -/
def fneg : F64 → F64
  | some a => some (-a.1, a.2)
  | none => none

/-- Difference. -/
def fsub (a b : F64) : F64 := fadd a (fneg b)

/-- Product. -/
def fmul : F64 → F64 → F64
  | some a, some b => round64 (a.1 * b.1) (a.2 + b.2)
  | _, _ => none

/-- Quotient; none by zero. -/
def fdiv : F64 → F64 → F64
  | some a, some b =>
    if b.1 = 0 then none
    else
      let s := 60 + bitLen b.1.natAbs
      let n := a.1.natAbs * 2 ^ s
      let q := n / b.1.natAbs
      let st := if n % b.1.natAbs = 0 then 0 else 1
      let v : Int := (2 * q + st : Nat)
      round64 (if (decide (a.1 < 0)) == (decide (b.1 < 0)) then v else -v) (a.2 - b.2 - s - 1)
  | _, _ => none

/-- Largest r with r^p at most n, built from bit `k` - 1 down. -/
def introot (p n : Nat) : Nat → Nat → Nat
  | 0, r => r
  | k + 1, r => introot p n k (if (r + 2 ^ k) ^ p ≤ n then r + 2 ^ k else r)

/-- The p-th root (2 or 3) of a value that is not negative. -/
def froot (p : Nat) : F64 → F64
  | some a =>
    if a.1 < 0 then none
    else if a.1 = 0 then some (0, 0)
    else
      let n := a.1.natAbs
      -- scale so that the root has at least 56 bits and the exponent is a multiple of p
      let s := 60 * p + ((a.2 - 60 * p) % p).toNat
      let n' := n * 2 ^ s
      let r := introot p n' (bitLen n' / p + 1) 0
      let st := if r ^ p = n' then 0 else 1
      round64 (2 * r + st : Nat) ((a.2 - s) / p - 1)
  | none => none

/-- Square root. -/
def fsqrt (a : F64) : F64 := froot 2 a

/-- The power with exponent a / b of a value, correctly rounded; 0 for a value that is not positive. -/
def fpow (a b : Nat) : F64 → F64
  | some x =>
    if x.1 ≤ 0 ∨ b = 0 then some (0, 0)
    else
      let n := x.1.natAbs ^ a
      let e := x.2 * a
      let t0 : Int := 58 * b - bitLen n
      let t := t0 + (e - t0) % b
      let n' := if 0 ≤ t then n * 2 ^ t.toNat else n / 2 ^ (-t).toNat
      let r := introot b n' 60 0
      let st := if r ^ b = n' ∧ (0 ≤ t ∨ n' * 2 ^ (-t).toNat = n) then 0 else 1
      round64 (2 * r + st : Nat) ((e - t) / b - 1)
  | none => none

/-- Compare: a < b; false where either is not finite. -/
def flt : F64 → F64 → Bool
  | some a, some b => let (x, y, _) := align a b; decide (x < y)
  | _, _ => false

/-- a at most b. -/
def fle : F64 → F64 → Bool
  | some a, some b => let (x, y, _) := align a b; decide (x ≤ y)
  | _, _ => false

/-- The integer nearest value * 2^k, ties away from zero. -/
def ffix (k : Int) (a : Int × Int) : Int :=
  let e := a.2 + k
  if 0 ≤ e then a.1 * 2 ^ e.toNat else rdiv a.1 (2 ^ (-e).toNat)

/-- The largest integer not above the value. -/
def ffloor (a : Int × Int) : Int := if 0 ≤ a.2 then a.1 * 2 ^ a.2.toNat else floorDiv a.1 (2 ^ (-a.2).toNat)

/-- A binary32 word as a value; none for a NaN or an infinity. -/
def f32 (w : Nat) : F64 :=
  let ex := bits w 30 23
  let fr := bits w 22 0
  let sg : Int := if bit w 31 then -1 else 1
  if ex = 255 then none
  else if ex = 0 then some (sg * fr, -149)
  else some (sg * ((2 ^ 23 + fr : Nat) : Int), (ex : Int) - 150)

/-- A vector of three values. -/
abbrev V3 := F64 × F64 × F64

/-- Three binary32 words. -/
def v3 (l : List Nat) (i : Nat) : V3 := (f32 (l.getD i 0), f32 (l.getD (i + 1) 0), f32 (l.getD (i + 2) 0))

/-- Dot product, summed left to right (assumption log 45). -/
def vdot (a b : V3) : F64 := fadd (fadd (fmul a.1 b.1) (fmul a.2.1 b.2.1)) (fmul a.2.2 b.2.2)

/-- Cross product. -/
def vcross (a b : V3) : V3 :=
  (fsub (fmul a.2.1 b.2.2) (fmul a.2.2 b.2.1), fsub (fmul a.2.2 b.1) (fmul a.1 b.2.2), fsub (fmul a.1 b.2.1) (fmul a.2.1 b.1))

/-- Scale a vector. -/
def vscale (k : F64) (a : V3) : V3 := (fmul k a.1, fmul k a.2.1, fmul k a.2.2)

/-- Sum and difference of vectors. -/
def vadd (a b : V3) : V3 := (fadd a.1 b.1, fadd a.2.1 b.2.1, fadd a.2.2 b.2.2)
def vsub (a b : V3) : V3 := (fsub a.1 b.1, fsub a.2.1 b.2.1, fsub a.2.2 b.2.2)

/-- Divide each component. -/
def vdiv (a : V3) (k : F64) : V3 := (fdiv a.1 k, fdiv a.2.1 k, fdiv a.2.2 k)

/-- A vector over its length. -/
def vnormal (a : V3) : V3 := vdiv a (fsqrt (vdot a a))

/-- A 3 x 4 matrix of twelve binary32 words, rows of [M | T], applied to a direction. -/
def matDir (l : List Nat) (a : V3) : V3 :=
  let row (r : Nat) : F64 := vdot (f32 (l.getD (4 * r) 0), f32 (l.getD (4 * r + 1) 0), f32 (l.getD (4 * r + 2) 0)) a
  (row 0, row 1, row 2)

/-- The same applied to a point. -/
def matPoint (l : List Nat) (a : V3) : V3 :=
  let d := matDir l a
  (fadd d.1 (f32 (l.getD 3 0)), fadd d.2.1 (f32 (l.getD 7 0)), fadd d.2.2 (f32 (l.getD 11 0)))

/-- Determinant of the matrix's first three columns. -/
def matDet (l : List Nat) : F64 :=
  let c (i : Nat) : V3 := (f32 (l.getD i 0), f32 (l.getD (4 + i) 0), f32 (l.getD (8 + i) 0))
  vdot (c 0) (vcross (c 1) (c 2))

end Sys2Proof.Machine
end

