-- ==== Sys2Proof/Machine/TimeOps.lean ====
section
/-!
DEFINITION. The time in force, its sources and the tick schedule (spec/12_time.md R420-R435).
-/
namespace Sys2Proof.Machine

def TIME_LOCKED : Nat := 0xA0
def TIME_STEPPED : Nat := 0xA1
def TIME_SWITCHED : Nat := 0xA2
def TIME_HOLDOVER : Nat := 0xA3
def TIME_UNLOCKED : Nat := 0xA4
def TRIG_LATE : Nat := 0xA5

/-! States and sources of R421. -/
def T_FREE : Nat := 0
def T_ACQUIRING : Nat := 1
def T_LOCKED : Nat := 2
def T_HOLDOVER : Nat := 3
def SRC_NONE : Nat := 0
def SRC_FABRIC : Nat := 3

/-- A quotient rounded down or up, as the manual leaves open (assumption log 1). -/
def Mach.divFree (m : Mach) (n d : Int) : Int × Mach :=
  if n % d = 0 then (n / d, m)
  else
    let (b, m) := m.draw 2
    (floorDiv n d + b, m)

/-- Report a code of R439. -/
def timeCode (m : Mach) (c : Nat) : Mach := m.wr R.TIME.STATUS.LAST_CODE c

/-- The state and source of the time in force. -/
def timeState (m : Mach) : Nat := m.rd R.TIME.STATUS.STATE
def timeSource (m : Mach) : Nat := m.rd R.TIME.STATUS.SOURCE

/-- A signed 64-bit pair of registers. -/
def pairInt (m : Mach) (lo hi : Row) : Int := sInt 64 (m.rd lo + 2 ^ 32 * m.rd hi)

/-- Set a 64-bit pair of registers. -/
def setPair (m : Mach) (lo hi : Row) (v : Int) : Mach :=
  let u := uNat 64 v
  (m.wr lo (u % 2 ^ 32)).wr hi (u / 2 ^ 32)

/-- The integer part of the time in force (R420). -/
def nowNs (m : Mach) : Int := m.tim.now / 65536

/-- The instant of the next tick. -/
def nextTick (m : Mach) : Int := pairInt m R.TIME.NEXT_LO.VALUE R.TIME.NEXT_HI.VALUE

/-- Set the time in force, with the registers that show it (R434) and the age of the last TIME unit (R416). -/
def setNow (m : Mach) (t : Int) : Mach :=
  let m := { m with tim := { m.tim with now := t } }
  let m := setPair m R.TIME.NOW_LO.VALUE R.TIME.NOW_HI.VALUE (nowNs m)
  let m := m.wr R.TIME.NS32.VALUE (uNat 32 (nowNs m))
  match m.tim.unitAt with
  | none => m.wr R.PASS.TIME_STATUS.AGE_US 0xFFFF
  | some a => m.wr R.PASS.TIME_STATUS.AGE_US (satN ((t - a) / 65536000).toNat 0xFFFF)

/-- Add whole seconds to a 64-bit count. -/
def secsAdd (m : Mach) (lo hi : Row) (n : Nat) : Mach :=
  if n = 0 then m
  else
    let v := m.rd lo + 2 ^ 32 * m.rd hi + n
    (m.wr lo (v % 2 ^ 32)).wr hi (v / 2 ^ 32 % 2 ^ 32)

/-- Operating and panel-on time run on by a time in 2^-16 ns (R43, R652), and the time since firmware's last kick, which stands still in
M1 and M2 (R35, R637). -/
def hoursRun (m : Mach) (q : Nat) : Mach :=
  let md := m.mode
  let h := m.vlt.replayHours
  let a := h.1 + (if md = 0 ∨ md = 10 then 0 else q)
  let b := h.2 + (if drivesPanel md then q else 0)
  let m := secsAdd m R.VAULT.OPER_S_LO.VALUE R.VAULT.OPER_S_HI.VALUE (a / secondQ)
  let m := secsAdd m R.VAULT.PANEL_S_LO.VALUE R.VAULT.PANEL_S_HI.VALUE (b / secondQ)
  let m := { m with vlt := { m.vlt with replayHours := (a % secondQ, b % secondQ) } }
  if md = 1 ∨ md = 2 then m
  else
    let k := m.sec.sinceNs + q
    { m.wr R.SEC.WDOG.SINCE_KICK_MS (satN (k / 65536000000) 0xFFFF) with sec := { m.sec with sinceNs := k } }

/-- The time in force, the real-time count and the hours run on to an instant in 2^-16 ns. -/
def runTo (m : Mach) (t : Int) : Mach :=
  let q := (t - m.tim.now).toNat
  setNow (hoursRun (rtcRun m q) q) t

/-- The time in force runs on by `ns`, up to the next tick and no further (assumption log 41). -/
def advance (m : Mach) (ns : Nat) : Mach :=
  let t := m.tim.now + 65536 * (ns : Int)
  let lim := nextTick m * 65536
  runTo m (if lim < t then (if m.tim.now ≤ lim then lim else m.tim.now) else t)

/-! ## The tick schedule (R430-R433) -/

/-- The rate of the tick schedule in a mode (R430). -/
def tickRate (m : Mach) : Nat × Nat :=
  let e := if m.mode = 3 ∨ m.mode = 4 ∨ m.mode = 5 ∨ m.mode = 11 then m.rd R.SYS.MODE_REQ.ENTRY else m.entry
  ((tentry e).num, (tentry e).den)

/-- tick_phase_now, ns. -/
def phaseNow (m : Mach) : Int := sInt 32 (m.rd R.TIME.PHASE_NOW.VALUE)

/-- Schedule instant `n` in ns (R430). -/
def schedule' (rate : Nat × Nat) (phase n : Int) : Int := floorDiv (n * rate.2 * 1000000000) rate.1 + phase

/-- The first index whose instant is at or above a bound of `num` / `den` ns. -/
def firstIndex (rate : Nat × Nat) (phase bn bd : Int) : Int :=
  -- floor(n * den * 10^9 / num) >= ceil(b) - phase
  let c := -(floorDiv (-bn) bd) - phase
  Int.neg (floorDiv (-(c * rate.1)) (rate.2 * 1000000000))

/-- Set the next tick. -/
def setNext (m : Mach) (n : Int) : Mach :=
  setPair { m with tim := { m.tim with n := n - 1 } } R.TIME.NEXT_LO.VALUE R.TIME.NEXT_HI.VALUE (schedule' m.tim.rate (phaseNow m) n)

/-- The first tick after CORE is released: the first schedule instant after the time in force (R431). -/
def firstTickAfter (m : Mach) : Mach :=
  let m := m.wr R.TIME.PHASE_NOW.VALUE (m.rd R.TIME.PHASE.PHASE)
  let m := { m with tim := { m.tim with rate := tickRate m } }
  setNext m (firstIndex m.tim.rate (phaseNow m) (nowNs m + 1) 1)

/-- The part of a tick that places the next one: phase, rate, and R431 where a step, an entry or a rate changed. -/
def scheduleNext (m : Mach) (stepped entryChange : Bool) : Mach :=
  let goal := sInt 32 (m.rd R.TIME.PHASE.PHASE)
  let d := goal - phaseNow m
  let still : Bool := decide (m.mode = 3 ∨ m.mode = 4 ∨ m.mode = 5 ∨ m.mode = 11)
  let move := if still then d else clampI d (-25) 25
  let m := m.wr R.TIME.PHASE_NOW.VALUE (uNat 32 (phaseNow m + move))
  let rate := tickRate m
  let jump : Bool := stepped || entryChange || rate != m.tim.rate || (still && decide (d ≠ 0))
  let n := m.tim.n
  let m := { m with tim := { m.tim with rate := rate } }
  if jump then
    -- nominal frame time less 128 CD03 cycles (320/3 ns) after the present tick
    let bn : Int := 3 * rate.1 * m.tim.now + 65536 * (3 * (rate.2 : Int) * 1000000000 - 320 * rate.1)
    setNext m (firstIndex rate (phaseNow m) bn (3 * rate.1 * 65536))
  else setNext m (n + 2)

/-! ## Sources (R425-R429) -/

/-- A domain's record; 0 A, 1 B, 2 the fabric. -/
def domRec (m : Mach) (d : Nat) : Dom := m.tim.doms.getD d ⟨[], none, none, none, none, 0, [], []⟩

/-- Change a domain's record. -/
def domMod (m : Mach) (d : Nat) (f : Dom → Dom) : Mach := { m with tim := { m.tim with doms := modAt m.tim.doms d f } }

/-- Whether source `s` (1 A, 2 B, 3 fabric) is flagged locked. -/
def srcFlag (m : Mach) (s : Nat) : Bool :=
  if s = 1 then m.flag R.TIME.STATUS.A_LOCKED
  else if s = 2 then m.flag R.TIME.STATUS.B_LOCKED
  else s == 3 && m.tim.fabOk

/-- Set or clear a source's flag; clearing it drops its offsets. -/
def setFlag (m : Mach) (s : Nat) (b : Bool) : Mach :=
  let m := if b then m else domMod m (s - 1) (fun d => { d with offs := [] })
  if s = 1 then m.wr R.TIME.STATUS.A_LOCKED (b2n b)
  else if s = 2 then m.wr R.TIME.STATUS.B_LOCKED (b2n b)
  else { m with tim := { m.tim with fabOk := b } }

/-- The sources this node may follow, in order of preference (R425). -/
def permittedSources (m : Mach) : List Nat :=
  if fabState m = FS_JOINED ∧ !m.flag R.PASS.STATUS.IS_TIME_SOURCE then [3]
  else if !m.flag R.TIME.CTRL.PTP_EN then []
  else match m.rd R.TIME.CTRL.SELECT with
    | 1 => [1]
    | 2 => [2]
    | _ => [1, 2]

/-- A source's newest offset, 2^-16 ns. -/
def srcOffset (m : Mach) (s : Nat) : Int := (domRec m (s - 1)).offs.headD 0

/-- switch_max in 2^-16 ns. -/
def switchMax (m : Mach) : Int := 65536 * (m.rd R.TIME.LIMITS.SWITCH_MAX : Int)

/-- Select a source: a step at the coming tick, or a slew at once (R427). -/
def selectSource (m : Mach) (s : Nat) : Mach :=
  let acq := timeState m == T_ACQUIRING
  let (o, m) : Int × Mach :=
    if acq then
      let l := (domRec m (s - 1)).offs
      m.divFree (l.foldl (· + ·) 0) (if l.isEmpty then 1 else l.length)
    else (srcOffset m s, m)
  if switchMax m < o.natAbs then { m with tim := { m.tim with pend := some (s, o) } }
  else
    let locked := timeState m == T_LOCKED
    let m := { m with tim := { m.tim with pend := none, was := true } }
    let m := (m.wr R.TIME.STATUS.SOURCE s).wr R.TIME.STATUS.STATE T_LOCKED
    if locked then (timeCode m TIME_SWITCHED).ev E.TIME.SWITCHED else (timeCode m TIME_LOCKED).ev E.TIME.LOCKED

/-- Bring state and source up to date with the flags, the domain select and the fabric (R425, R427, R429). -/
def timeEval (m : Mach) : Mach :=
  let perm := permittedSources m
  let st := timeState m
  let cur := timeSource m
  let m := match m.tim.pend with
    | some (s, _) => if perm.contains s && srcFlag m s then m else { m with tim := { m.tim with pend := none } }
    | none => m
  if st = T_LOCKED ∧ perm.contains cur ∧ srcFlag m cur then m
  else
    match perm.find? (srcFlag m) with
    | some s => if m.tim.pend.map (·.1) = some s then m else selectSource m s
    | none =>
      if st = T_LOCKED then
        hev ((timeCode ((m.wr R.TIME.STATUS.STATE T_HOLDOVER).wr R.TIME.STATUS.SOURCE SRC_NONE) TIME_HOLDOVER).ev E.TIME.HOLDOVER) 487
      else if st = T_FREE ∨ st = T_ACQUIRING then
        match perm.find? (fun s => s == 3 || (domRec m (s - 1)).best.isSome) with
        | some s => (m.wr R.TIME.STATUS.STATE T_ACQUIRING).wr R.TIME.STATUS.SOURCE s
        | none =>
          if st = T_FREE then m
          else (m.wr R.TIME.STATUS.SOURCE SRC_NONE).wr R.TIME.STATUS.STATE (if m.tim.was then T_HOLDOVER else T_FREE)
      else m

/-- A new offset of a source: registers, agreement of the last 8 within 1 us, and what follows (R425). -/
def newOffset (m : Mach) (s : Nat) (o : Int) : Mach :=
  let m := domMod m (s - 1) (fun d => { d with offs := (o :: d.offs).take 8 })
  let m := if s = 3 then m else
    let (v, m) := m.divFree o 65536
    m.wr R.TIME.OFFSET_AB.VALUE (uNat 32 (clampI v (-2147483648) 2147483647)) (s - 1)
  let l := (domRec m (s - 1)).offs
  let hi := l.foldl (fun a b => if a < b then b else a) o
  let lo := l.foldl (fun a b => if b < a then b else a) o
  let m := if !srcFlag m s ∧ l.length = 8 ∧ hi - lo ≤ 65536000 then setFlag m s true else m
  timeEval m

/-- The frequency adjustment for the coming frame (R426): free within freq_limit_ppb where a source is followed or acquired. -/
def newFreq (m : Mach) : Mach :=
  let lim := m.rd R.TIME.LIMITS.FREQ_LIMIT * 256
  let st := timeState m
  let (v, m) : Int × Mach :=
    if st = T_FREE then (0, m)
    else if st = T_HOLDOVER then
      m.divFree (m.tim.hist.foldl (· + ·) 0) (if m.tim.hist.isEmpty then 1 else m.tim.hist.length)
    else
      let (u, m) := m.draw (2 * lim + 1)
      ((u : Int) - lim, m)
  let v := clampI v (-(lim : Int)) lim
  let h := if st = T_HOLDOVER then m.tim.hist else (v :: m.tim.hist).take 64
  { m with tim := { m.tim with hist := h } }.wr R.TIME.FREQ_ADJ.VALUE (uNat 32 v)

/-- The time in force moves by a step; offsets measured against it move the other way (R428; assumption log 42). -/
def applyStep (m : Mach) (s : Nat) (o : Int) : Mach :=
  let m := setNow m (m.tim.now + o)
  let m := m.each [0, 1, 2] (fun m d => domMod m d (fun r => { r with offs := r.offs.map (· - o), sync := none, wait := none, req := none }))
  let m := { m with tim := { m.tim with pend := none, was := true, unitAt := m.tim.unitAt.map (· + o) } }
  let (v, m) := m.divFree o 65536
  let m := m.wr R.TIME.LAST_STEP.VALUE (uNat 32 (clampI v (-2147483648) 2147483647))
  let m := m.each [0, 1] (fun m d =>
    let x := sInt 32 (m.rd R.TIME.OFFSET_AB.VALUE d)
    if (domRec m d).offs.isEmpty then m else m.wr R.TIME.OFFSET_AB.VALUE (uNat 32 (clampI (x - v) (-2147483648) 2147483647)) d)
  let m := (m.add R.TIME.STATUS.STEPS 1).wr R.TIME.STATUS.SOURCE s
  hev ((timeCode (m.wr R.TIME.STATUS.STATE T_LOCKED) TIME_STEPPED).ev E.TIME.STEPPED) 486

end Sys2Proof.Machine
end

