-- ==== Sys2Proof/Machine/MsfOps.lean ====
section
/-!
DEFINITION. The scene queue and the checks made as a frame arrives (spec/04_mbaudel_scene_format.md R100-R119, R129-R136;
spec/05_flowstone_decoder.md R137-R143).
-/
namespace Sys2Proof.Machine

/-! ## The header (R104, R105, R129) -/

/-- Whether sequence s is later than t (R105). -/
def later (s t : Nat) : Bool :=
  let d := (s + 2 ^ 32 - t) % 2 ^ 32
  decide (1 ≤ d) && decide (d ≤ 2 ^ 31 - 1)

/-- Whether every byte of a slice is 0. -/
def zeros (b : List Byte) (o n : Nat) : Bool := fieldLE b o n == 0

/-- Whether a header can be trusted: it is a header of 64 bytes with its own CRC. -/
def headTrusted (b : List Byte) : Bool :=
  fieldLE b 0 3 == 0x46534D && fieldLE b 4 2 == 64 && fieldLE b 60 4 == crc32c (b.take 60)

/-- Whether a version byte is taken (R133, R134, R136). -/
def versionOk (m : Mach) (v : Nat) : Bool :=
  v == 2 || (v == 1 && m.dv D.msf_v1_enable == 1) || (v == 0x81 && m.dv D.msf_flat_enable == 1)

/-- The header checks in the order of R129; 0 where all pass. -/
def headerCode (m : Mach) (b : List Byte) : Nat :=
  let v := fieldLE b 3 1
  let n := fieldLE b 6 1
  let fl := fieldLE b 7 1
  let base := fieldLE b 12 4
  let bytes := fieldLE b 24 4
  let white := fieldLE b 28 2
  let poff := fieldLE b 36 4
  if fieldLE b 0 3 ≠ 0x46534D then MSF_BAD_MAGIC
  else if !versionOk m v then MSF_BAD_VERSION
  else if fieldLE b 4 2 ≠ 64 then MSF_SYNTAX
  else if fieldLE b 60 4 ≠ crc32c (b.take 60) then MSF_HEADER_CRC
  else if 4 ≤ fl ∨ !zeros b 30 2 ∨ !zeros b 40 20 ∨ (fl % 2 = 1 ∧ base ≠ 0) ∨ (v ≠ 2 ∧ (fl % 2 = 1 ∨ base ≠ 0)) then MSF_SYNTAX
  else if (match m.flow.mark with | some t => !later (fieldLE b 8 4) t | none => false) then MSF_STALE
  else if bytes < 264 ∨ 2 ^ 30 < bytes ∨ n = 0 ∨ 64 < n ∨ white = 0 ∨ 10000 < white ∨ 1048576 < fieldLE b 32 4 then MSF_LIMIT
  else if (v = 0x81 ∧ 16 < n) ∨ bytes % 8 ≠ 0 ∨ bytes < 64 + 192 * n + 8 ∨ poff % 8 ≠ 0 ∨ poff < 64 + 192 * n ∨ bytes - 8 < poff then
    MSF_SYNTAX
  else 0

/-- R438: twice the earliest instant of the tick a version 1 or flat frame's launch time names, and the ticks it is delayed. -/
def legacyDue (m : Mach) (ver : Nat) (launch : Int) : Option (Int × Nat) :=
  if ver = 2 ∨ launch = 0 ∨ !m.flag R.TIME.LAUNCH.LEGACY then none
  else
    let rate := m.tim.rate
    let ph := phaseNow m
    -- the nearest schedule instant, the later one where two are equally near
    let n1 := firstIndex rate ph launch 1
    let hi := schedule' rate ph n1
    let lo := schedule' rate ph (n1 - 1)
    let at_ := if hi - launch ≤ launch - lo then hi else lo
    some (2 * at_ - floorDiv (rate.2 * 1000000000) rate.1, m.rd R.TIME.LAUNCH.DELAY)

/-- A frame as its header gives it. -/
def newFrame (m : Mach) (path addr : Nat) (b : List Byte) : Frame :=
  let launch := fieldLES b 16 8
  let v := fieldLE b 3 1
  { seq := fieldLE b 8 4, ver := v, flags := fieldLE b 7 1, base := fieldLE b 12 4, launch := launch, bytes := fieldLE b 24 4,
    white := fieldLE b 28 2, tcount := fieldLE b 32 4, poff := fieldLE b 36 4, nslab := fieldLE b 6 1, path := path, addr := addr,
    st := F_RECEIVING, got := 64, crc := crc32cRun 0xFFFFFFFF b, slabs := [], tail := false, v1cost := m.dv D.msf_v1_cost,
    legacy := legacyDue m v launch, due := none, geom := [], head := [], parts := [], bad := [], plan := none, walk := false, planOpt := false,
    plan2 := none, checked := 0 }

/-- Whether a path is selected (R141). -/
def pathSelected (m : Mach) (path : Nat) : Bool := m.dv D.scene_source == 2 || m.dv D.scene_source == path

/-- The 64th byte of a frame arrives (R129, R138, R141, R142). Answers the address of the frame where it is accepted. -/
def headerArrives (m : Mach) (path : Nat) (b : List Byte) : Option Nat × Mach :=
  let m := match (pathOf m path).rx with
    | some s => match frameOf m s with
      | some f => refuseFrame m f FRAME_INCOMPLETE
      | none => m
    | none => m
  let drop (m : Mach) : Mach := pathMod m path (fun _ => ⟨none, some (none, false)⟩)
  let seq := fieldLE b 8 4
  let refuse (m : Mach) (code : Nat) : Mach :=
    let m := drop (reportRefusal m path seq code)
    if headTrusted b then sceneMissed m (fieldLES b 16 8) else m
  if !pathSelected m path then (none, refuse m SOURCE_DISABLED)
  else
    let c := headerCode m b
    if c ≠ 0 then (none, refuse m c)
    else
      let m := { m with flow := { m.flow with mark := some seq } }
      let n := fieldLE b 24 4
      match (if 64 ≤ m.flow.frames.length then none else queuePlace m n) with
      | none =>
        let m := sceneMissed (reportRefusal m path seq QUEUE_FULL) (fieldLES b 16 8)
        (none, pathMod m path (fun _ => ⟨none, some (if path = 1 then none else some (n - 64), false)⟩))
      | some a =>
        let m := setFrames m (m.flow.frames ++ [newFrame m path a b])
        (some a, queueRefresh (pathMod m path (fun _ => ⟨some seq, none⟩)))

/-! ## Slab entries (R108-R111) -/

/-- The tiles a frame's REPLACE slabs have so far. -/
def Frame.tilesDue (f : Frame) : Nat := sumN (f.slabs.map (fun s => if s.pers = 0 then s.w * s.h else 0))

/-- The tile-index entries received so far. -/
def Frame.tilesGot (f : Frame) : Nat := sumN (f.slabs.map (fun s => if s.pers = 0 then s.tiles.length else 0))

/-- An exact cross product test of R110: the axes are not zero and their product's length is at least 2^-40. -/
def axesOk (pose : List Nat) : Bool :=
  let sc (i : Nat) : Int := match f32 (pose.getD i 0) with
    | some a => a.1 * 2 ^ (a.2 + 149).toNat
    | none => 0
  let u0 := sc 3; let u1 := sc 4; let u2 := sc 5
  let v0 := sc 6; let v1 := sc 7; let v2 := sc 8
  let x := u1 * v2 - u2 * v1
  let y := u2 * v0 - u0 * v2
  let z := u0 * v1 - u1 * v0
  (u0 != 0 || u1 != 0 || u2 != 0) && (v0 != 0 || v1 != 0 || v2 != 0) && decide ((2 : Int) ^ (596 - 80) ≤ x * x + y * y + z * z)

/-- A frequency table (R111): `top` is the highest token of its kind. -/
def freqOk (t : List Nat) (used : Bool) (top : Nat) : Bool :=
  if used then sumN t == 4096 && (t.drop (top + 1)).all (· == 0) else t.all (· == 0)

/-- The 16 frequencies of a table at an offset. -/
def freqAt (b : List Byte) (o : Nat) : List Nat := (List.range 16).map (fun i => fieldLE b (o + 2 * i) 2)

/-- The slab an entry describes. -/
def slabOf (seq : Nat) (b : List Byte) : MSlab :=
  { id := fieldLE b 0 1, pers := fieldLE b 1 1, fmt := fieldLE b 2 1, itv := fieldLE b 3 1, w := fieldLE b 4 2, h := fieldLE b 6 2,
    idx := fieldLE b 8 4, pose := (List.range 10).map (fun i => fieldLE b (16 + 4 * i) 4),
    freq := [freqAt b 64, freqAt b 96, freqAt b 128, freqAt b 160], src := seq, tiles := [] }

/-- The checks of a pose: finite fields, a positive depth step, proper axes. -/
def poseOk (p : List Nat) : Bool :=
  p.all (fun w => bits w 30 23 != 255) && p.getD 9 0 != 0 && decide (p.getD 9 0 < 2 ^ 31) && axesOk p

/-- The code of a slab entry; 0 where it passes. -/
def slabCode (f : Frame) (b : List Byte) : Nat :=
  let s := slabOf f.seq b
  let k := f.slabs.length
  let v1 := f.ver != 2
  let flat := f.ver == 0x81
  let idx := 64 + 192 * f.nslab + 16 * f.tilesDue
  if f.slabs.any (fun x => x.id == s.id) ∨ (flat ∧ s.id ≠ k) ∨ 2 < s.pers ∨ (v1 ∧ s.pers = 2) ∨ (f.flags % 2 = 1 ∧ s.pers ≠ 0) ∨
      !zeros b 12 4 ∨ !zeros b 56 8 then MSF_SYNTAX
  else if s.pers = 1 then
    if zeros b 2 6 ∧ zeros b 8 4 ∧ zeros b 16 40 ∧ zeros b 64 128 then 0 else MSF_SYNTAX
  else if s.pers = 2 then
    if zeros b 8 4 ∧ zeros b 64 128 ∧ poseOk s.pose then 0 else MSF_SYNTAX
  else if 3 < s.fmt ∨ 3 < s.itv ∨ (v1 ∧ (s.fmt < 2 ∨ s.itv ≠ 3)) ∨ (flat ∧ s.fmt ≠ 3) then MSF_SYNTAX
  else if s.w = 0 ∨ 256 < s.w ∨ s.h = 0 ∨ 256 < s.h ∨ 1048576 < f.tilesDue + s.w * s.h then MSF_LIMIT
  else if s.idx ≠ idx ∨ (if flat then !zeros b 16 40 else !poseOk s.pose) then MSF_SYNTAX
  else
    let fr (i : Nat) : List Nat := s.freq.getD i []
    if freqOk (fr 0) true 3 ∧ freqOk (fr 1) (s.fmt = 0 ∨ s.fmt = 2) 10 ∧ freqOk (fr 2) true 12 ∧ freqOk (fr 3) (s.fmt < 2) 14 then 0
    else MSF_TABLE

/-- The placement checks that the last slab entry settles (R116). -/
def tableCode (f : Frame) : Nat :=
  if f.slabs.length < f.nslab then 0
  else if f.tcount = f.tilesDue ∧ f.poff = 64 + 192 * f.nslab + 16 * f.tilesDue ∧ (f.tilesDue ≠ 0 ∨ f.poff = f.bytes - 8) then 0
  else MSF_SYNTAX

/-! ## Tile indexes (R112-R116) -/

/-- A tile as its index entry gives it; an EMPTY tile needs no payload. -/
def tileOf (b : List Byte) : MTile :=
  { off := fieldLE b 0 4, len := fieldLE b 4 4, cls := bits (fieldLE b 8 1) 7 6, cost := bits (fieldLE b 8 1) 5 0,
    dmin := fieldLES b 10 2, dmax := fieldLES b 12 2, here := false }

/-- All tiles of a frame's REPLACE slabs received so far, in tile-index order. -/
def Frame.allTiles (f : Frame) : List MTile := f.slabs.foldr (fun s acc => if s.pers = 0 then s.tiles ++ acc else acc) []

/-- The slab the next tile-index entry belongs to. -/
def Frame.openSlab (f : Frame) : Option MSlab := f.slabs.find? (fun s => s.pers == 0 && decide (s.tiles.length < s.w * s.h))

/-- Where the next payload begins: after the last one so far, rounded up to 8. -/
def Frame.nextOff (f : Frame) : Nat := f.allTiles.foldl (fun o t => if t.len = 0 then o else (t.off + t.len + 7) / 8 * 8) f.poff

/-- The code of a tile-index entry of slab `s`; 0 where it passes. -/
def tileCode (f : Frame) (s : MSlab) (b : List Byte) : Nat :=
  let t := tileOf b
  let flat2 := s.fmt == 2 || s.fmt == 3
  let opq := s.fmt == 1 || s.fmt == 3
  if 81920 < t.len then MSF_LIMIT
  else if !zeros b 9 1 ∨ !zeros b 14 2 ∨ t.off ≠ f.nextOff then MSF_SYNTAX
  else if (t.len = 0) ≠ (t.cls = 0) then MSF_SYNTAX
  else if t.cls = 0 ∧ (t.cost ≠ 0 ∨ t.dmin ≠ 0 ∨ t.dmax ≠ 0) then MSF_SYNTAX
  else if opq ∧ (t.cls = 1 ∨ t.cls = 2) then MSF_SYNTAX
  else if t.dmin < -8192 ∨ 8191 < t.dmax ∨ t.dmax < t.dmin ∨ (flat2 ∧ (t.dmin ≠ 0 ∨ t.dmax ≠ 0)) then MSF_SYNTAX
  else if f.ver ≠ 2 ∧ (t.cost ≠ 0 ∨ t.dmin ≠ 0 ∨ t.dmax ≠ 0) then MSF_SYNTAX
  else 0

/-- A frame with one more tile in the slab its index has reached. -/
def Frame.addTile (f : Frame) (id : Nat) (t : MTile) : Frame :=
  { f with slabs := f.slabs.map (fun s => if s.id == id then { s with tiles := s.tiles ++ [t] } else s) }

/-- The placement check that the last tile-index entry settles (R116). -/
def indexCode (f : Frame) : Nat :=
  if f.tilesGot < f.tcount ∨ f.nextOff = f.bytes - 8 then 0 else MSF_SYNTAX

/-! ## Payloads (R118, R119) -/

/-- Rows of a segment. -/
def segRows (itv : Nat) : Nat := 8 * 2 ^ itv

/-- Where segment `s` begins and ends in a payload; `v1`: no tile_crc. -/
def segSpan (p : List Byte) (itv : Nat) (v1 : Bool) (s : Nat) : Nat × Nat :=
  let n := 64 / segRows itv
  (fieldLE p (4 * s) 4, if s + 1 < n then fieldLE p (4 * s + 4) 4 else if v1 then p.length else p.length - 4)

/-- The code of a payload; 0 where it passes. -/
def payloadCode (p : List Byte) (itv : Nat) (v1 : Bool) : Nat :=
  let n := 64 / segRows itv
  let least := if v1 then 8 else 16
  let states := if v1 then 2 else 4
  let okSeg (s : Nat) : Bool :=
    let (a, e) := segSpan p itv v1 s
    decide (a + least ≤ e) && (e - a) % 2 == 0 && decide (e ≤ p.length) &&
    (List.range states).all (fun i => decide (0x10000 ≤ fieldLE p (a + 4 * i) 4))
  if p.length < 4 * n ∨ fieldLE p 0 4 ≠ 4 * n ∨ !(List.range n).all okSeg then MSF_SYNTAX
  else if !v1 ∧ fieldLE p (p.length - 4) 4 ≠ crc32c (p.take (p.length - 4)) then MSF_TILE_CRC
  else 0

/-- The next payload a frame waits for in stream order: slab id, tile number, tile. -/
def Frame.nextPayload (f : Frame) : Option (Nat × Nat × MTile) :=
  f.slabs.findSome? (fun s => if s.pers = 0 then
      (s.tiles.findIdx? (fun t => t.len != 0 && !t.here)).bind (fun i => (s.tiles[i]?).map (fun t => (s.id, i, t)))
    else none)

/-- Mark a tile of a frame as in place. -/
def Frame.tileHere (f : Frame) (id i : Nat) : Frame :=
  { f with slabs := f.slabs.map (fun s => if s.id == id then { s with tiles := modAt s.tiles i (fun t => { t with here := true }) } else s) }

/-- What a frame waits for next in stream order: 1 a slab entry, 2 a tile-index entry, 3 a payload, 4 the trailer. -/
def Frame.stage (f : Frame) : Nat :=
  if f.slabs.length < f.nslab then 1
  else if f.tilesGot < f.tcount then 2
  else if f.nextPayload.isSome then 3
  else 4

/-- The frame a path is receiving, where it waits for a part of kind `k`. -/
def receiving (m : Mach) (path k : Nat) : Option Frame :=
  match (pathOf m path).rx with
  | some s => match frameOf m s with
    | some f => if f.stage = k then some f else none
    | none => none
  | none => none

/-- Bytes of a frame arrive in stream order: counted, taken into the CRC. -/
def Frame.take (f : Frame) (b : List Byte) : Frame := { f with got := f.got + b.length, crc := crc32cRun f.crc b }

/-- A part was judged: the frame goes on, or is refused with the code. -/
def judged (m : Mach) (f : Frame) (code : Nat) : Mach :=
  let m := queueRefresh (frameMod m f.seq (fun _ => f))
  if code = 0 then m else refuseFrame m f code

/-- A slab entry arrives (R108). -/
def slabArrives (m : Mach) (f : Frame) (b : List Byte) : Mach :=
  let c := slabCode f b
  let g := (f.take b)
  let g : Frame := { g with slabs := g.slabs ++ [slabOf f.seq b] }
  judged m g (if c ≠ 0 then c else tableCode g)

/-- A tile-index entry arrives (R112). -/
def tileArrives (m : Mach) (f : Frame) (b : List Byte) : Mach :=
  match f.openSlab with
  | none => m
  | some s =>
    let c := tileCode f s b
    let g := (f.take b).addTile s.id (tileOf b)
    judged m g (if c ≠ 0 then c else indexCode g)

/-- A payload arrives with the zero bytes before it (R116, R118). -/
def payloadArrives (m : Mach) (f : Frame) (b : List Byte) : Mach :=
  match f.nextPayload with
  | none => m
  | some (id, i, t) =>
    let gap := t.off - f.got
    let p := b.drop gap
    let itv := match f.slab id with
      | some s => s.itv
      | none => 3
    let c := if !zeros b 0 gap ∨ p.length ≠ t.len then MSF_SYNTAX else payloadCode p itv (f.ver != 2)
    judged m ((f.take b).tileHere id i) c

/-- The last bytes of a frame arrive: the zero bytes before the trailer and the trailer (R117, R106). -/
def trailerArrives (m : Mach) (f : Frame) (b : List Byte) : Mach :=
  let gap := f.bytes - 8 - f.got
  let g := f.take (b.take gap)
  let t := b.drop gap
  let c :=
    if !zeros b 0 gap ∨ t.length ≠ 8 then MSF_SYNTAX
    else if fieldLE t 0 4 ≠ Nat.xor g.crc 0xFFFFFFFF then MSF_FRAME_CRC
    else if fieldLE t 4 4 ≠ 0x4546534D then MSF_SYNTAX
    else 0
  let g : Frame := { g with got := f.bytes, tail := true, st := if c = 0 then F_COMPLETE else g.st }
  let m := judged m g c
  pathMod m f.path (fun _ => ⟨none, none⟩)

end Sys2Proof.Machine
end

