-- ==== Sys2Proof/Machine/FlowOps.lean ====
section
/-!
DEFINITION. Flowstone: demands, contexts, lanes, rows and their place in Grotto (spec/05_flowstone_decoder.md R144-R165;
spec/07_helictite_synthesis.md R217-R219).
-/
namespace Sys2Proof.Machine

/-! ## Grotto's slots (R217-R219) -/

/-- Banks in service, ascending. -/
def banksActive (m : Mach) : List Nat :=
  bitList 32 (m.rd R.GROT.BANK_ACTIVE.BANKS 0) ++ (bitList 32 (m.rd R.GROT.BANK_ACTIVE.BANKS 1)).map (32 + ·) ++
  (bitList 4 (m.rd R.GROT.BANK_ACTIVE2.BANKS)).map (64 + ·)

/-- Banks in service that have not been retired within the frame. -/
def banksLive (m : Mach) : List Nat := (banksActive m).filter (fun g => !isRetired m 2 g)

/-- Whether a slot lies in the texel area: the first TEXEL_AREA slots of the banks in service (assumption log 46). -/
def inArea (m : Mach) (slot : Nat) : Bool :=
  match (banksActive m).findIdx? (· == slot / 6144) with
  | some i => decide (i * 6144 + slot % 6144 < m.rd R.GROT.TEXEL_AREA.SLOTS)
  | none => false

/-- A resident row. -/
def growOf (m : Mach) (k : RowKey) : Option GRow := m.hel.rows.find? (fun r => r.key == k)

/-- Set the resident rows. -/
def setRows (m : Mach) (l : List GRow) : Mach := { m with hel := { m.hel with rows := l } }

/-- The row a pinned context needs as its predictor (R153, R219). -/
def isPredictor (m : Mach) (slot : Nat) : Bool := m.flow.ctxs.any (fun c => c.pinned && c.pred == slot)

/-- A free slot for a row, in another bank than the row above it where there is one (R217). -/
def freeSlot (m : Mach) (k : RowKey) : Option Nat :=
  let bs := banksLive m
  let above := match growOf m { k with row := k.row - 1 } with
    | some r => if k.row = 0 then 999 else r.slot / 6144
    | none => 999
  let used (g : Nat) : List Nat := (m.hel.rows.filter (fun r => r.slot / 6144 == g)).map (·.slot)
  let pick (g : Nat) : Option Nat :=
    let u := used g
    ((List.range (u.length + 1)).find? (fun i => decide (i < 6144) && !u.contains (g * 6144 + i) && inArea m (g * 6144 + i))).map (g * 6144 + ·)
  match (bs.filter (· != above)).findSome? pick with
  | some s => some s
  | none => bs.findSome? pick

/-- The slot of the row released longest ago that may be reused (R219). -/
def oldestReleased (m : Mach) : Option GRow :=
  m.hel.rows.foldl (fun best r =>
    match r.rel with
    | none => best
    | some n =>
      if isPredictor m r.slot then best
      else match best with
        | some b => if n < b.rel.getD 0 then some r else best
        | none => some r) none

/-- Place a row in Grotto; none where no slot is free and the lane has to wait (R219). -/
def placeRow (m : Mach) (k : RowKey) (ws : List Nat) : Option (Nat × Mach) :=
  match growOf m k with
  | some r => some (r.slot, setRows m (m.hel.rows.map (fun x => if x.key == k then { x with words := ws, rel := none } else x)))
  | none =>
    match freeSlot m k with
    | some s => some (s, setRows m (⟨k, s, ws, none⟩ :: m.hel.rows))
    | none =>
      match oldestReleased m with
      | some r => some (r.slot, setRows m (⟨k, r.slot, ws, none⟩ :: m.hel.rows.filter (fun x => x.slot != r.slot)))
      | none => none

/-- Release a row: it stays resident until its slot is reused (R219). -/
def releaseRow (m : Mach) (k : RowKey) : Mach :=
  let n := m.hel.relNo
  let l := m.hel.rows.map (fun r => if r.key == k && r.rel.isNone then { r with rel := some n } else r)
  { m with hel := { m.hel with rows := l, relNo := n + 1 } }

/-! ## Tiles of a demand -/

/-- The slab and tile a key names, with the frame that carried them. -/
def tileFor (m : Mach) (k : RowKey) : Option (Frame × MSlab × MTile) :=
  match frameOf m k.src with
  | none => none
  | some f => match f.slab k.slab with
    | none => none
    | some s => (s.tiles[k.tile]?).map (fun t => (f, s, t))

/-- A row that is never fetched: of an EMPTY tile, an omitted one, or none at all (R113, R132, R144). -/
def rowAbsent (m : Mach) (k : RowKey) : Bool :=
  match tileFor m k with
  | none => true
  | some (_, _, t) => t.cls == 0 || !t.here

/-! ## Contexts (R148-R154) -/

/-- The context of a tile. -/
def ctxOf (m : Mach) (k : RowKey) : Option Ctx :=
  m.flow.ctxs.find? (fun c => c.src == k.src && c.slab == k.slab && c.tile == k.tile)

/-- Set the contexts. -/
def setCtxs (m : Mach) (l : List Ctx) : Mach := { m with flow := { m.flow with ctxs := l } }

/-- Store a context. -/
def putCtx (m : Mach) (c : Ctx) : Mach := setCtxs m (m.flow.ctxs.map (fun x => if x.num == c.num then c else x))

/-- Whether a lane holds a tile. -/
def laneHolds (m : Mach) (src slab tile : Nat) : Bool :=
  m.flow.demands.any (fun d => d.lane.isSome && d.key.src == src && d.key.slab == slab && d.key.tile == tile)

/-- The context R149 frees first: least recently used, then lowest number. -/
def lruCtx (m : Mach) (pool : Nat) : Option Ctx :=
  let now := m.tickCount % 65536
  let age (c : Ctx) : Nat := (now + 65536 - c.tick) % 65536
  (m.flow.ctxs.filter (fun c => c.pool == pool && !c.pinned && !laneHolds m c.src c.slab c.tile)).foldl (fun best c =>
    match best with
    | none => some c
    | some b => if age b < age c ∨ (age b = age c ∧ c.num < b.num) then some c else best) none

/-- Free a context. -/
def dropCtx (m : Mach) (num : Nat) : Mach := setCtxs m (m.flow.ctxs.filter (fun c => c.num != num))

/-- A pool's quota and the contexts it has. -/
def poolQuota (m : Mach) (pool : Nat) : Nat := if pool = 0 then m.rd R.FLOW.CTX_QUOTA_SCENE.QUOTA else m.rd R.FLOW.CTX_QUOTA_AUX.QUOTA
def poolUsed (m : Mach) (pool : Nat) : Nat := (m.flow.ctxs.filter (fun c => c.pool == pool)).length

/-- Free the least recently used context of a pool, counted (0x3030:04). -/
def evictOne (m : Mach) (pool : Nat) : Mach :=
  match lruCtx m pool with
  | none => m
  | some c => hev ((dropCtx m c.num).add R.FLOW.CTX_EVICTIONS.COUNT 1) 3

/-- The lowest context number not in use (assumption log 47). -/
def freeCtxNum (m : Mach) : Nat :=
  let used := m.flow.ctxs.map (·.num)
  ((List.range (used.length + 1)).find? (fun i => !used.contains i)).getD 0

/-- A context is allocated at the first demand for a tile that has none (R149). -/
def needCtx (m : Mach) (k : RowKey) (pool : Nat) : Mach :=
  if (ctxOf m k).isSome then m
  else
    let m := if poolQuota m pool ≤ poolUsed m pool then evictOne m pool else m
    if poolQuota m pool ≤ poolUsed m pool then m
    else match tileFor m k with
      | none => m
      | some (f, s, t) =>
        let bad := maskOf 8 (fun i => f.bad.any (fun b => b.slab == k.slab && b.tile == k.tile && b.seg == i))
        let c : Ctx :=
        { num := freeCtxNum m, src := k.src, slab := k.slab, tile := k.tile, states := [0, 0, 0, 0],
          tick := m.tickCount % 65536, pool := pool, pinned := true, bad := bad, two := f.ver != 2, fmt := s.fmt, itv := s.itv, pred := 0,
          next := 0, segEnd := 0, pos := 0, base := (f.addr + t.off) / 8 }
        setCtxs m (m.flow.ctxs ++ [c])

/-! ## Demands and lanes (R144-R146, R155, R156) -/

/-- Outstanding demands as reported (R178). -/
def demandRefresh (m : Mach) : Mach :=
  let n := m.flow.demands.length
  let m := m.wr R.FLOW.DEMAND_STATUS.OUTSTANDING n
  m.wr R.FLOW.DEMAND_STATUS.HIGH_WATER (Nat.max n (m.rd R.FLOW.DEMAND_STATUS.HIGH_WATER))

/-- Set the outstanding demands. -/
def setDemands (m : Mach) (l : List Demand) : Mach := { m with flow := { m.flow with demands := l } }

/-- Lanes that can take work. -/
def lanesFree (m : Mach) : List Nat :=
  (bitList 26 (m.rd R.FLOW.LANE_ACTIVE.LANES)).filter (fun l => !isRetired m 3 l && !m.flow.demands.any (fun d => d.lane == some l))

/-- Insert a demand by band, then arrival (R145). -/
def insDemand (d : Demand) : List Demand → List Demand
  | [] => [d]
  | e :: l => if d.band < e.band ∨ (d.band = e.band ∧ d.arr < e.arr) then d :: e :: l else e :: insDemand d l

/-- Give queued demands to free lanes in order of service (R145, R156). -/
def assignLanes (m : Mach) : Mach :=
  if m.rd R.FLOW.STATUS.STATE ≠ 1 then m
  else
    let order := (m.flow.demands.filter (·.lane.isNone)).foldl (fun l d => insDemand d l) []
    m.each order (fun m d =>
      if laneHolds m d.key.src d.key.slab d.key.tile then m
      else match (lanesFree m).head? with
        | none => m
        | some ln =>
          let m := needCtx m d.key 0
          if (ctxOf m d.key).isNone then m
          else setDemands m (m.flow.demands.map (fun e => if e.arr == d.arr then { e with lane := some ln } else e)))

/-- A row answered: EMPTY, resident (with its slot), pending, or turned away at the limit (R144, R146). -/
inductive RowAns where
  | empty | here (slot : Nat) | pending | full
  deriving DecidableEq, Repr

/-- A demand reaches the port (R144). -/
def demandRow (m : Mach) (k : RowKey) (band req : Nat) : RowAns × Mach :=
  if rowAbsent m k then (.empty, m)
  else
    match growOf m k with
    | some r => (.here r.slot, setRows m (m.hel.rows.map (fun x => if x.key == k then { x with rel := none } else x)))
    | none =>
      if m.flow.demands.any (fun d => d.key == k) then (.pending, m)
      else if 4096 ≤ m.flow.demands.length ∨ m.rd R.FLOW.STATUS.STATE ≠ 1 then (.full, m)
      else
        let d : Demand := ⟨k, band, req, m.flow.nextArr, none, false⟩
        let m := { m with flow := { m.flow with demands := m.flow.demands ++ [d], nextArr := m.flow.nextArr + 1 } }
        let m := needCtx m k 0
        let m := match ctxOf m k with
          | some c => putCtx m { c with pinned := true, tick := m.tickCount % 65536 }
          | none => m
        (.pending, assignLanes (demandRefresh m))

/-- A demand is satisfied. -/
def demandDone (m : Mach) (k : RowKey) : Mach :=
  assignLanes (demandRefresh { m with flow := { m.flow with demands := m.flow.demands.filter (fun d => d.key != k) } })

/-! ## Decoding a row (R146, R147, R157, R158) -/

/-- A substituted row (R157): transparent, or a copy of the last row decoded correctly. -/
def substRow (m : Mach) (prev : Option (List Nat)) : List Nat :=
  match prev with
  | some ws => if m.dv D.subst_policy = 1 then ws.map (fun w => if bit w 3 then w else w + 8) else List.replicate 64 11
  | none => List.replicate 64 11

/-- The row a lane decodes next for a demand of row `y` (R146): the context's next row, or the first row of the segment;
with it whether the lane resumes, and whether it begins the segment under step 3. -/
def rowToDecode (m : Mach) (c : Ctx) (y : Nat) : Nat × Bool × Bool :=
  let start := y / segRows c.itv * segRows c.itv
  let resumes := c.segEnd != 0 && start < c.next && c.next ≤ y && m.hel.rows.any (fun r =>
    r.slot == c.pred && r.key == { src := c.src, slab := c.slab, tile := c.tile, row := c.next - 1 })
  if resumes then (c.next, true, false) else (start, false, !(c.segEnd != 0 && c.next == start))

/-- Record a failure (R158): bad-segment list, FLOW.DECODE_ERR, the ledger. -/
def recordBad (m : Mach) (f : Frame) (k : RowKey) (seg code lane : Nat) : Mach :=
  let m := frameMod m f.seq (fun g => { g with bad := (⟨k.slab, k.tile, seg, k.row, code, lane, false⟩ :: g.bad).take 1024 })
  let m := match ctxOf m k with
    | some c => putCtx m { c with bad := setBit c.bad seg }
    | none => m
  let m := (m.wr R.FLOW.DECODE_ERR.CODE code).wr R.FLOW.DECODE_ERR.SLAB k.slab
  let m := (m.wr R.FLOW.DECODE_ERR.TILE_HI (k.tile / 64)).wr R.FLOW.DECODE_ERR.ROW k.row
  let m := (m.wr R.FLOW.DECODE_ERR_SEQ.TILE_LO (k.tile % 64)).wr R.FLOW.DECODE_ERR_SEQ.SEQ_LO (k.src % 2 ^ 26)
  let m := if m.dv D.retry_enable = 1 then
      { m with flow := { m.flow with bg := m.flow.bg ++ [(f.seq, k.slab, k.tile, seg)] } } else m
  sumpSystem (m.ev E.FLOW.DECODE_ERR) 8 code (k.slab * 2 ^ 24 + k.tile * 2 ^ 6 + k.row)

/-- The word a lane reads at a byte of a payload. -/
def payloadWord (d : Mem) (base : Nat) (o : Nat) : Nat := (d.byte (base + o)).toNat + 256 * (d.byte (base + o + 1)).toNat

/-- A substituted row is written in place of row `k` (R157). -/
def writeSubst (m : Mach) (k : RowKey) (prev : Option (List Nat)) : Option Mach :=
  match placeRow m k (substRow m prev) with
  | none => none
  | some (_, m) => some (hev (m.add R.FLOW.ROWS_SUBSTITUTED.COUNT 1) 2)

/-- A lane finishes the row it was at for demand `d` (R146, R147, R157). No slot free: the lane waits and nothing changes. -/
def laneDecode (mem : Mem) (m : Mach) (lane : Nat) (d : Demand) : Mach :=
  match tileFor m d.key, ctxOf m d.key with
  | some (f, s, t), some c =>
    let n := segRows s.itv
    let seg := d.key.row / n
    let key (r : Nat) : RowKey := { d.key with row := r }
    let lastGood : Option (List Nat) :=
      match f.bad.find? (fun b => b.slab == s.id && b.tile == d.key.tile && b.seg == seg) with
      | some b => if b.row = seg * n then none else (growOf m (key (b.row - 1))).map (·.words)
      | none => none
    let failing := match f.bad.find? (fun b => b.slab == s.id && b.tile == d.key.tile && b.seg == seg) with
      | some b => decide (b.row ≤ d.key.row)
      | none => false
    if failing then
      match writeSubst m d.key lastGood with
      | none => m
      | some m => demandDone m d.key
    else
      let (r, resume, begins) := rowToDecode m c d.key.row
      let v1 := f.ver != 2
      let base := f.addr + t.off
      let rd := payloadWord mem base
      let ent (i : Nat) : Nat := rd (4 * i) + 65536 * rd (4 * i + 2)
      let segs := 64 / n
      let e := if seg + 1 < segs then ent (seg + 1) else if v1 then t.len else t.len - 4
      let g : SegDec := if resume then
          { st := if v1 then c.states.take 2 else c.states, k := 0, pos := 2 * c.pos, fin := 2 * c.segEnd }
        else segStart rd (if v1 then 2 else 4) (ent seg) e
      let above := if resume then (m.hel.rows.find? (fun x => x.slot == c.pred)).map (·.words) else none
      let td : TileDec := ⟨s.fmt, s.freq, t.cls, t.dmin, t.dmax⟩
      match decodeRow rd td g above ((r + 1) % n = 0) with
      | .error code =>
        match writeSubst m (key r) above with
        | none => m
        | some m =>
          let m := recordBad m f (key r) seg code lane
          if r = d.key.row then demandDone m d.key else m
      | .ok (ws, g) =>
        match placeRow m (key r) ws with
        | none => m
        | some (slot, m) =>
          let m := hev (m.add R.FLOW.ROWS_DECODED.COUNT 1) 0
          let m := if (d.re ∨ begins) ∧ r ≠ d.key.row then hev (m.add R.FLOW.ROWS_RESTARTED.COUNT 1) 1 else m
          let m := if begins then setDemands m (m.flow.demands.map (fun e => if e.arr == d.arr then { e with re := true } else e)) else m
          let c : Ctx := { c with states := if v1 then g.st ++ [0, 0] else g.st, tick := m.tickCount % 65536, pred := slot, next := r + 1,
                                  segEnd := g.fin / 2, pos := g.pos / 2 }
          let m := putCtx m c
          if r = d.key.row then demandDone m d.key else m
  | _, _ => demandDone m d.key

/-! ## Background decoding (R159-R161) -/

/-- Whether any background work is queued: retries, or frames to pre-check. -/
def bgWork (m : Mach) : Bool :=
  !m.flow.bg.isEmpty || (m.flag R.FLOW.CTRL.BG_EN && m.flow.frames.any (fun f => f.st == F_COMPLETE || f.st == F_ADMITTED))

/-- Flowstone asks for tokens at each tick that has background work (R161). -/
def bgAsk (m : Mach) : Mach :=
  if bgWork m ∧ m.rd R.FLOW.STATUS.STATE = 1 then chimRequest m C_DECODE 0 (m.dv D.bg_tokens) else chimRelease m C_DECODE 0

/-- Check one segment of a tile (R127, R113, R114): none where it decodes cleanly, else the failing row and code. KL-07: a
version 1 tile whose payload_bytes is 2 modulo 4 is misread by one word at the end of the segment (R788). -/
def checkSegment (mem : Mem) (m : Mach) (k : RowKey) (seg : Nat) : Option (Nat × Nat) :=
  match tileFor m k with
  | none => none
  | some (f, s, t) =>
    let n := segRows s.itv
    let v1 := f.ver != 2
    let rd := payloadWord mem (f.addr + t.off)
    let ent (i : Nat) : Nat := rd (4 * i) + 65536 * rd (4 * i + 2)
    let e := if seg + 1 < 64 / n then ent (seg + 1) else if v1 then t.len else t.len - 4
    let r := checkRows rd ⟨s.fmt, s.freq, t.cls, t.dmin, t.dmax⟩ n (seg * n) (segStart rd (if v1 then 2 else 4) (ent seg) e) none
    if r.isNone ∧ v1 ∧ t.len % 4 = 2 then some (seg * n + n - 1, MSF_STATE_CHECK) else r

/-- The next segment to pre-check: frame, slab, tile, segment (R160). -/
def nextPrecheck (m : Mach) : Option (Nat × Nat × Nat × Nat) :=
  if !m.flag R.FLOW.CTRL.BG_EN then none
  else (m.flow.frames.filter (fun f => f.st == F_COMPLETE || f.st == F_ADMITTED)).findSome? (fun f =>
    let all := f.slabs.foldr (fun s acc => if s.pers = 0 then
      (List.range s.tiles.length).foldr (fun i acc =>
        match s.tiles[i]? with
        | some t => if t.cls = 0 ∨ !t.here then acc else (List.range (64 / segRows s.itv)).map (fun g => (f.seq, s.id, i, g)) ++ acc
        | none => acc) acc else acc) []
    all[f.checked]?)

/-! ## Lanes in and out of service (R165, R170) -/

/-- Bring FLOW.STATUS and the lane masks up to date at a tick: the lowest 24 serviceable lanes keep or take places. -/
def lanesAtTick (m : Mach) : Mach :=
  let act := (bitList 26 (m.rd R.FLOW.LANE_ACTIVE.LANES)).filter (fun l => !isRetired m 3 l)
  let spare := (List.range 26).filter (fun l => !isRetired m 3 l && !act.contains l)
  let act := act ++ spare.take (24 - act.length)
  let m := m.wr R.FLOW.LANE_ACTIVE.LANES (maskOf 26 (fun l => act.contains l))
  let m := m.wr R.FLOW.LANE_RETIRED.LANES (maskOf 26 (isRetired m 3))
  let m := m.wr R.FLOW.STATUS.ACTIVE_LANES act.length
  assignLanes (m.wr R.FLOW.STATUS.SPARES ((unitsLeft m 3) - act.length))

/-- A cut of a pool's quota frees its surplus at the tick (R154). -/
def quotaCut (m : Mach) (pool : Nat) : Mach :=
  let excess := poolUsed m pool - poolQuota m pool
  let n := poolUsed m pool
  let m := m.each (List.range excess) (fun m _ => evictOne m pool)
  m.evIf (poolUsed m pool != n) E.FLOW.QUOTA_EVICT

/-- Contexts and rows of tiles no held frame refers to any longer are freed at action 3 (R150). -/
def freeUnreferred (m : Mach) : Mach :=
  let r := referred m
  let m := setCtxs m (m.flow.ctxs.filter (fun c => r.contains c.src))
  let m := setRows m (m.hel.rows.filter (fun x => r.contains x.key.src))
  let ds := m.flow.demands.filter (fun d => r.contains d.key.src)
  assignLanes (demandRefresh { m with flow := { m.flow with demands := ds, bg := m.flow.bg.filter (fun b => r.contains b.1) } })

/-- Contexts in use as of the tick (R177). -/
def ctxReport (m : Mach) : Mach := (m.wr R.FLOW.CTX_USED.SCENE (poolUsed m 0)).wr R.FLOW.CTX_USED_AUX.AUX (poolUsed m 1)

/-- A context's 32 bytes (R148). -/
def Ctx.bytes (c : Ctx) : List Byte :=
  let w := c.base + c.pos * 2 ^ 33 + c.segEnd * 2 ^ 49 + c.next * 2 ^ 65 + c.pred * 2 ^ 72 + c.itv * 2 ^ 91 + c.fmt * 2 ^ 93 +
    b2n c.two * 2 ^ 95 + c.bad * 2 ^ 96 + 2 ^ 104 + b2n c.pinned * 2 ^ 105 + c.pool * 2 ^ 106 + c.tick * 2 ^ 112
  toLE 4 (c.states.getD 0 0) ++ toLE 4 (c.states.getD 1 0) ++ toLE 4 (c.states.getD 2 0) ++ toLE 4 (c.states.getD 3 0) ++ toLE 16 w

end Sys2Proof.Machine
end

