-- ==== Sys2Proof/Machine/FlowCmds.lean ====
section
/-!
DEFINITION. The commands of Flowstone (spec/05_flowstone_decoder.md R140-R165, R181).
-/
namespace Sys2Proof.Machine

/-- LATE_FRAME_BYTES (R143): `n` bytes of a discarded or refused frame arrive on a path (0 HOST, 1 FABRIC) and are dropped. -/
def lateBytes (m : Mach) (path n : Nat) : Mach :=
  match (pathOf m path).drop with
  | none => m
  | some (left, any) =>
    let k := match left with
      | some l => Nat.min l n
      | none => n
    if k = 0 then m
    else
      let m := hev (m.add R.FLOW.LATE_BYTES.COUNT k) 4 k
      let m := if any then m else hev (m.add R.FLOW.LATE_FRAMES.COUNT 1) 5
      let m := m.ev E.FLOW.LATE_DATA
      pathMod m path (fun _ => ⟨none, match left with
        | some l => if l ≤ k then none else some (some (l - k), true)
        | none => some (none, true)⟩)

def execLateFrameBytes (path n : Nat) (s : State) : Out' := onM s (fun m => lateBytes m path n)

/-- STALL_TIMEOUT (R142): stall_timeout passes after the last byte of a frame still RECEIVING. -/
def stallTimeout (m : Mach) (path : Nat) : Mach :=
  match (pathOf m path).rx with
  | some q => match frameOf m q with
    | some f => if f.st = F_RECEIVING then refuseFrame m f FRAME_INCOMPLETE else m
    | none => m
  | none => m

def execStallTimeout (path : Nat) (s : State) : Out' := onM s (fun m => stallTimeout m path)

/-- QUEUE_FLUSH (R140, R173). -/
def execQueueFlush (s : State) : Out' := onM s queueFlush

/-- TILE_ROW_DEMAND (R144). -/
def execTileRowDemand (k : RowKey) (band req : Nat) (s : State) : Out' :=
  onM s (fun m =>
    let (a, m) := demandRow m k band req
    m.emit (.start 1 (match a with
      | .empty => 0
      | .here slot => slot + 4
      | .pending => 1
      | .full => 2)))

/-- ROW_COMMIT (R147): a lane finishes the row it is at. -/
def execRowCommit (lane : Nat) (s : State) : Out' :=
  onR s (fun mem m =>
    match m.flow.demands.find? (fun d => d.lane == some lane) with
    | none => m
    | some d => laneDecode mem m lane d)

/-- A Flowstone lane's event in its bucket; a crossing retires the lane at once (R165). -/
def flowLaneEvent (m : Mach) (lane code detail : Nat) : Mach :=
  let (crossed, m) := bucketAdd m 3 lane 1 code detail
  if crossed then
    let ds := m.flow.demands.map (fun d => if d.lane == some lane then { d with lane := none } else d)
    let m := hev ((setDemands m ds).ev E.FLOW.LANE_RETIRED) 7
    forceRetirement (assignLanes m)
  else m

/-- The mark of a bad segment is removed (R159). -/
def clearBad (m : Mach) (seq slab tile seg : Nat) : Mach :=
  let m := frameMod m seq (fun f => { f with bad := f.bad.filter (fun b => !(b.slab == slab && b.tile == tile && b.seg == seg)) })
  setCtxs m (m.flow.ctxs.map (fun c =>
    if c.src == seq && c.slab == slab && c.tile == tile then { c with bad := clrBit c.bad seg } else c))

/-- BACKGROUND_SEGMENT_DONE (R159-R161): the first queued retry, else the next segment to pre-check, is decoded; it needs a grant in
force, a lane without a demand and room in the AUX pool. -/
def backgroundDone (mem : Mem) (m : Mach) : Mach :=
  if !hasGrant m C_DECODE 0 ∨ (lanesFree m).isEmpty ∨ poolQuota m 1 = 0 ∨ m.rd R.FLOW.STATUS.STATE ≠ 1 then m
  else
    let lane := (lanesFree m).headD 0
    match m.flow.bg with
    | (seq, slab, tile, seg) :: rest =>
      let m := { m with flow := { m.flow with bg := rest } }
      let k : RowKey := ⟨seq, slab, tile, 0⟩
      match (frameOf m seq).bind (fun f => f.bad.find? (fun b => b.slab == slab && b.tile == tile && b.seg == seg)) with
      | none => m
      | some b =>
        if b.tried then m
        else match checkSegment mem m k seg with
          | none => flowLaneEvent (clearBad m seq slab tile seg) b.lane b.code (slab * 2 ^ 24 + tile * 2 ^ 6 + b.row)
          | some _ => frameMod m seq (fun f => { f with bad := f.bad.map (fun x =>
              if x.slab == slab && x.tile == tile && x.seg == seg then { x with tried := true } else x) })
    | [] =>
      match nextPrecheck m with
      | none => m
      | some (seq, slab, tile, seg) =>
        let m := frameMod m seq (fun f => { f with checked := f.checked + 1 })
        match frameOf m seq, checkSegment mem m ⟨seq, slab, tile, 0⟩ seg with
        | some f, some (row, code) => recordBad m f ⟨seq, slab, tile, row⟩ seg code lane
        | _, _ => m

def execBackgroundSegmentDone (s : State) : Out' := onR s backgroundDone

/-- FLOW_DRAIN (R162, R163): a write of FLOW.CTRL.ENABLE. -/
def flowDrain (m : Mach) (enable : Bool) : Mach :=
  if enable then
    let m := m.wr R.FLOW.CTRL.ENABLE 1
    if m.rd R.FLOW.STATUS.STATE = 0 then m else assignLanes (m.wr R.FLOW.STATUS.STATE 1)
  else if drivesRays m.mode then m.wr R.FLOW.STATUS.LAST_STOP FLOW_IN_USE
  else if m.mode = 5 ∨ m.mode = 10 then
    let m := m.wr R.FLOW.CTRL.ENABLE 0
    if m.rd R.FLOW.STATUS.STATE = 1 then m.wr R.FLOW.STATUS.STATE 2 else m
  else m

def execFlowDrain (enable : Bool) (s : State) : Out' := onM s (fun m => flowDrain m enable)

/-- FLOW_DRAINED (R162): every lane is idle. -/
def execFlowDrained (s : State) : Out' :=
  onM s (fun m =>
    if m.rd R.FLOW.STATUS.STATE = 2 ∧ m.flow.demands.all (·.lane.isNone) then
      ((m.wr R.FLOW.STATUS.STATE 3).wr R.FLOW.STATUS.LAST_STOP FLOW_DRAINED).ev E.FLOW.DRAINED
    else m)

/-- FLOW_FORCE_STOP (R163, R164); `late`: a row's commit reached the completion logic in the same cycle or before. -/
def flowForceStop (m : Mach) (late : Bool) : Mach :=
  if drivesRays m.mode then m.wr R.FLOW.STATUS.LAST_STOP FLOW_IN_USE
  else if m.mode = 5 ∨ m.mode = 10 then
    let m := demandRefresh (setDemands m (m.flow.demands.filter (·.lane.isNone)))
    let m := (m.wr R.FLOW.CTRL.ENABLE 0).wr R.FLOW.STATUS.STATE 3
    (m.wr R.FLOW.STATUS.LAST_STOP (if late then ABORT_LATE else ABORTED_BY_DISABLE)).ev E.FLOW.DRAINED
  else m

def execFlowForceStop (late : Bool) (s : State) : Out' := onM s (fun m => flowForceStop m late)

/-- FLOW_LANE_ERROR (R165): the row is abandoned, its demand served again by another lane, the error counted. -/
def flowLaneError (m : Mach) (lane : Nat) : Mach :=
  let other := ((lanesFree m).filter (· != lane)).head?
  let m := setDemands m (m.flow.demands.map (fun d => if d.lane == some lane then { d with lane := other } else d))
  if lane < 26 then flowLaneEvent m lane 0 lane else m

def execFlowLaneError (lane : Nat) (s : State) : Out' := onM s (fun m => flowLaneError m lane)

/-- CTX_SNAPSHOT (R181): a write of FLOW.CTX_INDEX. -/
def ctxSnapshot (m : Mach) (n : Nat) : Mach :=
  let i := n % 2 ^ 18
  let b := match m.flow.ctxs.find? (fun c => c.num == i) with
    | some c => c.bytes
    | none => List.replicate 32 0
  let m := (m.wr R.FLOW.CTX_INDEX.INDEX i).wr R.FLOW.CTX_INDEX.SNAP_DONE 1
  m.each (List.range 8) (fun m w => m.wr R.FLOW.CTX_DATA.DATA (fieldLE b (4 * w) 4) w)

def execCtxSnapshot (n : Nat) (s : State) : Out' := onM s (fun m => ctxSnapshot m n)

end Sys2Proof.Machine
end

