-- ==== Sys2Proof/Machine/GalSets.lean ====
section
/-!
DEFINITION. Gallery's shadow set, its snapshots, their checks and the two queues (spec/08_gallery_composition.md R256-R281,
R291-R295).
-/
namespace Sys2Proof.Machine

def GAL_APPLIED : Nat := 0x60
def GAL_PENDING : Nat := 0x61
def GAL_SET_BAD : Nat := 0x62
def GAL_HELD : Nat := 0x63
def TAP_DRAINED : Nat := 0x64
def TAP_OVERRUN : Nat := 0x65
def TAP_SKIPPED : Nat := 0x66
def GAL_DEFERRED : Nat := 0x02

/-! ## The sets -/

/-- A field of a set by row and instance. -/
def GSnap.rd (g : GSnap) (r : Row) (i : Nat := 0) (j : Nat := 0) : Nat := SMap.get (r.reset i j) g.regs (r.key i j)

/-- A one-bit field. -/
def GSnap.flag (g : GSnap) (r : Row) (i : Nat := 0) (j : Nat := 0) : Bool := g.rd r i j == 1

/-- A signed 32-bit field. -/
def GSnap.si (g : GSnap) (r : Row) (i : Nat := 0) (j : Nat := 0) : Int := sInt 32 (g.rd r i j)

/-- Whether a register key belongs to the ordinary shadow set (R256): by BAR0 offset, without the fields that act at once and
region 7. -/
def shadowKey (k : Nat) : Bool :=
  keyIn 0x1000018 0x100001C k || keyIn 0x1000020 0x1000038 k || keyIn 0x1001000 0x10070E0 k ||
  (keyIn 0x1007800 0x1007804 k && k != R.GAL.TAP_CTRL.ENABLE.key 0 0) || keyIn 0x1007808 0x1007824 k || keyIn 0x1010000 0x1040000 k

/-- Whether a register key belongs to the protected set (R273, R274). -/
def plKey (k : Nat) : Bool := keyIn 0x10070E0 0x10070F0 k || keyIn 0x1007C00 0x1007C14 k || keyIn 0x1007C40 0x1007CC0 k

/-- A snapshot of the shadow set (R257). -/
def snapshot (m : Mach) (tok : Nat) : GSnap :=
  { tok := tok, regs := SMap.keep m.regs shadowKey, limit := m.dv D.layer_read_limit, cnt := m.gal.cnt, depth := [], load := [] }

/-- Enabled 2D layers of a set, ascending. -/
def GSnap.layers (g : GSnap) : List Nat := (List.range 14).filter (fun k => g.flag R.GAL.LAYER_CTRL.ENABLE k)

/-- Whether a layer is DEPTH-placed. -/
def GSnap.isDepth (g : GSnap) (k : Nat) : Bool := g.flag R.GAL.LAYER_CTRL.MODE k

/-- Bytes per pixel of a layer's format (R262). -/
def GSnap.bpp (g : GSnap) (k : Nat) : Nat :=
  match g.rd R.GAL.LAYER_CTRL.FORMAT k with
  | 0 => 4
  | 1 => 4
  | 2 => 8
  | _ => 1

/-- A layer's source base. -/
def GSnap.base (g : GSnap) (k : Nat) : Nat := g.rd R.GAL.LAYER_SRC_HI.BASE k * 2 ^ 32 + g.rd R.GAL.LAYER_SRC_LO.BASE k * 64

/-- A layer's row pitch in bytes. -/
def GSnap.pitch (g : GSnap) (k : Nat) : Nat := g.rd R.GAL.LAYER_PITCH.PITCH k * 64

/-- Source and destination sizes. -/
def GSnap.srcW (g : GSnap) (k : Nat) : Nat := g.rd R.GAL.LAYER_SRC_WH.W k
def GSnap.srcH (g : GSnap) (k : Nat) : Nat := g.rd R.GAL.LAYER_SRC_WH.H k
def GSnap.dstW (g : GSnap) (k : Nat) : Nat := g.rd R.GAL.LAYER_DST_WH.W k
def GSnap.dstH (g : GSnap) (k : Nat) : Nat := g.rd R.GAL.LAYER_DST_WH.H k

/-- What names a DEPTH layer's source: base, pitch, crop, format. -/
def GSnap.depthSrc (g : GSnap) (k : Nat) : List Nat :=
  [g.base k, g.pitch k, g.rd R.GAL.LAYER_SRC_XY.X k, g.rd R.GAL.LAYER_SRC_XY.Y k, g.srcW k, g.srcH k, g.rd R.GAL.LAYER_CTRL.FORMAT k]

/-- The zone grid of an entry (R280). -/
def zoneW (e : Nat) : Nat := ceilDiv (tentry e).w 256
def zoneH (e : Nat) : Nat := ceilDiv (tentry e).h 256

/-! ## The checks of R258 (reasons of R292) -/

/-- SCALE for one axis of a SCREEN layer (R266, R267). -/
def ratioOk (scaler s d : Nat) : Bool :=
  if scaler = 0 then decide (0 < s) && decide (0 < d) && (s == d || (d % s == 0 && decide (d / s ≤ 8)) || (decide (s ≤ 8 * d) && decide (d < s)))
  else decide (0 < s) && decide (0 < d) && decide (s ≤ 4 * d) && decide (d ≤ 16 * s)

/-- A polyphase tap of instance n (from 1): horizontal 8, vertical 6 per phase (R267, R293). -/
def tapH (g : GSnap) (n ph t : Nat) : Int :=
  let w := 4 * ph + t / 2
  sInt 16 (if t % 2 = 0 then g.rd R.GAL.SCALH.C0 (n - 1) w else g.rd R.GAL.SCALH.C1 (n - 1) w)
def tapV (g : GSnap) (n ph t : Nat) : Int :=
  let w := 3 * ph + t / 2
  sInt 16 (if t % 2 = 0 then g.rd R.GAL.SCALV.C0 (n - 1) w else g.rd R.GAL.SCALV.C1 (n - 1) w)

/-- Sum of integers. -/
def sumI (l : List Int) : Int := l.foldl (· + ·) 0

/-- The matrix rows of A and B. -/
def matRows (b : Nat) : List Row :=
  if b = 0 then
    [R.GAL.MATA0.COEF, R.GAL.MATA1.COEF, R.GAL.MATA2.COEF, R.GAL.MATA3.COEF, R.GAL.MATA4.COEF, R.GAL.MATA5.COEF, R.GAL.MATA6.COEF,
     R.GAL.MATA7.COEF, R.GAL.MATA8.COEF]
  else
    [R.GAL.MATB0.COEF, R.GAL.MATB1.COEF, R.GAL.MATB2.COEF, R.GAL.MATB3.COEF, R.GAL.MATB4.COEF, R.GAL.MATB5.COEF, R.GAL.MATB6.COEF,
     R.GAL.MATB7.COEF, R.GAL.MATB8.COEF]

/-- A matrix of a set, nine coefficients, row-major. -/
def GSnap.matrix (g : GSnap) (b : Nat) : List Int := (matRows b).map (fun r => g.si r)

/-- A committed gain of a map (0 uniformity, 1 aging) at a node and channel (R280). -/
def GSnap.gainOf (g : GSnap) (map node ch : Nat) : Nat :=
  let r := if map = 0 then R.GAL.UNIF.WORD else R.GAL.AGING.WORD
  let w := g.rd r node (ch / 2)
  if ch % 2 = 0 then w % 65536 else w / 65536

/-- The need of a set in 512-byte slots, with each DEPTH source (R269). -/
def GSnap.need (g : GSnap) : Nat × List (List Nat × Nat) :=
  g.layers.foldl (fun acc k =>
    if g.isDepth k then (acc.1, (g.depthSrc k, ceilDiv (g.srcW k * g.srcH k * g.bpp k) 512) :: acc.2)
    else (acc.1 + ceilDiv (16 * g.srcW k * g.bpp k) 512, acc.2)) (0, [])

/-- Slots the set in force and a snapshot need together; a DEPTH source in both counts once. -/
def needTogether (a b : GSnap) : Nat :=
  let p := a.need
  let q := b.need
  p.1 + q.1 + sumN (p.2.map (·.2)) + sumN ((q.2.filter (fun x => !p.2.any (fun y => y.1 == x.1))).map (·.2))

/-- The checks of R258 against an entry and a Gallery partition in MiB, reasons in the order of R292; 0 where the snapshot passes. -/
def setReason (force g : GSnap) (e mib : Nat) : Nat :=
  let t := tentry e
  let ls := g.layers
  let screens := ls.filter (fun k => !g.isDepth k)
  let depths := ls.filter (fun k => g.isDepth k)
  let scal (k : Nat) : Nat := g.rd R.GAL.LAYER_CTRL.SCALER k
  let named := (screens.map scal).filter (fun n => n != 0)
  let nodes := zoneW e * zoneH e
  let badMap (i : Nat) : Bool :=
    let n := g.cnt.getD i 0
    n != 0 && (n != nodes || (List.range nodes).any (fun z => (List.range 3).any (fun c =>
      let v := g.gainOf i z c
      decide (v < 0x2000) || decide (0x7FFF < v))))
  let tapC := g.rd R.GAL.TAP_CTRL.COUNT_M1 + 1
  let stride := g.rd R.GAL.TAP_STRIDE.STRIDE
  let buf := 64 + g.rd R.GAL.TAP_PITCH.PITCH * g.rd R.GAL.TAP_WH.H
  if ls.any (fun k => decide (5 ≤ g.rd R.GAL.LAYER_CTRL.FORMAT k)) then 1
  else if ls.any (fun k => decide (g.pitch k < g.srcW k * g.bpp k)) then 2
  else if ls.any (fun k => decide (4 < scal k)) ∨
      screens.any (fun k => !ratioOk (scal k) (g.srcW k) (g.dstW k) || !ratioOk (scal k) (g.srcH k) (g.dstH k)) ∨
      depths.any (fun k => decide (4096 < g.srcW k) || decide (4096 < g.srcH k) || scal k != 0 ||
        decide (g.si R.GAL.LAYER_LW.VALUE k ≤ 0) || decide (g.si R.GAL.LAYER_LH.VALUE k ≤ 0) ||
        decide (2 ^ 30 < (g.si R.GAL.LAYER_LZ.VALUE k).natAbs)) then 3
  else if named.length ≠ named.eraseDups.length then 4
  else if 4 < depths.length then 5
  else if 2048 * mib < needTogether force g then 6
  else if g.limit * 1000000 * t.den < sumN (screens.map (fun k => g.srcH k * g.srcW k * g.bpp k)) * t.num then 7
  else if badMap 0 ∨ badMap 1 then 8
  else if (g.matrix 0 ++ g.matrix 1).any (fun c => decide (65536 < c.natAbs)) ∨
      (List.range 4).any (fun n => (List.range 64).any (fun ph =>
        decide (sumI ((List.range 8).map (tapH g (n + 1) ph)) ≠ 1024) || decide (sumI ((List.range 6).map (tapV g (n + 1) ph)) ≠ 1024))) then 9
  else if stride < buf ∧ g.rd R.GAL.TAP_WH.H ≠ 0 ∨ 2 ^ 30 < stride * tapC ∨ 2 ^ 26 < buf then 10
  else 0

/-! ## The queue (R257-R261) -/

/-- The entry in force after the coming tick, as far as it is scheduled (R258). -/
def galEntryDue (m : Mach) : Nat :=
  let now := if drivesPanel m.mode then m.entry else m.rd R.SYS.MODE_REQ.ENTRY
  match m.mc.due with
  | some d => if d.wait = 0 then d.entry else (m.th.stepDue).getD now
  | none => (m.th.stepDue).getD now

/-- The Gallery partition due at the coming tick, MiB. -/
def galMibDue (m : Mach) : Nat := m.rdNew R.GROT.PART.GALLERY_MIB

/-- COMMIT_STATUS and COMMIT_QUEUE brought up to date (R295). -/
def galRefresh (m : Mach) : Mach :=
  let m := m.wr R.GAL.COMMIT_STATUS.PENDING_VALID (b2n m.gal.pend.isSome)
  let m := m.wr R.GAL.COMMIT_STATUS.DEFERRED_VALID (b2n m.gal.defer.isSome)
  let m := m.wr R.GAL.COMMIT_QUEUE.PENDING_TOKEN ((m.gal.pend.map (·.tok)).getD 0)
  let m := m.wr R.GAL.COMMIT_QUEUE.DEFERRED_TOKEN ((m.gal.defer.map (·.tok)).getD 0)
  m.wr R.GAL.COMMIT_STATUS.IN_FORCE_TOKEN m.gal.force.tok

/-- Report a result. -/
def galResult (m : Mach) (code reason : Nat) : Mach :=
  (m.wr R.GAL.COMMIT_STATUS.RESULT code).wr R.GAL.COMMIT_STATUS.REASON reason

/-- DEPTH layers whose image a snapshot has to load: those whose source no layer of the set in force has (R260). -/
def loadsOf (force g : GSnap) : List Nat :=
  (g.layers.filter (fun k => g.isDepth k)).filter (fun k => !force.depth.any (fun p => p.1 == k) || force.depthSrc k != g.depthSrc k || !force.layers.contains k)

/-- Images a snapshot takes over from the set in force. -/
def imagesKept (force g : GSnap) : List (Nat × List Byte) :=
  let l := loadsOf force g
  force.depth.filter (fun p => g.layers.contains p.1 && g.isDepth p.1 && !l.contains p.1)

/-- GAL_COMMIT (R257-R260): the code of the outcome and the state. -/
def galCommit (m : Mach) (tok : Nat) : Nat × Mach :=
  let m := m.wr R.GAL.COMMIT.TOKEN tok
  let g := snapshot m (tok % 65536)
  let r := setReason m.gal.force g (galEntryDue m) (galMibDue m)
  if r ≠ 0 then (GAL_SET_BAD, hev ((galResult m GAL_SET_BAD r).ev E.GAL.SET_BAD) 68)
  else
    let ls := loadsOf m.gal.force g
    let g := { g with depth := imagesKept m.gal.force g, load := ls }
    let m := m.emits (ls.map (fun k => Out.start 2 k))
    if m.mc.deadline then
      let m := if m.gal.defer.isSome then hev (m.ev E.GAL.REPLACED) 69 else m
      let m := deferNote { m with gal := { m.gal with defer := some g } }
      (GAL_DEFERRED, galRefresh (galResult m GAL_DEFERRED 0))
    else
      let was := m.gal.pend.isSome
      let held := m.flag R.GAL.COMMIT_STATUS.HELD
      let m := if was || (held && m.gal.defer.isSome) then hev (m.ev E.GAL.REPLACED) 69 else m
      let m := { m with gal := { m.gal with pend := some g, defer := if held then none else m.gal.defer } }
      let m := m.wr R.GAL.COMMIT_STATUS.HELD 0
      (GAL_PENDING, galRefresh (galResult m GAL_PENDING 0))

/-- A queued snapshot is dropped (R261). -/
def galDrop (m : Mach) (r : Nat) : Mach :=
  let m := { m with gal := { m.gal with pend := none } }
  galRefresh ((hev ((galResult m GAL_SET_BAD r).ev E.GAL.SET_BAD) 68).wr R.GAL.COMMIT_STATUS.HELD 0)

/-- At a commit deadline: the snapshot due is checked again, and held while its images load (R260, R261). -/
def galDeadline (m : Mach) : Mach :=
  match m.gal.pend with
  | none => m
  | some g =>
    let r := setReason m.gal.force g (galEntryDue m) (galMibDue m)
    if r ≠ 0 then galDrop m r
    else if g.load.isEmpty then m.wr R.GAL.COMMIT_STATUS.HELD 0
    else (galResult (m.wr R.GAL.COMMIT_STATUS.HELD 1) GAL_HELD 0).ev E.GAL.HELD

/-- The gain in force of a node (R281). -/
def gainKey (map node ch : Nat) : Nat := (map * 8160 + node) * 3 + ch
def gainNow (m : Mach) (map node ch : Nat) : Nat := SMap.get 0x4000 m.gal.gain (gainKey map node ch)

/-- The nodes of the grid in force. -/
def gridNodes (m : Mach) : Nat := m.rd R.GAL.ZONE_GRID.ZW * m.rd R.GAL.ZONE_GRID.ZH

/-- Whether every node equals its committed value. -/
def gainsEqual (m : Mach) : Bool :=
  (List.range 2).all (fun i => (List.range (gridNodes m)).all (fun z => (List.range 3).all (fun c => gainNow m i z c == m.gal.force.gainOf i z c)))

/-- One step of every node toward its committed value (R281); `hold` keeps the gains of the aging map as they are (R598). -/
def gainStep (m : Mach) (hold : Bool) : Mach :=
  if m.gal.settled then m
  else
    let st := m.gal.force.rd R.GAL.PIPE_CTRL.GAIN_STEP
    let move (a b : Nat) : Nat := if a < b then (if b - a ≤ st then b else a + st) else if a - b ≤ st then b else a - st
    let keys := (List.range (if hold then 1 else 2)).foldr (fun i acc => (List.range (gridNodes m)).foldr (fun z acc =>
      (List.range 3).foldr (fun c acc => (i, z, c) :: acc) acc) acc) []
    let gain := keys.foldl (fun (g : SMap Nat) x =>
      let k := gainKey x.1 x.2.1 x.2.2
      SMap.put 0x4000 g k (move (SMap.get 0x4000 g k) (m.gal.force.gainOf x.1 x.2.1 x.2.2))) m.gal.gain
    let m := { m with gal := { m.gal with gain := gain } }
    if gainsEqual m then { m.ev E.GAL.GAIN_SETTLED with gal := { m.gal with settled := true } } else m

/-- The timing entry whose zones the grid has: every configured one has the same active size (R308). -/
def gridEntry (m : Mach) : Nat :=
  match bitList 24 (m.rd R.SCAN.PANEL_CFG.ENTRIES) with
  | e :: _ => e
  | [] => if drivesPanel m.mode then m.entry else m.rd R.SYS.MODE_REQ.ENTRY

/-- A tick that changes the zone grid (R281): both maps in force are unity on the new grid. -/
def gridTick (m : Mach) : Mach :=
  let e := gridEntry m
  if m.rd R.GAL.ZONE_GRID.ZW = zoneW e ∧ m.rd R.GAL.ZONE_GRID.ZH = zoneH e then m
  else
    let m := (m.wr R.GAL.ZONE_GRID.ZW (zoneW e)).wr R.GAL.ZONE_GRID.ZH (zoneH e)
    let m := { m with gal := { m.gal with gain := [] } }
    { m with gal := { m.gal with settled := gainsEqual m } }

/-- Action 2 of a tick for Gallery (R259-R261): `banks` tells that the bank count changed at this tick. -/
def galTick (m : Mach) (banks : Bool) (tick : Nat) : Mach :=
  let m := if banks then
      (match m.gal.pend with
        | some g =>
          let r := setReason m.gal.force g (galEntryDue m) (m.rd R.GROT.PART.GALLERY_MIB)
          if r = 0 then m else galDrop m r
        | none => m) else m
  if m.flag R.GAL.COMMIT_STATUS.HELD then galRefresh m
  else match m.gal.pend with
    | none => galRefresh { m with gal := { m.gal with pend := m.gal.defer, defer := none } }
    | some g =>
      let m := { m with gal := { m.gal with force := g, pend := m.gal.defer, defer := none } }
      let m := { m with gal := { m.gal with settled := m.gal.settled && gainsEqual m } }
      let m := (galResult m GAL_APPLIED 0).ev E.GAL.APPLIED
      galRefresh (m.wr R.GAL.COMMIT_TICK.TICK_LO tick)

/-! ## The protected set (R273, R274) -/

/-- A field of a protected set. -/
def PlSnap.rd (g : PlSnap) (r : Row) (i : Nat := 0) : Nat := SMap.get (r.reset i 0) g.regs (r.key i 0)

/-- PL_STATUS brought up to date (R303). -/
def plRefresh (m : Mach) : Mach :=
  let m := m.wr R.GAL.PL_STATUS.PENDING_VALID (b2n m.gal.plPend.isSome)
  let m := m.wr R.GAL.PL_STATUS.DEFERRED_VALID (b2n m.gal.plDefer.isSome)
  m.wr R.GAL.PL_STATUS.IN_FORCE_TOKEN m.gal.plForce.tok

/-- PL_COMMIT (R274): the image is copied into its own store (R273); a layer larger than 4,096 x 1,024 is refused. -/
def plCommit (d : Mem) (m : Mach) (tok : Nat) : Mach :=
  let m := m.wr R.GAL.PL_COMMIT.TOKEN tok
  let w := m.rd R.GAL.PL_WH.W
  let h := m.rd R.GAL.PL_WH.H
  let done (m : Mach) (c r : Nat) : Mach := plRefresh ((m.wr R.GAL.PL_STATUS.RESULT c).wr R.GAL.PL_STATUS.REASON r)
  if 4096 < w ∨ 1024 < h then done m GAL_SET_BAD 3
  else
    let base := m.rd R.GAL.PL_BASE_HI.BASE * 2 ^ 32 + m.rd R.GAL.PL_BASE_LO.BASE
    let img := if m.rd R.GAL.PL_CTRL.ENABLE = 1 then d.read base (ceilDiv w 2 * h) else []
    let g : PlSnap := ⟨tok % 65536, SMap.keep m.regs plKey, img⟩
    if m.mc.deadline then done (deferNote { m with gal := { m.gal with plDefer := some g } }) GAL_DEFERRED 0
    else done { m with gal := { m.gal with plPend := some g } } GAL_PENDING 0

/-- Action 2 of a tick for the protected set. -/
def plTick (m : Mach) : Mach :=
  match m.gal.plPend with
  | none => plRefresh { m with gal := { m.gal with plPend := m.gal.plDefer, plDefer := none } }
  | some g =>
    let m := { m with gal := { m.gal with plForce := g, plPend := m.gal.plDefer, plDefer := none } }
    plRefresh (m.wr R.GAL.PL_STATUS.RESULT GAL_APPLIED)

/-! ## Culling (R271) -/

/-- Whether a span, by line and span of the line, is culled: its 64 pixels all lie inside a culling layer's clipped destination. -/
def spanCulled (m : Mach) (line span : Nat) : Bool :=
  let g := m.gal.force
  let t := tentry m.entry
  (g.layers.filter (fun k => !g.isDepth k && g.flag R.GAL.LAYER_CTRL.ABOVE k && g.flag R.GAL.LAYER_CTRL.CULL k)).any (fun k =>
    let x := sInt 16 (g.rd R.GAL.LAYER_DST_XY.X k)
    let y := sInt 16 (g.rd R.GAL.LAYER_DST_XY.Y k)
    let p : Int := (64 * span : Nat)
    decide (x ≤ p) && decide (p + 64 ≤ x + g.dstW k) && decide (p + 64 ≤ t.w) && decide (y ≤ line) && decide ((line : Int) < y + g.dstH k))

end Sys2Proof.Machine
end

