-- ==== Sys2Proof/Machine/OpticsOps.lean ====
section
/-!
DEFINITION. The optics set, ray derivation and slab setup (spec/06_ray_model_and_optics.md R182-R204).
-/
namespace Sys2Proof.Machine

def OPT_APPLIED : Nat := 0x40
def OPT_PENDING : Nat := 0x41
def OPT_HELD : Nat := 0x42
def OPT_PARAM_BAD : Nat := 0x43
def OPT_MAP_BAD : Nat := 0x44
def OPT_MAP_MISMATCH : Nat := 0x45
def OPT_SLAB_RANGE : Nat := 0x46

/-- Report a code of R204. -/
def optCode (m : Mach) (c : Nat) : Mach := m.wr R.HEL.OPT_STATUS.LAST_CODE c

/-! ## The optics set (R190, R201) -/

/-- An optics set: every value of the chapter, in the formats of R190. -/
structure OptSet where
  model : Nat
  order : Nat
  rmode : Nat
  nx    : Nat
  ny    : Nat
  zone  : Nat
  sp    : Nat
  lp    : Nat
  gap   : Nat
  l0x   : Int
  l0y   : Int
  e1x   : Int
  e1y   : Int
  e2x   : Int
  e2y   : Int
  vdist : Nat
  viewY : Int
  vx0   : Int
  vy0   : Int
  vsx   : Nat
  vsy   : Nat
  zx0   : Int
  zx1   : Int
  zy0   : Int
  zy1   : Int
  near  : Nat
  far   : Nat
  lct   : Nat
  rsa   : Nat
  rsb   : Nat
  alpha : Nat
  xform : List Nat
  deriving DecidableEq, Repr

/-- The rows of the optics set (R206, R207). -/
def optRows : List Row :=
  [R.HEL.OPT_CTRL.VIEW_NY_M1, R.HEL.OPT_CTRL.VIEW_NX_M1, R.HEL.OPT_CTRL.ZONE_POLICY, R.HEL.OPT_CTRL.RAY_MODE, R.HEL.OPT_CTRL.SUBPIX_ORDER,
   R.HEL.OPT_CTRL.MODEL, R.HEL.OPT_SUBPIX_PITCH.VALUE, R.HEL.OPT_LINE_PITCH.VALUE, R.HEL.OPT_GAP.VALUE, R.HEL.OPT_L0_X.VALUE,
   R.HEL.OPT_L0_Y.VALUE, R.HEL.OPT_E1_X.VALUE, R.HEL.OPT_E1_Y.VALUE, R.HEL.OPT_E2_X.VALUE, R.HEL.OPT_E2_Y.VALUE,
   R.HEL.OPT_VIEW_DIST.VALUE, R.HEL.OPT_VIEWER_Y.VALUE, R.HEL.OPT_VIEW_X0.VALUE, R.HEL.OPT_VIEW_Y0.VALUE, R.HEL.OPT_VIEW_SX.VALUE,
   R.HEL.OPT_VIEW_SY.VALUE, R.HEL.OPT_ZONE_X_MIN.VALUE, R.HEL.OPT_ZONE_X_MAX.VALUE, R.HEL.OPT_ZONE_Y_MIN.VALUE,
   R.HEL.OPT_ZONE_Y_MAX.VALUE, R.HEL.OPT_Z_NEAR.VALUE, R.HEL.OPT_Z_FAR.VALUE, R.HEL.OPT_LCT_LO.VALUE, R.HEL.OPT_LCT_HI.VALUE,
   R.HEL.OPT_RSA_LO.VALUE, R.HEL.OPT_RSA_HI.VALUE, R.HEL.OPT_RSB_LO.VALUE, R.HEL.OPT_RSB_HI.VALUE, R.HEL.OPT_BLEND.ALPHA]

/-- The twelve rows of scene_to_panel. -/
def xformRows : List Row :=
  [R.HEL.OPT_XFORM0.VALUE, R.HEL.OPT_XFORM1.VALUE, R.HEL.OPT_XFORM2.VALUE, R.HEL.OPT_XFORM3.VALUE, R.HEL.OPT_XFORM4.VALUE,
   R.HEL.OPT_XFORM5.VALUE, R.HEL.OPT_XFORM6.VALUE, R.HEL.OPT_XFORM7.VALUE, R.HEL.OPT_XFORM8.VALUE, R.HEL.OPT_XFORM9.VALUE,
   R.HEL.OPT_XFORM10.VALUE, R.HEL.OPT_XFORM11.VALUE]

/-- The set that a way of reading rows gives: values in force, or those due at the coming tick. -/
def optSet (rd : Row → Nat) : OptSet :=
  let s (r : Row) : Int := sInt 32 (rd r)
  { model := rd R.HEL.OPT_CTRL.MODEL, order := rd R.HEL.OPT_CTRL.SUBPIX_ORDER, rmode := rd R.HEL.OPT_CTRL.RAY_MODE,
    nx := rd R.HEL.OPT_CTRL.VIEW_NX_M1 + 1, ny := rd R.HEL.OPT_CTRL.VIEW_NY_M1 + 1, zone := rd R.HEL.OPT_CTRL.ZONE_POLICY,
    sp := rd R.HEL.OPT_SUBPIX_PITCH.VALUE, lp := rd R.HEL.OPT_LINE_PITCH.VALUE, gap := rd R.HEL.OPT_GAP.VALUE,
    l0x := s R.HEL.OPT_L0_X.VALUE, l0y := s R.HEL.OPT_L0_Y.VALUE, e1x := s R.HEL.OPT_E1_X.VALUE, e1y := s R.HEL.OPT_E1_Y.VALUE,
    e2x := s R.HEL.OPT_E2_X.VALUE, e2y := s R.HEL.OPT_E2_Y.VALUE, vdist := rd R.HEL.OPT_VIEW_DIST.VALUE,
    viewY := s R.HEL.OPT_VIEWER_Y.VALUE, vx0 := s R.HEL.OPT_VIEW_X0.VALUE, vy0 := s R.HEL.OPT_VIEW_Y0.VALUE,
    vsx := rd R.HEL.OPT_VIEW_SX.VALUE, vsy := rd R.HEL.OPT_VIEW_SY.VALUE, zx0 := s R.HEL.OPT_ZONE_X_MIN.VALUE,
    zx1 := s R.HEL.OPT_ZONE_X_MAX.VALUE, zy0 := s R.HEL.OPT_ZONE_Y_MIN.VALUE, zy1 := s R.HEL.OPT_ZONE_Y_MAX.VALUE,
    near := rd R.HEL.OPT_Z_NEAR.VALUE, far := rd R.HEL.OPT_Z_FAR.VALUE,
    lct := rd R.HEL.OPT_LCT_LO.VALUE * 4096 + rd R.HEL.OPT_LCT_HI.VALUE * 2 ^ 32,
    rsa := rd R.HEL.OPT_RSA_LO.VALUE * 4096 + rd R.HEL.OPT_RSA_HI.VALUE * 2 ^ 32,
    rsb := rd R.HEL.OPT_RSB_LO.VALUE * 4096 + rd R.HEL.OPT_RSB_HI.VALUE * 2 ^ 32,
    alpha := rd R.HEL.OPT_BLEND.ALPHA, xform := xformRows.map rd }

/-- The set in force. -/
def optNow (m : Mach) : OptSet := optSet (fun r => m.rd r)

/-- The set due at the coming tick: held values over those in force (R201). -/
def optDue (m : Mach) : OptSet := optSet (fun r => (SMap.look m.held1 (r.key 0 0)).getD (m.rd r))

/-- Whether any optics value is held for the coming tick. -/
def optPending (m : Mach) : Bool := (optRows ++ xformRows).any (fun r => (SMap.look m.held1 (r.key 0 0)).isSome)

/-- The pending set is dropped: its held values are discarded (R200, R201). -/
def optDrop (m : Mach) : Mach :=
  let ks := (optRows ++ xformRows).map (fun r => r.key 0 0)
  { m with held1 := SMap.keep m.held1 (fun k => !ks.contains k), hel := { m.hel with held := false, keep := none } }

/-- The inverse basis (R190), from binary64; none where it does not exist. -/
def inverseBasis (o : OptSet) : Option (Int × Int × Int × Int) :=
  let f (i : Int) : F64 := (f64OfInt i).map (fun a => (a.1, a.2 - 12))
  let det := fsub (fmul (f o.e1x) (f o.e2y)) (fmul (f o.e1y) (f o.e2x))
  match fdiv (f o.e2y) det, fdiv (fneg (f o.e2x)) det, fdiv (fneg (f o.e1y)) det, fdiv (f o.e1x) det with
  | some a, some b, some c, some d => some (ffix 30 a, ffix 30 b, ffix 30 c, ffix 30 d)
  | _, _, _, _ => none

/-- Whether scene_to_panel is a similarity (R191). -/
def similarity (x : List Nat) : Bool :=
  let det := matDet x
  let s := froot 3 det
  let s2 := fmul s s
  let col (i : Nat) : V3 := (f32 (x.getD i 0), f32 (x.getD (4 + i) 0), f32 (x.getD (8 + i) 0))
  let tol : F64 := some (1, -20)
  let near (a b : F64) : Bool := fle (fsub a b) tol && fle (fneg tol) (fsub a b)
  let one : F64 := some (1, 0)
  let el (i j : Nat) : F64 := fdiv (vdot (col i) (col j)) s2
  flt (some (0, 0)) det && (List.range 3).all (fun i => (List.range 3).all (fun j => near (el i j) (if i = j then one else some (0, 0)))) &&
  x.all (fun w => bits w 30 23 != 255)

/-- The parameter checks of R201. -/
def optValid (o : OptSet) : Bool :=
  let det := o.e1x * o.e2y - o.e1y * o.e2x
  let mi := match inverseBasis o with
    | some (a, b, c, d) => [a, b, c, d].all (fun x => decide (x.natAbs < 2 ^ 31))
    | none => false
  decide (0 < o.sp) && decide (0 < o.lp) && decide (0 < o.gap) && decide ((2 ^ 24 : Int) ≤ det) && mi &&
  (o.model == 1 || (decide (o.e1y = 0) && decide (o.e2y = 4096) && o.ny == 1)) &&
  decide (2 ^ 18 ≤ o.vdist) && decide (o.near < o.vdist) && decide (o.zx0 < o.zx1) && decide (o.zy0 < o.zy1) &&
  (o.rmode == 0 || (decide (o.nx * o.ny ≤ 256) && decide (0 < o.vsx) && (o.model == 0 || decide (0 < o.vsy)))) &&
  similarity o.xform

/-! ## Maps in DRAM (R197-R200) -/

/-- A map's header fields: model, first, second, count_a, count_b, payload_bytes. -/
def mapField (d : Mem) (base o n : Nat) : Nat := fromLE (d.read (base + o) n)

/-- Whether a map passes verification (R197, R200): 0 the lens centre table, 1 a residual map. -/
def mapGood (d : Mem) (m : Mach) (kind base : Nat) : Bool :=
  let pb := mapField d base 24 4
  let a := mapField d base 16 4
  let b := mapField d base 20 4
  let first := mapField d base 8 4
  let second := mapField d base 12 4
  let magic := if kind = 0 then 0x434C4F55 else 0x53524F55
  let shape := if kind = 0 then decide (1 ≤ a) && decide (a ≤ 2 ^ 24) && decide (1 ≤ b) && decide (b ≤ 2 ^ 24) && pb == 4 * a * b
    else a == 64 && b == 0 && pb == 256 * first * second
  base % 4096 == 0 && mapField d base 0 4 == magic && mapField d base 4 1 == 1 && mapField d base 6 2 == 0 && shape &&
  decide (pb + 32 ≤ 64 * 2 ^ 20) && inCap m base (pb + 32) && (poisoned m base (pb + 32)).isNone &&
  mapField d base 28 4 == crc32c (d.read base 28 ++ d.read (base + 32) pb)

/-- Whether a map's model, and a residual map's dimensions, match a set and an entry (R197, R199). -/
def mapMatches (d : Mem) (o : OptSet) (e kind base : Nat) : Bool :=
  let t := tentry e
  mapField d base 5 1 == o.model && (kind == 0 || (mapField d base 8 4 == 3 * t.w / 192 + 1 && mapField d base 12 4 == t.h / 64 + 1))

/-- The lens centre table's correction (R198). -/
def lctAt (d : Mem) (o : OptSet) (ok : Bool) (a b : Int) : Int × Int :=
  if o.lct = 0 ∨ !ok then (0, 0)
  else
    let i := a - sInt 32 (mapField d o.lct 8 4)
    let j := b - sInt 32 (mapField d o.lct 12 4)
    let ca := mapField d o.lct 16 4
    let cb := mapField d o.lct 20 4
    if i < 0 ∨ j < 0 ∨ (ca : Int) ≤ i ∨ (cb : Int) ≤ j then (0, 0)
    else
      let p := o.lct + 32 + 4 * (j.toNat * ca + i.toNat)
      (sInt 16 (mapField d p 0 2), sInt 16 (mapField d p 2 2))

/-- A residual map's entry at a node and bin, 2^-18 (R199); 0 where the map is absent or not applied. -/
def resEntry (d : Mem) (base : Nat) (ok : Bool) (cols i j bin : Nat) : Int × Int :=
  if base = 0 ∨ !ok then (0, 0)
  else
    let p := base + 32 + 4 * ((j * cols + i) * 64 + bin)
    (sInt 16 (mapField d p 0 2), sInt 16 (mapField d p 2 2))

/-! ## Ray derivation (R183-R190) -/

/-- A ray: origin, tangents, view number. -/
structure Ray where
  ox   : Int
  oy   : Int
  tx   : Int
  ty   : Int
  view : Nat
  deriving DecidableEq, Repr

/-- Whether a value fits 32-bit two's complement. -/
def fits32 (x : Int) : Bool := decide (-(2 ^ 31) ≤ x) && decide (x < 2 ^ 31)

/-- The phase bin (R187). -/
def phaseBin (o : OptSet) (phx phy : Int) : Nat :=
  if o.model = 1 then
    let b (p : Int) : Nat := Nat.min 7 (floorDiv ((p + 2048) * 8) 4096).toNat
    b phy * 8 + b phx
  else Nat.min 63 (floorDiv ((phx + 2048) * 64) 4096).toNat

/-- The blended, interpolated residual (R187, R190), 2^-18. `ok`: which of the maps A and B apply. -/
def residual (d : Mem) (o : OptSet) (okA okB : Bool) (cols : Nat) (sx sy : Nat) (bin : Nat) : Int × Int :=
  let i := sx / 786432
  let j := sy / 262144
  let wx : Int := (sx % 786432 / 192 : Nat)
  let wy : Int := (sy % 262144 / 64 : Nat)
  let node (i j : Nat) : Int × Int :=
    let a := resEntry d o.rsa okA cols i j bin
    let b := resEntry d o.rsb okB cols i j bin
    (a.1 + rsh (o.alpha * (b.1 - a.1)) 16, a.2 + rsh (o.alpha * (b.2 - a.2)) 16)
  let a := node i j
  let b := node (i + 1) j
  let e := node i (j + 1)
  let f := node (i + 1) (j + 1)
  let mixc (p q r t : Int) : Int := rsh ((4096 - wx) * (4096 - wy) * p + wx * (4096 - wy) * q + (4096 - wx) * wy * r + wx * wy * t) 24
  (mixc a.1 b.1 e.1 f.1, mixc a.2 b.2 e.2 f.2)

/-- An index outside its range under the zone policy (R189): none makes the ray VOID. -/
def zoneFix (o : OptSet) (v : Int) (n : Nat) : Option Int :=
  if 0 ≤ v ∧ v < n then some v
  else match o.zone with
    | 0 => none
    | 2 => some (v % (n : Int))
    | _ => some (if v < 0 then 0 else (n : Int) - 1)

/-- The final choice of direction (R188-R190); none where the ray is VOID. -/
def selectView (o : OptSet) (r : Ray) : Option Ray :=
  let micro := o.model == 1
  let xd := r.ox + rsh (o.vdist * r.tx) 28
  let yd := r.oy + rsh (o.vdist * r.ty) 28
  let aim (xd yd : Int) (view : Nat) : Option Ray :=
    let tx := rdiv ((xd - r.ox) * 2 ^ 28) o.vdist
    let ty := if micro then rdiv ((yd - r.oy) * 2 ^ 28) o.vdist else r.ty
    if fits32 tx ∧ fits32 ty then some { r with tx := tx, ty := ty, view := view } else none
  if o.rmode = 1 then
    let vx := floorDiv (xd - o.vx0 + (o.vsx / 2 : Nat)) o.vsx
    let vy := if micro then floorDiv (yd - o.vy0 + (o.vsy / 2 : Nat)) o.vsy else 0
    match zoneFix o vx o.nx, zoneFix o vy o.ny with
    | some vx, some vy => aim (o.vx0 + vx * o.vsx) (if micro then o.vy0 + vy * o.vsy else yd) (vy.toNat * o.nx + vx.toNat)
    | _, _ => none
  else
    let outX := decide (xd < o.zx0) || decide (o.zx1 < xd)
    let outY := micro && (decide (yd < o.zy0) || decide (o.zy1 < yd))
    if outX ∨ outY then
      if o.zone = 0 then none else aim (clampI xd o.zx0 o.zx1) (if micro then clampI yd o.zy0 o.zy1 else yd) 0
    else some r

/-- derive_ray of R190; none where the ray is VOID. -/
def deriveRay (d : Mem) (o : OptSet) (mi : Int × Int × Int × Int) (ok : List Bool) (t : TEntry) (c y : Nat) : Option Ray :=
  let sx : Int := (c * 4096 + 2048 : Nat)
  let sy : Int := (y * 4096 + 2048 : Nat)
  let ax := rsh ((sx - o.l0x) * mi.1 + (sy - o.l0y) * mi.2.1) 30
  let bx := rsh ((sx - o.l0x) * mi.2.2.1 + (sy - o.l0y) * mi.2.2.2) 30
  let a := floorDiv (ax + 2048) 4096
  let phx := ax - a * 4096
  let micro := o.model == 1
  let okL := ok.getD 0 true
  let (phy, cx, cy) : Int × Int × Int :=
    if micro then
      let b := floorDiv (bx + 2048) 4096
      let q := lctAt d o okL a b
      (bx - b * 4096, o.l0x + a * o.e1x + b * o.e2x + q.1, o.l0y + a * o.e1y + b * o.e2y + q.2)
    else
      let q := lctAt d o okL a (y / 64 : Nat)
      (0, o.l0x + a * o.e1x + rsh (bx * o.e2x) 12 + q.1, sy)
  let ox := rsh ((cx - 3 * t.w * 2048) * o.sp) 28
  let oy := rsh ((t.h * 2048 - cy) * o.lp) 28
  let tx := rdiv (-(sx - cx) * o.sp * 2 ^ 16) o.gap
  let ty := if micro then rdiv ((sy - cy) * o.lp * 2 ^ 16) o.gap else rdiv ((o.viewY - oy) * 2 ^ 28) o.vdist
  let q := residual d o (ok.getD 1 true) (ok.getD 2 true) (3 * t.w / 192 + 1) (c * 4096 + 2048) (y * 4096 + 2048) (phaseBin o phx phy)
  let tx := tx + q.1 * 1024
  let ty := if micro then ty + q.2 * 1024 else ty
  if [ax, bx, cx, cy, ox, oy, tx, ty].all fits32 then selectView o ⟨ox, oy, tx, ty, 0⟩ else none

/-- The colour channel of a subpixel column (R183): 0 red, 1 green, 2 blue. -/
def channelOf (o : OptSet) (c : Nat) : Nat := if o.order = 0 then c % 3 else 2 - c % 3

/-! ## Slab setup (R192) -/

/-- Whether a value fits 64-bit two's complement. -/
def fits64 (x : Int) : Bool := decide (-(2 ^ 63) ≤ x) && decide (x < 2 ^ 63)

/-- Set up one slab in the panel frame; none where a value does not fit its format. -/
def setupSlab (o : OptSet) (s : MSlab) : Option Setup :=
  let sc := froot 3 (matDet o.xform)
  let org := matPoint o.xform (v3 s.pose 0)
  let u := matDir o.xform (v3 s.pose 3)
  let v := matDir o.xform (v3 s.pose 6)
  let n := vnormal (vcross u v)
  let uu := vdot u u
  let vv := vdot v v
  let uv := vdot u v
  let g := fsub (fmul uu vv) (fmul uv uv)
  let us := vdiv (vsub (vscale vv u) (vscale uv v)) g
  let vs := vdiv (vsub (vscale uu v) (vscale uv u)) g
  let h := fmul (f32 (s.pose.getD 9 0)) sc
  match org, n, us, vs, h with
  | (some ox, some oy, some oz), (some nx, some ny, some nz), (some ux, some uy, some uz), (some vx, some vy, some vz), some h =>
    let r : Setup :=
      { slab := s.id, src := s.src, fmt := s.fmt, w := s.w, h := s.h, ox := ffix 20 ox, oy := ffix 20 oy, oz := ffix 20 oz,
        nx := ffix 30 nx, ny := ffix 30 ny, nz := ffix 30 nz, ux := ffix 32 ux, uy := ffix 32 uy, uz := ffix 32 uz,
        vx := ffix 32 vx, vy := ffix 32 vy, vz := ffix 32 vz, step := ffix 28 h }
    if [r.ox, r.oy, r.oz, r.nx, r.ny, r.nz, r.step].all fits32 ∧ [r.ux, r.uy, r.uz, r.vx, r.vy, r.vz].all fits64 then some r else none
  | _, _, _, _, _ => none

/-- Set up every slab of the current frame (R192). Flat frames carry no pose (R134). -/
def setupSlabs (m : Mach) : Mach :=
  match currentFrame m with
  | none => { m with hel := { m.hel with setups := [] } }
  | some f =>
    if f.ver = 0x81 then { m with hel := { m.hel with setups := [] } }
    else
      let o := optNow m
      let l := f.slabs.map (setupSlab o)
      let m := { m with hel := { m.hel with setups := l.filterMap id } }
      if l.all (·.isSome) then m else (optCode m OPT_SLAB_RANGE).ev E.HEL.SLAB_RANGE

end Sys2Proof.Machine
end

