-- ==== Sys2Proof/Machine/HelOps.lean ====
section
/-!
DEFINITION. Helictite and Grotto: sampling, tracing, the admission sums, the lookahead and what they do at a commit deadline and at
a tick (spec/06_ray_model_and_optics.md R193-R204; spec/07_helictite_synthesis.md R210-R237; spec/09_scanout_and_panel_driving.md
R329-R331).
-/
namespace Sys2Proof.Machine

def HEL_DRAINED : Nat := 0x50
def HEL_IN_USE : Nat := 0x51

/-- The timing entry that governs bands now: of the schedule where the panel is not driven (R38, R430). -/
def entryNow (m : Mach) : Nat := if drivesPanel m.mode then m.entry else m.rd R.SYS.MODE_REQ.ENTRY

/-- The mode and entry in force after the coming tick. -/
def modeDue (m : Mach) : Nat × Nat :=
  match m.mc.due with
  | some d => if d.wait = 0 then (d.target, d.entry) else (m.mode, (m.th.stepDue).getD (entryNow m))
  | none => (m.mode, (m.th.stepDue).getD (entryNow m))

/-! ## Engines (R210-R213, R234) -/

/-- Engines in service, ascending (R211). -/
def enginesActive (m : Mach) : List Nat :=
  bitList 32 (m.rd R.HEL.ENGINE_ACTIVE_LO.ENGINES) ++ (bitList 2 (m.rd R.HEL.ENGINE_ACTIVE_HI.ENGINES)).map (32 + ·)

/-- Those of them not retired since the tick. -/
def enginesLive (m : Mach) : List Nat := (enginesActive m).filter (fun e => !isRetired m 1 e)

/-- The engine that carries out an engine's work: itself, or where it is retired the next one in the list (R234). -/
def engineFor (m : Mach) (e : Nat) : Option Nat :=
  let l := enginesActive m
  let k := (l.findIdx? (· == e)).getD 0
  (l.drop k ++ l.take k).find? (fun x => !isRetired m 1 x)

/-- The engine after another in the list (R234). -/
def engineAfter (m : Mach) (e : Nat) : Option Nat :=
  let l := enginesActive m
  let k := (l.findIdx? (· == e)).getD 0
  (l.drop (k + 1) ++ l.take (k + 1)).find? (fun x => !isRetired m 1 x)

/-- An engine's place. -/
def engOf (m : Mach) (e : Nat) : Eng := m.hel.engs.getD e ⟨0, 0, 0⟩

/-- Set an engine's place. -/
def setEng (m : Mach) (e : Nat) (x : Eng) : Mach := { m with hel := { m.hel with engs := setAt m.hel.engs e x } }

/-- Set the bundles held. -/
def setBundles (m : Mach) (l : List Bundle) : Mach := { m with hel := { m.hel with bundles := l } }

/-- The first bundle of a line that the engine at position `p` of `a` takes (R211): n with (n + y) mod a = p. -/
def firstN (a p y : Nat) : Nat := (p + a - y % a) % a

/-- The engine's place after a bundle (R211, R212). -/
def nextPlace (a p nb : Nat) (e : Eng) : Eng :=
  if e.n + a < nb then { e with n := e.n + a } else { e with line := e.line + 1, n := firstN a p (e.line + 1) }

/-- Every engine at the start of a frame. -/
def engsStart (m : Mach) : Mach :=
  let l := enginesActive m
  let eng (e : Nat) : Eng := match l.findIdx? (· == e) with
    | some p => ⟨0, firstN l.length p 0, 0⟩
    | none => ⟨0, 0, 0⟩
  { m with hel := { m.hel with engs := (List.range 34).map eng } }

/-! ## Sampling (R214, R215) -/

/-- The frame rendered: none where the ray field is black or the frame's kind is not the mode's (R45, R135). -/
def rayFrame (m : Mach) : Option Frame :=
  if m.hel.black then none
  else match currentFrame m with
    | some f => if (f.ver == 0x81) == (m.mode == 7) then some f else none
    | none => none

/-- What lies at a texel of a slab: the all-zero word, a resident word, or a row that is not resident. -/
inductive Texel where
  | zero | word (w : Nat) | miss (k : RowKey)
  deriving DecidableEq, Repr

/-- The tile of a slab under a texel. -/
def MSlab.tileAt (s : MSlab) (i j : Nat) : Option MTile := s.tiles[j / 64 * s.w + i / 64]?

/-- Read a texel (R214). -/
def texelAt (m : Mach) (s : MSlab) (i j : Int) : Texel :=
  if i < 0 ∨ j < 0 ∨ (64 * s.w : Int) ≤ i ∨ (64 * s.h : Int) ≤ j then .zero
  else
    let i := i.toNat
    let j := j.toNat
    match s.tileAt i j with
    | none => .zero
    | some t =>
      if t.cls = 0 ∨ !t.here then .zero
      else
        let k : RowKey := ⟨s.src, s.id, j / 64 * s.w + i / 64, j % 64⟩
        match growOf m k with
        | some r => .word (r.words.getD (i % 64) 0)
        | none => .miss k

/-- A texel's word, 0 where it has none. -/
def Texel.val : Texel → Nat
  | .word w => w
  | _ => 0

/-- The row a texel waits for. -/
def Texel.row : Texel → List RowKey
  | .miss k => [k]
  | _ => []

/-- Whether the texel is fetched at all. -/
def Texel.fetched : Texel → Bool
  | .zero => false
  | _ => true

/-- A sample: its three values, SUBST, whether it was fetched, and the rows it waits for. -/
structure Sample where
  colour : Int
  alpha  : Int
  depth  : Int
  subst  : Bool
  taken  : Bool
  miss   : List RowKey
  deriving DecidableEq, Repr

/-- A texel word's colour code in a channel. -/
def twCh (ch w : Nat) : Nat := if ch = 0 then twR w else if ch = 1 then twG w else twB w

/-- mix of R215. -/
def mixQuad (p q r t fx0 fx1 fy : Int) : Int :=
  (256 - fy) * ((256 - fx0) * p + fx0 * q) + fy * ((256 - fx1) * r + fx1 * t)

/-- quad_sample of R215, through a way of reading texels. -/
def quadSample (tx : Int → Int → Texel) (u v : Int) (ch : Nat) : Sample :=
  let i := floorDiv u 65536
  let j := floorDiv v 65536
  let fx := floorDiv u 256 % 256
  let fy := floorDiv v 256 % 256
  let ta := tx i j
  let tb := tx (i + 1) j
  let tc := tx i (j + 1)
  let td := tx (i + 1) (j + 1)
  let a := ta.val
  let b := tb.val
  let c := tc.val
  let d := td.val
  let snap (f : Int) : Int := if f < 128 then 0 else 256
  let fx0 := if bit a 0 then snap fx else fx
  let fx1 := if bit c 0 then snap fx else fx
  let fy := if bit a 1 || bit b 1 then snap fy else fy
  let mx (f : Nat → Int) : Int := mixQuad (f a) (f b) (f c) (f d) fx0 fx1 fy
  let sub (w : Nat) (k : Int) : Bool := twSubst w && decide (k ≠ 0)
  { colour := rsh (mx (fun w => (twCh ch w : Nat))) 12, alpha := rsh (mx (fun w => (twCov w : Nat)) * 65600) 26,
    depth := rsh (mx (fun w => sInt 14 (twDepth w))) 8,
    subst := sub a ((256 - fy) * (256 - fx0)) || sub b ((256 - fy) * fx0) || sub c (fy * (256 - fx1)) || sub d (fy * fx1),
    taken := ta.fetched || tb.fetched || tc.fetched || td.fetched,
    miss := ta.row ++ tb.row ++ tc.row ++ td.row }

/-! ## Hits (R193-R195) -/

/-- A plane hit. -/
structure Hit where
  slab : MSlab
  set  : Setup
  den  : Int
  num  : Int
  t0   : Int
  u0   : Int
  v0   : Int
  du   : Int
  dv   : Int
  deriving DecidableEq, Repr

/-- The plane test of R193. -/
def planeHit (o : OptSet) (r : Ray) (s : MSlab) (p : Setup) : Option Hit :=
  let den := rsh (p.nx * r.tx + p.ny * r.ty + p.nz * 2 ^ 28) 28
  if den.natAbs < 1024 then none
  else
    let num := rsh (p.nx * (p.ox - r.ox) + p.ny * (p.oy - r.oy) + p.nz * p.oz) 30
    let t0 := rdiv (num * 2 ^ 30) den
    if (o.near : Int) < t0 ∨ t0 < -(o.far : Int) then none
    else
      let px := r.ox + rsh (t0 * r.tx) 28
      let py := r.oy + rsh (t0 * r.ty) 28
      let u0 := rsh (p.ux * (px - p.ox) + p.uy * (py - p.oy) + p.uz * (t0 - p.oz)) 36 - 32768
      let v0 := rsh (p.vx * (px - p.ox) + p.vy * (py - p.oy) + p.vz * (t0 - p.oz)) 36 - 32768
      let du := rsh (p.ux * r.tx + p.uy * r.ty + p.uz * 2 ^ 28) 28
      let dv := rsh (p.vx * r.tx + p.vy * r.ty + p.vz * 2 ^ 28) 28
      if fits32 t0 ∧ fits32 u0 ∧ fits32 v0 ∧ fits64 du ∧ fits64 dv then some ⟨s, p, den, num, t0, u0, v0, du, dv⟩ else none

/-- Whether a point lies on a slab (R193). -/
def onSlab (s : MSlab) (u v : Int) : Bool :=
  let i := rsh u 16
  let j := rsh v 16
  decide (0 ≤ i) && decide (0 ≤ j) && decide (i < 64 * s.w) && decide (j < 64 * s.h)

/-- Whether the tile under a point has no displacement (R194). -/
def flatAt (s : MSlab) (u v : Int) : Bool :=
  match s.tileAt (rsh u 16).toNat (rsh v 16).toNat with
  | some t => decide (t.dmin = 0) && decide (t.dmax = 0)
  | none => true

/-- Where a hit's refinement stands: the point, samples taken, rows it waits for; `miss`: the hit is lost. -/
structure Refined where
  u    : Int
  v    : Int
  n    : Nat
  wait : List RowKey
  lost : Bool
  deriving DecidableEq, Repr

/-- Up to `k` refinement steps of R194. -/
def refine (tx : Int → Int → Texel) (h : Hit) : Nat → Refined → Refined
  | 0, r => r
  | k + 1, r =>
    if !onSlab h.slab r.u r.v || flatAt h.slab r.u r.v then r
    else
      let s := quadSample tx r.u r.v 0
      if !s.miss.isEmpty then { r with wait := s.miss }
      else
        let delta := rsh (s.depth * h.set.step) 16
        let t := rdiv ((h.num + delta) * 2 ^ 30) h.den
        let u := h.u0 + rsh ((t - h.t0) * h.du) 36
        let v := h.v0 + rsh ((t - h.t0) * h.dv) 36
        let n := r.n + b2n s.taken
        if fits32 s.depth ∧ fits32 t ∧ fits32 u ∧ fits32 v then refine tx h k { r with u := u, v := v, n := n }
        else { r with n := n, lost := true }

/-! ## Tracing a ray (R195, R216, R231) -/

/-- A ray's accumulation: colour, coverage, SUBST, samples, hits taken, rows it waits for, and whether the governor ended it. -/
structure RayAcc where
  c     : Int
  a     : Int
  sub   : Bool
  n     : Nat
  hits  : Nat
  wait  : List RowKey
  ended : Bool
  deriving DecidableEq, Repr

/-- Accumulate a colour sample (R216). -/
def RayAcc.take (r : RayAcc) (s : Sample) : RayAcc :=
  let c := r.c + rsh ((65536 - r.a) * s.colour) 16
  { r with c := if 65535 < c then 65535 else c, a := r.a + rsh ((65536 - r.a) * s.alpha) 16, sub := r.sub || s.subst,
           n := r.n + b2n s.taken, hits := r.hits + 1 }

/-- Process hits front to back. `cut` and `lvl` say what the governor did: nothing at 0, no steps from a hit on at 1, the ray
ended at 2, where a sample that waits for a row is abandoned as well. -/
def traceHits (tx : Int → Int → Texel) (ch : Nat) (lvl : Nat) (cut : Cut) : List Hit → RayAcc → RayAcc
  | [], r => r
  | h :: hs, r =>
    if 65274 ≤ r.a then r
    else if lvl = 2 ∧ cut.hits ≤ r.hits then { r with ended := true }
    else
      let k := if 1 ≤ lvl ∧ cut.steps ≤ r.hits then 0 else 2
      let p := refine tx h k ⟨h.u0, h.v0, 0, [], false⟩
      let r := { r with n := r.n + p.n }
      if !p.wait.isEmpty then (if lvl = 2 then { r with ended := true } else { r with wait := p.wait })
      else if p.lost || !onSlab h.slab p.u p.v then traceHits tx ch lvl cut hs { r with hits := r.hits + 1 }
      else
        let s := quadSample tx p.u p.v ch
        if !s.miss.isEmpty then (if lvl = 2 then { r with ended := true } else { r with wait := s.miss })
        else traceHits tx ch lvl cut hs (r.take s)

/-- Insert a hit in decreasing t0, after those of equal t0 (R195). -/
def insHit (h : Hit) : List Hit → List Hit
  | [] => [h]
  | e :: l => if e.t0 < h.t0 then h :: e :: l else e :: insHit h l

/-- A ray that has accumulated nothing. -/
def rayZero : RayAcc := ⟨0, 0, false, 0, 0, [], false⟩

/-- Trace subpixel `c` of line `y` (R190-R216). Slabs without a setup are absent (R192). -/
def traceRay (mem : Mem) (m : Mach) (f : Frame) (c y lvl : Nat) (cut : Cut) : RayAcc :=
  let o := optNow m
  if !m.flag R.HEL.OPT_STATUS.SET_VALID then rayZero
  else match deriveRay mem o m.hel.mi m.hel.mapOk (tentry m.entry) c y with
    | none => rayZero
    | some r =>
      let hits := m.hel.setups.filterMap (fun p => (f.slab p.slab).bind (fun s => planeHit o r s p))
      let tx (h : Hit) : Int → Int → Texel := texelAt m h.slab
      go tx (channelOf o c) lvl cut (hits.foldl (fun l h => insHit h l) []) rayZero
where
  /-- Hits of several slabs, each read through its own texels. -/
  go (tx : Hit → Int → Int → Texel) (ch lvl : Nat) (cut : Cut) : List Hit → RayAcc → RayAcc
    | [], r => r
    | h :: hs, r =>
      let r' := traceHits (tx h) ch lvl cut [h] r
      if r'.ended || !r'.wait.isEmpty then r' else go tx ch lvl cut hs r'

/-- One subpixel of a flat frame (R329, R330). -/
def flatRay (m : Mach) (f : Frame) (c y : Nat) : RayAcc :=
  let t := tentry m.entry
  let px := c / 3
  let x : Int := if m.rd R.SCAN.FLAT_CTRL.UNIT = 1 then px else c
  let i32 (v : Nat) : Int := sInt 32 v
  let s := x * i32 (m.rd R.SCAN.FLAT_A.VALUE) + y * i32 (m.rd R.SCAN.FLAT_B.VALUE) + i32 (m.rd R.SCAN.FLAT_C.VALUE)
  let view := (s % (f.nslab * 65536 : Nat)).toNat / 65536
  match f.slab view with
  | none => rayZero
  | some sl =>
    let ws : Int := (64 * sl.w : Nat)
    let hs : Int := (64 * sl.h : Nat)
    let u := rdiv ((2 * px + 1) * ws * 32768) t.w - 32768
    let v := rdiv ((2 * y + 1) * hs * 32768) t.h - 32768
    let tx (i j : Int) : Texel := texelAt m sl (clampI i 0 (ws - 1)) (clampI j 0 (hs - 1))
    let q := quadSample tx u v (channelOf (optNow m) c)
    if q.miss.isEmpty then ⟨q.colour, q.alpha, q.subst, b2n q.taken, 1, [], false⟩ else { rayZero with wait := q.miss }

/-- The 64 rays of a bundle, VOID in a culled span (R271). `cuts` by ray; none listed: not cut. -/
def traceBundle (mem : Mem) (m : Mach) (b : Bundle) (cuts : List Cut) : List RayAcc :=
  match rayFrame m with
  | none => List.replicate 64 rayZero
  | some f =>
    if spanCulled m b.line (b.n / 3) then List.replicate 64 rayZero
    else (List.range 64).map (fun i =>
      let c := 64 * b.n + i
      let cut := cuts[i]?
      if f.ver = 0x81 then flatRay m f c b.line
      else traceRay mem m f c b.line (if cut.isSome then b.lvl else 0) (cut.getD ⟨0, 0⟩))

/-- The rows a bundle waits for, each once. -/
def bundleWaits (l : List RayAcc) : List RowKey := (l.foldr (fun r acc => r.wait ++ acc) []).eraseDups

/-! ## Admission sums (R227-R230) -/

/-- Insert a candidate by the upper end of its range, highest first (R227). -/
def insCand (c : Cand) : List Cand → List Cand
  | [] => [c]
  | e :: l => if e.hi < c.hi then c :: e :: l else e :: insCand c l

/-- A cell's charge in sixteenths per ray (R227). -/
def cellCharge (l : List Cand) : Nat :=
  let l' := l.foldl (fun a c => insCand c a) []
  let r := l'.foldl (fun (acc : Nat × Option Int) c =>
    let hidden := match acc.2 with
      | some lo => decide (c.hi < lo)
      | none => false
    (acc.1 + (if hidden then 0 else c.cost),
      if c.occ then some (match acc.2 with
        | some lo => if lo < c.lo then c.lo else lo
        | none => c.lo) else acc.2)) (0, none)
  r.1 + 3 * (l.length - 24)

/-- A band's sample sum (R227). -/
def sampleSum (p : BandPlan) : Nat := ceilDiv (12288 * sumN (p.cells.map cellCharge)) 16

/-- The rows of a band that count: of non-EMPTY tiles, each once. -/
def planRows (m : Mach) (p : BandPlan) : List RowKey :=
  (p.rows.filter (fun k => match tileFor m k with
    | some (_, _, t) => t.cls != 0
    | none => false)).eraseDups

/-- The held part of a band's residency, bytes (R228). -/
def heldSum (m : Mach) (p : BandPlan) : Nat := 512 * (planRows m p).length

/-- The fill part, CD02 cycles (R228); `prev` is the band before, none for band 0. -/
def fillSum (m : Mach) (prev : Option BandPlan) (p : BandPlan) : Nat :=
  let rows := planRows m p
  let old := match prev with
    | some q => planRows m q
    | none => []
  let same (a b : RowKey) : Bool := a.src == b.src && a.slab == b.slab && a.tile == b.tile
  let fresh := rows.filter (fun k => !old.contains k)
  let tiles := (rows.map (fun k => { k with row := 0 })).eraseDups
  let opening (k : RowKey) : Nat :=
    if old.any (same k) then 0
    else
      let first := (rows.filter (same k)).foldl (fun a r => Nat.min a r.row) 63
      let n := match tileFor m k with
        | some (_, s, _) => segRows s.itv
        | none => 64
      if first % n = 0 then 0 else 16 + 64 * (first % n)
  64 * fresh.length + sumN (tiles.map opening)

/-- Flowstone lanes serviceable now. -/
def lanesLive (m : Mach) : Nat := ((bitList 26 (m.rd R.FLOW.LANE_ACTIVE.LANES)).filter (fun l => !isRetired m 3 l)).length

/-- The fill limit of a band (R228), cycles. -/
def fillLimit (m : Mach) (e b : Nat) : Nat :=
  let t := tentry e
  8 * lanesLive m * 1200000000 * ((if b = 0 then t.blank else 64) * t.den) / (10 * t.lines * t.num)

/-- The reason a band fails for, 0 where it passes (R229). -/
def bandReason (m : Mach) (e b : Nat) (prev : Option BandPlan) (p : BandPlan) : Nat :=
  if (tentry e).budget (enginesLive m).length < sampleSum p then 1
  else if 512 * m.rd R.GROT.WINDOW.SLOTS < heldSum m p then 2
  else if fillLimit m e b < fillSum m prev p then 3
  else 0

/-- The verdict on a plan: failing band and reason, none where it passes. -/
def planFails (m : Mach) (e : Nat) (plan : List BandPlan) : Option (Nat × Nat) :=
  (List.range plan.length).findSome? (fun b =>
    match plan[b]? with
    | none => none
    | some p =>
      let r := bandReason m e b (if b = 0 then none else plan[b - 1]?) p
      if r = 0 then none else some (b, r))

/-- The heaviest band: the lowest-numbered of those with the largest sum. -/
def heaviest (plan : List BandPlan) : Nat × Nat :=
  let sums := plan.map sampleSum
  let top := maxN sums
  ((sums.findIdx? (· == top)).getD 0, top)

/-- HEL.ADMIT_STATUS and the registers beside it (R243). -/
def admitReport (m : Mach) (seq band samples reason : Nat) (e : Nat) (recheck : Bool) : Mach :=
  let m := m.wr R.HEL.ADMIT_STATUS.RESULT (if reason = 0 then 0 else SCENE_OVER_BUDGET)
  let m := (m.wr R.HEL.ADMIT_STATUS.REASON reason).wr R.HEL.ADMIT_STATUS.RECHECK (b2n recheck)
  let m := (m.wr R.HEL.ADMIT_STATUS.BAND band).wr R.HEL.ADMIT_SEQ.SEQ seq
  (m.wr R.HEL.ADMIT_SAMPLES.SAMPLES samples).wr R.HEL.BAND_BUDGET.BUDGET ((tentry e).budget (enginesLive m).length)

/-- The admission sums of a frame (R229): the reason it fails for, 0 where it passes, with the report made. -/
def admitSums (m : Mach) (f : Frame) (e : Nat) : Nat × Mach :=
  match f.plan with
  | none => (4, admitReport m f.seq 0 0 4 e false)
  | some plan =>
    match planFails m e plan with
    | some (b, r) => (r, admitReport m f.seq b ((plan[b]?.map sampleSum).getD 0) r e false)
    | none => (0, admitReport m f.seq (heaviest plan).1 (heaviest plan).2 0 e false)

/-! ## The base of a frame (R107, R109, R133) -/

/-- A slab with the fields it takes from its base (R109). -/
def resolveSlab (b : Option Frame) (s : MSlab) : Option MSlab :=
  if s.pers = 0 then some s
  else match b.bind (fun f => f.slab s.id) with
    | none => none
    | some q =>
      if s.pers = 1 then some { q with pers := 1 }
      else if s.fmt = q.fmt ∧ s.itv = q.itv ∧ s.w = q.w ∧ s.h = q.h then some { q with pers := 2, pose := s.pose, idx := s.idx }
      else none

/-- The base check (R107, R109, R133): the code it fails with, or the slabs resolved. -/
def baseCheck (m : Mach) (f : Frame) : Except Nat (List MSlab) :=
  let cur := currentFrame m
  let needs : Bool := if f.ver = 2 then !bit f.flags 0 else f.slabs.any (fun s => s.pers != 0)
  let missing : Bool := match cur with
    | none => true
    | some c => f.ver == 2 && c.seq != f.base
  if needs && missing then .error MSF_BASE_MISSING
  else
    let l := f.slabs.map (resolveSlab cur)
    if l.all (·.isSome) then .ok (l.filterMap id) else .error MSF_BASE_MISMATCH

/-- Whether a mode takes a frame's kind (R135). -/
def kindOk (f : Frame) (mode : Nat) : Bool := if f.ver = 0x81 then mode == 5 || mode == 7 else mode == 5 || mode == 6 || mode == 8 || mode == 9

/-! ## The lookahead (R219, R230) -/

/-- A frame's plan of a band. -/
def planBand (f : Frame) (b : Nat) : Option BandPlan := f.plan.bind (fun p => p[b]?)

/-- Demand the rows of a band. -/
def demandBand (m : Mach) (f : Frame) (b : Nat) : Mach :=
  match planBand f b with
  | none => m
  | some p => m.each (planRows m p) (fun m k => (demandRow m k b 0).2)

/-- The band re-check, when a band's demands are issued (R230). -/
def recheck (m : Mach) (f : Frame) (b : Nat) : Mach :=
  match f.plan, planBand f b with
  | some plan, some p =>
    let r := bandReason m m.entry b (if b = 0 then none else plan[b - 1]?) p
    let m := admitReport m f.seq b (sampleSum p) r m.entry true
    if r = 0 then m
    else
      let m := m.ev E.HEL.RECHECK_FAIL
      { m with hel := { m.hel with failBand := some (match m.hel.failBand with
        | some x => Nat.min x b
        | none => b) } }
  | _, _ => m

/-- A band whose re-check failed aborts the frame once it has begun (R230). -/
def recheckAbort (m : Mach) (band : Nat) : Mach :=
  match m.hel.failBand with
  | some b => if b ≤ band then frameAbort m ABORT_RECHECK else m
  | none => m

/-- Release the resident rows that none of some bands needs (R219). -/
def releaseExcept (m : Mach) (need : List RowKey) (from_ : List RowKey) : Mach :=
  m.each (from_.filter (fun k => !need.contains k)) releaseRow

/-- The lookahead after action 3 of a tick (R219). -/
def lookaheadTick (m : Mach) : Mach :=
  let m := { m with hel := { m.hel with band := 0, spent := [], failBand := none } }
  match rayFrame m with
  | none => m
  | some f =>
    let need (b : Nat) : List RowKey := match planBand f b with
      | some p => planRows m p
      | none => []
    let held := (m.hel.rows.filter (·.rel.isNone)).map (·.key)
    let m := releaseExcept m (need 0 ++ need 1) held
    let m := recheck (demandBand m f 0) f 0
    recheck (demandBand m f 1) f 1

/-! ## At the commit deadline and at a tick (R200-R202, R218, R222, R234) -/

/-- The status of the three maps (R208). -/
def mapStatus (m : Mach) : Mach :=
  let s (i : Nat) : Nat := m.hel.maps.getD i 0
  ((m.wr R.HEL.OPT_STATUS.LCT_STATE (s 0)).wr R.HEL.OPT_STATUS.RSA_STATE (s 1)).wr R.HEL.OPT_STATUS.RSB_STATE (s 2)

/-- Set the state of one map. -/
def setMap (m : Mach) (i v : Nat) : Mach := mapStatus { m with hel := { m.hel with maps := setAt m.hel.maps i v } }

/-- Which maps of a set match it and an entry. -/
def mapsMatch (d : Mem) (o : OptSet) (e : Nat) : List Bool :=
  [o.lct == 0 || mapMatches d o e 0 o.lct, o.rsa == 0 || mapMatches d o e 1 o.rsa, o.rsb == 0 || mapMatches d o e 1 o.rsb]

/-- The frame to be current after the coming tick: the newest ADMITTED one due then, else the current one. -/
def frameDue (m : Mach) (dueNow : Frame → Bool) : Option Frame :=
  match (m.flow.frames.filter (fun f => f.st == F_ADMITTED && dueNow f)).getLast? with
  | some f => some f
  | none => currentFrame m

/-- A set is dropped or held at a deadline. -/
def optHold (m : Mach) : Mach :=
  let m := { m with hel := { m.hel with held := true, keep := some false } }
  m.wr R.HEL.OPT_STATUS.HELD 1

/-- The check of R201 at a commit deadline. -/
def optDeadline (m : Mach) (dueNow : Frame → Bool) : Mach :=
  if !optPending m then { m with hel := { m.hel with keep := none } }
  else
    let o := optDue m
    let e := (modeDue m).2
    if m.hel.maps.contains 1 then optHold (optCode m OPT_PENDING)
    else if !optValid o then ((optCode (optDrop m) OPT_PARAM_BAD).ev E.HEL.PARAM_BAD).wr R.HEL.OPT_STATUS.HELD 0
    else
      match frameDue m dueNow with
      | none => { m with hel := { m.hel with keep := some true } }
      | some f =>
        let plan := if f.ver = 0x81 then f.plan else f.plan2
        match plan with
        | none => optHold (optCode m OPT_PENDING)
        | some p =>
          match planFails m e p with
          | some (b, r) =>
            let m := admitReport m f.seq b ((p[b]?.map sampleSum).getD 0) r e false
            (optHold (optCode m OPT_HELD)).ev E.HEL.HELD
          | none =>
            let m := admitReport m f.seq (heaviest p).1 (heaviest p).2 0 e false
            { m with hel := { m.hel with keep := some true } }

/-- The set in force is judged, with the maps that match it (R199, R201, R202). -/
def optJudge (d : Mem) (m : Mach) (e : Nat) : Mach :=
  let o := optNow m
  let ok := mapsMatch d o e
  let m := { m with hel := { m.hel with mapOk := ok } }
  let m := if ok.all id then m else (optCode m OPT_MAP_MISMATCH).ev E.HEL.MAP_MISMATCH
  if optValid o then
    match inverseBasis o with
    | some mi => { m.wr R.HEL.OPT_STATUS.SET_VALID 1 with hel := { m.hel with mi := mi, everSet := true } }
    | none => m
  else ((optCode m OPT_PARAM_BAD).ev E.HEL.PARAM_BAD).wr R.HEL.OPT_STATUS.SET_VALID 0

/-- A plan of a frame under the optics set in force is replaced or lost (R225). Flat plans do not rest on optics (R331). -/
def plansRenew (m : Mach) (applied entryChange : Bool) : Mach :=
  queueRefresh (setFrames m (m.flow.frames.map (fun f =>
    if f.ver = 0x81 ∧ !entryChange then f
    else { f with plan := if applied then f.plan2 else none, plan2 := none, walk := false })))

/-- Action 2 of a tick for the optics set (R201, R202). `moved`: the held values have been taken; `first`: the first tick after
CD32 left reset. -/
def optTick (d : Mem) (m : Mach) (entryChange first : Bool) : Mach :=
  match m.hel.keep with
  | some true =>
    let m := m.each (optRows ++ xformRows) (fun m r =>
      match SMap.look m.held1 (r.key 0 0) with
      | some v => m.wr r v
      | none => m)
    let m := optDrop m
    let m := (optCode m OPT_APPLIED).ev E.HEL.APPLIED
    let m := (m.add R.HEL.OPT_STATUS.APPLY_COUNT 1).wr R.HEL.OPT_STATUS.HELD 0
    plansRenew (optJudge d m (entryNow m)) true entryChange
  | some false => if entryChange then plansRenew (optJudge d m (entryNow m)) false true else m
  | none =>
    if entryChange then plansRenew (optJudge d m (entryNow m)) false true
    else if first then optJudge d m (entryNow m)
    else m

/-- The engines in service at a tick: the lowest 32 serviceable ones (R210, R234). -/
def enginesAtTick (m : Mach) : Mach :=
  let act := enginesLive m
  let spare := (List.range 34).filter (fun e => !isRetired m 1 e && !act.contains e)
  let act := act ++ spare.take (32 - act.length)
  let m := m.wr R.HEL.ENGINE_ACTIVE_LO.ENGINES (maskOf 32 (fun e => act.contains e))
  let m := m.wr R.HEL.ENGINE_ACTIVE_HI.ENGINES (maskOf 2 (fun e => act.contains (32 + e)))
  (m.wr R.HEL.STATUS.ACTIVE act.length).wr R.HEL.STATUS.SPARES (unitsLeft m 1 - act.length)

/-- The retired bits of engines and banks (R241, R248). -/
def retiredMasks (m : Mach) : Mach :=
  let m := m.wr R.HEL.ENGINE_RETIRED_LO.ENGINES (maskOf 32 (isRetired m 1))
  let m := m.wr R.HEL.ENGINE_RETIRED_HI.ENGINES (maskOf 2 (fun e => isRetired m 1 (32 + e)))
  let m := m.wr R.GROT.BANK_RETIRED.BANKS (maskOf 32 (isRetired m 2)) 0
  let m := m.wr R.GROT.BANK_RETIRED.BANKS (maskOf 32 (fun g => isRetired m 2 (32 + g))) 1
  m.wr R.GROT.BANK_RETIRED2.BANKS (maskOf 4 (fun g => isRetired m 2 (64 + g)))

/-- Rows that are no longer resident go with their predictors' contexts (R153, R222). -/
def dropRows (m : Mach) (p : GRow → Bool) : Mach :=
  let gone := (m.hel.rows.filter p).map (·.slot)
  let m := setRows m (m.hel.rows.filter (fun r => !p r))
  setCtxs m (m.flow.ctxs.filter (fun c => !(c.pinned && c.segEnd != 0 && gone.contains c.pred)))

/-- The banks in service at a tick and the partitions (R217, R218, R222). -/
def banksAtTick (m : Mach) : Mach :=
  let act := banksLive m
  let spare := (List.range 68).filter (fun g => !isRetired m 2 g && !act.contains g)
  let act := act ++ spare.take (64 - act.length)
  let m := m.wr R.GROT.BANK_ACTIVE.BANKS (maskOf 32 (fun g => act.contains g)) 0
  let m := m.wr R.GROT.BANK_ACTIVE.BANKS (maskOf 32 (fun g => act.contains (32 + g))) 1
  let m := m.wr R.GROT.BANK_ACTIVE2.BANKS (maskOf 4 (fun g => act.contains (64 + g)))
  let m := (m.wr R.GROT.STATUS.BANKS_ACTIVE act.length).wr R.GROT.STATUS.SPARES (unitsLeft m 2 - act.length)
  let lay := (m.rd R.GROT.PART.GALLERY_MIB, act.length)
  if lay = m.hel.layout then m
  else
    let area := (3 * lay.2 - 6 - lay.1) * 2048
    let m := (m.wr R.GROT.TEXEL_AREA.SLOTS area).wr R.GROT.WINDOW.SLOTS (area / 2)
    let m := { m with hel := { m.hel with layout := lay } }
    (dropRows m (fun r => !inArea m r.slot)).ev E.GROT.PART_CHANGED

/-- Action 1 of a tick: the top-down slots of the frame ended (R237, R246). Slots SHED, BLOCKED and IDLE rest on engine timing, which
the manual does not fix; they are free within the rule's sum (assumption log 1). -/
def topDown (m : Mach) : Mach :=
  let set (m : Mach) (i v : Nat) : Mach := (m.wr R.HEL.TD_LO.SLOTS_LO (v % 2 ^ 32) i).wr R.HEL.TD_HI.SLOTS_HI (v / 2 ^ 32 % 2 ^ 32) i
  if m.rd R.HEL.STATUS.STATE = 0 then m.each (List.range 6) (fun m i => set m i 0)
  else
    let t := tentry (entryNow m)
    let a := m.hel.accrued
    let total := Nat.max a (12 * m.rd R.HEL.STATUS.ACTIVE * (1600000000 * t.den / t.num))
    let (shed, m) := m.draw (total - a + 1)
    let (blocked, m) := m.draw (total - a - shed + 1)
    let idle := total - a - shed - blocked
    let (row, m) := m.draw (blocked + 1)
    let (trace, m) := m.draw (idle + 1)
    let m := set (set (set (set (set (set m 0 a) 1 shed) 2 blocked) 3 idle) 4 row) 5 trace
    { m with hel := { m.hel with accrued := 0 } }

/-- R47: on a forced entry into M9 the current frame is judged against the reduced capacity; where it fails the ray field is black. -/
def judgeM9 (m : Mach) : Mach :=
  match currentFrame m with
  | none => m
  | some f =>
    let (r, m) := admitSums m f m.entry
    if r = 0 then m
    else
      let m := reportRefusal (hev (m.ev E.SYS.SCENE_HELD) 483) f.path f.seq SCENE_OVER_BUDGET
      { m with hel := { m.hel with black := true, setups := [], bundles := [] } }

end Sys2Proof.Machine
end

