-- ==== Sys2Proof/Machine/HelWalk.lean ====
section
/-!
DEFINITION. The band walk (spec/07_helictite_synthesis.md R223-R226; spec/09_scanout_and_panel_driving.md R331). The manual fixes what
the walk bounds and not its arithmetic: a walk's result is an operand, and has to cover the bounds computed here, which round inward
(assumption log 48).
-/
namespace Sys2Proof.Machine

/-- A closed range of integers. -/
structure Range where
  lo : Int
  hi : Int
  deriving DecidableEq, Repr

/-- The smaller and the larger of two integers. -/
def iMin (a b : Int) : Int := if a < b then a else b
def iMax (a b : Int) : Int := if a < b then b else a

/-- The hull of some integers, around a first one. -/
def hull (a : Int) (l : List Int) : Range := l.foldl (fun r x => ⟨iMin r.lo x, iMax r.hi x⟩) ⟨a, a⟩

/-- floor and ceiling of a quotient. -/
def ceilI (a b : Int) : Int := Int.neg (floorDiv (Int.neg a) b)

/-- The box of a cell's rays (R223): origins in 2^-20 m, tangents in 2^-28. -/
structure CellBox where
  ox : Range
  oy : Range
  tx : Range
  ty : Range
  deriving DecidableEq, Repr

/-- The lens indices that the four corner subpixels of a cell lie under bound those of all (R185). -/
def cellLenses (o : OptSet) (mi : Int × Int × Int × Int) (c0 y0 : Nat) : Range × Range :=
  let at_ (c y : Nat) : Int × Int :=
    let sx : Int := (c * 4096 + 2048 : Nat)
    let sy : Int := (y * 4096 + 2048 : Nat)
    let ax := rsh ((sx - o.l0x) * mi.1 + (sy - o.l0y) * mi.2.1) 30
    let bx := rsh ((sx - o.l0x) * mi.2.2.1 + (sy - o.l0y) * mi.2.2.2) 30
    (floorDiv (ax + 2048) 4096, if o.model = 1 then floorDiv (bx + 2048) 4096 else (y / 64 : Nat))
  let p := at_ c0 y0
  let l := [at_ (c0 + 191) y0, at_ c0 (y0 + 63), at_ (c0 + 191) (y0 + 63)]
  (hull p.1 (l.map (·.1)), hull p.2 (l.map (·.2)))

/-- The integers of a range. -/
def Range.ints (r : Range) : List Int := (List.range (r.hi - r.lo + 1).toNat).map (fun (k : Nat) => r.lo + (k : Int))

/-- The largest |delta| of the lens centre table over a cell's lenses, by axis (R223). -/
def cellDelta (d : Mem) (o : OptSet) (ok : Bool) (ab : Range × Range) : Int × Int :=
  ab.2.ints.foldl (fun acc b => ab.1.ints.foldl (fun acc a =>
    let q := lctAt d o ok a b
    (iMax acc.1 q.1.natAbs, iMax acc.2 q.2.natAbs)) acc) (0, 0)

/-- The smallest and largest residual components of a cell's four nodes over all bins and both maps (R223). -/
def cellResid (d : Mem) (o : OptSet) (okA okB : Bool) (cols i j : Nat) : Range × Range :=
  let l := [(i, j), (i + 1, j), (i, j + 1), (i + 1, j + 1)].foldr (fun p acc =>
    (List.range 64).foldr (fun b acc => resEntry d o.rsa okA cols p.1 p.2 b :: resEntry d o.rsb okB cols p.1 p.2 b :: acc) acc) []
  match l with
  | [] => (⟨0, 0⟩, ⟨0, 0⟩)
  | p :: ps => (hull p.1 (ps.map (·.1)), hull p.2 (ps.map (·.2)))

/-- The tangents from a range of origins to a range of points on the view plane. -/
def aimRange (o : OptSet) (org tgt : Range) : Range :=
  ⟨ceilI ((tgt.lo - org.hi) * 2 ^ 28) o.vdist, floorDiv ((tgt.hi - org.lo) * 2 ^ 28) o.vdist⟩

/-- Where rays of a box cross the view plane. -/
def crossRange (o : OptSet) (org tan : Range) : Range :=
  ⟨ceilI (org.lo * 2 ^ 28 + o.vdist * tan.lo) (2 ^ 28), floorDiv (org.hi * 2 ^ 28 + o.vdist * tan.hi) (2 ^ 28)⟩

/-- The view points along one axis that a range of crossings can pick, or all of them (R223); none: every ray is VOID. -/
def viewRange (o : OptSet) (v0 : Int) (step n : Nat) (cross : Range) : Option Range :=
  let lo := if o.zone = 0 then iMax 0 (floorDiv (cross.lo - v0 + (step / 2 : Nat)) step) else 0
  let hi := if o.zone = 0 then iMin (n - 1) (floorDiv (cross.hi - v0 + (step / 2 : Nat)) step) else (n : Int) - 1
  if lo ≤ hi then some ⟨v0 + lo * step, v0 + hi * step⟩ else none

/-- The box of a cell (R223); none where every ray of it is VOID. -/
def cellBox (d : Mem) (o : OptSet) (mi : Int × Int × Int × Int) (ok : List Bool) (t : TEntry) (cell band : Nat) : Option CellBox :=
  let c0 := 192 * cell
  let y0 := 64 * band
  let micro := o.model == 1
  let del := cellDelta d o (ok.getD 0 true) (cellLenses o mi c0 y0)
  let halfX := (o.e1x.natAbs + o.e2x.natAbs : Int)     -- twice half a lens, 2^-12 lattice
  let halfY := (o.e1y.natAbs + o.e2y.natAbs : Int)
  let mx := 3 * (t.w : Int) * 2048
  let my := (t.h : Int) * 2048
  let x0 : Int := (c0 * 4096 : Nat)
  let x1 : Int := ((c0 + 192) * 4096 : Nat)
  let l0 : Int := (y0 * 4096 : Nat)
  let l1 : Int := ((y0 + 64) * 4096 : Nat)
  -- lattice 2^-12 by pitch 2^-36 is 2^-48 m; halved units carry the half lens
  let ox : Range := ⟨ceilI ((2 * (x0 - mx - del.1) - halfX) * o.sp) (2 ^ 29), floorDiv ((2 * (x1 - mx + del.1) + halfX) * o.sp) (2 ^ 29)⟩
  let oy : Range := ⟨ceilI ((2 * (my - l1 - del.2) - halfY) * o.lp) (2 ^ 29), floorDiv ((2 * (my - l0 + del.2) + halfY) * o.lp) (2 ^ 29)⟩
  let q := cellResid d o (ok.getD 1 true) (ok.getD 2 true) (3 * t.w / 192 + 1) cell band
  let px := floorDiv ((2 * del.1 + halfX) * o.sp * 2 ^ 15) o.gap
  let py := floorDiv ((2 * del.2 + halfY) * o.lp * 2 ^ 15) o.gap
  let tx : Range := ⟨q.1.lo * 1024 - px, q.1.hi * 1024 + px⟩
  let ty : Range := if micro then ⟨q.2.lo * 1024 - py, q.2.hi * 1024 + py⟩ else aimRange o oy ⟨o.viewY, o.viewY⟩
  if o.rmode = 1 then
    match viewRange o o.vx0 o.vsx o.nx (crossRange o ox tx) with
    | none => none
    | some vx =>
      if micro then (viewRange o o.vy0 o.vsy o.ny (crossRange o oy ty)).map (fun vy => ⟨ox, oy, aimRange o ox vx, aimRange o oy vy⟩)
      else some ⟨ox, oy, aimRange o ox vx, ty⟩
  else if o.zone = 0 then some ⟨ox, oy, tx, ty⟩
  else
    let join (a b : Range) : Range := ⟨iMin a.lo b.lo, iMax a.hi b.hi⟩
    let zx := join tx (aimRange o ox ⟨o.zx0, o.zx1⟩)
    some ⟨ox, oy, zx, if micro then join ty (aimRange o oy ⟨o.zy0, o.zy1⟩) else ty⟩

/-- The sixteen corners of a box. -/
def CellBox.corners (b : CellBox) : List Ray :=
  [b.ox.lo, b.ox.hi].foldr (fun x acc => [b.oy.lo, b.oy.hi].foldr (fun y acc => [b.tx.lo, b.tx.hi].foldr (fun s acc =>
    [b.ty.lo, b.ty.hi].foldr (fun t acc => (⟨x, y, s, t, 0⟩ : Ray) :: acc) acc) acc) acc) []

/-- A corner's den, hit parameters at both depth bounds, and the points there (R196); none where it misses. -/
def cornerHit (o : OptSet) (s : MSlab) (p : Setup) (dmin dmax : Int) (r : Ray) : Option (Int × List (Int × Int × Int)) :=
  (planeHit o r s p).map (fun h =>
    let pt (dep : Int) : Int × Int × Int :=
      let t := rdiv ((h.num + rsh (dep * 256 * p.step) 16) * 2 ^ 30) h.den
      (t, h.u0 + rsh ((t - h.t0) * h.du) 36, h.v0 + rsh ((t - h.t0) * h.dv) 36)
    (h.den, [pt dmin, pt dmax]))

/-- A footprint (R224): hit-parameter range, columns and rows touched, and whether it keeps its sign and lies inside the slab. -/
structure Foot where
  t    : Range
  cols : Range
  rows : Range
  sure : Bool
  deriving DecidableEq, Repr

/-- The footprint of a slab in a box (R224). -/
def footprint (o : OptSet) (s : MSlab) (p : Setup) (b : CellBox) : Foot :=
  let live := s.tiles.filter (fun t => t.cls != 0)
  let dmin := live.foldl (fun a t => iMin a t.dmin) 0
  let dmax := live.foldl (fun a t => iMax a t.dmax) 0
  let hits := b.corners.map (cornerHit o s p dmin dmax)
  let w : Int := (64 * s.w : Nat)
  let h : Int := (64 * s.h : Nat)
  let whole : Foot := ⟨⟨-(o.far : Int), o.near⟩, ⟨0, w - 1⟩, ⟨0, h - 1⟩, false⟩
  if !hits.all (·.isSome) then whole
  else
    let l := hits.filterMap id
    if l.any (fun x => decide (x.1 < 0)) ∧ l.any (fun x => decide (0 < x.1)) then whole
    else
      match l.foldr (fun x acc => x.2 ++ acc) [] with
      | [] => whole
      | q :: qs =>
        let t := hull q.1 (qs.map (·.1))
        let u := hull q.2.1 (qs.map (·.2.1))
        let v := hull q.2.2 (qs.map (·.2.2))
        let c0 := rsh (u.lo - 65536) 16
        let c1 := rsh (u.hi + 65536) 16
        let r0 := rsh (v.lo - 65536) 16
        let r1 := rsh (v.hi + 65536) 16
        ⟨t, ⟨iMax 0 c0, iMin (w - 1) c1⟩, ⟨iMax 0 r0, iMin (h - 1) r1⟩,
          decide (0 ≤ c0) && decide (c1 < w) && decide (0 ≤ r0) && decide (r1 < h)⟩

/-- The tiles a footprint touches, by number. -/
def Foot.tiles (f : Foot) (s : MSlab) : List Nat :=
  let span (r : Range) : List Int := (⟨r.lo / 64, r.hi / 64⟩ : Range).ints
  if f.cols.hi < f.cols.lo ∨ f.rows.hi < f.rows.lo then []
  else (span f.rows).foldr (fun j acc => (span f.cols).map (fun i => j.toNat * s.w + i.toNat) ++ acc) []

/-- The cost of a tile in the sums: its own, or of a version 1 frame the value kept with it (R115, R133, R136). -/
def tileCost (f : Frame) (t : MTile) : Nat := if f.ver = 1 then f.v1cost else t.cost

/-- What the walk finds for one cell and slab (R224, R227): the candidate and its rows. -/
def walkPair (o : OptSet) (f : Frame) (s : MSlab) (p : Setup) (b : CellBox) : Option (Cand × List RowKey) :=
  let ft := footprint o s p b
  let touched := (ft.tiles s).filterMap (fun i => (s.tiles[i]?).map (fun t => (i, t)))
  let live := touched.filter (fun x => x.2.cls != 0)
  if live.isEmpty then none
  else
    let rows := live.foldr (fun x acc =>
      let top := x.1 / s.w * 64
      ((List.range 64).filter (fun r => decide (ft.rows.lo ≤ ((top + r : Nat) : Int)) && decide (((top + r : Nat) : Int) ≤ ft.rows.hi))).map
        (fun r => (⟨s.src, s.id, x.1, r⟩ : RowKey)) ++ acc) []
    some (⟨s.id, ft.t.lo, ft.t.hi, maxN (live.map (fun x => tileCost f x.2)), ft.sure && touched.all (fun x => x.2.cls == 3)⟩, rows)

/-- The slabs of a held frame with what they take from its base, through at most `fuel` frames (R109). -/
def effSlabs (m : Mach) : Nat → Frame → List MSlab
  | 0, f => f.slabs
  | n + 1, f =>
    if F_ADMITTED ≤ f.st then f.slabs
    else
      let b := (baseOf m f).map (fun g => { g with slabs := if g.seq = f.seq then g.slabs else effSlabs m n g })
      f.slabs.filterMap (resolveSlab b)

/-- The bounds of one band (R223, R224). -/
def walkBand (d : Mem) (o : OptSet) (mi : Int × Int × Int × Int) (ok : List Bool) (t : TEntry) (f : Frame)
    (slabs : List (MSlab × Setup)) (band : Nat) : BandPlan :=
  let cells : List (List (Cand × List RowKey)) := (List.range (t.w / 64)).map (fun cell =>
    match cellBox d o mi ok t cell band with
    | none => []
    | some b => slabs.filterMap (fun s => walkPair o f s.1 s.2 b))
  { cells := cells.map (fun l => l.map (·.1)),
    rows := (cells.foldr (fun l acc => l.foldr (fun x acc => x.2 ++ acc) acc) []).eraseDups }

/-- The bounds of a frame's plan. -/
def walkBounds (d : Mem) (m : Mach) (f : Frame) (pendingSet : Bool) : List BandPlan :=
  let o := if pendingSet then optDue m else optNow m
  let e := if pendingSet then (modeDue m).2 else entryNow m
  let t := tentry e
  let slabs := (effSlabs m 64 f).filterMap (fun s => (setupSlab o s).map (fun p => (s, p)))
  match inverseBasis o with
  | none => (List.range t.bands).map (fun _ => ⟨[], []⟩)
  | some mi => (List.range t.bands).map (walkBand d o mi (mapsMatch d o e) t f slabs)

/-- Whether one band of a plan covers another's bounds. -/
def bandCovers (p q : BandPlan) : Bool :=
  q.rows.all (fun k => p.rows.contains k) && p.cells.length == q.cells.length &&
  (List.zip p.cells q.cells).all (fun pq => pq.2.all (fun c => pq.1.any (fun a =>
    a.slab == c.slab && decide (c.cost ≤ a.cost) && decide (a.lo ≤ c.lo) && decide (c.hi ≤ a.hi) && (!a.occ || c.occ))))

/-- Whether a walk's result covers the bounds. -/
def planCovers (p q : List BandPlan) : Bool := p.length == q.length && (List.zip p q).all (fun x => bandCovers x.1 x.2)

/-- The plan of a flat frame (R331). -/
def flatPlan (m : Mach) (f : Frame) : List BandPlan :=
  let t := tentry (entryNow m)
  let cell : List Cand := [⟨0, 0, 0, 16, false⟩]
  (List.range t.bands).map (fun b =>
    { cells := (List.range (t.w / 64)).map (fun _ => cell),
      rows := (effSlabs m 64 f).foldr (fun s acc =>
        let hs : Int := (64 * s.h : Nat)
        let vAt (y : Nat) : Int := floorDiv (rdiv ((2 * y + 1) * hs * 32768) t.h - 32768) 65536
        let r0 := clampI (vAt (64 * b)) 0 (hs - 1)
        let r1 := clampI (vAt (64 * b + 63) + 1) 0 (hs - 1)
        (⟨r0, r1⟩ : Range).ints.foldr (fun r acc =>
          (List.range s.w).map (fun i => (⟨s.src, s.id, r.toNat / 64 * s.w + i, r.toNat % 64⟩ : RowKey)) ++ acc) acc) [] })

end Sys2Proof.Machine
end

