-- ==== Sys2Proof/Machine/HelCmds.lean ====
section
/-!
DEFINITION. The commands of Helictite, Grotto and the optics set, and the admission of scene frames
(spec/06_ray_model_and_optics.md R200; spec/07_helictite_synthesis.md R212-R236; spec/01_architecture.md R20).
-/
namespace Sys2Proof.Machine

/-! ## Bundles (R211-R213, R220, R231, R232) -/

/-- Demand the rows a bundle waits for, each a Grotto miss (R220). -/
def missRows (m : Mach) (l : List RowKey) : Mach :=
  m.each l (fun m k => hev (((demandRow m k m.hel.band 1).2.add R.HEL.GROTTO_MISSES.COUNT 1).ev E.HEL.MISS) 34)

/-- The bundles an engine holds (R212). -/
def bundlesOf (m : Mach) (e : Nat) : List Bundle := m.hel.bundles.filter (fun b => b.eng == e)

/-- The oldest bundle of an engine that is not DONE, in scan order. -/
def oldestOf (m : Mach) (e : Nat) : Option Bundle :=
  (bundlesOf m e).foldl (fun best b =>
    if b.st = 3 then best
    else match best with
      | none => some b
      | some x => if b.line < x.line ∨ (b.line = x.line ∧ b.n < x.n) then some b else best) none

/-- Raise the governor level a bundle has been under. -/
def raiseLvl (m : Mach) (line n lvl : Nat) : Mach :=
  setBundles m (m.hel.bundles.map (fun b => if b.line == line && b.n == n && b.st != 3 then { b with lvl := Nat.max b.lvl lvl } else b))

/-- The governor acts on what an engine holds (R231): no more steps below 1,500 ns; the oldest bundle ended below 750 ns. -/
def governorActs (m : Mach) (e : Nat) : Mach :=
  let lv := (engOf m e).level
  if lv = 0 then m
  else
    let m := m.each (bundlesOf m e) (fun m b => raiseLvl m b.line b.n 1)
    if lv = 2 then
      match oldestOf m e with
      | some b => raiseLvl m b.line b.n 2
      | none => m
    else m

/-- Whether bundles are being rendered: RUN, a mode with rays, a frame in progress that was not aborted. -/
def helRuns (m : Mach) : Bool := m.rd R.HEL.STATUS.STATE == 1 && drivesRays m.mode && m.scan.frame == 1

/-- BUNDLE_ISSUE (R212): the engine at a position takes its next bundle in scan order. -/
def bundleIssue (mem : Mem) (m : Mach) (e : Nat) : Mach :=
  let l := enginesActive m
  let t := tentry m.entry
  match l.findIdx? (· == e), engineFor m e with
  | some p, some x =>
    let q := engOf m e
    if !helRuns m ∨ t.h ≤ q.line ∨ 256 ≤ (bundlesOf m x).length then m
    else
      let b : Bundle := ⟨x, q.line, q.n, 1, [], false, 0⟩
      let m := setEng m e (nextPlace l.length p (3 * t.w / 64) q)
      let waits := bundleWaits (traceBundle mem m b [])
      let b := if waits.isEmpty then b else { b with st := 2 }
      governorActs (missRows (setBundles m (m.hel.bundles ++ [b])) waits) x
  | _, _ => m

def execBundleIssue (e : Nat) (s : State) : Out' := onR s (fun d m => bundleIssue d m e)

/-- Samples issued in a band are counted against its admitted sum (R232). -/
def spendBand (m : Mach) (f : Option Frame) (band n : Nat) : Mach :=
  let old := SMap.get 0 m.hel.spent band
  let new := old + n
  let m := { m with hel := { m.hel with spent := SMap.put 0 m.hel.spent band new, accrued := m.hel.accrued + n } }
  match f.bind (fun f => planBand f band) with
  | some p =>
    let lim := sampleSum p
    if old ≤ lim ∧ lim < new then hev ((m.add R.HEL.BANDS_OVERSPENT.COUNT 1).ev E.HEL.OVERSPENT) 36 else m
  | none => m

/-- BUNDLE_DONE (R213): the bundle's last ray ends. `cuts` says where the governor cut its rays short, which counts only where it
acted on the bundle (R231). A bundle that still waits for rows demands them instead. -/
def bundleDone (mem : Mem) (m : Mach) (line n : Nat) (cuts : List Cut) : Mach :=
  match m.hel.bundles.find? (fun b => b.line == line && b.n == n && b.st != 3) with
  | none => m
  | some b =>
    let cuts := if b.lvl = 0 then [] else cuts.take 64
    let rays := traceBundle mem m b cuts
    let waits := bundleWaits rays
    let put (m : Mach) (b : Bundle) : Mach := setBundles m (m.hel.bundles.map (fun x => if x.line == line && x.n == n then b else x))
    if !waits.isEmpty then
      missRows (put m { b with st := 2 }) (waits.filter (fun k => !m.flow.demands.any (fun d => d.key == k)))
    else
      let res := rays.map (fun r => (r.c.toNat, r.a.toNat, r.sub))
      let m := put m { b with st := 3, rays := res }
      let m := spendBand m (rayFrame m) (line / 64) (sumN (rays.map (·.n)))
      let subs := (rays.filter (·.sub)).length
      let m := if subs = 0 then m else hev (m.add R.HEL.RAYS_SUBST.COUNT subs) 37 subs
      let ended := (rays.filter (·.ended)).length
      let m := if ended = 0 then m else hev (m.add R.HEL.RAYS_TERMINATED.COUNT ended) 33 ended
      let m := if cuts.isEmpty then m else hev ((m.add R.HEL.BUNDLES_DEGRADED.COUNT 1).ev E.HEL.DEGRADED) 32
      governorActs m b.eng

def execBundleDone (line n : Nat) (cuts : List Cut) (s : State) : Out' := onR s (fun d m => bundleDone d m line n cuts)

/-- GOVERNOR_LEVEL_CHANGE (R231, R244): an engine's slack, ns, and the level it sets. -/
def governorLevel (m : Mach) (e slack : Nat) : Mach :=
  if 34 ≤ e then m
  else
    let lv := if 1500 ≤ slack then 0 else if 750 ≤ slack then 1 else 2
    let m := setEng m e { engOf m e with level := lv }
    let m := m.wr R.HEL.GOV_SLACK.MIN_SLACK_NS (Nat.min (satN slack 0xFFFF) (m.rd R.HEL.GOV_SLACK.MIN_SLACK_NS))
    let m := m.wr R.HEL.STATUS.GOV_LEVEL (maxN (m.hel.engs.map (·.level)))
    governorActs m e

def execGovernorLevelChange (e slack : Nat) (s : State) : Out' := onM s (fun m => governorLevel m e slack)

/-! ## Faults (R221, R222, R234) -/

/-- An engine's bundles not DONE, or all of them, go to the next engine and start again. -/
def moveBundles (m : Mach) (p : Bundle → Bool) (dest : Option Nat) : Mach :=
  match dest with
  | none => setBundles m (m.hel.bundles.filter (fun b => !p b))
  | some x => setBundles m (m.hel.bundles.map (fun b => if p b then { b with eng := x, st := 1, again := true } else b))

/-- ENGINE_ERROR (R234): the bundle under computation is abandoned and computed again; the engine's bucket; retirement. -/
def engineError (m : Mach) (e : Nat) : Mach :=
  if 34 ≤ e then m
  else
    let m := match oldestOf m e with
      | none => m
      | some b =>
        let m := moveBundles m (fun x => x.line == b.line && x.n == b.n) (engineAfter m e)
        hev (m.add R.HEL.BUNDLES_RECOMPUTED.COUNT 1) 35
    let (crossed, m) := bucketAdd m 1 e 1 0 e
    if crossed then
      let m := moveBundles m (fun x => x.eng == e && x.st != 3) (engineAfter m e)
      forceRetirement (hev ((retiredMasks m).ev E.HEL.ENGINE_RETIRED) 40)
    else m

def execEngineError (e : Nat) (s : State) : Out' := onM s (fun m => engineError m e)

/-- A Grotto bank is retired (R222). -/
def bankRetired (m : Mach) (g : Nat) : Mach :=
  let m := dropRows m (fun r => r.slot / 6144 == g)
  forceRetirement (hev ((retiredMasks m).ev E.GROT.BANK_RETIRED) 41)

/-- GROTTO_ECC_ERROR (R221): a read of a word of a bank finds an error. `sample`: a sample found it. -/
def grottoEcc (m : Mach) (bank word : Nat) (uncorr sample : Bool) : Mach :=
  if 68 ≤ bank ∨ 393216 ≤ word then m
  else
    let m := ((m.wr R.GROT.ECC_LAST.UNCORR (b2n uncorr)).wr R.GROT.ECC_LAST.BANK bank).wr R.GROT.ECC_LAST.WORD word
    if !uncorr then hev ((m.add R.GROT.ECC_CORR.COUNT 1).ev E.GROT.ECC_CORR) 38
    else
      let m := hev ((m.add R.GROT.ECC_UNCORR.COUNT 1).ev E.GROT.ECC_UNCORR) 39
      let slot := bank * 6144 + word / 64
      let hit := m.hel.rows.find? (fun r => r.slot == slot)
      let m := dropRows m (fun r => r.slot == slot)
      let m := match hit with
        | some r => if sample then missRows m [r.key] else m
        | none => m
      let (crossed, m) := bucketAdd m 2 bank wUncorr 0 (bank * 2 ^ 19 + word)
      if crossed then bankRetired m bank else m

def execGrottoEccError (bank word : Nat) (uncorr sample : Bool) (s : State) : Out' := onM s (fun m => grottoEcc m bank word uncorr sample)

/-! ## Drain and force-stop (R235, R236) -/

/-- HEL_DRAIN: a write of HEL.CTRL.ENABLE. -/
def helDrain (m : Mach) (enable : Bool) : Mach :=
  if enable then
    let m := m.wr R.HEL.CTRL.ENABLE 1
    if m.rd R.HEL.STATUS.STATE = 0 then m else m.wr R.HEL.STATUS.STATE 1
  else if drivesRays m.mode then m.wr R.HEL.STATUS.LAST_STOP HEL_IN_USE
  else if m.mode = 5 ∨ m.mode = 10 then
    let m := m.wr R.HEL.CTRL.ENABLE 0
    if m.rd R.HEL.STATUS.STATE = 1 then m.wr R.HEL.STATUS.STATE 2 else m
  else m

def execHelDrain (enable : Bool) (s : State) : Out' := onM s (fun m => helDrain m enable)

/-- HEL_DRAINED: every engine is idle. -/
def execHelDrained (s : State) : Out' :=
  onM s (fun m =>
    if m.rd R.HEL.STATUS.STATE = 2 ∧ m.hel.bundles.all (fun b => b.st == 3) then
      ((m.wr R.HEL.STATUS.STATE 3).wr R.HEL.STATUS.LAST_STOP HEL_DRAINED).ev E.HEL.DRAINED
    else m)

/-- HEL_FORCE_STOP (R236); `late`: a bundle's last ray reached DONE in the same cycle or before. -/
def helForceStop (m : Mach) (late : Bool) : Mach :=
  if drivesRays m.mode then m.wr R.HEL.STATUS.LAST_STOP HEL_IN_USE
  else if m.mode = 5 ∨ m.mode = 10 then
    let m := (setBundles m []).wr R.HEL.CTRL.ENABLE 0
    let m := m.wr R.HEL.STATUS.STATE 3
    (m.wr R.HEL.STATUS.LAST_STOP (if late then ABORT_LATE else ABORTED_BY_DISABLE)).ev E.HEL.DRAINED
  else m

def execHelForceStop (late : Bool) (s : State) : Out' := onM s (fun m => helForceStop m late)

/-! ## Maps (R200) -/

/-- The base rows of map 0 (lens centre table), 1 (residual A), 2 (residual B). -/
def mapRows (i : Nat) : Row × Row :=
  match i with
  | 0 => (R.HEL.OPT_LCT_LO.VALUE, R.HEL.OPT_LCT_HI.VALUE)
  | 1 => (R.HEL.OPT_RSA_LO.VALUE, R.HEL.OPT_RSA_HI.VALUE)
  | _ => (R.HEL.OPT_RSB_LO.VALUE, R.HEL.OPT_RSB_HI.VALUE)

/-- The newest base of a map: pending or in force. -/
def mapBase (m : Mach) (i : Nat) : Nat := m.rdNew (mapRows i).1 * 4096 + m.rdNew (mapRows i).2 * 2 ^ 32

/-- A value of the optics set is written: held, OPT_PENDING. -/
def optWrite (m : Mach) (r : Row) (v : Nat) : Mach := optCode (m.hold r v) OPT_PENDING

/-- MAP_VERIFY_START (R200): a map base is written; a base of 0 is an absent map. An OPTICS run ends (R597). -/
def mapStart (m : Mach) (i base : Nat) : Mach :=
  if 3 ≤ i then m
  else
    let m := optWrite (calAbandon m KIND_OPTICS) (mapRows i).1 (base / 4096)
    let m := optWrite m (mapRows i).2 (base / 2 ^ 32)
    setMap m i (if mapBase m i = 0 then 0 else 1)

def execMapVerifyStart (k base : Nat) (s : State) : Out' := onM s (fun m => if k < 3 then deferNote (mapStart m k base) else m)

/-- MAP_VERIFY_DONE (R200): a map that fails drops the pending set. -/
def mapDone (d : Mem) (m : Mach) (i : Nat) : Mach :=
  if 3 ≤ i ∨ m.hel.maps.getD i 0 ≠ 1 then m
  else if mapGood d m (if i = 0 then 0 else 1) (mapBase m i) then setMap m i 2
  else ((optCode (setMap (optDrop m) i 3) OPT_MAP_BAD).ev E.HEL.MAP_BAD).wr R.HEL.OPT_STATUS.HELD 0

def execMapVerifyDone (k : Nat) (s : State) : Out' := onR s (fun d m => mapDone d m k)

/-! ## The band walk (R225, R226) -/

/-- Whether another plan can be held (R226, R470). -/
def planSlotFree (m : Mach) : Bool := planWhole m && decide (20 * (planSlots m + 1) ≤ m.rd R.GROT.PLAN_SIZE.SIZE_MIB)

/-- BAND_WALK_START (R225): for a held frame whose last tile index has arrived; `opt`: under the pending optics set. -/
def walkStart (m : Mach) (seq : Nat) (opt : Bool) : Mach :=
  match frameOf m seq with
  | none => m
  | some f =>
    let needed : Bool := if opt then optPending m && f.plan2.isNone && f.ver != 0x81 else f.plan.isNone
    if f.walk ∨ f.st = F_BASE ∨ (f.st = F_RECEIVING ∧ f.stage < 3) ∨ !needed ∨ !planSlotFree m then m
    else queueRefresh (frameMod m seq (fun f => { f with walk := true, planOpt := opt }))

def execBandWalkStart (seq : Nat) (opt : Bool) (s : State) : Out' := onM s (fun m => walkStart m seq opt)

/-- BAND_WALK_DONE (R225): the plan found. It has to cover the bounds of R223 and R224; a flat frame's is exact (R331). -/
def walkDone (d : Mem) (m : Mach) (seq : Nat) (plan : List BandPlan) : Mach :=
  match frameOf m seq with
  | none => m
  | some f =>
    if !f.walk then m
    else if f.ver = 0x81 then queueRefresh (frameMod m seq (fun g => { g with walk := false, plan := some (flatPlan m f) }))
    else if !planCovers plan (walkBounds d m f f.planOpt) then m
    else queueRefresh (frameMod m seq (fun g =>
      if g.planOpt then { g with walk := false, plan2 := some plan } else { g with walk := false, plan := some plan }))

def execBandWalkDone (seq : Nat) (plan : List BandPlan) (s : State) : Out' := onR s (fun d m => walkDone d m seq plan)

/-! ## Admission (R20, R106, R129, R229) -/

/-- Whether a frame is due at the tick of instant `at_` ns (R106, R438). -/
def dueAt (f : Frame) (at_ : Int) : Bool :=
  match f.legacy with
  | some (l, delay) => match f.due with
    | some k => decide (k ≤ 1)
    | none => decide (l ≤ 2 * at_) && delay == 0
  | none => if f.launch = 0 then f.st != F_RECEIVING else decide (f.launch ≤ at_)

/-- Whether a mode takes action 3 of a tick (R34). -/
def launchMode (mode : Nat) : Bool := mode == 1 || mode == 2 || (5 ≤ mode && mode ≤ 9)

/-- A frame is judged at its due tick less one band time. -/
def admitFrame (m : Mach) (f : Frame) : Mach :=
  let (mode, e) := modeDue m
  if f.st = F_RECEIVING then refuseFrame m f FRAME_INCOMPLETE
  else match baseCheck m f with
    | .error c => refuseFrame m f c
    | .ok slabs =>
      if !kindOk f mode then refuseFrame m f MSF_WRONG_MODE
      else
        let (r, m) := admitSums m f e
        if r = 0 then queueRefresh (frameMod m f.seq (fun g => { g with st := F_ADMITTED, slabs := slabs }))
        else refuseFrame (hev (m.ev E.HEL.ADMIT_FAIL) 42) f SCENE_OVER_BUDGET

/-- FRAME_ADMISSION_CHECK: a frame due at the coming tick and not yet judged. -/
def admissionCheck (m : Mach) (seq : Nat) : Mach :=
  match frameOf m seq with
  | none => m
  | some f =>
    if f.st ≤ F_COMPLETE ∧ dueAt f (nextTick m) ∧ launchMode (modeDue m).1 then admitFrame m f else m

def execFrameAdmissionCheck (seq : Nat) (s : State) : Out' := onM s (fun m => admissionCheck m seq)

/-! ## The lookahead (R219, R230) -/

/-- Whether every bundle of a band has been issued and is DONE. -/
def bandDone (m : Mach) (b : Nat) : Bool :=
  (enginesActive m).all (fun e => decide (64 * (b + 1) ≤ (engOf m e).line)) &&
  m.hel.bundles.all (fun x => x.st == 3 || decide (64 * (b + 1) ≤ x.line))

/-- BAND_ADVANCE (R219): with band b - 1 DONE its rows that band b does not need are released, and band b + 1 is demanded and checked
again. -/
def bandAdvance (m : Mach) : Mach :=
  let b := m.hel.band + 1
  match rayFrame m with
  | none => m
  | some f =>
    if !helRuns m ∨ (tentry m.entry).bands ≤ b ∨ !bandDone m (b - 1) then m
    else
      let rows (k : Nat) : List RowKey := match planBand f k with
        | some p => planRows m p
        | none => []
      let m := releaseExcept m (rows b) (rows (b - 1))
      let m := { m with hel := { m.hel with band := b } }
      recheck (demandBand m f (b + 1)) f (b + 1)

def execBandAdvance (s : State) : Out' := onM s bandAdvance

end Sys2Proof.Machine
end

