-- ==== Sys2Proof/Machine/LantCmds.lean ====
section
/-!
DEFINITION. The commands of the Lantern domain and the bistable label (spec/20_lantern_and_label.md R665-R696).
-/
namespace Sys2Proof.Machine

/-! ## Real-time count, alarm, wake and board power (R667-R671) -/

/-- RTC_SECOND_LOAD (R667, R786): the PTP seconds at a whole second. An alarm that the load passes over does not fire; one reached by
counting does. -/
def rtcSecondLoad (m : Mach) : Mach :=
  if timeState m = T_LOCKED then
    let s := (nowNs m / 1000000000).toNat % 2 ^ 48
    rtcLoad m s (s == m.rtc + 1)
  else m

def execRtcSecondLoad (s : State) : Out' := onM s rtcSecondLoad

/-- While the device is in M0 the count has run on by `secs` seconds since the last command. -/
def runSecs (m : Mach) (secs : Nat) : Mach := if m.mode = 0 then rtcRun m (secs * secondQ) else m

/-- LANT_WAKE_PIN (R669). -/
def execLantWakePin (secs : Nat) (s : State) : Out' := onL s (fun m => wakeFire (runSecs m secs) 1)

/-- RTC_ALARM (R668): the count reaches the alarm value. -/
def rtcAlarm (m : Mach) : Mach := if m.rtc < alarmAt m then rtcLoad m (alarmAt m) true else m

def execRtcAlarm (s : State) : Out' := onL s rtcAlarm

/-- SUPPLY_WAKE (R669): the supplies become valid while PWREN_CORE is deasserted. -/
def execSupplyWake (secs : Nat) (s : State) : Out' :=
  onL s (fun m => let m := runSecs m secs; if m.flag R.LANT.STATUS.PWREN_CORE then m else wakeFire m 3)

/-- OFF_DELAY_EXPIRY (R670). -/
def offDelay (m : Mach) : Mach :=
  if m.mode = 0 ∧ m.lant.power = 1 then
    pwren { m with lant := { m.lant with power := 2 } } (!m.flag R.LANT.PWR_CTRL.CORE_OFF)
      (!(m.flag R.LANT.PWR_CTRL.DRAM_OFF && m.dv D.hibernate_dram == 0))
  else m

def execOffDelayExpiry (s : State) : Out' := onL s offDelay

/-- SUPPLY_VALID (R670): Bedrock may start. -/
def execSupplyValid (s : State) : Out' :=
  onL s (fun m => if m.lant.power = 3 then { m with lant := { m.lant with power := 0 } } else m)

/-- WAKE_TIMEOUT (R670). -/
def wakeTimeout (m : Mach) : Mach :=
  if m.lant.power = 3 then
    let m := pwren { m with lant := { m.lant with power := 4 } } false false
    (lantCode (m.addSat R.LANT.WAKE.FAILS 1) WAKE_TIMEOUT).ev E.LANT.WAKE_TIMEOUT
  else m

def execWakeTimeout (s : State) : Out' := onL s wakeTimeout

/-- WAKE_RETRY (R670). -/
def execWakeRetry (s : State) : Out' :=
  onL s (fun m => if m.lant.power = 4 then pwren { m with lant := { m.lant with power := 3 } } true true else m)

/-! ## Label updates (R678-R684) -/

/-- The label driver runs in M1, M2 and M4 to M11 (R672). -/
def labelMode (mode : Nat) : Bool := mode == 1 || mode == 2 || 4 ≤ mode

/-- The payload of a LABEL record (R684). -/
def labelPayload (m : Mach) (dirty : Bool) (r : LRun) : List Byte :=
  slice (toLE 1 (b2n dirty + 2 * b2n (m.flag R.LANT.LABEL_STATUS.FORCE_FULL)) ++ toLE 1 r.band ++ toLE 1 (Nat.min r.kind 2) ++ [0] ++
    toLE 4 (crc32c r.new) ++ toLE 4 m.lant.count ++ toLE 4 (m.dv D.label_geometry) ++ toLE 8 r.start) 0 24

/-- Request the LABEL record of an update. -/
def labelRecord (m : Mach) (dirty : Bool) (r : LRun) : Mach := vaultRequest m ⟨8, 0, .bytes (labelPayload m dirty r), .label⟩

/-- Step 2 of R679: an update of a target begins, its DIRTY record requested. -/
def labelBegin (m : Mach) (kind : Nat) (target : List Byte) (again : Bool) : Mach :=
  let band := bandOf m (labelTemp m)
  let kind := if kind < 2 ∧ !m.lant.currentOk then 2 else kind
  let old := if m.lant.currentOk && kind != 3 then m.lant.current else imageOf m 2
  let r : LRun := ⟨kind, band, old, target, waveTable m band, 0, 0, 0, again, false, false, m.rtc⟩
  let m := { m with lant := { m.lant with run := some r, count := (m.lant.count + 1) % 2 ^ 32 } }
  let m := (m.wr R.LANT.LABEL_STATUS.BAND band).wr R.LANT.LABEL_STATUS.LATE 0
  labelRecord (m.wr R.LANT.LABEL_STATUS.STATE (if again then 5 else 1)) true r

/-- LABEL_UPDATE (R678, R679): the dictionary code of the request, and the state. -/
def labelUpdate (m : Mach) (kind : Nat) : Nat × Mach :=
  if 2 < kind then (DICT_RANGE, m)
  else if !labelMode m.mode || !m.flag R.LANT.LABEL_CTRL.ENABLE || m.lant.run.isSome || m.lant.recover then (DICT_MODE, m)
  else if !m.lant.targetOk || !imageValid m m.lant.target then (DICT_OK, labelEnd m LABEL_BAD_IMAGE)
  else if !tableValid (waveTable m (bandOf m (labelTemp m))) then (DICT_OK, labelEnd m LABEL_TABLE_BAD)
  else (DICT_OK, labelBegin m (if m.flag R.LANT.LABEL_STATUS.FORCE_FULL then 2 else kind) m.lant.target false)

def execLabelUpdate (kind : Nat) (s : State) : Out' :=
  onM s (fun m => let r := labelUpdate m kind; r.2.emit (.dict r.1 []))

/-- LABEL_RECOVERY (R681): the target redrawn where it is intact, else the clear half alone. -/
def labelRecovery (m : Mach) : Mach :=
  if !m.lant.recover || (m.mode != 4 && m.mode != 5) || m.lant.run.isSome || !m.flag R.LANT.LABEL_CTRL.ENABLE then m
  else
    let crc := fieldLE (m.lant.record.getD []) 4 4
    let whole := m.lant.targetOk && imageValid m m.lant.target && crc32c m.lant.target == crc
    if whole then labelBegin { m with lant := { m.lant with currentOk := false } } 2 m.lant.target true
    else labelBegin m 3 (imageOf m 0) true

def execLabelRecovery (s : State) : Out' := onM s labelRecovery

/-- LABEL_WAVEFORM_START (R679): POWER_ON, once the DIRTY record is committed. -/
def labelStart (m : Mach) : Mach :=
  match m.lant.run with
  | some r =>
    let st := m.rd R.LANT.LABEL_STATUS.STATE
    if !r.ok then m
    else if m.lant.leave then labelEnd m LABEL_ABANDONED
    else if st = 1 ∨ st = 5 then (m.wr R.LANT.LABEL_STATUS.STATE (if st = 5 then 5 else if m.flag R.LANT.LABEL_CTRL.ENABLE then 2 else 3)).emit (.label 1 [])
    else m
  | none => m

def execLabelWaveformStart (s : State) : Out' := onL s labelStart

/-- The phases of a waveform's table. -/
def LRun.phases (r : LRun) : Nat := r.tab.length / 4

/-- Whether every frame has been sent. -/
def LRun.sent (r : LRun) : Bool := decide (r.phases ≤ r.phase)

/-- The drive level of a pixel (R677, R678): 0 NONE. -/
def driveLevel (kind half lv old new : Nat) : Nat :=
  let t (o n : Nat) : Nat := lv / 4 ^ (3 * o + n) % 4
  if kind = 0 then (if old = new then 0 else t old new)
  else if kind = 1 then t old new
  else if kind = 2 ∧ half = 1 then t 0 new
  else t old 0

/-- The drive data of a frame (R674). -/
def driveData (m : Mach) (r : LRun) : List Nat :=
  let lv := fieldLE r.tab (4 * r.phase + 1) 3
  let rb := labelRow m
  let w := labelW m
  ((List.range r.new.length).zip (r.old.zip r.new)).map (fun e =>
    sumN ((List.range 4).map (fun i =>
      if 4 * (e.1 % rb) + i < w then driveLevel r.kind r.half lv (px2 e.2.1 i) (px2 e.2.2 i) * 4 ^ i else 0)))

/-- The next frame: within the phase, the next phase, the second half of CLEAR_REDRAW. -/
def LRun.next (r : LRun) : LRun :=
  if r.frame + 1 < fieldLE r.tab (4 * r.phase) 1 then { r with frame := r.frame + 1 }
  else if r.phase + 1 < r.phases then { r with phase := r.phase + 1, frame := 0 }
  else if r.kind = 2 ∧ r.half = 0 then { r with phase := 0, frame := 0, half := 1 }
  else { r with phase := r.phases, frame := 0 }

/-- A waveform under way in DRIVE, DRAINING or RECOVERY. -/
def labelDrives (m : Mach) : Bool :=
  match m.lant.run with
  | some r => r.ok && (let st := m.rd R.LANT.LABEL_STATUS.STATE; st == 2 || st == 3 || st == 5)
  | none => false

/-- LABEL_FRAME (R674, R680, R682, R683): a frame boundary. A waveform to be abandoned or stopped ends here. -/
def labelFrame (m : Mach) : Mach :=
  match m.lant.run with
  | none => m
  | some r =>
    if m.lant.leave then labelEnd m LABEL_ABANDONED
    else if m.lant.stop then labelEnd ((m.emit (.label 0x20 [])).emit (.label 2 [])) ABORTED_BY_DISABLE
    else if !labelDrives m || r.sent then m
    else
      let n := r.phase + r.half * r.phases
      let m := (m.emit (.label 0x10 (n :: r.band :: r.frame :: driveData m r))).wr R.LANT.LABEL_STATUS.PHASE n
      let slip := m.mode != 1 && m.mode != 2 && bandSlipped m r.band (labelTemp m)
      let r := { r.next with slip := r.slip || slip }
      let first := slip && !m.flag R.LANT.LABEL_STATUS.BAND_SLIP
      let m := { m with lant := { m.lant with run := some r } }
      let m := if slip then (m.wr R.LANT.LABEL_STATUS.BAND_SLIP 1).wr R.LANT.LABEL_STATUS.FORCE_FULL 1 else m
      if first then hev ((lantCode (m.wr R.LANT.LABEL_STATUS.CODE BAND_SLIP) BAND_SLIP).ev E.LANT.BAND_SLIP) 489 else m

def execLabelFrame (s : State) : Out' := onL s labelFrame

/-- Steps 4 and 5 of R679: END and POWER_OFF, the current image, the clearing record. -/
def labelFinish (m : Mach) (r : LRun) : Mach :=
  let m := (m.emit (.label 0x20 [])).emit (.label 2 [])
  let m := { m with lant := { m.lant with current := r.new, currentOk := true } }
  let m := if 2 ≤ r.kind ∧ !r.slip then (m.wr R.LANT.LABEL_STATUS.BAND_SLIP 0).wr R.LANT.LABEL_STATUS.FORCE_FULL 0 else m
  let m := labelRecord m false r
  if r.again then
    labelEnd ({ m with lant := { m.lant with recover := false } }.ev E.LANT.RECOVERED) LABEL_RECOVERED
  else labelEnd m LABEL_DONE

/-- LABEL_WAVEFORM_END: after the last frame. -/
def labelWaveEnd (m : Mach) : Mach :=
  match m.lant.run with
  | some r => if labelDrives m && r.sent && !m.lant.leave && !m.lant.stop then labelFinish m r else m
  | none => m

def execLabelWaveformEnd (s : State) : Out' := onL s labelWaveEnd

/-- LABEL_TEMP_MEASURE (R675, R682): a diode reading in 1/16 C, or an open or shorted diode. -/
def labelTempMeasure (m : Mach) (t : Int) (fault : Bool) : Mach :=
  if (m.mode = 1 ∨ m.mode = 2) ∧ m.lant.run.isSome then m
  else
    let m := m.wr R.LANT.LABEL_STATUS.TEMP_FAULT (b2n fault)
    let use := if fault ∨ m.dv D.label_temp_source = 1 then sInt 16 (m.dv D.label_temp_written) else clampI t (-32768) 32767
    m.wr R.LANT.LABEL_TEMP.TEMP (uNat 16 use)

def execLabelTempMeasure (t : Int) (fault : Bool) (s : State) : Out' := onL s (fun m => labelTempMeasure m t fault)

/-- LABEL_DRAIN (R683): a write of LABEL_CTRL.ENABLE. -/
def labelDrain (m : Mach) (enable : Bool) : Mach :=
  let m := m.wr R.LANT.LABEL_CTRL.ENABLE (b2n enable)
  let st := m.rd R.LANT.LABEL_STATUS.STATE
  match m.lant.run with
  | none => m.wr R.LANT.LABEL_STATUS.STATE (labelRest m)
  | some r =>
    if enable then (if st = 3 ∧ !m.lant.stop then m.wr R.LANT.LABEL_STATUS.STATE (if r.again then 5 else if r.ok then 2 else 1) else m)
    else if r.ok then m.wr R.LANT.LABEL_STATUS.STATE 3
    else m

def execLabelDrain (enable : Bool) (s : State) : Out' := onM s (fun m => labelDrain m enable)

/-- LABEL_FORCE_STOP (R683); `late`: the last frame's END reaches completion in the same cycle or earlier. An update whose waveform has not
started ends at once. -/
def labelForceStop (m : Mach) (late : Bool) : Mach :=
  let m := m.wr R.LANT.LABEL_CTRL.ENABLE 0
  match m.lant.run with
  | none => m.wr R.LANT.LABEL_STATUS.STATE 4
  | some r =>
    if late && labelDrives m && r.sent then (labelFinish m r).wr R.LANT.LABEL_STATUS.LATE 1
    else
      let m := m.wr R.LANT.LABEL_STATUS.FORCE_FULL 1
      if labelDrives m then { m.wr R.LANT.LABEL_STATUS.STATE 3 with lant := { m.lant with stop := true } }
      else labelEnd m ABORTED_BY_DISABLE

def execLabelForceStop (late : Bool) (s : State) : Out' := onM s (fun m => labelForceStop m late)

/-- A LABEL record is committed (R654, R679). -/
def labelCommitted (m : Mach) (pay : List Byte) : Mach :=
  let dirty := fieldLE pay 0 1 % 2
  let m := m.wr R.LANT.LABEL_STATUS.DIRTY dirty
  match m.lant.run with
  | some r => if dirty = 1 then { m with lant := { m.lant with run := some { r with ok := true } } } else m
  | none => m

/-! ## Glow (R686, R687) -/

/-- The base of the glow image. -/
def glowBase (m : Mach) : Nat := m.rd R.LANT.GLOW_BASE_HI.BASE * 2 ^ 32 + m.rd R.LANT.GLOW_BASE_LO.BASE * 4096

/-- GLOW_LOAD_DONE: the 2 MiB image is in the glow copy of Grotto. -/
def glowLoaded (d : Mem) (m : Mach) : Mach :=
  if m.lant.load && decide (5 ≤ m.mode) && decide (m.mode ≤ 9) then
    let b := glowBase m
    let img := (d.filter (fun e => decide (b ≤ e.1) && decide (e.1 < b + 0x200000))).map (fun e => (e.1 - b, e.2))
    { m with lant := { m.lant with load := false, copy := some img } }
  else m

def execGlowLoadDone (s : State) : Out' := onR s glowLoaded

/-- A tick copies a glow image that has been read into the glow buffer; `base`: a new GLOW base takes effect at this tick. -/
def glowTick (m : Mach) (base : Bool) : Mach :=
  let m := match m.lant.copy with
    | some g => { m.wr R.LANT.GLOW_STATUS.READY 1 with lant := { m.lant with glow := g, copy := none, bad := [] } }
    | none => m
  if base then
    let go := glowBase m != 0
    { m.wr R.LANT.GLOW_STATUS.READY 0 with lant := { m.lant with load := go, copy := none } }
  else m

end Sys2Proof.Machine
end

