-- ==== Sys2Proof/Machine/EngineOps.lean ====
section
/-!
DEFINITION. How the engines and the tap reach device memory: firewall, capacity, poison, accounting (spec/13_memory_dram.md R450,
R454, R466; spec/18_firmware_trust_and_live_update.md R618-R620).
-/
namespace Sys2Proof.Machine

/-- Count what an engine moved. Into how many accesses it splits its work the manual does not say: a free number, at least one
(assumption log 52). -/
def countMoved (m : Mach) (master a n : Nat) (write : Bool) : Mach :=
  if n = 0 then m
  else
    let (k, m) := m.draw n
    countAccess m master a n write (k + 1)

/-- A write by an engine: whether it was performed, the DRAM write, and the state. Beyond capacity it is discarded (R450). -/
def devWrite (m : Mach) (p : Principal) (master a : Nat) (data : List Byte) : Bool × List (Nat × List Byte) × Mach :=
  if data.isEmpty then (true, [], m)
  else
    let (ok, m) := firewall m p master a data.length true
    if !ok then (false, [], m)
    else if !inCap m a data.length then (false, [], dramCode m DRAM_RANGE)
    else
      let m := countMoved m master a data.length true
      (true, [(a, data)], setPoison (m.each (lineStarts a data.length) dramOpen) a data.length false)

/-- What an engine's read met. -/
inductive ReadEnd where
  | fine | denied | range | poison (addr : Nat)
  deriving DecidableEq, Repr

/-- A read by an engine: how it ended, the data, and the state. -/
def devRead (d : Mem) (m : Mach) (p : Principal) (master a n : Nat) : ReadEnd × List Byte × Mach :=
  if n = 0 then (.fine, [], m)
  else
    let (ok, m) := firewall m p master a n false
    if !ok then (.denied, List.replicate n 0, m)
    else
      let r := memRead d m a n
      if r.range then (.range, r.data, dramCode m DRAM_RANGE)
      else
        let m := countMoved m master a n false
        let m := m.each (lineStarts a n) dramOpen
        match r.bad with
        | some b => (.poison b, r.data, notePoison m b)
        | none => (.fine, r.data, m)

/-! ## Work of the DMA channels and the side engines (R495, R500, R503, R516, R518) -/

/-- One element of an engine's work: the device ranges it reads, what it writes and where (`host`: to host memory; no bytes: nothing),
as a function of what was read. -/
structure Xfer where
  rd   : List (Nat × Nat)
  host : Bool
  wa   : Nat
  wn   : Nat
  f    : List (List Byte) → List Byte

/-- Why an access halts the work (R495, R500, R516): code and address. -/
def accessFault (m : Mach) (p : Principal) (a n : Nat) (write : Bool) : Option (Nat × Nat) :=
  if n = 0 then none
  else if !mayAccess m p a n write then some (0xC6, a)
  else if !inCap m a n then some (DRAM_RANGE, a)
  else if write then none
  else if (poisoned m a n).isSome then some (DRAM_POISONED, a)
  else none

/-- The first fault of an element. -/
def Xfer.fault (m : Mach) (p : Principal) (x : Xfer) : Option (Nat × Nat) :=
  match x.rd.findSome? (fun r => accessFault m p r.1 r.2 false) with
  | some e => some e
  | none => if x.host then none else accessFault m p x.wa x.wn true

/-- A write of an engine: to host memory or to device memory. -/
abbrev XWrite := Bool × Nat × List Byte

/-- Carry out elements in order up to the first that faults. -/
def xfers (m : Mach) (p : Principal) : Mem → List Xfer → Option (Nat × Nat) × List XWrite
  | _, [] => (none, [])
  | d, x :: xs =>
    match x.fault m p with
    | some e => (some e, [])
    | none =>
      let data := x.f (x.rd.map (fun r => d.read r.1 r.2))
      let r := xfers m p (if x.host then d else d.write x.wa data) xs
      (r.1, (x.host, x.wa, data) :: r.2)

/-- The device writes of a list. -/
def devWrites (l : List XWrite) : List (Nat × List Byte) :=
  l.filterMap (fun w => if w.1 || w.2.2.isEmpty then none else some w.2)

/-- The writes to host memory of a list. -/
def hostWrites (l : List XWrite) : List Out :=
  l.filterMap (fun w => if w.1 && !w.2.2.isEmpty then some (.hostWrite w.2.1 w.2.2) else none)

/-- Rows opened, POISON cleared and bytes counted for device writes. -/
def noteWrites (m : Mach) (master : Nat) (l : List (Nat × List Byte)) : Mach :=
  let m := m.each l (fun m w => setPoison (m.each (lineStarts w.1 w.2.length) dramOpen) w.1 w.2.length false)
  match l with
  | [] => m
  | w :: _ => countMoved m master w.1 (sumN (l.map (fun w => w.2.length))) true

/-- Rows opened and bytes counted for device reads. -/
def noteReads (m : Mach) (master : Nat) (l : List (Nat × Nat)) : Mach :=
  let m := m.each l (fun m r => m.each (lineStarts r.1 r.2) dramOpen)
  match l with
  | [] => m
  | r :: _ => countMoved m master r.1 (sumN (l.map (·.2))) false

/-- A fault is recorded where it occurs: a denial, a range error, a poisoned read. -/
def noteFault (m : Mach) (p : Principal) (master : Nat) (e : Nat × Nat) (write : Bool) : Mach :=
  if e.1 = 0xC6 then fwallDeny m p false write ((regionOf m e.2).getD 31) master e.2
  else if e.1 = DRAM_RANGE then dramCode m DRAM_RANGE
  else notePoison m e.2

/-- Bytes part old, part new: which is which the manual leaves undefined (R503, R518): a free choice for each byte. -/
def mixBytes (m : Mach) (old new : List Byte) : List Byte × Mach :=
  (((List.range new.length).zip (old.zip new)).map (fun e => if Config.free (m.freeN + e.1) % 2 = 0 then e.2.1 else e.2.2),
    { m with freeN := m.freeN + new.length })

/-- Writes that an abort left undefined. -/
def mixWrites (d : Mem) (m : Mach) (l : List (Nat × List Byte)) : List (Nat × List Byte) × Mach :=
  l.foldl (fun (acc : List (Nat × List Byte) × Mach) w =>
    let r := mixBytes acc.2 (d.read w.1 w.2.length) w.2
    (acc.1 ++ [(w.1, r.1)], r.2)) ([], m)

end Sys2Proof.Machine
end

