-- ==== Sys2Proof/Machine/Pixel.lean ====
section
/-!
DEFINITION. Gallery's picture: layers, composition and the colour pipeline of one span (spec/08_gallery_composition.md R253-R282).
-/
namespace Sys2Proof.Machine

/-! ## PQ (R279) -/

/-- The EOTF of ST 2084 in cd/m2 (R279), each operation rounded to binary64 (assumption log 49). -/
def pqEotf (e : F64) : F64 :=
  let p := fpow 32 2523 e
  let n := fsub p (some (107, -7))
  let n := if flt n (some (0, 0)) then some (0, 0) else n
  let q := fdiv n (fsub (some (2413, -7)) (fmul (some (299, -4)) p))
  fmul (f64OfInt 10000) (fpow 8192 1305 q)

/-- The threshold T[k] (R279). -/
def pqT (k : Nat) : Nat :=
  match fmul (pqEotf (fdiv (some (2 * (k : Int) - 1, 0)) (f64OfInt 8190))) (f64OfInt 1024) with
  | some y => (Int.neg (ffloor (-y.1, y.2))).toNat
  | none => 0

/-- The decode table pq_decode[k] (R279). -/
def pqDecode (k : Nat) : Nat :=
  match fmul (pqEotf (fdiv (f64OfInt k) (f64OfInt 1023))) (f64OfInt 1024) with
  | some y => (ffix 0 y).toNat
  | none => 0

/-- The largest code whose threshold a value reaches, from bit `n` - 1 down (R279). -/
def pqSearch (v : Nat) : Nat → Nat → Nat
  | 0, k => k
  | n + 1, k => pqSearch v n (if k + 2 ^ n ≤ 4095 ∧ pqT (k + 2 ^ n) ≤ v then k + 2 ^ n else k)

/-- PQ encoding (R279). -/
def pqEncode (v : Nat) : Nat := pqSearch v 12 0

/-! ## Source pixels (R262-R264) -/

/-- A working colour with alpha. -/
structure Pix where
  r : Int
  g : Int
  b : Int
  a : Int
  deriving DecidableEq, Repr

/-- Transparent. -/
def pixZero : Pix := ⟨0, 0, 0, 0⟩

/-- A channel of a pixel. -/
def Pix.ch (p : Pix) (c : Nat) : Int := if c = 0 then p.r else if c = 1 then p.g else p.b

/-- Keep a colour within 24 bits. -/
def c24 (x : Int) : Int := clampI x 0 0xFFFFFF

/-- The matrix of three channels (R264, R276). -/
def matApply (m : List Int) (v : List Int) (i : Nat) : Int :=
  sumI ((List.range 3).map (fun j => m.getD (3 * i + j) 0 * v.getD j 0))

/-- Convert a decoded pixel to panel primaries (R264). -/
def toPanel (g : GSnap) (k : Nat) (p : Pix) : Pix :=
  let prim := g.rd R.GAL.LAYER_CTRL.PRIMARIES k
  if 2 ≤ prim then p
  else
    let o (i : Nat) : Int := c24 (rsh (matApply (g.matrix prim) [p.r, p.g, p.b] i) 14)
    ⟨o 0, o 1, o 2, p.a⟩

/-- A linear pixel of four U16 (R263). -/
def linPix (nits r g b a : Nat) : Pix :=
  let c (x : Nat) : Int := rdiv ((x * nits * 1024 : Nat) : Int) 65535
  ⟨c r, c g, c b, rdiv ((a * 65536 : Nat) : Int) 65535⟩

/-- Decode a source pixel given as its bytes in a number (R263). -/
def decodePix (g : GSnap) (k w : Nat) : Pix :=
  let nits := g.rd R.GAL.LAYER_NITS.NITS k
  let pq (a : Int) (i : Nat) : Int := rsh ((pqDecode i : Int) * a) 16
  match g.rd R.GAL.LAYER_CTRL.FORMAT k with
  | 0 =>
    let a := rdiv ((bits w 31 24 * 65536 : Nat) : Int) 255
    let i (q : Nat) : Nat := q * 4 + q / 64
    ⟨pq a (i (bits w 23 16)), pq a (i (bits w 15 8)), pq a (i (bits w 7 0)), a⟩
  | 1 =>
    let a := rdiv ((bits w 31 30 * 65536 : Nat) : Int) 3
    ⟨pq a (bits w 29 20), pq a (bits w 19 10), pq a (bits w 9 0), a⟩
  | 2 => linPix nits (bits w 15 0) (bits w 31 16) (bits w 47 32) (bits w 63 48)
  | 3 =>
    let a := rdiv ((bits w 7 0 * 65536 : Nat) : Int) 255
    let c (i : Nat) : Int := rsh ((g.rd R.GAL.LAYER_COLOUR.COLOUR k i : Int) * a) 16
    ⟨c 0, c 1, c 2, a⟩
  | _ =>
    let e := bits w 7 0
    let x := g.rd R.GAL.LAYER_PAL.WORD k (2 * e)
    let y := g.rd R.GAL.LAYER_PAL.WORD k (2 * e + 1)
    linPix nits (x % 65536) (x / 65536) (y % 65536) (y / 65536)

/-- A crop-relative source pixel in DRAM (R262, R265). -/
def srcPix (d : Mem) (g : GSnap) (k : Nat) (x y : Nat) : Pix :=
  let n := g.bpp k
  let a := g.base k + (g.rd R.GAL.LAYER_SRC_XY.Y k + y) * g.pitch k + (g.rd R.GAL.LAYER_SRC_XY.X k + x) * n
  toPanel g k (decodePix g k (fromLE (d.read a n)))

/-- The image of a DEPTH layer as it is loaded: its crop, row after row (R268). -/
def depthImage (d : Mem) (g : GSnap) (k : Nat) : List Byte :=
  let n := g.bpp k
  (List.range (g.srcH k)).foldr (fun y acc =>
    d.read (g.base k + (g.rd R.GAL.LAYER_SRC_XY.Y k + y) * g.pitch k + g.rd R.GAL.LAYER_SRC_XY.X k * n) (g.srcW k * n) ++ acc) []

/-! ## SCREEN layers (R265-R267) -/

/-- Component-wise sum with weights, each component then finished. -/
def pixSum (l : List (Int × Pix)) (f : Int → Int) : Pix :=
  let s (c : Pix → Int) : Int := f (sumI (l.map (fun p => p.1 * c p.2)))
  ⟨s (·.r), s (·.g), s (·.b), s (·.a)⟩

/-- The source pixels an output pixel is taken from along one axis of the downscaler (R266). -/
def axisSpan (s d o : Nat) : List Nat :=
  if s ≤ d then [o / (d / s)]
  else (List.range ((o + 1) * s / d - o * s / d)).map (o * s / d + ·)

/-- The source indices and taps of a polyphase scaler along one axis (R267). -/
def axisTaps (tap : Nat → Nat → Int) (n back s d o : Nat) : List (Int × Nat) :=
  let step := s * 65536 / d
  let xs : Int := ((o * step + step / 2 : Nat) : Int) - 32768
  let k := floorDiv xs 65536
  let ph := (floorDiv xs 1024 % 64).toNat
  (List.range n).map (fun m => (tap ph m, (clampI (k - back + m) 0 ((s : Int) - 1)).toNat))

/-- A SCREEN layer at a panel pixel, before GLOBAL_ALPHA. -/
def screenPix (d : Mem) (g : GSnap) (k : Nat) (px y : Nat) : Pix :=
  let xo := (px : Int) - sInt 16 (g.rd R.GAL.LAYER_DST_XY.X k)
  let yo := (y : Int) - sInt 16 (g.rd R.GAL.LAYER_DST_XY.Y k)
  if xo < 0 ∨ yo < 0 ∨ (g.dstW k : Int) ≤ xo ∨ (g.dstH k : Int) ≤ yo then pixZero
  else
    let n := g.rd R.GAL.LAYER_CTRL.SCALER k
    if n = 0 then
      let xs := axisSpan (g.srcW k) (g.dstW k) xo.toNat
      let ys := axisSpan (g.srcH k) (g.dstH k) yo.toNat
      let l := ys.foldr (fun j acc => xs.foldr (fun i acc => ((1 : Int), srcPix d g k i j) :: acc) acc) []
      pixSum l (fun s => rdiv s l.length)
    else
      let xs := axisTaps (tapH g n) 8 3 (g.srcW k) (g.dstW k) xo.toNat
      let ys := axisTaps (tapV g n) 6 2 (g.srcH k) (g.dstH k) yo.toNat
      let l := ys.foldr (fun j acc => xs.foldr (fun i acc => (j.1 * i.1, srcPix d g k i.2 j.2) :: acc) acc) []
      let p := pixSum l (fun s => rsh s 20)
      ⟨c24 p.r, c24 p.g, c24 p.b, clampI p.a 0 65536⟩

/-! ## DEPTH layers (R268) -/

/-- A DEPTH layer along a ray: the channel's colour and alpha, before GLOBAL_ALPHA. -/
def depthPix (g : GSnap) (k : Nat) (r : Ray) (ch : Nat) : Int × Int :=
  let img := ((g.depth.find? (fun p => p.1 == k)).map (·.2)).getD []
  let lz := g.si R.GAL.LAYER_LZ.VALUE k
  let lx := g.si R.GAL.LAYER_LX.VALUE k
  let ly := g.si R.GAL.LAYER_LY.VALUE k
  let lw := g.si R.GAL.LAYER_LW.VALUE k
  let lh := g.si R.GAL.LAYER_LH.VALUE k
  let sw : Int := g.srcW k
  let sh : Int := g.srcH k
  let xs := r.ox + rsh (lz * r.tx) 28
  let ys := r.oy + rsh (lz * r.ty) 28
  let u := rdiv ((xs - (lx - lw / 2)) * sw * 256) lw - 128
  let v := rdiv (((ly + lh / 2) - ys) * sh * 256) lh - 128
  if u + 128 < 0 ∨ sw * 256 ≤ u + 128 ∨ v + 128 < 0 ∨ sh * 256 ≤ v + 128 then (0, 0)
  else
    let i := floorDiv u 256
    let j := floorDiv v 256
    let n := g.bpp k
    let at_ (i j : Int) : Pix :=
      let o := ((clampI j 0 (sh - 1)).toNat * g.srcW k + (clampI i 0 (sw - 1)).toNat) * n
      toPanel g k (decodePix g k (fieldLE img o n))
    let a := at_ i j
    let b := at_ (i + 1) j
    let c := at_ i (j + 1)
    let d := at_ (i + 1) (j + 1)
    let fx := u % 256
    let fy := v % 256
    let mx (f : Pix → Int) : Int := rsh (mixQuad (f a) (f b) (f c) (f d) fx fx fy) 16
    (mx (fun p => p.ch ch), mx (·.a))

/-! ## Composition and the pipeline (R276-R282) -/

/-- Scale by GLOBAL_ALPHA (R264). -/
def globalAlpha (g : GSnap) (k : Nat) (c : Int) : Int := c * g.rd R.GAL.LAYER_CTRL.GLOBAL_ALPHA k / 256

/-- The 1D LUT (R278). -/
def lutApply (g : GSnap) (ch v : Nat) : Nat :=
  let l (n : Nat) : Int := g.rd R.GAL.LUT.NODE ch n
  if v < 32 then (l v).toNat
  else
    let s := Nat.log2 v - 4
    let p := v - 2 ^ (s + 4)
    let i := 32 * s + p / 2 ^ (s - 1)
    let f := p % 2 ^ (s - 1)
    (c24 (l i + rsh ((l (i + 1) - l i) * f) (s - 1))).toNat

/-- The gain of a subpixel from the maps in force (R280). -/
def gainAt (m : Mach) (px y ch : Nat) : Int :=
  let zw := m.rd R.GAL.ZONE_GRID.ZW
  let zh := m.rd R.GAL.ZONE_GRID.ZH
  let gx := (px : Int) - 128
  let gy := (y : Int) - 128
  let zx := floorDiv gx 256
  let zy := floorDiv gy 256
  let wx := gx - 256 * zx
  let wy := gy - 256 * zy
  let node (map : Nat) (x y : Int) : Int :=
    gainNow m map ((clampI y 0 ((zh : Int) - 1)).toNat * zw + (clampI x 0 ((zw : Int) - 1)).toNat) ch
  let g (map : Nat) : Int :=
    rsh ((256 - wx) * (256 - wy) * node map zx zy + wx * (256 - wy) * node map (zx + 1) zy +
      (256 - wx) * wy * node map zx (zy + 1) + wx * wy * node map (zx + 1) (zy + 1)) 16
  rsh (g 0 * g 1) 14

/-- The protected layer over a 12-bit code (R273). -/
def protectCode (p : PlSnap) (px y ch code : Nat) : Nat :=
  let w := p.rd R.GAL.PL_WH.W
  let h := p.rd R.GAL.PL_WH.H
  let x0 := p.rd R.GAL.PL_XY.X
  let y0 := p.rd R.GAL.PL_XY.Y
  if p.rd R.GAL.PL_CTRL.ENABLE ≠ 1 ∨ px < x0 ∨ y < y0 ∨ x0 + w ≤ px ∨ y0 + h ≤ y then code
  else
    let i := px - x0
    let b := (p.image.getD ((y - y0) * ceilDiv w 2 + i / 2) 0).toNat
    let e := if i % 2 = 0 then b % 16 else b / 16
    let pl := if ch = 0 then p.rd R.GAL.PL_PAL0.R e else if ch = 1 then p.rd R.GAL.PL_PAL0.G e else p.rd R.GAL.PL_PAL1.B e
    let a8 := p.rd R.GAL.PL_PAL1.ALPHA e
    let a := a8 + a8 / 128
    (rsh ((pl * a + code * (256 - a) : Nat) : Int) 8).toNat

/-- Dither (R282). -/
def ditherCode (mode c y t code : Nat) : Nat :=
  let cell (y c : Nat) : Nat := match y % 2, c % 2 with
    | 0, 0 => 0
    | 0, _ => 2
    | _, 0 => 3
    | _, _ => 1
  let d := match mode with
    | 0 => 2
    | 1 => cell y c
    | _ => cell (y + t / 2 % 2) (c + t)
  Nat.min 1023 ((code + d) / 4)

/-- The ray field of a pixel: working colour and alpha of each of its three subpixels, in column order (R255, R276). -/
def rayField (m : Mach) (o : OptSet) (px : Nat) (rays : List (Nat × Nat × Bool)) : List (Int × Int) :=
  let g := m.gal.force
  let f := rayFrame m
  let white := (f.map (·.white)).getD 1
  let prim := (f.map (fun f => b2n (bit f.flags 1))).getD 0
  let e := (g.matrix prim).map (fun c => rdiv (c * white * 1024) 65520)
  let at_ (k : Nat) : Nat × Nat × Bool := rays.getD k (0, 0, false)
  let acc := (List.range 3).map (fun ch =>
    match (List.range 3).find? (fun k => channelOf o (3 * px + k) == ch) with
    | some k => ((at_ k).1 : Int)
    | none => 0)
  (List.range 3).map (fun k =>
    let ch := channelOf o (3 * px + k)
    if g.flag R.GAL.PIPE_CTRL.SUBST_MARK && (at_ k).2.2 then ((g.rd R.GAL.SUBST.COLOUR ch : Int), 65536)
    else (c24 (rsh (matApply e acc ch) 14), ((at_ k).2.1 : Int)))

/-- One over step (R277). -/
def overStep (acc : Int) (s : Int × Int) : Int :=
  let v := s.1 + rsh ((65536 - s.2) * acc) 16
  if 0xFFFFFF < v then 0xFFFFFF else v

/-- One pixel of a span through the whole pipeline. `rays`: its three ray results; `late`: SCREEN layers late on this line. -/
def pixelOut (d : Mem) (m : Mach) (px y : Nat) (rays : List (Nat × Nat × Bool)) : List SubOut :=
  let g := m.gal.force
  let o := optNow m
  let t := tentry m.entry
  let field := rayField m o px rays
  let ls := g.layers
  let screens := (ls.filter (fun k => !g.isDepth k && !m.gal.late.contains k)).map (fun k => (k, screenPix d g k px y))
  let tick := m.tickCount % 4
  (List.range 3).map (fun s =>
    let c := 3 * px + s
    let ch := channelOf o c
    let ray : Option Ray :=
      if ls.any (fun k => g.isDepth k) ∧ m.flag R.HEL.OPT_STATUS.SET_VALID then deriveRay d o m.hel.mi m.hel.mapOk t c y else none
    let layer (k : Nat) : Int × Int :=
      let q : Int × Int :=
        if g.isDepth k then (match ray with
          | some r => depthPix g k r ch
          | none => (0, 0))
        else (match screens.find? (fun p => p.1 == k) with
          | some p => (p.2.ch ch, p.2.a)
          | none => (0, 0))
      (globalAlpha g k q.1, globalAlpha g k q.2)
    let below := ls.filter (fun k => !g.flag R.GAL.LAYER_CTRL.ABOVE k)
    let above := ls.filter (fun k => g.flag R.GAL.LAYER_CTRL.ABOVE k)
    let acc := below.foldl (fun a k => overStep a (layer k)) (g.rd R.GAL.BG.COLOUR ch : Int)
    let acc := overStep acc (field.getD s (0, 0))
    let w := (above.foldl (fun a k => overStep a (layer k)) acc).toNat
    let code := protectCode m.gal.plForce px y ch (pqEncode (lutApply g ch w))
    let pre := (rsh (code * gainAt m px y ch) 14).toNat
    let pre := Nat.min 4095 pre
    ⟨w, pre, ditherCode (g.rd R.GAL.PIPE_CTRL.DITHER) c y tick pre⟩)

/-- A span: the 64 pixels from `px`, with the 192 ray results in column order. -/
def spanOut (d : Mem) (m : Mach) (px y : Nat) (rays : List (Nat × Nat × Bool)) : List SubOut :=
  (List.range 64).foldr (fun i acc => pixelOut d m (px + i) y ((rays.drop (3 * i)).take 3) ++ acc) []

end Sys2Proof.Machine
end

