-- ==== Sys2Proof/Machine/ThermOps.lean ====
section
/-!
DEFINITION. The thermal monitor: sensors, the reported maximum, the rate of rise, levels, steps and the trip
(spec/16_power_and_thermal.md R562-R573).
-/
namespace Sys2Proof.Machine

def THERM_WARN : Nat := 0xF3
def THERM_THROTTLE : Nat := 0xF4
def THERM_STEP_DOWN : Nat := 0xF5
def THERM_STEP_UP : Nat := 0xF6
def THERM_TRIP : Nat := 0xF7
def SENSOR_SUSPECT : Nat := 0xF8
def SENSOR_RETIRED : Nat := 0xF9
def THERM_CLEAR : Nat := 0xFA

/-- Report a code of the monitor in THRM.RISE (R578). -/
def thermCode (m : Mach) (c : Nat) : Mach := m.wr R.THRM.RISE.LAST_CODE c

/-- 8 K in 1/16 K. -/
def k8 : Int := 128

/-- The trip limit, 158 C in 1/16 K. -/
def tripLimit : Int := 2528

/-- A sensor's state: 0 GOOD, 1 SUSPECT, 2 RETIRED. -/
def sensState (m : Mach) (n : Nat) : Nat := m.rd R.THRM.SENS.STATE n

/-- A sensor's last reading. -/
def sensTemp (m : Mach) (n : Nat) : Int := sInt 16 (m.rd R.THRM.SENS.TEMP n)

/-- A sensor's neighbours (R581). -/
def sensNbrs (m : Mach) (n : Nat) : List Nat :=
  (List.range (m.rd R.THRM.SENS_NBR.COUNT n + 1)).map (fun k => bits (m.rd R.THRM.SENS_NBR.NBR n) (6 * k + 5) (6 * k))

/-- Its GOOD neighbours. -/
def goodNbrs (m : Mach) (n : Nat) : List Nat := (sensNbrs m n).filter (fun k => decide (k < 48) && sensState m k == 0)

/-- The largest of a list of temperatures, none when empty. -/
def maxI : List Int → Option Int
  | [] => none
  | x :: l => some (l.foldl (fun a b => if a < b then b else a) x)

/-- Whether two readings agree within 8 K. -/
def agrees (a b : Int) : Bool := decide ((a - b).natAbs ≤ 128)

/-- A sensor's running counts. -/
def sensRec (m : Mach) (n : Nat) : SensC := m.th.sens.getD n ⟨0, 0⟩

/-- Set a sensor's running counts. -/
def sensSet (m : Mach) (n : Nat) (c : SensC) : Mach := { m with th := { m.th with sens := setAt m.th.sens n c } }

/-- Judge one sensor against the states before this sample (R564). -/
def judgeSensor (old m : Mach) (n : Nat) : Mach :=
  let good := goodNbrs old n
  if good.isEmpty then m
  else
    let t := sensTemp m n
    let c := sensRec m n
    if sensState old n = 0 then
      if good.any (fun k => agrees t (sensTemp m k)) then sensSet m n { c with apart := 0 }
      else if c.apart + 1 < 3 then sensSet m n { c with apart := c.apart + 1 }
      else
        let m := sensSet (m.wr R.THRM.SENS.STATE 1 n) n ⟨0, 0⟩
        let m := hev ((thermCode m SENSOR_SUSPECT).ev E.THRM.SENSOR) 292
        let (crossed, m) := bucketAdd m 6 n 1 SENSOR_SUSPECT n
        if crossed then hev ((thermCode (m.wr R.THRM.SENS.STATE 2 n) SENSOR_RETIRED).ev E.THRM.SENSOR) 293 else m
    else if sensState old n = 1 then
      if good.any (fun k => agrees t (sensTemp m k)) then
        if c.agree + 1 < 1000 then sensSet m n { c with agree := c.agree + 1 }
        else (sensSet (m.wr R.THRM.SENS.STATE 0 n) n ⟨0, 0⟩).ev E.THRM.SENSOR
      else sensSet m n { c with agree := 0 }
    else m

/-- What a sensor gives to the reported maximum: its reading, or its substitute (R565). -/
def sensValue (m : Mach) (n : Nat) : Int :=
  if sensState m n = 0 then sensTemp m n
  else
    match maxI ((goodNbrs m n).map (sensTemp m)) with
    | some v => v + 48
    | none => match maxI (((List.range 48).filter (fun k => sensState m k == 0)).map (sensTemp m)) with
      | some v => v + 48
      | none => sensTemp m n + 48

/-- Whether a sensor is a source of the trip at this sample (R571). -/
def tripSource (m : Mach) (n : Nat) : Bool :=
  decide (tripLimit ≤ sensValue m n) &&
  (sensState m n != 0 || (sensNbrs m n).any (fun k => decide (k < 48) && agrees (sensTemp m n) (sensTemp m k)))

/-- The samples of 100 ms before, from a list newest first: those whose age is at least 1,600 sixteenths of a ms. -/
def olderThan : Nat → Nat → List (Int × Nat) → List (Int × Nat)
  | _, _, [] => []
  | lim, age, (v, dt) :: l => if lim ≤ age then (v, dt) :: l else olderThan lim (age + dt) l

/-- The samples of the last 10 s (R584). -/
def lastTen : Nat → List (Int × Nat) → List (Int × Nat)
  | _, [] => []
  | left, (v, dt) :: l => if left = 0 then [] else (v, dt) :: lastTen (left - dt) l

/-- Five eighths of the sum of the last 16 maxima less that of the 16 taken 100 ms earlier is the rate in 1/16 K/s (R566);
`none` until both are there. -/
def riseSum (h : List (Int × Nat)) : Option Int :=
  let new := h.take 16
  let old := (olderThan 1600 0 h).take 16
  if new.length < 16 ∨ old.length < 16 then none
  else some ((new.map (·.1)).foldl (· + ·) 0 - (old.map (·.1)).foldl (· + ·) 0)

/-- A level with its 5 K of hysteresis (R567). -/
def levelOn (was : Bool) (max lim : Int) : Bool := decide (lim ≤ max) || (was && decide (lim - 80 < max))

/-- The three writable limits in 1/16 K. -/
def limitOf (m : Mach) (r : Row) : Int := (m.rd r : Int) * 16

/-- The levels at a sample (R567, R573, R579). -/
def thermLevels (m : Mach) (max : Int) : Mach :=
  let t := m.th
  let w := levelOn t.warn max (limitOf m R.THRM.LIMITS.WARN)
  let th := levelOn t.throttle max (limitOf m R.THRM.LIMITS.THROTTLE)
  let sd := levelOn t.stepDown max (limitOf m R.THRM.LIMITS.STEP_DOWN)
  let ed := levelOn t.edge max 2400
  let was := t.warn || t.throttle || t.stepDown || t.edge
  let now := w || th || sd || ed
  let m := { m with th := { t with warn := w, throttle := th, stepDown := sd, edge := ed
                                   sinceStep := if sd && !t.stepDown then 80000 else t.sinceStep } }
  let m := m.wr R.THRM.STATUS.LEVEL (if ed then 4 else if sd then 3 else if th then 2 else if w then 1 else 0)
  let m := if w && !t.warn then (thermCode m THERM_WARN).ev E.THRM.WARN else m
  let m := if th && !t.throttle then (thermCode m THERM_THROTTLE).ev E.THRM.THROTTLE else m
  let m := m.evIf (ed && !t.edge) E.THRM.EDGE
  if was && !now then (thermCode m THERM_CLEAR).ev E.THRM.CLEAR else m

/-- The rate of rise at a sample (R566). The register's rounding is open. -/
def thermRise (m : Mach) (dt : Nat) : Mach :=
  match riseSum m.th.hist with
  | none => m
  | some d =>
    let x := 5 * d
    let (r, m) := if x % 8 = 0 then (0, m) else m.draw 2
    let m := m.wr R.THRM.RISE.RATE (uNat 16 (clampI (floorDiv x 8 + r) (-32768) 32767))
    let m := m.evIf (decide (640 < x)) E.THRM.RISE_WARN
    if 2560 < x then
      let m := if m.th.fastRise then m else thermCode m THERM_THROTTLE
      { m with th := { m.th with fastRise := true, calm := 0 } }
    else
      let c := m.th.calm + dt
      { m with th := { m.th with calm := c, fastRise := m.th.fastRise && decide (c < 16000) } }

/-- The trip logic at a sample (R571). -/
def thermTrip (m : Mach) : Mach :=
  let now := maskOf 48 (tripSource m)
  let m := if !m.th.armed && decide (sensValue m m.th.tripSrc < tripLimit) then
      { m with th := { m.th with armed := true, tripMask := 0 } }
    else m
  if !m.th.armed then m
  else
    match firstIdx 48 (fun n => bit now n && bit m.th.tripMask n) with
    | none => { m with th := { m.th with tripMask := now } }
    | some src =>
      let m := { m with th := { m.th with armed := false, tripSrc := src, tripMask := 0 } }
      forceTrip (hev (thermCode (m.add R.THRM.TRIPS.COUNT 1) THERM_TRIP) 288) m.rtc

/-- Time in THROTTLE is counted in ms (R574). -/
def throttleTime (m : Mach) (dt : Nat) : Mach :=
  if throttleOn m then
    let t := m.th.subMs + dt
    let m := { m with th := { m.th with subMs := t % 16 } }
    if 16 ≤ t then hev (m.dadd D.throttle_ms (t / 16)) 290 (t / 16) else m
  else m

/-- One sample of all 48 sensors (R563-R571). The time since the one before is 1 ms, or 62.5 us while FAST. -/
def thermSample (m : Mach) (readings : List Int) : Mach :=
  let dt := if m.flag R.THRM.STATUS.FAST then 1 else 16
  let m := m.each (List.range 48) (fun m n => m.wr R.THRM.SENS.TEMP (uNat 16 (readings.getD n 0)) n)
  let m := m.each (List.range 48) (fun x n => judgeSensor m x n)
  let vals := (List.range 48).map (sensValue m)
  let max := (maxI vals).getD 0
  let hot := (firstIdx 48 (fun n => vals.getD n 0 == max)).getD 0
  let good := ((List.range 48).filter (fun n => sensState m n == 0)).length
  let fast := decide (2000 ≤ max) || (List.range 48).any (fun n => sensState m n == 0 && decide (sensTemp m n ≤ -480))
  let m := (m.wr R.THRM.STATUS.MAX_TEMP (uNat 16 max)).wr R.THRM.STATUS.HOTTEST hot
  let m := (m.wr R.THRM.STATUS.FLOOR (b2n (decide (good < 24)))).wr R.THRM.STATUS.FAST (b2n fast)
  let m := { m with th := { m.th with hist := (max, dt) :: lastTen 160000 m.th.hist, sinceStep := m.th.sinceStep + dt } }
  throttleTime (thermTrip (thermLevels (thermRise m dt) max)) dt

/-! ## Steps (R569, R570) -/

/-- The best of some entries by an order. -/
def bestEntry (l : List Nat) (better : Nat → Nat → Bool) : Option Nat :=
  l.foldl (fun b e => match b with
    | none => some e
    | some x => if better e x then some e else b) none

/-- The entry one step below the one in force (R569). -/
def stepDownEntry (m : Mach) : Option Nat :=
  let cur := tentry m.entry
  let c := (List.range 24).filter (fun e => permitted m e && decide ((tentry e).tokens < cur.tokens))
  bestEntry c (fun a b =>
    let ta := tentry a
    let tb := tentry b
    decide (tb.tokens < ta.tokens) || (ta.tokens == tb.tokens && ta.gen == cur.gen && tb.gen != cur.gen))

/-- The entry one step back toward the requested one (R570): the reverse of the order of R569. -/
def stepUpEntry (m : Mach) : Option Nat :=
  let cur := tentry m.entry
  let req := m.th.reqEntry
  let c := (List.range 24).filter (fun e => permitted m e && decide (cur.tokens < (tentry e).tokens) &&
    decide ((tentry e).tokens < (tentry req).tokens))
  let up := bestEntry c (fun a b =>
    let ta := tentry a
    let tb := tentry b
    decide (ta.tokens < tb.tokens) || (ta.tokens == tb.tokens && ta.gen == cur.gen && tb.gen != cur.gen))
  match up with
  | some e => some e
  | none => if permitted m req && decide (cur.tokens < (tentry req).tokens) then some req else none

/-- At the commit deadline: a step the level calls for becomes due at the tick (R569). -/
def thermDeadline (m : Mach) : Mach :=
  if m.th.stepDown && drivesRays m.mode && decide (80000 ≤ m.th.sinceStep) then
    match stepDownEntry m with
    | some e => { m with th := { m.th with stepDue := some e } }
    | none => (m.ev E.THRM.NO_STEP)
  else m

/-- A step down or up is taken at a tick: the entry that comes into force, and the state with the step counted (R569, R570). -/
def takeStep (m : Mach) (e : Nat) : Mach :=
  let down := decide ((tentry e).tokens < (tentry m.entry).tokens)
  let n := m.rd R.THRM.STATUS.STEPS
  let back := e == m.th.reqEntry
  let m := { m with th := { m.th with stepDue := none, sinceStep := 0, stepped := if back then none else some e } }
  let m := m.wr R.THRM.STATUS.STEPS (if back then 0 else if down then n + 1 else n - 1)
  if down then hev ((thermCode (m.dadd D.step_downs 1) THERM_STEP_DOWN).ev E.THRM.STEP_DOWN) 289
  else (thermCode m THERM_STEP_UP).ev E.THRM.STEP_UP

end Sys2Proof.Machine
end

