-- ==== Sys2Proof/Machine/SecCmds.lean ====
section
/-!
DEFINITION. Bedrock's commands: install, switch, trial, anti-rollback, keys, regions, release, watchdog
(spec/18_firmware_trust_and_live_update.md R614-R631).
-/
namespace Sys2Proof.Machine

/-! ## Install (R621) -/

/-- IMAGE_INSTALL: the image is checked and its write into a slot that is not committed begins. -/
def imageInstall (d : Mem) (m : Mach) (f : Fuse) (kind slot addr len : Nat) : Mach :=
  let m := secGo m 1
  let committed := if kind = K_STAGE2 then m.rd R.SEC.STATE.BED_COMMITTED else m.rd R.SEC.STATE.FW_COMMITTED
  let trial := if kind = K_STAGE2 then m.flag R.SEC.STATE.TRIAL_BED else m.flag R.SEC.STATE.TRIAL_FW
  let due := if kind = K_STAGE2 then m.sec.bedDue.isSome else m.sec.fwDue.isSome
  if !secServes m 1 kind then secEnd m SEC_DENIED
  else if kind ≠ K_STAGE2 ∧ kind ≠ K_MAIN then secEnd m IMG_BAD_FORMAT
  else if 2 ≤ slot ∨ slot = committed ∨ trial then secEnd m SEC_DENIED
  else if m.sec.install.isSome ∨ due then secEnd m SEC_BUSY
  else
    let b := (memRead d m addr (Nat.min len 16777216)).data
    let hdr := slice b 0 384
    let n := fieldLE hdr 12 4
    if len < 384 + n then secEnd m IMG_BAD_FORMAT
    else
      let pay := slice b 384 n
      match imgCheck f m kind hdr pay with
      | some c => secEnd m c
      | none => { secPend m with sec := { m.sec with install := some (kind, slot, hdr, pay) } }

def execImageInstall (kind slot addr len : Nat) (s : State) : Out' :=
  onR s (fun d m => imageInstall d m s.fuse kind slot addr len)

/-- INSTALL_COMPLETE (R621): written and read back in both devices, or FLASH_FAILED and the slot invalid. -/
def installComplete (m : Mach) (ok : Bool) : Effect :=
  match m.sec.install with
  | none => ⟨m, [], false⟩
  | some (kind, slot, hdr, pay) =>
    let new : Slot := if ok then ⟨some (hdr, pay), true, fieldLE hdr 6 1, fieldLE hdr 7 1, fieldLE hdr 8 4⟩
      else ⟨none, false, 0, 0, 0⟩
    let m := { m with sec := { m.sec with install := none, slots := setAt m.sec.slots (slotIdx kind slot) new } }
    let m := secEnd (secVersions m) (if ok then SEC_DONE else FLASH_FAILED)
    ⟨m, if ok && kind == K_MAIN then [(codeBase slot, pay)] else [], false⟩

def execInstallComplete (ok : Bool) (s : State) : Out' := onW s (fun _ m => installComplete m ok)

/-! ## Switch, trial, check-in (R622-R629) -/

/-- SWITCH (R622, R629). -/
def secSwitch (m : Mach) (f : Fuse) (kind slot : Nat) : Mach :=
  let m := secGo m 2
  let inst : Bool := match m.sec.install with
    | some (k, _) => k == kind
    | none => false
  if !secServes m 2 kind ∨ (kind ≠ K_STAGE2 ∧ kind ≠ K_MAIN) ∨ 2 ≤ slot then secEnd m SEC_DENIED
  else if inst ∨ (if kind = K_STAGE2 then m.sec.bedDue.isSome else m.sec.fwDue.isSome) then secEnd m SEC_BUSY
  else if m.mode = 0 ∨ m.mode = 3 ∨ m.mode = 11 ∨ !slotPasses f m kind slot then secEnd m SEC_DENIED
  else
    let d : Switch := ⟨slot, tickWait m⟩
    let m := if kind = K_STAGE2 then { m with sec := { m.sec with bedDue := some d } }
      else calDrain { m with sec := { m.sec with fwDue := some d, quiesced := false } } false
    (dueRefresh (secPend m)).ev E.SEC.QUIESCE

def execSwitch (kind slot : Nat) (s : State) : Out' := onM s (fun m => secSwitch m s.fuse kind slot)

/-- The commit deadline passes: from the one before the due tick on, firmware-backed requests are not served (R622), and it is
noted whether PFW_N is high (R628). -/
def secDeadline (m : Mach) : Mach :=
  let absent := match m.sec.fwDue with
    | some d => d.wait == 0
    | none => false
  { m with sec := { m.sec with bedGo := !m.mc.pfwLow, absent := m.sec.absent || absent } }

/-- The main switch takes effect (R623, R625, R626): the running image becomes the one reverted to. -/
def takeMain (m : Mach) (slot : Nat) : Mach :=
  let old := m.rd R.SEC.STATE.FW_SLOT
  let m := { m with sec := { m.sec with fwDue := none, absent := false, prevFw := old } }
  let m := releaseCores (mapMain m slot) 2
  let m := m.wr R.SEC.STATE.TRIAL_FW 0
  secEnd (hev ((dueRefresh m).ev E.SEC.SWITCHED) 491) SEC_DONE

/-- The stage-2 switch takes effect (R628): open Vault records are committed by their own commands. -/
def takeBed (m : Mach) (slot : Nat) : Mach :=
  let old := m.rd R.SEC.STATE.BED_SLOT
  let m := { m with sec := { m.sec with bedDue := none, prevBed := old } }
  let m := secVersions (m.wr R.SEC.STATE.BED_SLOT slot)
  let m := m.wr R.SEC.STATE.TRIAL_BED 1
  secEnd ((dueRefresh m).ev E.SEC.SWITCHED) SEC_DONE

/-- Bedrock's part of a tick, after action 5 (R622, R628, R629). -/
def secTick (m : Mach) : Mach :=
  match m.sec.bedDue, m.sec.fwDue with
  | some ⟨b, 0⟩, fw =>
    let m := match fw with
      | some ⟨s, w + 1⟩ => { m with sec := { m.sec with fwDue := some ⟨s, w⟩ } }
      | _ => m
    if m.sec.bedGo then takeBed m b
    else match fw with
      | some ⟨s, 0⟩ => takeMain m s
      | _ => m
  | bed, fw =>
    let m := match bed with
      | some ⟨b, w + 1⟩ => { m with sec := { m.sec with bedDue := some ⟨b, w⟩ } }
      | _ => m
    match fw with
    | some ⟨s, 0⟩ => takeMain m s
    | some ⟨s, w + 1⟩ => { m with sec := { m.sec with fwDue := some ⟨s, w⟩ } }
    | none => m

/-- Bedrock reverts to the previous main image (R625). -/
def secRevert (m : Mach) : Mach :=
  let m := releaseCores (mapMain m m.sec.prevFw) 3
  let m := m.wr R.SEC.STATE.TRIAL_FW 0
  hev ((secCode m SWITCH_REVERTED).ev E.SEC.REVERTED) 353

/-- CHECKIN (R625, R626): firmware is present; after a switch its trial begins; calibration resumes (R624). -/
def checkin (m : Mach) : Mach :=
  if !m.sec.cores ∨ m.sec.await = 0 then m
  else
    let m := (m.wr R.SEC.STATE.FW_PRESENT 1).wr R.SEC.WDOG.SINCE_KICK_MS 0
    let m := if m.sec.await = 2 then m.wr R.SEC.STATE.TRIAL_FW 1 else m
    let m := { m with sec := { m.sec with await := 0, sinceNs := 0 } }
    if m.rd R.CAL.STATUS.STATE = 3 then calDrain m true else m

def execCheckin (s : State) : Out' := onM s checkin

/-- CHECKIN_TIMEOUT (R625, R627): 1 s has passed since the release of the cores. -/
def checkinTimeout (m : Mach) : Mach :=
  if m.sec.await = 2 then secRevert m
  else if m.sec.await = 3 then bootIntegrity { m with sec := { m.sec with await := 0, cores := false } } 0x6
  else m

def execCheckinTimeout (s : State) : Out' := onM s checkinTimeout

/-- WDOG_KICK (R627). -/
def execWdogKick (s : State) : Out' :=
  onM s (fun m => if m.flag R.SEC.STATE.FW_PRESENT then
    { m.wr R.SEC.WDOG.SINCE_KICK_MS 0 with sec := { m.sec with sinceNs := 0 } } else m)

/-- QUIESCED (R622). -/
def execQuiesced (s : State) : Out' := onM s (fun m => { m with sec := { m.sec with quiesced := true } })

/-- WATCHDOG_EXPIRY (R627): in a trial the previous image is reverted to, else the committed image restarts. -/
def watchdogExpiry (m : Mach) : Mach :=
  if !m.flag R.SEC.STATE.FW_PRESENT then m
  else
    let m := hev m 492
    if m.flag R.SEC.STATE.TRIAL_FW then secRevert m
    else releaseCores (mapMain m (m.rd R.SEC.STATE.FW_COMMITTED)) 3

def execWatchdogExpiry (s : State) : Out' := onM s watchdogExpiry

/-! ## Anti-rollback (R616, R617) -/

/-- The fuse readings as SEC.ROLLBACK shows them. -/
def showFuses (m : Mach) (f : Fuse) : Mach :=
  (m.wr R.SEC.ROLLBACK.BED_FUSE f.rollBed).wr R.SEC.ROLLBACK.FW_FUSE f.rollFw

/-- Blow the bits a mirror is ahead by, where VDD_FUSE is present (R617). -/
def blowMissing (m : Mach) (f : Fuse) (vdd : Bool) : Mach × Fuse :=
  if vdd then
    let f := { f with rollBed := Nat.max f.rollBed (m.rd R.SEC.ROLLBACK.BED_MIRROR)
                      rollFw := Nat.max f.rollFw (m.rd R.SEC.ROLLBACK.FW_MIRROR) }
    (showFuses m f, f)
  else (m, f)

/-- A counter is to advance to `step` (R617): its mirror is committed first, then the fuses are blown. -/
def rollAdvance (m : Mach) (kind step : Nat) (vdd cmd : Bool) : Mach :=
  if step ≤ rollCounter m kind then (if cmd then secEnd m SEC_DONE else m)
  else
    let m := { m with sec := { m.sec with roll := m.sec.roll ++ [(kind, step, vdd, cmd)] } }
    vaultRequest (if cmd then secPend m else m) ⟨9, kind, .bytes [BitVec.ofNat 8 step], .rollback⟩

/-- A ROLLBACK record has committed (R617): the mirror shows it and the fuses follow where VDD_FUSE is present. -/
def rollCommitted (m : Mach) (f : Fuse) (kind step : Nat) : Mach × Fuse :=
  let mine := m.sec.roll.filter (fun r => r.1 == kind)
  let m := if kind = K_STAGE2 then m.wr R.SEC.ROLLBACK.BED_MIRROR (Nat.max step (m.rd R.SEC.ROLLBACK.BED_MIRROR))
    else m.wr R.SEC.ROLLBACK.FW_MIRROR (Nat.max step (m.rd R.SEC.ROLLBACK.FW_MIRROR))
  let m := { m with sec := { m.sec with roll := m.sec.roll.filter (fun r => r.1 != kind) } }
  let (m, f) := blowMissing m f (mine.any (fun r => r.2.2.1))
  let m := m.ev E.SEC.ROLLBACK
  (if mine.any (fun r => r.2.2.2) then secEnd m SEC_DONE else m, f)

/-- ROLLBACK_ADVANCE (R617): to the step of the committed image of the kind. -/
def rollbackAdvance (m : Mach) (f : Fuse) (kind : Nat) (vdd : Bool) : Fuse × Effect :=
  let m := secGo m 4
  let (m, f) := blowMissing m f vdd
  if !secServes m 4 kind ∨ (kind ≠ K_STAGE2 ∧ kind ≠ K_MAIN) then (f, ⟨secEnd m SEC_DENIED, [], false⟩)
  else
    let slot := if kind = K_STAGE2 then m.rd R.SEC.STATE.BED_COMMITTED else m.rd R.SEC.STATE.FW_COMMITTED
    (f, ⟨rollAdvance m kind (secSlot m kind slot).step vdd true, [], false⟩)

def execRollbackAdvance (kind : Nat) (vdd : Bool) (s : State) : Out' :=
  onF s (fun _ m f => rollbackAdvance m f kind vdd)

/-- The switch of a kind on trial is committed (R626): the selector is rewritten and the counter advances to the smaller of the
steps of the two slots' valid images (R617). -/
def commitTrial (m : Mach) (f : Fuse) (kind : Nat) (vdd : Bool) : Mach :=
  let bed := m.rd R.SEC.STATE.BED_COMMITTED
  let fw := m.rd R.SEC.STATE.FW_COMMITTED
  let m := if kind = K_STAGE2 then writeSelector m (m.rd R.SEC.STATE.BED_SLOT) fw
    else writeSelector m bed (m.rd R.SEC.STATE.FW_SLOT)
  let m := if kind = K_STAGE2 then m.wr R.SEC.STATE.TRIAL_BED 0 else m.wr R.SEC.STATE.TRIAL_FW 0
  let steps := ([0, 1].filter (slotPasses f m kind)).map (fun s => (secSlot m kind s).step)
  let m := match steps with
    | [] => m
    | a :: l => rollAdvance m kind (l.foldl Nat.min a) vdd false
  m.ev E.SEC.TRIAL_COMMITTED

/-- TRIAL_COMMIT (R626). -/
def trialCommit (m : Mach) (f : Fuse) (vdd : Bool) : Fuse × Effect :=
  let m := secGo m 3
  let (m, f) := blowMissing m f vdd
  let tf := m.flag R.SEC.STATE.TRIAL_FW
  let tb := m.flag R.SEC.STATE.TRIAL_BED
  if !secServes m 3 0 ∨ (!tf ∧ !tb) then (f, ⟨secEnd m SEC_DENIED, [], false⟩)
  else
    let m := if tb then commitTrial m f K_STAGE2 vdd else m
    let m := if tf then commitTrial m f K_MAIN vdd else m
    (f, ⟨secEnd m SEC_DONE, [], false⟩)

def execTrialCommit (vdd : Bool) (s : State) : Out' := onF s (fun _ m f => trialCommit m f vdd)

/-- TRIAL_PERIOD_END (R626) of a kind's trial. -/
def execTrialPeriodEnd (kind : Nat) (vdd : Bool) (s : State) : Out' :=
  onM s (fun m =>
    let on := if kind = K_STAGE2 then m.flag R.SEC.STATE.TRIAL_BED else kind == K_MAIN && m.flag R.SEC.STATE.TRIAL_FW
    if on then commitTrial m s.fuse kind vdd else m)

/-! ## Keys (R615) -/

/-- KEY_ENROL: reads the key and its proof at a DRAM address. -/
def keyEnrol (d : Mem) (m : Mach) (f : Fuse) (addr : Nat) (vdd : Bool) : Fuse × Effect :=
  let m := secGo m 5
  let (m, f) := blowMissing m f vdd
  let b := (memRead d m addr 192).data
  let pub := slice b 0 96
  let msg := [0x55, 0x54, 0x48, 0x4B] ++ m.dbytes D.die_id
  match f.slots.findIdx? (·.isNone) with
  | none => (f, ⟨secEnd m ENROL_CLOSED, [], false⟩)
  | some i =>
    if !secServes m 5 0 then (f, ⟨secEnd m SEC_DENIED, [], false⟩)
    else if m.dv D.key_state = 1 ∨ f.locked then (f, ⟨secEnd m ENROL_CLOSED, [], false⟩)
    else if !Config.ecdsaOk pub (Config.sha384 msg) (slice b 96 96) then (f, ⟨secEnd m IMG_BAD_SIGNATURE, [], false⟩)
    else if m.mode ≠ 4 ∧ m.mode ≠ 5 then (f, ⟨secEnd m SEC_DENIED, [], false⟩)
    else if !vdd then (f, ⟨secEnd m FUSE_FAILED, [], false⟩)
    else ({ f with slots := setAt f.slots i (some (Config.sha384 pub)) }, ⟨(secEnd m SEC_DONE).ev E.SEC.KEY, [], false⟩)

def execKeyEnrol (addr : Nat) (vdd : Bool) (s : State) : Out' := onF s (fun d m f => keyEnrol d m f addr vdd)

/-- KEY_REVOKE: refused where no main or no stage-2 slot would still pass R610. -/
def keyRevoke (m : Mach) (f : Fuse) (slot : Nat) (vdd : Bool) : Fuse × Effect :=
  let m := secGo m 6
  let (m, f) := blowMissing m f vdd
  let f' := { f with revoked := setBit f.revoked slot }
  let left (kind : Nat) : Bool := slotPasses f' m kind 0 || slotPasses f' m kind 1
  if !secServes m 6 0 ∨ 6 ≤ slot ∨ !left K_MAIN ∨ !left K_STAGE2 then (f, ⟨secEnd m SEC_DENIED, [], false⟩)
  else if !vdd then (f, ⟨secEnd m FUSE_FAILED, [], false⟩)
  else (f', ⟨(secEnd m SEC_DONE).ev E.SEC.KEY, [], false⟩)

def execKeyRevoke (slot : Nat) (vdd : Bool) (s : State) : Out' := onF s (fun _ m f => keyRevoke m f slot vdd)

/-- ENROL_LOCK. -/
def enrolLock (m : Mach) (f : Fuse) (vdd : Bool) : Fuse × Effect :=
  let m := secGo m 7
  let (m, f) := blowMissing m f vdd
  if !secServes m 7 0 then (f, ⟨secEnd m SEC_DENIED, [], false⟩)
  else if f.locked then (f, ⟨secEnd m SEC_DONE, [], false⟩)
  else if !vdd then (f, ⟨secEnd m FUSE_FAILED, [], false⟩)
  else ({ f with locked := true }, ⟨(secEnd m SEC_DONE).ev E.SEC.KEY, [], false⟩)

def execEnrolLock (vdd : Bool) (s : State) : Out' := onF s (fun _ m f => enrolLock m f vdd)

/-! ## Regions, release, handover, checks -/

/-- Whether a range overlaps one of regions 0 to 2. -/
def overlapsFixed (m : Mach) (base size : Nat) : Bool :=
  (List.range 3).any (fun n => decide (0 < size) && decide (base < regionBase m n + regionSize m n) &&
    decide (regionBase m n < base + size))

/-- REGION_SET (R619). -/
def regionSet (m : Mach) (n base pages rights : Nat) : Mach :=
  let m := secGo m 8
  if !secServes m 8 0 ∨ n < 3 ∨ 32 ≤ n ∨ bits rights 1 0 ≠ 3 ∨ overlapsFixed m (base / 4096 * 4096) (pages % 2 ^ 24 * 4096) then
    secEnd m SEC_DENIED
  else secEnd (setRegion m n base pages rights) SEC_DONE

def execRegionSet (n base pages rights : Nat) (s : State) : Out' := onM s (fun m => regionSet m n base pages rights)

/-- RELEASE_CHALLENGE_READ (R631): 16 fresh bytes, then die_id. The nonce's value is open. -/
def releaseChallenge (m : Mach) : Mach :=
  let (n, m) := m.drawBytes 16
  let c := n ++ m.dbytes D.die_id
  let m := m.dsetB D.release_challenge c
  { m with sec := { m.sec with nonce := some (c, m.rtc) } }.emit (.dict 0 c)

def execReleaseChallengeRead (s : State) : Out' := onM s releaseChallenge

/-- RELEASE (R631): the token's target mode, key slot and signature over "UTHR", the mode and the challenge. -/
def secRelease (m : Mach) (f : Fuse) (target key : Nat) (sig : List Byte) : Mach :=
  let m := secGo m 9
  let good : Bool := match m.sec.nonce, keyHash f key with
    | some (c, t), some h =>
      let msg := [0x55, 0x54, 0x48, 0x52, BitVec.ofNat 8 target] ++ c
      decide (m.rtc < t + 60) && (target == 3 || target == 4) && decide (key < 6) &&
      Config.ecdsaOk (Config.keyOfHash h) (Config.sha384 msg) sig
    | _, _ => false
  let m := { m with sec := { m.sec with nonce := none } }
  let c := m.rd R.SEC.STATE.INTEG_CAUSE
  if m.mode ≠ 11 ∨ !good then secEnd m RELEASE_BAD
  else if m.mc.imm.isSome then secEnd m SEC_DENIED
  else if target = 4 ∧ (!m.flag R.SEC.STATE.FW_PRESENT ∨ c = 1 ∨ c = 2 ∨ c = 3 ∨ c = 7) then secEnd m SEC_DENIED
  else startImm (secEnd m SEC_DONE) target 0 CAUSE_RELEASE false

def execRelease (target key : Nat) (sig : List Byte) (s : State) : Out' := onM s (fun m => secRelease m s.fuse target key sig)

/-- CHECKOUT (R622): the handover block. -/
def execCheckout (data : List Byte) (s : State) : Out' :=
  onM s (fun m =>
    let m := secGo m 0xB
    if secServes m 0xB 0 then secEnd { m with sec := { m.sec with handover := data } } SEC_DONE else secEnd m SEC_DENIED)

/-- CODE_REGION_CHECK (R614): the region in force is compared with its image's payload_hash; `differs` is the outcome for an image
whose bytes the model does not hold. -/
def codeRegionCheck (d : Mem) (m : Mach) (slot : Nat) (differs : Bool) : Mach :=
  let bad : Bool := match (secSlot m K_MAIN slot).img with
    | some (h, _) => decide (Config.sha384 (Mem.read d (codeBase slot) (fieldLE h 12 4)) ≠ slice h 144 48)
    | none => differs
  if slot = m.rd R.SEC.STATE.FW_SLOT ∧ m.sec.cores ∧ bad then bootIntegrity m 0x4 else m

def execCodeRegionCheck (slot : Nat) (differs : Bool) (s : State) : Out' :=
  onR s (fun d m => codeRegionCheck d m slot differs)

/-- BEDROCK_SRAM_ERROR (R614). -/
def execBedrockSramError (s : State) : Out' := onM s (fun m => bootIntegrity m 0x1)

end Sys2Proof.Machine
end

