-- ==== Sys2Proof/Machine/HealthCmds.lean ====
section
/-!
DEFINITION. The commands of buckets, the Sump ledger, Dripstone's schedule, and the counters
(spec/21_health_faults_and_counters.md R698-R732, spec/22_clock_crossing_and_reset.md R739-R740).
-/
namespace Sys2Proof.Machine

/-! ## Buckets (R698, R702) -/

/-- BUCKET_LEAK (R698): every bucket of the kind above 0 loses 1; a retired unit's is frozen (R699). -/
def bucketLeak (m : Mach) (kind : Nat) : Mach :=
  m.each (List.range (kindUnits m kind)) (fun m u =>
    if isRetired m kind u || bktLevel m kind u == 0 then m else setLevel m kind u (bktLevel m kind u - 1))

def execBucketLeak (kind : Nat) (s : State) : Out' := onM s (fun m => bucketLeak m kind)

/-- A restore empties the bucket, reports UNIT_RESTORED and makes a Sump entry (R702). -/
def unitRestored (m : Mach) (kind unit : Nat) : Mach :=
  let m := sumpAdd (setLevel m kind unit 0) kind unit SF_RESTORED UNIT_RESTORED 0 0 0
  (m.wr R.HLTH.STATUS.LAST_CODE UNIT_RESTORED).ev E.HLTH.RESTORED

/-- UNIT_RESTORE (R702): the code of the write, and the state after it. -/
def unitRestore (m : Mach) (kind unit : Nat) : Nat × Mach :=
  if !isRetired m kind unit then (DICT_RANGE, m)
  else if 10 ≤ kind ∧ kind ≤ 13 then
    (DICT_OK, unitRestored { m with hl := { m.hl with retired := SMap.put 0 m.hl.retired (bktKey kind unit) 0 } } kind unit)
  else if kind = 1 ∨ kind = 2 ∨ kind = 3 ∨ kind = 6 then
    -- the unit returns when the record is replayed at the next passage through M3
    (DICT_OK, unitRestored (retireRecord m kind unit 0 UNIT_RESTORED) kind unit)
  else (DICT_RANGE, m)

def execUnitRestore (kind unit : Nat) (s : State) : Out' :=
  onM s (fun m => let r := unitRestore m kind unit; r.2.emit (.dict r.1 []))

/-- BKT_SELECT (R728): a bucket is snapshot. -/
def bktSelect (m : Mach) (kind unit : Nat) : Mach :=
  let m := (m.wr R.HLTH.BKT_SEL.KIND kind).wr R.HLTH.BKT_SEL.UNIT unit
  let m := m.wr R.HLTH.BKT_SEL.SNAP_DONE 1
  let ok := decide (unit < kindUnits m kind)
  (m.wr R.HLTH.BKT_DATA.LEVEL (if ok then bktLevel m kind unit else 0)).wr R.HLTH.BKT_DATA.STATE
    (if ok then b2n (isRetired m kind unit) else 2)

def execBktSelect (kind unit : Nat) (s : State) : Out' := onM s (fun m => bktSelect m kind unit)

/-! ## Sump (R703-R706, R728) -/

/-- The ledger entry of a number (seq modulo 4,096). -/
def sumpNumber (m : Mach) (n : Nat) : Option SumpE := m.hl.sump.find? (fun e => e.seq % 4096 == n)

/-- SUMP_SELECT (R728): an entry is snapshot; an entry number without a valid entry reads 0. -/
def sumpSelect (m : Mach) (n : Nat) : Mach :=
  let m := (m.wr R.HLTH.SUMP_SEL.INDEX n).wr R.HLTH.SUMP_SEL.SNAP_DONE 1
  let b := match sumpNumber m (n % 4096) with
    | some e => e.bytes
    | none => []
  m.each (List.range 8) (fun m i => m.wr R.HLTH.SUMP_DATA.DATA (fieldLE b (4 * i) 4) i)

def execSumpSelect (index : Nat) (s : State) : Out' := onM s (fun m => sumpSelect m index)

/-- SUMP_COALESCE_CLOSE (R704, R705): the window of entry `seq` closes; it is persisted if the allowance permits. -/
def sumpClose (m : Mach) (seq : Nat) : Mach :=
  match m.hl.sump.findIdx? (fun e => e.seq == seq && e.window) with
  | none => m
  | some i =>
    match m.hl.sump[i]? with
    | none => m
    | some e =>
      if m.hl.allowance = 0 then
        { m with hl := { m.hl with sump := setAt m.hl.sump i { e with window := false, flags := setBit e.flags 6 } } }
      else
        let e := { e with window := false }
        sumpPersist { m with hl := { m.hl with sump := setAt m.hl.sump i e, allowance := m.hl.allowance - 1 } } e

def execSumpCoalesceClose (seq : Nat) (s : State) : Out' := onM s (fun m => sumpClose m seq)

/-- PERSIST_ALLOWANCE_REFILL (R705): one unit at sump_persist_rate units per hour, up to 64. -/
def execPersistAllowanceRefill (s : State) : Out' :=
  onM s (fun m => if m.dv D.sump_persist_rate = 0 then m
    else { m with hl := { m.hl with allowance := Nat.min 64 (m.hl.allowance + 1) } })

/-! ## Dripstone's schedule (R707, R711, R712) -/

/-- A target's record. -/
def dripRec (m : Mach) (t : Nat) : DripT := m.hl.drip.getD t ⟨false, false, false, false, false⟩

/-- Change a target's record. -/
def dripMod (m : Mach) (t : Nat) (f : DripT → DripT) : Mach := { m with hl := { m.hl with drip := modAt m.hl.drip t f } }

/-- Whether the controller runs. -/
def dripEnabled (m : Mach) : Bool := m.flag R.HLTH.DRIP_CTRL.ENABLE && m.rd R.HLTH.DRIP_STATUS.STATE == 1

/-- Whether a target is enabled and runs in the mode (R707). -/
def dripRuns (m : Mach) (t : Nat) : Bool :=
  let md := m.mode
  dripEnabled m && bit (m.dv D.drip_targets) t && (if t = 1 then 5 ≤ md && md ≤ 10 else 4 ≤ md && md ≤ 11)

/-- Show which targets are in a pass and which wait for a grant (R729). -/
def dripRefresh (m : Mach) : Mach :=
  let m := m.wr R.HLTH.DRIP_STATUS.RUNNING (maskOf 3 (fun t => (dripRec m t).inPass))
  m.wr R.HLTH.DRIP_STATUS.WAITING (maskOf 3 (fun t => (dripRec m t).inPass && !hasGrant m C_SCRUB t))

/-- Report a Dripstone code. -/
def dripCode (m : Mach) (c : Nat) : Mach := m.wr R.HLTH.DRIP_STATUS.LAST_CODE c

/-- Add to one of the counters 0xA310:01-07 and its event (R725). -/
def dripCount (m : Mach) (k : Nat) : Mach := hev (m.add R.HLTH.DRIP_CNT.COUNT 1 k) (448 + k)

/-- At each tick a target in a pass asks for its tokens (R711). -/
def dripTick (m : Mach) : Mach :=
  dripRefresh (m.each (List.range 3) (fun m t =>
    if (dripRec m t).inPass && dripRuns m t then chimRequest m C_SCRUB t (m.dv D.scrub_tokens)
    else if m.ch.waits.any (fun r => r.cls == C_SCRUB && r.holder == t) ||
      m.ch.grants.any (fun g => g.cls == C_SCRUB && g.holder == t) then chimRelease m C_SCRUB t else m))

/-- DRIP_PASS_START (R707): a target's period has run; a pass still running is late, and the next begins when it ends. -/
def dripPassStart (m : Mach) (t : Nat) : Mach :=
  if 3 ≤ t then m
  else if (dripRec m t).inPass then
    dripMod ((dripCode (dripCount m 6) DRIP_LATE).ev E.HLTH.DRIP_LATE) t (fun d => { d with elapsed := true })
  else if dripRuns m t then
    let m := dripMod m t (fun d => { d with inPass := true, elapsed := false })
    dripRefresh (chimRequest m C_SCRUB t (m.dv D.scrub_tokens))
  else dripMod m t (fun d => { d with elapsed := true })

def execDripPassStart (target : Nat) (s : State) : Out' := onM s (fun m => dripPassStart m target)

/-- A pass has ended (R707, R724): its position returns to 0, and the next begins at once where its period has run. -/
def dripPassEnd (m : Mach) (t : Nat) : Mach :=
  let late := (dripRec m t).elapsed
  let m := dripCode (dripCount m 5) DRIP_DONE
  let m := dripMod m t (fun d => { d with inPass := late, elapsed := false })
  dripRefresh (if late then m else chimRelease m C_SCRUB t)

/-- DRIP_DRAIN (R712). -/
def dripDrain (m : Mach) (enable : Bool) : Mach :=
  let m := m.wr R.HLTH.DRIP_CTRL.ENABLE (b2n enable)
  if enable then dripTick (m.wr R.HLTH.DRIP_STATUS.STATE 1)
  else if m.rd R.HLTH.DRIP_STATUS.STATE = 1 then
    let m := (dripCode (m.wr R.HLTH.DRIP_STATUS.STATE 3) DRIP_DRAINED).ev E.HLTH.DRIP_DRAINED
    dripRefresh (m.each (List.range 3) (fun m t => chimRelease m C_SCRUB t))
  else m

def execDripDrain (enable : Bool) (s : State) : Out' := onM s (fun m => dripDrain m enable)

/-- DRIP_FORCE_STOP (R712): steps in progress are abandoned; `late` tells that a write-back completed in the same cycle. -/
def dripForceStop (m : Mach) (late : Bool) : Mach :=
  let m := (m.wr R.HLTH.DRIP_CTRL.ENABLE 0).wr R.HLTH.DRIP_STATUS.STATE 3
  let m := m.each (List.range 3) (fun m t => chimRelease m C_SCRUB t)
  dripRefresh (dripCode m (if late then ABORT_LATE else ABORTED_BY_DISABLE))

def execDripForceStop (late : Bool) (s : State) : Out' := onM s (fun m => dripForceStop m late)

/-! ## Counters (R714, R732, R739, R740) -/

/-- PERF_RESET_ALL (R732). -/
def execPerfResetAll (s : State) : Out' := onM s (fun m => m.each (List.range 32) (fun m n => perfSet m n 0))

/-- COUNTER_INCREMENT (R714, R715, R739, R740): a crossing delivers what it has gathered for a health event, with its overflow; or
(`perf`) a performance event's increment reaches the counters, with an overflow that marks what was lost. -/
def counterIncrement (m : Mach) (perf : Bool) (event amount : Nat) (lost : Bool) : Mach :=
  if perf then
    let m := perfCount m event amount noAccess
    if lost then
      m.wr R.PERF.LOST.LOST (maskOf 32 (fun n => bit (m.rd R.PERF.LOST.LOST) n ||
        (m.flag R.PERF.CNT_CTRL.ENABLE n && m.rd R.PERF.CNT_CTRL.EVENT n == event)))
    else m
  else
    let acc := SMap.get 0 m.hl.pulse event
    let ov := SMap.get 0 m.hl.pulseOv event == 1
    let m := { m with hl := { m.hl with pulse := SMap.del m.hl.pulse event, pulseOv := SMap.del m.hl.pulseOv event } }
    let m := if acc = 0 then m else healthCount m event acc
    if ov then healthLost m event else m

def execCounterIncrement (perf : Bool) (event amount : Nat) (lost : Bool) (s : State) : Out' :=
  onM s (fun m => counterIncrement m perf event amount lost)

/-! ## Action 1 of R16: snapshots (R721) -/

/-- Every counter is copied into its snapshot with the tick count of the ending frame. -/
def countSnapshots (m : Mach) (tick : Nat) : Mach :=
  let m := m.each (List.range 64) (fun m n => m.wr R.HLTH.CNT_SNAP.COUNT (m.rd R.HLTH.CNT_VALUE.COUNT n) n)
  let m := m.each (List.range 32) (fun m n =>
    (m.wr R.PERF.CNT_SNAP_LO.SNAP (m.rd R.PERF.CNT_VALUE_LO.VALUE n) n).wr R.PERF.CNT_SNAP_HI.SNAP
      (m.rd R.PERF.CNT_VALUE_HI.VALUE n) n)
  (m.wr R.HLTH.SNAP_TICK.TICK_LO (tick % 2 ^ 32)).wr R.PERF.SNAP_TICK.TICK_LO (tick % 2 ^ 32)

end Sys2Proof.Machine
end

