-- ==== Sys2Proof/Machine/VaultCmds.lean ====
section
/-!
DEFINITION. The Vault's commands: requests, reclamation, failures, hold (spec/19_vault_persistent_state.md R646-R656). What a
committed record does for its requester is in VaultCommit.
-/
namespace Sys2Proof.Machine

/-- Two years in seconds (R648). -/
def twoYears : Nat := 63072000

/-! ## Requests through the registers (R645, R661) -/

/-- VAULT_REQUEST (R661): a GO while BUSY is ignored; a type the party may not ask for is denied. -/
def vaultGo (m : Mach) (p : Principal) (typ key addr len : Nat) : Mach :=
  if m.flag R.VAULT.REQ_STATUS.BUSY then m
  else
    let m := (m.wr R.VAULT.REQ_TYPE.TYPE typ).wr R.VAULT.REQ_KEY.KEY key
    let m := (m.wr R.VAULT.REQ_ADDR_LO.ADDR (addr / 16 % 2 ^ 28)).wr R.VAULT.REQ_ADDR_HI.ADDR (addr / 2 ^ 32)
    let m := m.wr R.VAULT.REQ_LEN.LEN len
    let m := (m.add R.VAULT.REQ_STATUS.SEQ 1).wr R.VAULT.REQ_STATUS.BUSY 1
    if !vaultMay p typ then vaultAnswerReg (vaultCode m VAULT_DENIED) VAULT_DENIED
    else vaultRequest m ⟨typ, key, .dram (addr / 16 * 16 % 2 ^ 36) (Nat.min len 4064), .reg⟩

def execVaultRequest (p : Principal) (typ key addr len : Nat) (s : State) : Out' :=
  onM s (fun m => vaultGo m p typ key addr len)

/-- HOURS_COMMIT (R652). -/
def execHoursCommit (s : State) : Out' :=
  onM s (fun m => vaultRequest m ⟨4, 0, .bytes (hoursPayload m), .hours⟩)

/-! ## Reclamation (R647-R649) -/

/-- The next sector in ring order that is not retired. -/
def Vault.nextSector (v : Vault) (i : Nat) : Nat :=
  (((List.range v.sectors.length).map (fun k => (i + 1 + k) % v.sectors.length)).find? (fun j =>
    match v.sectors[j]? with
    | some s => !s.retired
    | none => false)).getD i

/-- The live records of a sector, in their order. -/
def Vault.liveOf (v : Vault) (i : Nat) : List VRec :=
  match v.sectors[i]? with
  | some s => s.recs.filter v.isLive
  | none => []

/-- Copy a record to the head with a new seq. -/
def copyRec (m : Mach) (r : VRec) : Mach :=
  let seq := (m.rd R.VAULT.SEQ.SEQ + 1) % 2 ^ 32
  { m.wr R.VAULT.SEQ.SEQ seq with vlt := m.vlt.append { r with seq := seq } }

/-- Reclaim the tail sector: its live records are copied and its erasure begins. -/
def reclaimTail (m : Mach) : Mach :=
  let t := m.vlt.tail
  let live := m.vlt.liveOf t
  let m := m.each live copyRec
  let m := { m with vlt := { m.vlt with erasing := some (t, false), suspended := m.vlt.opened.isSome } }
  vaultRefresh (m.wr R.VAULT.STATUS.STATE 3)

/-- VAULT_RECLAIM (R647, R648): fewer than 4 erased sectors ahead of the head, or a tail older than two years. -/
def vaultReclaim (m : Mach) : Mach :=
  let old : Bool := match m.vlt.sectors[m.vlt.tail]? with
    | some s => decide (s.erasedAt + twoYears < m.rtc)
    | none => false
  if vaultState m = 2 ∧ m.vlt.tail ≠ m.vlt.head ∧ (m.vlt.free < 4 ∨ old) then reclaimTail m else m

def execVaultReclaim (s : State) : Out' := onM s vaultReclaim

/-- VAULT_COMPACT (R648). -/
def vaultCompact (m : Mach) : Mach :=
  if vaultState m = 3 then vaultCode m VAULT_FULL
  else if vaultState m = 2 ∧ m.vlt.tail ≠ m.vlt.head then reclaimTail m
  else m

def execVaultCompact (s : State) : Out' := onM s vaultCompact

/-- Retire a journal sector in both devices (R649). -/
def retireSector (m : Mach) (i code : Nat) : Mach :=
  let m := { m with vlt := { m.vlt with sectors := modAt m.vlt.sectors i (fun s => { s with retired := true }) } }
  let m := if isRetired m 7 i then m else markRetired m 7 i code
  let m := sumpAdd m 7 i SF_RETIRED code 0 (bktLevel m 7 i) i
  let m := hev (m.add R.VAULT.CNT.COUNT 1 4) 324
  vaultRefresh ((vaultCode m VAULT_SECTOR_RETIRED).ev E.VAULT.SECTOR_RETIRED)

/-- The tail moves on, and the Vault runs again. -/
def tailNext (m : Mach) : Mach :=
  let v := m.vlt
  let m := { m with vlt := { v with erasing := none, suspended := false, tail := v.nextSector v.tail } }
  vaultRefresh (vaultKick (if vaultState m = 3 then m.wr R.VAULT.STATUS.STATE 2 else m))

/-- The highest ring_seq and erase_count of the journal (R642). -/
def Vault.top (v : Vault) : Nat × Nat := (maxN (v.sectors.map (·.ring)), maxN (v.sectors.map (·.erase)))

/-- SECTOR_ERASE_DONE (R642, R649): the header is written, or the erasure is tried once more, or the sector is retired. -/
def sectorEraseDone (m : Mach) (ok : Bool) : Mach :=
  match m.vlt.erasing with
  | none => m
  | some (i, failed) =>
    if m.vlt.suspended then m
    else if ok then
      let top := m.vlt.top
      let m := { m with vlt := { m.vlt with sectors := modAt m.vlt.sectors i (fun s =>
        { s with ring := top.1 + 1, erase := if s.valid then s.erase + 1 else top.2 + 1, erasedAt := m.rtc % 2 ^ 32,
                 valid := true, erased := true, used := 32, recs := [] }) } }
      tailNext m
    else
      if failed then tailNext (retireSector m i VAULT_SECTOR_RETIRED)
      else
        let m := { m with vlt := { m.vlt with erasing := some (i, true) } }
        hev (m.add R.VAULT.CNT.COUNT 1 3) 323

def execSectorEraseDone (ok : Bool) (s : State) : Out' := onM s (fun m => sectorEraseDone m ok)

/-! ## Flash failures (R649) -/

/-- A request that will not commit any more. -/
def vaultLose (m : Mach) (c : Nat) (r : VReq) : Mach := vaultRefuse m r c

/-- A device is treated as failed; with both failed every request is answered VAULT_FAILED. -/
def deviceFailed (m : Mach) (dev : Nat) : Mach :=
  if !bit m.vlt.devOk dev then m
  else
    let m := { m with vlt := { m.vlt with devOk := clrBit m.vlt.devOk dev } }
    let m := m.ev E.VAULT.DEVICE_LOST
    if m.vlt.devOk ≠ 0 then vaultRefresh (vaultCode m VAULT_SINGLE)
    else
      let all := (match m.vlt.opened with
        | some r => [r]
        | none => []) ++ m.vlt.held
      let m := { m with vlt := { m.vlt with opened := none, held := [] } }
      let m := m.each all (fun m r => vaultLose m VAULT_FAILED r)
      vaultRefresh (vaultCode (m.wr R.VAULT.STATUS.STATE 5) VAULT_FAILED)

/-- A leaky-bucket event of a journal sector; a crossing retires it. -/
def sectorEvent (m : Mach) (i code : Nat) : Mach :=
  let (crossed, m) := bucketAdd m 7 i 1 code i
  if crossed then retireSector m i code else m

/-- A flash operation fails (R649): `answers` false where the device stops answering; else a program or read-back of the open
record failed, and the record is written again at the next position. -/
def flashFailed (m : Mach) (dev : Nat) (answers : Bool) : Mach :=
  if !answers then deviceFailed m dev
  else
    let run := if dev = 0 then (m.vlt.failRun.1 + 1, m.vlt.failRun.2) else (m.vlt.failRun.1, m.vlt.failRun.2 + 1)
    let m := { m with vlt := { m.vlt with failRun := run } }
    let m := match m.vlt.opened with
      | some r =>
        let size := recSize r.pay.len
        let h := if m.vlt.fitsHead size then m.vlt.head else (m.vlt.nextErased).getD m.vlt.head
        let m := { m with vlt := { m.vlt with head := h, sectors := modAt m.vlt.sectors h (fun s => { s with used := s.used + size, erased := false }) } }
        let m := hev (m.add R.VAULT.CNT.COUNT 1 5) 325
        sectorEvent m h VAULT_RECORD_BAD
      | none => m
    if 16 ≤ (if dev = 0 then run.1 else run.2) then deviceFailed m dev else vaultRefresh m

/-! ## Power failure (R650) -/

/-- The falling edge of PFW_N at the Vault: HOLD. -/
def vaultHold (m : Mach) : Mach :=
  if vaultState m = 2 ∨ vaultState m = 3 then
    let m := m.wr R.VAULT.STATUS.STATE 4
    -- an erase is suspended for good: its sector is left half-erased
    let m := match m.vlt.erasing with
      | some (i, _) =>
        let ss := modAt m.vlt.sectors i (fun s => ({ s with valid := false, recs := [], used := sectorBytes } : VSector))
        { m with vlt := { m.vlt with erasing := none, suspended := false, sectors := ss } }
      | none => m
    let lost := m.vlt.held
    let m := { m with vlt := { m.vlt with held := [], pfwHours := true } }
    let m := m.each lost (fun m r => vaultRefuse m r VAULT_DROPPED)
    let m := if lost.isEmpty then m
      else (vaultCode (hev (m.add R.VAULT.CNT.COUNT lost.length 2) 322 lost.length) VAULT_DROPPED).ev E.VAULT.DROPPED
    vaultKick m
  else m

/-- PFW_N rises: waiting requests open. -/
def vaultRise (m : Mach) : Mach :=
  if vaultState m = 4 then
    vaultKick { m.wr R.VAULT.STATUS.STATE 2 with vlt := { m.vlt with pfwHours := false } }
  else m

/-! ## Stored VCP (R648, R655) -/

/-- The area the latest VCP_COMMIT names: 0 A, 1 B. -/
def Vault.vcpArea (v : Vault) : Option Nat := (v.latest 0xA 0).map (fun r => fieldLE r.pay 0 1)

/-- Write a VCP into the area not in force and request its VCP_COMMIT (R655), which names the identifiers of its header. -/
def vcpWrite (m : Mach) (data : List Byte) (crc : Nat) : Mach :=
  let area := match m.vlt.vcpArea with
    | some 0 => 1
    | _ => 0
  let a : VcpArea := ⟨data, true⟩
  let m := if area = 0 then { m with vlt := { m.vlt with areaA := a } } else { m with vlt := { m.vlt with areaB := a } }
  let pay := toLE 4 area ++ toLE 4 data.length ++ toLE 4 crc ++ slice data 16 16 ++ slice data 32 16
  vaultRequest m ⟨0xA, 0, .bytes pay, .vcp⟩

/-- The stored VCP. -/
def Vault.storedVcp (v : Vault) : Option (List Byte) :=
  match v.vcpArea with
  | some 0 => some v.areaA.data
  | some _ => some v.areaB.data
  | none => none

/-- VCP_AREA_REFRESH (R648). -/
def vcpRefresh (m : Mach) : Mach :=
  match m.vlt.storedVcp, m.vlt.latest 0xA 0 with
  | some d, some r =>
    if m.vlt.oscSec + twoYears ≤ m.rtc ∧ m.cal.vcp.isNone then vcpWrite m d (fieldLE r.pay 8 4) else m
  | _, _ => m

def execVcpAreaRefresh (s : State) : Out' := onM s vcpRefresh

end Sys2Proof.Machine
end

