-- ==== Sys2Proof/Machine/ThermCmds.lean ====
section
/-!
DEFINITION. The commands of the thermal monitor, and Chimney's requests and releases (spec/16_power_and_thermal.md).
-/
namespace Sys2Proof.Machine

/-- SENSOR_SAMPLE (R563). -/
def execSensorSample (readings : List Int) (s : State) : Out' := onM s (fun m => thermSample m readings)

/-- STEP_UP (R570): 10 s below the THROTTLE limit less 5 K; the step is taken at the next tick. -/
def stepUp (m : Mach) : Mach :=
  let max := sInt 16 (m.rd R.THRM.STATUS.MAX_TEMP)
  if m.dv D.step_up_auto = 1 ∧ m.th.stepped.isSome ∧ drivesRays m.mode ∧ max < limitOf m R.THRM.LIMITS.THROTTLE - 80 then
    { m with th := { m.th with stepDue := match m.th.stepDue with
      | some e => some e
      | none => stepUpEntry m } }
  else m

def execStepUp (s : State) : Out' := onM s stepUp

/-- TEMP_COMPENSATION (R572): a trim moves by at most one step. -/
def execTempCompensation (move : Int) (s : State) : Out' :=
  onM s (fun m => { m with th := { m.th with comp := m.th.comp + clampI move (-1) 1 } })

/-- CHIMNEY_REQUEST (R554, R556). -/
def execChimneyRequest (cls holder tok : Nat) (s : State) : Out' :=
  onM s (fun m => if cls < 9 then chimRequest m cls holder tok else m)

/-- CHIMNEY_RELEASE (R555). -/
def execChimneyRelease (cls holder : Nat) (s : State) : Out' := onM s (fun m => chimRelease m cls holder)

end Sys2Proof.Machine
end

