-- ==== Sys2Proof/Machine/VeinCmds.lean ====
section
/-!
DEFINITION. The lane commands: what drivers and partners send, training, losses, retraining, restoring and loops
(spec/10_vein_and_lanes.md R349-R378).
-/
namespace Sys2Proof.Machine

/-! ## Loss and retirement (R371-R374) -/

/-- A lane's bucket crossed: it is retired (R373). -/
def laneRetire (m : Mach) (n : Nat) : Mach :=
  let m := (m.lwr n R.VEIN.LANE_CTRL.TX_PWR 2).lwr n R.VEIN.LANE_CTRL.RX_PWR 2
  let m := laneMod m n (fun l => { l with wait := false, rejoin := false, required := false, tap := none, back := none })
  let m := hev (laneCode (setLane m n L_RETIRED) n LANE_RETIRED) 133
  let m := quadDone (veinEv m n E.VEIN.LANE_RETIRED) (n / 4)
  if n < 48 then forceRetirement m else passRefresh m

/-- Whether a lane is in the mask of the frame in progress (R353). -/
def inMask (m : Mach) (n : Nat) : Bool := bit (m.scan.masks.getD (n / 4) 0) (n % 4)

/-- A READY or ACTIVE lane is lost (R371, R372). -/
def laneLost (m : Mach) (n : Nat) : Mach :=
  if 64 ≤ n ∨ !laneServ m n then m
  else
    let m := if n < 48 && inMask m n then frameAbort m ABORT_LANE_LOSS (n / 4) else m
    let m := m.lwr n R.VEIN.LANE_STATUS.REV_LOCK 0
    let m := laneMod m n (fun l => { l with rejoin := true, tap := none, leave := false, target := laneGen m n })
    let m := veinEv (laneCode (setLane m n L_LOST) n LANE_LOCK_LOST) n E.VEIN.LANE_LOST
    let m := hev (m.add R.VEIN.LANE_LOSSES.COUNT 1) 128
    let (crossed, m) := bucketAdd m 4 n 1 LANE_LOCK_LOST 0
    if crossed then laneRetire m n
    else
      let m := askQuad (laneMod m n (fun l => { l with wait := true, required := false })) n
      if n < 48 then m else passRefresh m

/-- LANE_LOST (R371): the device's own receiver lost lock, or 8 code errors came within 1 us. -/
def execLaneLost (lane : Nat) (s : State) : Out' := onM s (fun m => laneLost m lane)

/-- LANE_REVERSE_SILENCE (R371, R376): a direction put to sleep is not a loss. -/
def execLaneReverseSilence (lane : Nat) (s : State) : Out' :=
  onM s (fun m => if m.lrd lane R.VEIN.LANE_CTRL.RX_PWR = 0 then laneLost m lane else m)

/-- LANE_NO_SIGNAL (R374). -/
def laneNoSignal (m : Mach) (n : Nat) : Mach :=
  let st := laneState m n
  if 64 ≤ n ∨ st = L_OFF ∨ st = L_RETIRED ∨ st = L_LOOP ∨ m.lrd n R.VEIN.LANE_CTRL.RX_PWR ≠ 0 then m
  else
    let m := laneLost m n
    if laneState m n = L_RETIRED then m
    else
      let m := laneMod m n (fun l => { l with wait := false, rejoin := true, ended := false, attempts := 0 })
      let m := m.lwr n R.VEIN.LANE_STATUS.REV_LOCK 0
      let m := laneCode (enterBlind m n) n LANE_NO_SIGNAL
      quadDone (if n < 48 then m else passRefresh m) (n / 4)

def execLaneNoSignal (lane : Nat) (s : State) : Out' := onM s (fun m => laneNoSignal m lane)

/-! ## What the driver sends (R351); a unit with a wrong CRC is discarded (R349) -/

/-- BC_STATUS (R351, R371): `lane` is the reverse lane it came on; `locks` the forward lock of the four lanes. -/
def bcStatus (m : Mach) (lane locks : Nat) : Mach :=
  m.each (quadLanes (lane / 4)) (fun m n =>
    let l := bit locks (n % 4)
    let m := m.lwr n R.VEIN.LANE_STATUS.FWD_LOCK (b2n l)
    if !l && m.lrd n R.VEIN.LANE_CTRL.TX_PWR == 0 then laneLost m n else m)

def execBcStatus (lane : Nat) (crc : Bool) (locks _shown _tick _subst : Nat) (s : State) : Out' :=
  onM s (fun m => if crc && decide (lane < 48) then bcStatus m lane locks else m)

/-- BC_LOCK_LOST (R351, R371). -/
def execBcLockLost (lane : Nat) (crc : Bool) (lanes : Nat) (s : State) : Out' :=
  onM s (fun m => if crc && decide (lane < 48) then
    m.each ((quadLanes (lane / 4)).filter (fun n => bit lanes (n % 4))) (fun m n =>
      laneLost (m.lwr n R.VEIN.LANE_STATUS.FWD_LOCK 0) n) else m)

/-- Answer a tap request (R350). -/
def tapAck (m : Mach) (n result : Nat) : Mach :=
  let c := curCoef m n
  m.emit (.lane n 0x43 [result, c.pre, 48 - c.pre - c.post, c.post])

/-- A tap request is rejected (R367, R369). -/
def tapReject (m : Mach) (n : Nat) : Mach := tapAck (veinEv (laneCode m n LANE_TAP_REJECT) n E.VEIN.TAP_REJECT) n 1

/-- One step of a tap: 0 hold, 1 increase, 2 decrease; below 0 none. -/
def tapStep (v op : Nat) : Option Nat := if op = 1 then some (v + 1) else if op = 2 then (if v = 0 then none else some (v - 1)) else some v

/-- BC_TAP_REQ (R367): at once in EQ; after training one a tick, applied at the next tick. -/
def bcTapReq (m : Mach) (n preOp postOp pst : Nat) : Mach :=
  let c := curCoef m n
  let want : Option (Nat × Nat) := if pst < 8 then some (preset pst)
    else match tapStep c.pre preOp, tapStep c.post postOp with
      | some a, some b => some (a, b)
      | _, _ => none
  match want with
  | none => tapReject m n
  | some (a, b) =>
    if !tapsOk a b then tapReject m n
    else if laneState m n = L_EQ then
      if m.lrd n R.VEIN.LANE_STATUS.PENDING = 1 then tapReject m n else tapAck (setTaps m n a b) n 0
    else if laneServ m n && m.dv D.tap_tracking == 1 then
      -- accepted for the next tick; a newer request before it replaces it
      tapAck (laneMod m n (fun l => { l with tap := some (a, b), tapTick := true })) n 0
    else tapReject m n

def execBcTapReq (lane : Nat) (crc : Bool) (preOp postOp pst : Nat) (s : State) : Out' :=
  onM s (fun m => if crc && decide (lane < 64) then bcTapReq m lane preOp postOp pst else m)

/-- Whether training that is side work has stopped at its pause point (R370, R554, R555). -/
def lanePaused (m : Mach) (n : Nat) : Bool :=
  laneTraining m n && !(laneRec m n).required && !stillGranted m C_TRAIN (n / 4)

/-- BC_EYE (R360, R368): the forward eye; at the end of equalisation it ends EQ, and CHECK begins. -/
def bcEye (m : Mach) (n w h : Nat) : Mach :=
  let m := (m.lwr n R.VEIN.LANE_EYE_FWD.VALID 1).lwr n R.VEIN.LANE_EYE_FWD.WIDTH_MUI w
  let m := m.lwr n R.VEIN.LANE_EYE_FWD.HEIGHT_MV h
  if laneState m n = L_EQ ∧ m.lrd n R.VEIN.LANE_STATUS.PENDING = 0 ∧ !lanePaused m n then setLane m n L_CHECK else m

def execBcEye (lane : Nat) (crc : Bool) (width height : Nat) (s : State) : Out' :=
  onM s (fun m => if crc && decide (lane < 64) then bcEye m lane width height else m)

/-- BC_LINE_CRC (R357, R380). -/
def execBcLineCrc (lane : Nat) (crc : Bool) (_y _tick : Nat) (s : State) : Out' :=
  onM s (fun m => if crc && decide (lane < 48) then (hev (m.add R.VEIN.BC_LINE_CRC.COUNT 1) 131).ev E.VEIN.BC_LINE_CRC else m)

/-! ## Training (R363-R369) -/

/-- A partner answers in BLIND: LINK begins, once the grant it may need is there (R364, R370). -/
def blindAnswer (m : Mach) (n : Nat) : Mach :=
  let m := laneMod (m.lwr n R.VEIN.LANE_STATUS.REV_LOCK 1) n (fun l => { l with answered := true })
  let l := laneRec m n
  if l.ended then m
  else if l.required || hasGrant m C_TRAIN (n / 4) then enterLink m n false
  else askQuad (laneMod m n (fun l => { l with wait := true })) n

/-- TRAINING_SET (R350, R364, R365): kind 0 TS1, 1 TS2, 2 ALIGN; `gen` is the partner's target, `pst` the preset it names. -/
def trainingSet (m : Mach) (n kind gen pst : Nat) : Mach :=
  let st := laneState m n
  if st = L_BLIND ∧ kind < 2 then blindAnswer m n
  else if lanePaused m n then m
  else if st = L_LINK ∧ kind = 0 then sendTs (m.lwr n R.VEIN.LANE_STATUS.REV_LOCK 1) n 0x41
  else if st = L_LINK ∧ kind = 1 then
    let m := m.lwr n R.VEIN.LANE_STATUS.REV_LOCK 1
    let l := laneRec m n
    if l.fast then (if gen = l.target then setLane (sendTs m n 0x41) n L_CHECK else m)
    else
      -- a partner with a lower maximum generation trains at it, and the lane serves only there
      let m := if 1 ≤ gen ∧ gen < l.target then laneMod m n (fun l => { l with target := gen, only := gen }) else m
      if gen = (laneRec m n).target then
        let p := preset (if pst < 8 then pst else 5)
        let m := setTaps (sendTs m n 0x41) n p.1 p.2
        let m := laneMod m n (fun l => { l with partnerTap := pst })
        setLane (m.lwr n R.VEIN.LANE_STATUS.GEN gen) n L_EQ
      else m
  else if st = L_CHECK ∧ kind = 2 then setLane (m.emit (.lane n 0x42 [0])) n L_DESKEW
  else m

def execTrainingSet (lane kind gen pst : Nat) (crc : Bool) (s : State) : Out' :=
  onM s (fun m => if crc && decide (lane < 64) then trainingSet m lane kind gen pst else m)

/-- LANE_EQ_TIMEOUT (R364). -/
def execLaneEqTimeout (lane : Nat) (s : State) : Out' :=
  onM s (fun m => if lane < 64 ∧ laneState m lane = L_EQ ∧ !lanePaused m lane then attemptFailed m lane else m)

/-- LANE_TRAINED (R363, R364): CHECK and DESKEW are over. It passes without errors and with both eyes at or above the limits; the
reverse eye and the frozen CTLE setting are measured. -/
def laneTrained (m : Mach) (n : Nat) (errors : Bool) (w h ctle : Nat) : Mach :=
  let st := laneState m n
  if (st ≠ L_CHECK ∧ st ≠ L_DESKEW) ∨ lanePaused m n then m
  else
    let m := (m.lwr n R.VEIN.LANE_EYE_REV.VALID 1).lwr n R.VEIN.LANE_EYE_REV.WIDTH_MUI w
    let m := m.lwr n R.VEIN.LANE_EYE_REV.HEIGHT_MV h
    let wm := m.dv D.eye_width_min
    let hm := m.dv D.eye_height_min
    let fwd := m.lrd n R.VEIN.LANE_EYE_FWD.VALID == 0 ||
      (decide (wm ≤ m.lrd n R.VEIN.LANE_EYE_FWD.WIDTH_MUI) && decide (hm ≤ m.lrd n R.VEIN.LANE_EYE_FWD.HEIGHT_MV))
    if errors || !fwd || decide (w < wm) || decide (h < hm) then attemptFailed m n
    else
      let m := if (laneRec m n).fast then m else m.lwr n R.VEIN.LANE_RXEQ.CTLE ctle
      let m := (laneReady m n).lwr n R.VEIN.LANE_STATUS.FWD_LOCK 1
      if n < 48 then m else passRefresh m

def execLaneTrained (lane : Nat) (errors : Bool) (width height ctle : Nat) (s : State) : Out' :=
  onM s (fun m => if lane < 64 then laneTrained m lane errors width height ctle else m)

/-- LANE_GEN_CHANGE (R369): the gathering step is over and the latched change is applied. -/
def execLaneGenChange (lane : Nat) (s : State) : Out' :=
  onM s (fun m => if lane < 64 then applyLatchedGen m lane else m)

/-- RETRAIN (R370): an ACTIVE Vein lane leaves the mask at the next tick; a Passage lane at the next packet boundary. -/
def laneRetrain (m : Mach) (n : Nat) : Mach :=
  let st := laneState m n
  if st = L_ACTIVE ∧ n < 48 then laneMod m n (fun l => { l with leave := true, rejoin := true })
  else if st = L_READY ∨ st = L_ACTIVE then
    let m := laneMod m n (fun l => { l with rejoin := true })
    let m := startTraining (if n < 48 then m else setLane m n L_LOST) n (laneGen m n) false
    if n < 48 then m else passRefresh m
  else if st = L_LOST ∨ st = L_BLIND then
    startTraining m n (laneRec m n).target false
  else m

def execRetrain (lane : Nat) (s : State) : Out' := onM s (fun m => if lane < 64 then laneRetrain m lane else m)

/-- LANE_RESTORE (R373, R702). -/
def laneRestore (m : Mach) (n : Nat) : Mach :=
  if laneState m n = L_RETIRED then
    let m := { m with hl := { m.hl with retired := SMap.put 0 m.hl.retired (bktKey 4 n) 0 } }
    let m := unitRestored (retireRecord m 4 n 0 UNIT_RESTORED) 4 n
    let m := laneMod m n (fun l => { l with rejoin := true, ended := false, attempts := 0, only := 0 })
    laneCode (enterBlind m n) n LANE_RESTORED
  else m

def execLaneRestore (lane : Nat) (s : State) : Out' := onM s (fun m => if lane < 64 then laneRestore m lane else m)

/-- LANE_LOOP (R378): 0 none, 1 PARALLEL, 2 NEAR, 3 REMOTE (on Vein only with the forward direction at V1). -/
def laneLoop (m : Mach) (n loop : Nat) : Mach :=
  if m.mode ≠ 10 then laneCode m n LANE_BUSY
  else if laneState m n = L_RETIRED ∨ (loop = 3 ∧ n < 48 ∧ 1 < laneGen m n) then laneCode m n LANE_BUSY
  else
    let m := m.lwr n R.VEIN.LANE_CTRL.LOOP loop
    if loop ≠ 0 then
      let m := setLane (m.lwr n R.VEIN.LANE_PRBS_ERR.COUNT 0) n L_LOOP
      if n < 48 then m else passRefresh m
    else if laneState m n = L_LOOP then enterBlind (laneMod m n (fun l => { l with ended := false, attempts := 0 })) n
    else m

def execLaneLoop (lane loop : Nat) (s : State) : Out' := onM s (fun m => if lane < 64 then laneLoop m lane (loop % 4) else m)

/-! ## Lanes at the commit deadline and at a tick (R353, R367, R370, R372) -/

/-- At the deadline the READY lanes that may join the mask are noted. -/
def lanesDeadline (m : Mach) : Mach :=
  m.each (List.range 48) (fun m n => if laneState m n = L_READY then laneMod m n (fun l => { l with early := true }) else m)

/-- At a tick: taps accepted since the last one are applied; lanes asked to retrain leave; the mask of a bundle is fixed. A lane that
rejoins after a loss must have been READY at the deadline. -/
def bundleMask (m : Mach) (k gen : Nat) : Nat × Mach :=
  let m := m.each (quadLanes k) (fun m n =>
    let l := laneRec m n
    let m := match l.tap with
      | some (a, b) => setTaps m n a b
      | none => m
    let m := laneMod m n (fun l => { l with tap := none, tapTick := false })
    if l.leave && laneState m n == L_ACTIVE then
      startTraining (setLane (laneMod m n (fun l => { l with leave := false })) n L_LOST) n (laneGen m n) false
    else m)
  let joins := (servAt m k gen).filter (fun n => laneState m n == L_ACTIVE || !(laneRec m n).rejoin || (laneRec m n).early)
  let m := m.each joins (fun m n =>
    let l := laneRec m n
    let m := if laneState m n = L_READY then m.lwr n R.VEIN.LANE_STATUS.STATE L_ACTIVE else m
    let m := laneMod m n (fun l => { l with early := false, rejoin := false })
    if l.rejoin then hev (laneCode (m.add R.VEIN.LANE_REJOINS.COUNT 1) n LANE_REJOINED) 129 else m)
  let mask := maskOf 4 (fun i => joins.contains (4 * k + i))
  let old := m.rd R.VEIN.BUNDLE_STATUS.MASK k
  let m := veinRefresh (m.wr R.VEIN.BUNDLE_STATUS.MASK mask k)
  (mask, m.evIf (mask != old && old != 0) E.VEIN.RESTRIPED)

end Sys2Proof.Machine
end

