-- ==== Sys2Proof/Machine/ScanCmds.lean ====
section
/-!
DEFINITION. The commands of Gallery, scan-out, Echo and the view tap (spec/08_gallery_composition.md R253-R303;
spec/09_scanout_and_panel_driving.md R304-R346; spec/10_vein_and_lanes.md R352-R355; spec/20_lantern_and_label.md R685-R687).
-/
namespace Sys2Proof.Machine

/-! ## Commits and loads (R257-R260, R274) -/

/-- GAL_COMMIT (R257). -/
def execGalCommit (tok : Nat) (s : State) : Out' := onM s (fun m => (galCommit m tok).2)

/-- PL_COMMIT (R274). -/
def execPlCommit (tok : Nat) (s : State) : Out' := onR s (fun d m => plCommit d m tok)

/-- A layer's image has loaded into a snapshot. -/
def loadInto (d : Mem) (g : GSnap) (k : Nat) : GSnap :=
  { g with depth := (k, depthImage d g k) :: g.depth.filter (fun p => p.1 != k), load := g.load.filter (fun x => x != k) }

/-- DEPTH_LOAD_DONE (R260): the load of a layer's image for the older snapshot that waits for it ends. -/
def depthLoaded (d : Mem) (m : Mach) (k : Nat) : Mach :=
  let waits (o : Option GSnap) : Bool := match o with
    | some g => g.load.contains k
    | none => false
  let put (g : GSnap) : GSnap := loadInto d g k
  if waits m.gal.pend then
    let p := m.gal.pend.map put
    { m with gal := { m.gal with pend := p } }
  else if waits m.gal.defer then
    let p := m.gal.defer.map put
    { m with gal := { m.gal with defer := p } }
  else m

def execDepthLoadDone (layer : Nat) (s : State) : Out' := onR s (fun d m => depthLoaded d m layer)

/-! ## Spans from the Lantern generator (R327, R685, R686) -/

/-- A colour register's code in a channel. -/
def chCode (r g b ch : Nat) : Nat := if ch = 0 then r else if ch = 1 then g else b

/-- Whether an enabled rectangle is lit at a tick count (R685). -/
def beaconLit (m : Mach) (i tick : Nat) : Bool :=
  let on := m.rd R.LANT.BEACON_BLINK.ON i
  let off := m.rd R.LANT.BEACON_BLINK.OFF i
  off == 0 || decide ((tick + m.rd R.LANT.BEACON_BLINK.PHASE i) % (on + off) < on)

/-- Whether a rectangle holds a pixel. -/
def inRect (x y w h px py : Nat) : Bool := decide (x ≤ px) && decide (px < x + w) && decide (y ≤ py) && decide (py < y + h)

/-- The code of a BEACON subpixel: the highest-numbered enabled rectangle decides. -/
def beaconCode (m : Mach) (tick px y ch : Nat) : Nat :=
  let holds (i : Nat) : Bool := m.flag R.LANT.BEACON_BLINK.ENABLE i &&
    inRect (m.rd R.LANT.BEACON_XY.X i) (m.rd R.LANT.BEACON_XY.Y i) (m.rd R.LANT.BEACON_WH.W i) (m.rd R.LANT.BEACON_WH.H i) px y
  match (List.range 16).reverse.find? holds with
  | some i => if beaconLit m i tick then
      chCode (m.rd R.LANT.BEACON_COLOUR.R i) (m.rd R.LANT.BEACON_COLOUR.G i) (m.rd R.LANT.BEACON_COLOUR.B i) ch else 0
  | none => 0

/-- The code of a glow subpixel (R686): code 0 while the buffer does not hold the image. -/
def glowCode (m : Mach) (px y ch : Nat) : Nat :=
  let x0 := m.rd R.LANT.GLOW_XY.X
  let y0 := m.rd R.LANT.GLOW_XY.Y
  if !m.flag R.LANT.GLOW_STATUS.READY || !inRect x0 y0 (m.rd R.LANT.GLOW_WH.W) (m.rd R.LANT.GLOW_WH.H) px y then 0
  else
    let a := (y - y0) * 2048 + (px - x0) / 2
    if m.lant.bad.contains (a / 8) then 0
    else
      let b := (SMap.get (0 : BitVec 8) m.lant.glow a).toNat
      let v := if (px - x0) % 2 = 0 then b % 16 else b / 16
      if 8 ≤ v then 0 else chCode (m.rd R.LANT.GLOW_PAL.R v) (m.rd R.LANT.GLOW_PAL.G v) (m.rd R.LANT.GLOW_PAL.B v) ch

/-- The 192 codes of a span in M1 or M2. -/
def lanternSpan (m : Mach) (px y : Nat) : List Nat :=
  let o := optNow m
  (List.range 192).map (fun i =>
    let p := px + i / 3
    let ch := channelOf o (3 * p + i % 3)
    if m.mode = 1 then beaconCode m m.scan.frameTick p y ch else glowCode m p y ch)

/-! ## Spans on the lanes (R312, R352, R353) -/

/-- The lanes of a bundle's mask, ascending. -/
def maskLanes (m : Mach) (k : Nat) : List Nat := (bitList 4 (m.scan.masks.getD k 0)).map (4 * k + ·)

/-- A number from codes, the first lowest, `w` bits each. -/
def packCodes (w : Nat) : List Nat → Nat
  | [] => 0
  | c :: l => c % 2 ^ w + 2 ^ w * packCodes w l

/-- The units of a span: 15 data units dealt across the mask; LINE_START before the line's first, LINE_END after its last. -/
def spanUnits (m : Mach) (t : TEntry) (k y q : Nat) (codes : List Nat) (crc : Nat) : List Out :=
  let ls := maskLanes m k
  let n := ls.length
  let v := packCodes 10 codes
  let start := if q = 0 then (List.range n).map (fun p => Out.lane (ls.getD p 0) 0x20 [p, y, 15 * t.cols / 64 / n, m.scan.masks.getD k 0]) else []
  let data := (List.range 15).map (fun u => Out.lane (ls.getD ((15 * q + u) % n) 0) 0xD0 [v / 2 ^ (128 * u) % 2 ^ 128])
  let stop := if q + 1 = t.cols / 64 then ls.map (fun l => Out.lane l 0x21 [y, crc]) else []
  if n = 0 then [] else start ++ data ++ stop

/-- A code as two bytes, as the CRCs of R284 and R332 take it. -/
def codeBytes (c : Nat) : List Byte := toLE 2 c

/-- CRC-32C running state over codes. -/
def crcCodes (s : Nat) (l : List Nat) : Nat := l.foldl (fun s c => crc32cRun s (codeBytes c)) s

/-- The line at which scan-out stands: which lines Echo checks (R333). -/
def echoChecks (m : Mach) (y : Nat) : Bool :=
  drivesRays m.mode && (m.scan.echoMode == 2 || (m.scan.echoMode == 1 && (y + m.scan.frameTick) % 8 == 0))

/-- A span leaves for its bundle: its units, and the line CRC at the serialiser input (R332). -/
def sendSpan (m : Mach) (t : TEntry) (k y q : Nat) (codes : List Nat) : Mach :=
  let s := crcCodes (if q = 0 then 0xFFFFFFFF else m.scan.crcs.getD k 0) codes
  let crc := Nat.xor s 0xFFFFFFFF
  let m := m.emits (spanUnits m t k y q codes crc)
  let m := { m with scan := { m.scan with crcs := setAt m.scan.crcs k s } }
  if q + 1 = t.cols / 64 && echoChecks m y then
    let l := ((k, y, crc) :: m.scan.lineCrcs).take 96
    { m with scan := { m.scan with lineCrcs := l } }
  else m

/-! ## The end of a line: zone sums, signatures, view tap (R283-R287) -/

/-- A field of signature region `i`, of the set it belongs to. -/
def sigField (m : Mach) (i : Nat) (r : Row) : Nat := if i = 7 then m.gal.plForce.rd r 7 else m.gal.force.rd r i

/-- The codes of a line that a region takes, in column order; `n` is the column of the first subpixel. -/
def sigCodes (m : Mach) (o : OptSet) (i y : Nat) (l : List SubOut) : List Nat :=
  let x0 := sInt 16 (sigField m i R.GAL.SIG_POS.X)
  let y0 := sInt 16 (sigField m i R.GAL.SIG_POS.Y)
  let w := sigField m i R.GAL.SIG_SIZE.W
  let h := sigField m i R.GAL.SIG_SIZE.H
  let mask := sigField m i R.GAL.SIG_CTRL.CHANNELS
  let post := sigField m i R.GAL.SIG_CTRL.POINT
  if sigField m i R.GAL.SIG_CTRL.ENABLE ≠ 1 ∨ (y : Int) < y0 ∨ y0 + h ≤ y then []
  else
    ((List.range l.length).zip l).filterMap (fun e =>
      let px : Int := (e.1 / 3 : Nat)
      if x0 ≤ px ∧ px < x0 + w ∧ bit mask (channelOf o e.1) then some (if post = 1 then e.2.post else e.2.pre) else none)

/-- Every region takes its codes of a line. -/
def sigLine (m : Mach) (o : OptSet) (y : Nat) (l : List SubOut) : Mach :=
  let new := (List.range 8).map (fun i => crcCodes (m.gal.sigs.getD i 0xFFFFFFFF) (sigCodes m o i y l))
  { m with gal := { m.gal with sigs := new } }

/-- The light of a line is added to its zones (R283). -/
def zoneLine (m : Mach) (o : OptSet) (y : Nat) (l : List SubOut) : Mach :=
  let row := y / 256 * m.rd R.GAL.ZONE_GRID.ZW
  let sums := ((List.range l.length).zip l).foldl (fun (s : SMap Nat) e =>
    let k := (row + e.1 / 768) * 3 + channelOf o e.1
    SMap.put 0 s k ((SMap.get 0 s k + e.2.w / 65536) % 2 ^ 32)) m.gal.sums
  { m with gal := { m.gal with sums := sums } }

/-- A field of the tap's configuration in force. -/
def tapField (m : Mach) (r : Row) : Nat := m.gal.force.rd r

/-- The value the tap takes of a subpixel (R286). -/
def tapValue (m : Mach) (s : SubOut) : Nat := if tapField m R.GAL.TAP_CTRL.POINT = 1 then s.post else Nat.min 65535 (s.w / 256)

/-- The lens under a subpixel (R186), before its view is picked. -/
def lensUnder (m : Mach) (o : OptSet) (c y : Nat) : Int × Int :=
  let mi := m.hel.mi
  let sx : Int := (c * 4096 + 2048 : Nat)
  let sy : Int := (y * 4096 + 2048 : Nat)
  let ax := rsh ((sx - o.l0x) * mi.1 + (sy - o.l0y) * mi.2.1) 30
  let bx := rsh ((sx - o.l0x) * mi.2.2.1 + (sy - o.l0y) * mi.2.2.2) 30
  (floorDiv (ax + 2048) 4096, floorDiv (bx + 2048) 4096)

/-- The tap takes what it captures of a line: in RECT every DECIM-th pixel, in VIEW the last subpixel of each channel under a lens
whose picked view is VIEW_SEL. -/
def tapLine (d : Mem) (m : Mach) (o : OptSet) (y : Nat) (l : List SubOut) : Mach :=
  match m.gal.tap with
  | none => m
  | some c =>
    let w := tapField m R.GAL.TAP_WH.W
    let h := tapField m R.GAL.TAP_WH.H
    let x0 := sInt 16 (tapField m R.GAL.TAP_XY.X)
    let y0 := sInt 16 (tapField m R.GAL.TAP_XY.Y)
    let dec := 2 ^ tapField m R.GAL.TAP_CTRL.DECIM
    let sel := tapField m R.GAL.TAP_VIEW.VIEW_SEL
    let place (col : Nat) : Option (Int × Int) :=
      if tapField m R.GAL.TAP_CTRL.MODE = 0 then
        let i := ((col / 3 : Nat) : Int) - x0
        let j := (y : Int) - y0
        if i % dec = 0 ∧ j % dec = 0 then some (i / dec, j / dec) else none
      else
        let q := lensUnder m o col y
        match deriveRay d o m.hel.mi m.hel.mapOk (tentry m.entry) col y with
        | some r => if r.view = sel then some (q.1 - x0, q.2 - y0) else none
        | none => none
    let pix := ((List.range l.length).zip l).foldl (fun (s : SMap Nat) e =>
      match place e.1 with
      | some (i, j) =>
        if 0 ≤ i ∧ 0 ≤ j ∧ i < w ∧ j < h then SMap.ins s (4 * (j.toNat * w + i.toNat) + channelOf o e.1) (tapValue m e.2) else s
      | none => s) c.pix
    { m with gal := { m.gal with tap := some { c with pix := pix } } }

/-- An active line has been composed whole. -/
def lineDone (d : Mem) (m : Mach) (y : Nat) : Mach :=
  let o := optNow m
  let l := m.gal.line.foldr (fun e acc => e.2 ++ acc) []
  let m := tapLine d (sigLine (zoneLine m o y l) o y l) o y l
  { m with gal := { m.gal with line := [] } }

/-! ## SPAN_DEMAND (R10, R233, R253, R270, R312-R315) -/

/-- The bundles whose spans are demanded: all used ones, and in M1 and M2 those that are up (R328). -/
def demandList (m : Mach) : List Nat :=
  if drivesRays m.mode then usedBundles m
  else (List.range (tentry m.scan.lpEntry).b).filter (fun k => !(maskLanes m k).isEmpty)

/-- The start of an active line: status, echo_mode and the SCREEN layers that are late on it (R270, R315, R333). -/
def lineStart (m : Mach) (t : TEntry) (y : Nat) (late : List Nat) : Mach :=
  let m := ((m.wr R.SYS.TICK_STATUS.LINE (t.blank + y)).wr R.SYS.TICK_STATUS.BAND (y / 64)).wr R.SYS.TICK_STATUS.IN_BLANK 0
  let m := m.wr R.SCAN.STATUS.DARK 0
  let m := { m with scan := { m.scan with echoMode := m.rd R.SCAN.ECHO_CTRL.MODE, mismBand := if y % 64 = 0 then y / 64 else m.scan.mismBand } }
  if !drivesRays m.mode then m
  else
    let g := m.gal.force
    let late := (g.layers.filter (fun k => late.contains k && !g.isDepth k &&
      (let y0 := sInt 16 (g.rd R.GAL.LAYER_DST_XY.Y k)
       decide (y0 ≤ y) && decide ((y : Int) < y0 + g.dstH k))))
    let m := { m with gal := { m.gal with late := late } }
    if late.isEmpty then m
    else hev ((m.add R.GAL.LAYER_LATE.COUNT late.length).ev E.GAL.LAYER_LATE) 64 late.length

/-- Advance to the next span: k, then q, then the line. -/
def nextSpan (m : Mach) (t : TEntry) (n : Nat) : Mach :=
  let s := m.scan
  let s :=
    if s.nextK + 1 < n then { s with nextK := s.nextK + 1 }
    else if s.nextQ + 1 < t.cols / 64 then { s with nextK := 0, nextQ := s.nextQ + 1 }
    else { s with nextK := 0, nextQ := 0, nextY := s.nextY + 1 }
  { m with scan := s }

/-- Glow words found bad (R686) are counted and show code 0 until the next load. -/
def glowBad (m : Mach) (bad : List Nat) : Mach :=
  let new := (bad.filter (fun w => decide (w < 262144) && !m.lant.bad.contains w)).eraseDups
  if m.mode ≠ 2 ∨ new.isEmpty then m
  else { m.addSat R.LANT.GLOW_STATUS.PARITY new.length with lant := { m.lant with bad := new ++ m.lant.bad } }

/-- One span from the ray path: its three bundles must be DONE (R318). -/
def raySpan (d : Mem) (m : Mach) (t : TEntry) (y k q : Nat) : Mach :=
  let sp := k * (t.cols / 64) + q
  let b := (List.range 3).map (fun i => m.hel.bundles.find? (fun b => b.line == y && b.n == 3 * sp + i && b.st == 3))
  let traced := (rayFrame m).isSome
  if traced && !b.all (·.isSome) then frameAbort m ABORT_UNDERRUN
  else
    let rays := b.foldr (fun o acc => (match o with
      | some b => b.rays
      | none => List.replicate 64 (0, 0, false)) ++ acc) []
    let outs := spanOut d m (64 * sp) y rays
    let m := setBundles m (m.hel.bundles.filter (fun b => !(b.line == y && b.n / 3 == sp)))
    let m := { m with gal := { m.gal with line := SMap.ins m.gal.line sp outs } }
    sendSpan m t k y q (outs.map (·.post))

/-- The entry whose raster runs (R327). -/
def rasterEntry (m : Mach) : Nat := if drivesRays m.mode then m.entry else m.scan.lpEntry

/-- SPAN_DEMAND: the next span in demand order. `late`: SCREEN layers whose source line is late on the line that begins; `bad`:
glow words found bad. -/
def spanDemand (d : Mem) (m : Mach) (late bad : List Nat) : Mach :=
  let t := tentry (rasterEntry m)
  let ks := demandList m
  let y := m.scan.nextY
  if m.scan.frame ≠ 1 ∨ t.h ≤ y ∨ ks.isEmpty then m
  else
    let first := m.scan.nextK == 0 && m.scan.nextQ == 0
    let m := if first then lineStart m t y late else m
    let m := if first && y % 64 == 0 && drivesRays m.mode then recheckAbort m (y / 64) else m
    if m.scan.frame ≠ 1 then m
    else
      let k := ks.getD m.scan.nextK 0
      let q := m.scan.nextQ
      if drivesRays m.mode then
        let m := raySpan d m t y k q
        if m.scan.frame ≠ 1 then m
        else
          let m := nextSpan m t ks.length
          if m.scan.nextY = y then m else lineDone d m y
      else
        let m := glowBad m bad
        let sp := k * (t.cols / 64) + q
        nextSpan (sendSpan m t k y q (lanternSpan m (64 * sp) y)) t ks.length

def execSpanDemand (late bad : List Nat) (s : State) : Out' := onR s (fun d m => spanDemand d m late bad)

/-! ## Band and frame ends (R315, R334, R354) -/

/-- RASTER_BAND_END: the band's mismatch count is closed (R334). -/
def bandEnd (m : Mach) : Mach :=
  if m.scan.frame ≠ 1 ∨ m.scan.nextY < 64 * (m.scan.mismBand + 1) then m
  else
    let m := (m.wr R.SCAN.ECHO_BAND.BAND m.scan.mismBand).wr R.SCAN.ECHO_BAND.COUNT (satN m.scan.mism 0xFFFF)
    { m with scan := { m.scan with mism := 0, mismBand := m.scan.mismBand + 1 } }

def execRasterBandEnd (s : State) : Out' := onM s bandEnd

/-- RASTER_FRAME_END: the last active line ends; FRAME_END on every lane of the mask. -/
def frameEnd (m : Mach) : Mach :=
  let t := tentry (rasterEntry m)
  if m.scan.frame ≠ 1 ∨ m.scan.nextY < t.h then m
  else
    let m := m.emits ((demandList m).foldr (fun k acc =>
      (maskLanes m k).map (fun l => Out.lane l 0x11 [m.scan.frameTick % 65536, t.h]) ++ acc) [])
    let fin (c : Capture) : Capture := { c with fin := 1 }
    let tap := m.gal.tap.map fin
    let m := { m with scan := { m.scan with frame := 3 }, gal := { m.gal with tap := tap } }
    (m.wr R.SCAN.STATUS.DARK 1).wr R.SYS.TICK_STATUS.IN_BLANK 1

def execRasterFrameEnd (s : State) : Out' := onM s frameEnd

/-! ## Echo (R332-R335) -/

/-- A flagged lane's bucket; a lane it retires is handled as ABORT_LANE_LOSS. -/
def echoLane (m : Mach) (n : Nat) : Mach :=
  let (crossed, m) := bucketAdd m 4 n 1 LANE_LOCK_LOST 1
  if crossed then
    let m := if inMask m n then frameAbort m ABORT_LANE_LOSS (n / 4) else m
    laneRetire m n
  else m

/-- ECHO_LINE_CHECK (R332-R335): the CRC Echo computed over a line of a bundle, and the lanes it flagged. Lines not checked, or cut
by an abort, have no outcome. -/
def echoCheck (m : Mach) (k y crc flags : Nat) : Mach :=
  match m.scan.lineCrcs.find? (fun e => e.1 == k && e.2.1 == y) with
  | none => m
  | some e =>
    let l := m.scan.lineCrcs.filter (fun x => !(x.1 == k && x.2.1 == y))
    let m := { m with scan := { m.scan with lineCrcs := l } }
    let m := hev (m.add R.SCAN.ECHO_LINES_CHECKED.COUNT 1) 97
    -- R787: at a V1 entry the first line checked after a restart flags every lane
    let spur := m.scan.spur.contains k
    let rest := m.scan.spur.filter (fun x => x != k)
    let m := { m with scan := { m.scan with spur := rest } }
    let flagged := (bitList 4 (if spur then 15 else flags)).map (4 * k + ·)
    let m := m.evIf (!flagged.isEmpty) E.SCAN.ECHO_LANE_CODE
    let live := flagged.filter (laneServ m)
    if live.isEmpty && (e.2.2 == crc % 2 ^ 32 || !flagged.isEmpty) then m
    else
      let m := hev (m.add R.SCAN.ECHO_MISMATCH.COUNT 1) 98
      let m := ((m.wr R.SCAN.ECHO_LAST.BUNDLE k).wr R.SCAN.ECHO_LAST.LANES (maskOf 4 (fun i => live.contains (4 * k + i))))
      let m := (m.wr R.SCAN.ECHO_LAST.BAND (y / 64)).wr R.SCAN.ECHO_LAST.LINE y
      let m := m.ev E.SCAN.ECHO_MISMATCH
      let m := if y / 64 = m.scan.mismBand then { m with scan := { m.scan with mism := m.scan.mism + 1 } }
        else if m.rd R.SCAN.ECHO_BAND.BAND = y / 64 then m.addSat R.SCAN.ECHO_BAND.COUNT 1
        else m
      if live.isEmpty then
        let (crossed, m) := bucketAdd m 8 k 1 0 y
        if crossed then forceDatapath m 8 k else m
      else m.each live echoLane

def execEchoLineCheck (k y crc flags : Nat) (s : State) : Out' := onM s (fun m => echoCheck m k y crc flags)

/-! ## The view tap (R286-R289) -/

/-- Report a code of the tap. -/
def tapCode (m : Mach) (c : Nat) : Mach := m.wr R.GAL.TAP_STATUS.LAST c

/-- A frame that is not captured (R288). -/
def tapSkip (m : Mach) : Mach := hev ((tapCode m TAP_SKIPPED).add R.GAL.TAP_SKIPPED.COUNT 1) 67

/-- TAP_CAPTURE_START (R286-R288): at the frame of a tick whose count is a multiple of DIVIDE. -/
def tapStart (m : Mach) : Mach :=
  let tick := m.scan.frameTick
  if m.rd R.GAL.TAP_STATUS.STATE ≠ 1 ∨ m.gal.tap.isSome ∨ m.scan.frame ≠ 1 ∨ m.scan.nextY ≠ 0 ∨ m.scan.nextQ ≠ 0 ∨ m.scan.nextK ≠ 0 ∨
      !drivesRays m.mode ∨ tick % tapField m R.GAL.TAP_CTRL.DIVIDE ≠ 0 then m
  else
    let o := optNow m
    let m := m.add R.GAL.TAP_STATUS.SEQ 1
    if tapField m R.GAL.TAP_CTRL.MODE = 1 ∧ !(o.rmode == 1 && o.model == 1) then tapSkip m
    else
      let m := chimRequest m C_TAP 0 (m.dv D.tap_tokens)
      if !holdsGrant m C_TAP 0 then tapSkip (chimRelease m C_TAP 0)
      else
        let seq := ((currentFrame m).map (·.seq)).getD 0
        let n := tapField m R.GAL.TAP_CTRL.COUNT_M1 + 1
        let c : Capture := ⟨m.gal.tapBuf % n, tick, seq, [], 0⟩
        { m with gal := { m.gal with tap := some c, tapBuf := (m.gal.tapBuf + 1) % n } }

def execTapCaptureStart (s : State) : Out' := onM s tapStart

/-- The base of a capture's buffer. -/
def tapBase (m : Mach) (c : Capture) : Nat :=
  tapField m R.GAL.TAP_BASE_HI.BASE * 2 ^ 32 + tapField m R.GAL.TAP_BASE_LO.BASE * 4096 + c.buf * tapField m R.GAL.TAP_STRIDE.STRIDE

/-- A pixel as it is written (R286). -/
def tapPixel (m : Mach) (c : Capture) (i : Nat) : List Byte :=
  let v (ch : Nat) : Nat := SMap.get 0 c.pix (4 * i + ch)
  let missing := tapField m R.GAL.TAP_CTRL.MODE == 1 && (List.range 3).any (fun ch => (SMap.look c.pix (4 * i + ch)).isNone)
  if tapField m R.GAL.TAP_CTRL.POINT = 1 then toLE 4 (b2n missing * 2 ^ 31 + v 0 * 2 ^ 20 + v 1 * 2 ^ 10 + v 2)
  else toLE 2 (v 0) ++ toLE 2 (v 1) ++ toLE 2 (v 2) ++ toLE 2 (b2n missing)

/-- The header of a buffer (R287). -/
def tapHeader (m : Mach) (c : Capture) (complete aborted : Bool) : List Byte :=
  let flags := b2n complete + 2 * b2n aborted + 4 * tapField m R.GAL.TAP_CTRL.MODE + 16 * tapField m R.GAL.TAP_CTRL.POINT
  slice ([0x55, 0x54, 0x41, 0x50] ++ toLE 4 flags ++ toLE 8 c.tick ++ toLE 4 c.seq ++ toLE 2 (tapField m R.GAL.TAP_WH.W) ++
    toLE 2 (tapField m R.GAL.TAP_WH.H) ++ toLE 4 (tapField m R.GAL.TAP_PITCH.PITCH)) 0 64

/-- The tap's writes of a capture: the rows captured, then the header (R287). -/
def tapWrite (m : Mach) (c : Capture) (complete aborted : Bool) : List (Nat × List Byte) × Mach :=
  let w := tapField m R.GAL.TAP_WH.W
  let h := tapField m R.GAL.TAP_WH.H
  let base := tapBase m c
  let have_ (j : Nat) : Bool := complete || c.pix.any (fun e => e.1 / 4 / (Nat.max w 1) == j)
  let rows := (List.range h).filter have_
  let row (j : Nat) : Nat × List Byte :=
    (base + 64 + j * tapField m R.GAL.TAP_PITCH.PITCH, (List.range w).foldr (fun i acc => tapPixel m c (j * w + i) ++ acc) [])
  let step (acc : Bool × List (Nat × List Byte) × Mach) (x : Nat × List Byte) : Bool × List (Nat × List Byte) × Mach :=
    let (ok, wr, m) := devWrite acc.2.2 .fw 0x41 x.1 x.2
    (acc.1 && ok, acc.2.1 ++ wr, m)
  let (ok, wr, m) := (rows.map row).foldl step (true, [], m)
  let (_, wr2, m) := devWrite m .fw 0x41 base (tapHeader m c (complete && ok) aborted)
  (wr ++ wr2, m)

/-- A capture ends with its buffer written. -/
def tapEnd (m : Mach) (c : Capture) (complete aborted : Bool) : List (Nat × List Byte) × Mach :=
  let (wr, m) := tapWrite m c complete aborted
  let m := { m with gal := { m.gal with tap := none } }
  let m := (chimRelease m C_TAP 0).wr R.GAL.TAP_STATUS.LAST_BUF c.buf
  let m := if complete then hev (m.add R.GAL.TAP_CAPTURED.COUNT 1) 66 else m
  (wr, m.ev E.GAL.TAP_DONE)

/-- A drain ends once no capture is left (R289). -/
def tapDrained (m : Mach) : Mach :=
  if m.rd R.GAL.TAP_STATUS.STATE = 2 ∧ m.gal.tap.isNone then tapCode (m.wr R.GAL.TAP_STATUS.STATE 3) TAP_DRAINED else m

/-- TAP_CAPTURE_DONE: after the frame; `full`: the write buffer filled during it (R288). -/
def tapDone (m : Mach) (full : Bool) : Effect :=
  match m.gal.tap with
  | none => ⟨m, [], false⟩
  | some c =>
    if c.fin = 0 then ⟨m, [], false⟩
    else
      let (wr, m) := tapEnd m c (c.fin == 1 && !full) (c.fin == 2)
      ⟨tapDrained (if full then tapCode m TAP_OVERRUN else m), wr, false⟩

def execTapCaptureDone (full : Bool) (s : State) : Out' := onW s (fun _ m => tapDone m full)

/-- TAP_DRAIN: a write of TAP_CTRL.ENABLE. -/
def tapDrain (m : Mach) (enable : Bool) : Mach :=
  if enable then (m.wr R.GAL.TAP_CTRL.ENABLE 1).wr R.GAL.TAP_STATUS.STATE 1
  else if m.rd R.GAL.TAP_STATUS.STATE = 1 then tapDrained ((m.wr R.GAL.TAP_CTRL.ENABLE 0).wr R.GAL.TAP_STATUS.STATE 2)
  else m.wr R.GAL.TAP_CTRL.ENABLE 0

def execTapDrain (enable : Bool) (s : State) : Out' := onM s (fun m => tapDrain m enable)

/-- TAP_FORCE_STOP (R289); `late`: the capture's header write completes in the same cycle or earlier. -/
def tapForceStop (m : Mach) (late : Bool) : Effect :=
  let stop (m : Mach) : Mach := (m.wr R.GAL.TAP_CTRL.ENABLE 0).wr R.GAL.TAP_STATUS.STATE 3
  match m.gal.tap with
  | none => ⟨stop m, [], false⟩
  | some c =>
    let done := late && c.fin == 1
    let (wr, m) := tapEnd m c done (c.fin == 2)
    ⟨stop (tapCode m (if done then ABORT_LATE else ABORTED_BY_DISABLE)), wr, false⟩

def execTapForceStop (late : Bool) (s : State) : Out' := onW s (fun _ m => tapForceStop m late)

/-! ## Action 1 of a tick (R283-R285) -/

/-- Signatures and zone sums are taken at the tick; `whole`: the frame ended without an abort. -/
def galSnapshots (m : Mach) (whole : Bool) : Mach :=
  let m := m.each (List.range 8) (fun m i =>
    if !whole || sigField m i R.GAL.SIG_CTRL.ENABLE ≠ 1 then m.wr R.GAL.SIG_CTRL.VALID 0 i
    else
      let v := Nat.xor (m.gal.sigs.getD i 0xFFFFFFFF) 0xFFFFFFFF
      let m := (m.wr R.GAL.SIG_VALUE.VALUE v i).wr R.GAL.SIG_CTRL.VALID 1 i
      if sigField m i R.GAL.SIG_CTRL.COMPARE ≠ 1 then m
      else
        let bad := v != sigField m i R.GAL.SIG_EXPECT.VALUE
        let m := if bad then hev ((m.add R.GAL.SIG_MISMATCH.COUNT 1).ev E.GAL.SIG_MISMATCH) 65 else m
        if i ≠ 7 then m
        else
          -- R614: consecutive frames with VALID whose protected region fails its signature; a limit of 0 disables the check
          let run := if bad then m.sec.sig7 + 1 else 0
          let m := { m with sec := { m.sec with sig7 := run } }
          if bad ∧ m.dv D.sig7_fail_frames ≠ 0 ∧ m.dv D.sig7_fail_frames ≤ run then
            bootIntegrity m 5
          else m)
  let m := { m with regs := SMap.keep m.regs (fun k => !keyIn 0x1040000 0x1057E80 k) }
  let m := m.each (m.gal.sums.map (·.1)) (fun m k => m.wr R.GAL.ZONE_SUM.SUM (SMap.get 0 m.gal.sums k) k)
  { m with gal := { m.gal with sums := [], sigs := List.replicate 8 0xFFFFFFFF } }

end Sys2Proof.Machine
end

