-- ==== Sys2Proof/Machine/DictValue.lean ====
section
/-!
DEFINITION. What a dictionary entry reads as (spec/03_object_dictionary.md R63-R65, R70, R83; the tables of the owning chapters).
-/
namespace Sys2Proof.Machine

/-- Join lists. -/
def joinL {α : Type} (l : List (List α)) : List α := l.foldr (· ++ ·) []

/-- Cut bytes into rows of `n`. -/
def rowsOf (n : Nat) (b : List Byte) : List (List Byte) :=
  if n = 0 then [] else (List.range (b.length / n)).map (fun k => slice b (n * k) n)

/-- The key of an entry. -/
def DEntry.key (e : DEntry) : Nat := e.ix * 256 + e.sb

/-! ## Which entries exist (R63, R99, R293) -/

/-- The entries of the firmware image in force that a customer's build added (R99): descriptors of R83. -/
def sdkEntry (b : List Byte) : DEntry :=
  let attr := fieldLE b 5 1
  let ty : DTy := match fieldLE b 3 1 with
    | 1 => .bool | 2 => .uint | 3 => .uint | 4 => .uint | 5 => .uint | 6 => .sint | 7 => .sint | 8 => .sint | 9 => .sint
    | 10 => .f32 | 11 => .q16 | 12 => .time64 | 13 => .enum8 | 14 => .bits32 | 15 => .octets | 16 => .str
    | _ => .table
  let sz := fieldLE b 6 2
  let lo : Int := match ty with
    | .sint => -(2 ^ (8 * sz - 1) : Int)
    | _ => 0
  let hi : Int := match ty with
    | .bool => 1
    | .sint => 2 ^ (8 * sz - 1) - 1
    | .table => 65535
    | _ => 2 ^ (8 * sz) - 1
  ⟨fieldLE b 0 2, fieldLE b 2 1, ty, if ty = .table then 1 else sz, lo, hi, fieldLE b 4 1,
    if attr % 4 = 0 then .v else if attr % 4 = 1 then .p else .f, bit attr 2, true, .own ⟨fieldLE b 0 2, fieldLE b 2 1, sz, 0⟩, true⟩

/-- The entries marked S in R293, whose value in force is read at subindex + 0x80. -/
def isShadowed (e : DEntry) : Bool :=
  e.ix == 0x5000 || (0x5010 ≤ e.ix && e.ix ≤ 0x501D) || e.ix == 0x5030 || e.ix == 0x5031 || e.ix == 0x5040 || (e.ix == 0x5050 && e.sb == 1)

/-- Every entry with a value of its own, those of the image in force included. -/
def entriesNow (m : Mach) : List DEntry := dictTable ++ m.sec.ext.map sdkEntry

/-- The read-only twin of a shadowed entry that shows the value in force. -/
def forceTwin (e : DEntry) : DEntry := { e with sb := e.sb + 0x80, acc := 0x0F, dflt := false }

/-- The highest subindex in use at an index; none where the index does not exist. -/
def topSub (m : Mach) (ix : Nat) : Option Nat :=
  match (entriesNow m).filter (fun e => e.ix == ix) with
  | [] => none
  | l => some (maxN (l.map (fun e => if isShadowed e then e.sb + 0x80 else e.sb)))

/-- How an address resolves (R63): no index, no subindex, the count at subindex 0, an entry, or a value in force. -/
inductive Found where
  | noEntry | noSub
  | count (n : Nat)
  | entry (e : DEntry)
  | force (e : DEntry)
  deriving DecidableEq, Repr

def findEntry (m : Mach) (ix sb : Nat) : Found :=
  match topSub m ix with
  | none => .noEntry
  | some n =>
    if sb = 0 then .count n
    else match (entriesNow m).find? (fun e => e.ix == ix && e.sb == sb) with
      | some e => .entry e
      | none => match (entriesNow m).find? (fun e => e.ix == ix && e.sb + 0x80 == sb && isShadowed e) with
        | some e => .force e
        | none => .noSub

/-- The descriptor of an entry (R83). -/
def DEntry.descr (e : DEntry) : List Byte :=
  let code : Nat := match e.ty with
    | .bool => 1
    | .uint => if e.sz = 1 then 2 else if e.sz = 2 then 3 else if e.sz = 4 then 4 else 5
    | .sint => if e.sz = 1 then 6 else if e.sz = 2 then 7 else if e.sz = 4 then 8 else 9
    | .f32 => 10 | .q16 => 11 | .time64 => 12 | .enum8 => 13 | .bits32 => 14 | .octets => 15 | .str => 16 | .table => 17
  let cls := match e.cls with
    | .v => 0 | .p => 1 | .f => 2
  toLE 2 e.ix ++ toLE 1 e.sb ++ toLE 1 code ++ toLE 1 e.acc ++ toLE 1 (cls + 4 * b2n e.tick + 8 * b2n e.fw) ++
    toLE 2 (if e.ty = .table then 0 else e.sz)

/-- Put a descriptor into the directory's order. -/
def insDescr (e : DEntry) : List DEntry → List DEntry
  | [] => [e]
  | x :: xs => if e.key < x.key then e :: x :: xs else if x.key = e.key then x :: xs else x :: insDescr e xs

/-- The directory, sorted by index and subindex: subindex 0 of every index, every entry, and the values in force (R83). -/
def directory (m : Mach) : List DEntry :=
  let es := entriesNow m
  let counts : List DEntry := es.map (fun e => ⟨e.ix, 0, .uint, 1, 0, 255, 0x0F, .v, false, false, .special, false⟩)
  (es ++ (es.filter isShadowed).map forceTwin ++ counts).foldl (fun l e => insDescr e l) []

/-! ## Values held elsewhere -/

/-- A TABLE value (R65). The generation of a table that the device itself keeps changing is free (assumption log 55). -/
def tableOf (m : Mach) (e : DEntry) (rows : List (List Byte)) (live : Bool) : List Byte × Mach :=
  let g := if live then m.draw (2 ^ 32) else (SMap.get 0 m.dic.gen e.key, m)
  (toLE 4 rows.length ++ toLE 2 e.sz ++ toLE 2 0 ++ toLE 4 g.1 ++ toLE 4 0 ++ joinL rows, g.2)

/-- Rows kept as plain dictionary bytes, or the default ones. -/
def storedRows (m : Mach) (e : DEntry) (dflt : List Byte) : List (List Byte) := rowsOf e.sz ((SMap.look m.dict e.key).getD dflt)

/-- The default set points (R448), TRAIN_AT_BOOT set for SP0 and SP1 (R473). -/
def setpointsDflt (m : Mach) : List Byte :=
  let r := if m.dr.typ = 0 then [6400, 5500, 4266, 3200] else [8533, 6400, 4266, 3200]
  joinL (r.mapIdx (fun i v => toLE 2 v ++ toLE 2 (if i < 2 then 1 else 0)))

/-- The default aging curve: flat at 16,384 (R601), doses rising by one from 0. -/
def agingDflt : List Byte := joinL ((List.range 33).map (fun k => toLE 4 k ++ toLE 2 16384 ++ toLE 2 16384 ++ toLE 2 16384))

/-- 0x3020:03 scene_quota_min (R152, R218): the band window in slots of 512 bytes, where any entry is configured. -/
def sceneQuotaMin (m : Mach) : Nat := if m.rd R.SCAN.PANEL_CFG.ENTRIES = 0 then 0 else m.rd R.GROT.WINDOW.SLOTS

/-- A dose in 2^-16 cd/m2 h as U32 and U16 fraction (R588). -/
def doseBytes (v : Nat) : List Byte := toLE 4 (v / 65536) ++ toLE 2 v

/-- The dose map's rows (R588, R645). -/
def doseRows (m : Mach) (dose : SMap Nat) : List (List Byte) :=
  (List.range (gridNodes m)).map (fun z => joinL ((List.range 3).map (fun c => doseBytes (SMap.get 0 dose (3 * z + c)))))

/-- The unit rows of bucket_table: kinds 1 to 13 with 1,008 places for journal sectors (R697, R725). -/
def bucketRows (m : Mach) : List (List Byte) :=
  joinL ((List.range 13).map (fun k =>
    let kind := k + 1
    let n := if kind = 7 then 1008 else kindUnits m kind
    (List.range n).map (fun u =>
      toLE 1 kind ++ toLE 1 (if u < kindUnits m kind then b2n (isRetired m kind u) else 2) ++ toLE 2 u ++
        toLE 2 (bktLevel m kind u) ++ toLE 2 (bktThreshold m kind))))

/-- The Sump ledger by entry number (R703, R728). -/
def sumpRows (m : Mach) : List (List Byte) :=
  (List.range 4096).map (fun n => match m.hl.sump.find? (fun e => e.seq % 4096 == n) with
    | some e => e.bytes
    | none => toLE 32 0)

/-- Lane coefficients: those kept for the lane's generation in force (R380; assumption log 55). -/
def coeffRow (m : Mach) (n : Nat) : List Byte :=
  let g := Nat.max 1 (laneGen m n)
  let c := (keptCoef m n g).getD (curCoef m n)
  toLE 1 c.pre ++ toLE 1 c.post ++ toLE 1 c.ctle ++ toLE 1 g ++ toLE 4 0

/-- Key slots (R633). -/
def keyRow (f : Fuse) (n : Nat) : List Byte :=
  let st := if bit f.revoked n then 2 else if (keyHash f n).isSome then 1 else 0
  toLE 1 st ++ toLE 3 0 ++ slice ((keyHash f n).getD []) 0 48

/-- Words of the scaler's taps: 8 horizontal and 6 vertical of each phase (R267, R293). -/
def tapRow (m : Mach) (s p : Nat) : List Byte :=
  joinL ((List.range 4).map (fun j => toLE 4 (regWord m (0x1005000 + 0x800 * s + 16 * p + 4 * j)))) ++
  joinL ((List.range 3).map (fun j => toLE 4 (regWord m (0x1005400 + 0x800 * s + 12 * p + 4 * j))))

/-- A gain map's rows as written in the shadow set (R280). -/
def gainRows (m : Mach) (map : Nat) : List (List Byte) :=
  let n := m.gal.cnt.getD map 0
  let n := if n = 0 then gridNodes m else n
  let b := if map = 0 then 0x1020000 else 0x1030000
  (List.range n).map (fun z => toLE 4 (regWord m (b + 8 * z)) ++ toLE 2 (regWord m (b + 8 * z + 4)))

/-- Entries whose value lies in state of its own. -/
def readSpecial (f : Fuse) (m : Mach) (e : DEntry) : List Byte × Mach :=
  let live (r : List (List Byte)) : List Byte × Mach := tableOf m e r true
  let kept (r : List (List Byte)) : List Byte × Mach := tableOf m e r false
  let plain (b : List Byte) : List Byte × Mach := (b, m)
  match e.ix, e.sb with
  | 0x1001, _ => live ((directory m).map DEntry.descr)
  | 0x1101, 4 => plain (toLE 1 m.dic.sess.length)
  | 0x2200, _ => live ((List.range 48).map (fun k => regBytes m (0x300100 + 8 * k) 8))
  | 0x3020, _ => plain (toLE 4 (sceneQuotaMin m))
  | 0x5030, 3 => kept ((List.range 641).map (fun j => joinL ((List.range 3).map (fun c => toLE 4 (regWord m (0x1002000 + 0x1000 * c + 4 * j))))))
  | 0x5030, s => kept ((List.range 64).map (fun p => tapRow m (s - 4) p))
  | 0x5031, s => kept (gainRows m (s - 1))
  | 0x5060, _ => live ((List.range (gridNodes m)).map (fun z => regBytes m (0x1040000 + 12 * z) 12))
  | 0x6001, 1 => live ((List.range 64).map (coeffRow m))
  | 0x6001, _ => live ((List.range 64).map (fun n =>
      let b := (if n < 48 then 0x1810000 + 0x100 * n else 0x1C10000 + 0x100 * (n - 48))
      toLE 4 (regWord m (b + 4)) ++ toLE 4 (regWord m (b + 0x14)) ++ toLE 4 (regWord m (b + 0x18)) ++ toLE 4 (regWord m (b + 8))))
  | 0x6100, 4 => plain (toLE 1 (m.rd R.PASS.CTRL.GEN + 2))
  | 0x6100, _ => plain (toLE 2 ((fabAddr m).getD 0xFFFF))
  | 0x7000, _ => plain (toLE 8 (uNat 64 (nowNs m)))
  | 0x8000, 3 => kept (storedRows m e (setpointsDflt m))
  | 0x8000, 6 => plain (toLE 8 (m.rd R.DRAM.CAPACITY.MIB * 2 ^ 20))
  | 0x8000, _ => plain (toLE 8 (m.rd R.DRAM.RETIRE_SAFE.MIB * 2 ^ 20))
  | 0x9030, 2 => kept (storedRows m e agingDflt)
  | 0x9030, _ => live (doseRows m m.cal.shown)
  | 0x9040, 1 => live (storedRows m e (toLE (32 * 256) 0))
  | 0x9040, 2 => kept (storedRows m e (toLE 96 0))
  | 0x9040, _ => live ((List.range 48).map (fun n =>
      toLE 2 (m.rd R.CAL.SENS.GAIN n) ++ toLE 2 (uNat 16 (sInt 8 (m.rd R.CAL.SENS.OFFSET n)))))
  | 0xA011, _ => live (bucketRows m)
  | 0xA100, _ => kept ((List.range 64).map (fun n => toLE 4 (regWord m (0x2A01000 + 0x10 * n))))
  | 0xA200, _ => live (sumpRows m)
  | 0xA400, _ => kept ((List.range 32).map (fun n => regBytes m (0x2B01000 + 0x40 * n) 24))
  | 0xA500, _ => plain (toLE 8 (m.rd R.HLTH.TELEM_BASE_HI.BASE * 2 ^ 32 + m.rd R.HLTH.TELEM_BASE_LO.BASE * 4096) ++
      toLE 1 (m.rd R.HLTH.TELEM_CTRL.COUNT_LOG2) ++ toLE 1 (m.rd R.HLTH.TELEM_CTRL.DIVIDE) ++ toLE 1 (m.rd R.HLTH.TELEM_CTRL.ENABLE) ++ toLE 5 0)
  | 0xB001, _ => live ((List.range 6).map (keyRow f))
  | 0xB030, _ => live ((List.range 64).map (fun k => match m.sec.log[k]? with
      | some (a, b, c, d) => toLE 4 a ++ toLE 4 b ++ toLE 4 c ++ toLE 4 d
      | none => toLE 16 0))
  | 0xC010, 1 => kept (rowsOf (labelRow m) m.lant.target)
  | 0xC010, _ => live (rowsOf (labelRow m) m.lant.current)
  | 0xC020, s => kept (rowsOf 4 (waveTable m (s - 1)))
  | ix, _ => if 0x5010 ≤ ix ∧ ix ≤ 0x501D
      then kept ((List.range 256).map (fun k => regBytes m (0x1010800 + 0x1000 * (ix - 0x5010) + 8 * k) 8))
      else plain (toLE e.sz 0)

/-! ## Reading an entry -/

/-- The row size of a TABLE whose rows follow the label's geometry (R690). -/
def rowSize (m : Mach) (e : DEntry) : Nat := if e.ix = 0xC010 ∧ e.ty = .table then labelRow m else e.sz

/-- An entry's bytes as a READ returns them: pending values shown (R7, R70). -/
def readEntry (f : Fuse) (m : Mach) (e : DEntry) : List Byte × Mach :=
  match e.home with
  | .own d =>
    let b := match SMap.look m.dict2 e.key with
      | some v => v
      | none => (SMap.look m.dict1 e.key).getD (m.dbytes d)
    (b, m)
  | .field r i =>
    let v := if r.key i 0 = R.CHIM.LIMITS.CEILING.key 0 0 then (m.dic.ceil2.getD (m.dic.ceil1.getD (m.rd r i))) else m.rdNew r i
    (toLE e.sz v, m)
  | .two8 a b => (toLE 2 (m.rdNew a % 256 + 256 * m.rdNew b), m)
  | .pair a b => (toLE e.sz (m.rd a + 2 ^ 32 * m.rd b), m)
  | .flags l => (toLE e.sz (l.foldr (fun r acc => m.rd r + 2 * acc) 0), m)
  | .words l => (slice (joinL (l.map (fun o => toLE 4 (regWord m o)))) 0 e.sz, m)
  | .mib a b => (toLE e.sz (m.rd a * 2 ^ 20 + m.rd b * 2 ^ 32), m)
  | .mib1 r => (toLE e.sz (m.rd r * 2 ^ 20), m)
  | .special => readSpecial f m { e with sz := rowSize m e }

/-- The values in force: nothing pending. -/
def Mach.inForce (m : Mach) : Mach :=
  { m with held1 := [], held2 := [], dict1 := [], dict2 := [], dic := { m.dic with ceil1 := none, ceil2 := none } }

/-- The Gallery shadow set replaced by the set in force. -/
def Mach.galInForce (m : Mach) : Mach :=
  let g := m.gal.force
  let regs := g.regs.foldl (fun r e => SMap.ins r e.1 e.2) (SMap.keep m.regs (fun k => !shadowKey k))
  { m with regs := regs, gal := { m.gal with cnt := g.cnt }, dict := SMap.ins m.dict D.layer_read_limit.key (toLE 4 g.limit) }

/-- An entry's bytes in force (R75). -/
def forceValue (f : Fuse) (m : Mach) (e : DEntry) : List Byte := (readEntry f m.inForce e).1

/-- Entries whose default is 0 although a field of their registers resets to another value (assumption log 55). -/
def zeroDflt (e : DEntry) : Bool :=
  (0x5010 ≤ e.ix && e.ix ≤ 0x501D && e.sb == 1) || e.ix == 0x5040 || (e.ix == 0x5050 && e.sb == 1) || e.ix == 0x7020

/-- The default of an entry that has one (R69). -/
def defaultOf (f : Fuse) (m : Mach) (e : DEntry) : List Byte :=
  if zeroDflt e then toLE e.sz 0
  else if e.ix = 0x5031 then
    toLE 4 (gridNodes m) ++ toLE 2 6 ++ toLE 10 0 ++ joinL (List.replicate (3 * gridNodes m) (toLE 2 0x4000))
  else if e.ix = 0xA400 then toLE 4 32 ++ toLE 2 24 ++ toLE (10 + 32 * 24) 0
  else forceValue f { m with regs := [], dict := [], gal := { m.gal with cnt := [0, 0] } } e

/-- Which tick a pending value of an entry is due at: 0 none, 1 the coming one, 2 the following one (R70). -/
def pendingOf (m : Mach) (e : DEntry) : Nat :=
  let keys : List Nat := match e.home with
    | .own _ => []
    | .field r i => [r.key i 0]
    | .two8 a b => [a.key 0 0, b.key 0 0]
    | .words l => joinL (l.map (fun o => (fieldsAt o).map (fun (x : Fld) => x.1.key x.2.1 x.2.2)))
    | _ => if e.ix = 0xA100 then (List.range 64).map (fun n => R.HLTH.CNT_CTRL.SRC.key n 0)
      else if e.ix = 0xA400 then (List.range 32).map (fun n => R.PERF.CNT_CTRL.EVENT.key n 0) else []
  let ceil := e.ix == 0x2100 && e.sb == 1
  if (SMap.look m.dict2 e.key).isSome || keys.any (fun k => (SMap.look m.held2 k).isSome) || (ceil && m.dic.ceil2.isSome) then 2
  else if (SMap.look m.dict1 e.key).isSome || keys.any (fun k => (SMap.look m.held1 k).isSome) || (ceil && m.dic.ceil1.isSome) then 1
  else 0

end Sys2Proof.Machine
end

