-- ==== Sys2Proof/Machine/DmaCmds.lean ====
section
/-!
DEFINITION. The DMA channels' commands (spec/14_host_interface_and_dma.md R495-R505, R510-R514).
-/
namespace Sys2Proof.Machine

/-- The master of a channel (R717). -/
def dmaMaster (n : Nat) : Nat := 0x20 + n

/-- The address of the descriptor in progress. -/
def dmaCur (m : Mach) (n : Nat) : Nat := m.rd R.DMA.CH_CUR_LO.CUR n + 2 ^ 32 * m.rd R.DMA.CH_CUR_HI.CUR n

/-- Set it. -/
def dmaCurSet (m : Mach) (n a : Nat) : Mach :=
  (m.wr R.DMA.CH_CUR_LO.CUR (a % 2 ^ 32) n).wr R.DMA.CH_CUR_HI.CUR (a / 2 ^ 32) n

/-- CHn_FAULT. -/
def dmaFaultSet (m : Mach) (n a : Nat) : Mach :=
  (m.wr R.DMA.CH_FAULT_LO.FAULT (a % 2 ^ 32) n).wr R.DMA.CH_FAULT_HI.FAULT (a / 2 ^ 32) n

/-- A run halts on an access: recorded, with its address where R500 says so. -/
def dmaHalt (m : Mach) (n : Nat) (e : Nat × Nat) (write : Bool) : Mach :=
  let m := noteFault m (dmaPrincipal m n) (dmaMaster n) e write
  let m := if e.1 = DMA_FIREWALL then m else dmaFaultSet m n e.2
  dmaEnd m n e.1

/-- The unit of a SWAP code (R497). -/
def swapUnit (s : Nat) : Nat := match s with
  | 0 => 1 | 1 => 2
  | _ => 4

/-- One unit reordered (R497). -/
def swapBytes (s : Nat) (b : List Byte) : List Byte :=
  match s, b with
  | 1, [b0, b1] => [b1, b0]
  | 2, [b0, b1, b2, b3] => [b3, b2, b1, b0]
  | 3, [b0, b1, b2, b3] => [b2, b3, b0, b1]
  | _, b => b

/-- Descriptor fields (R496). -/
def dSrc (b : List Byte) : Nat := fieldLE b 0 8
def dDst (b : List Byte) : Nat := fieldLE b 8 8
def dLen (b : List Byte) : Nat := fieldLE b 16 4
def dCtrl (b : List Byte) : Nat := fieldLE b 20 2
def dSwap (b : List Byte) : Nat := dCtrl b % 4
def dNext (b : List Byte) : Nat := fieldLE b 24 8

/-- Why a descriptor is refused (R496); an address of 0 in NEXT always ends the chain. -/
def descCode (b : List Byte) (self : Nat) : Option Nat :=
  let u := swapUnit (dSwap b)
  if dCtrl b / 64 ≠ 0 ∨ fieldLE b 23 1 ≠ 0 ∨ dLen b = 0 ∨ 2 ^ 24 < dLen b ∨ dNext b % 32 ≠ 0 ∨
      dSrc b % u ≠ 0 ∨ dDst b % u ≠ 0 ∨ dLen b % u ≠ 0 then some DESC_BAD
  else if dNext b ≠ 0 ∧ dNext b = self then some SELF_LINK
  else none

/-- Whether a channel's run moves data: RUN, or DRAINING and not at its pause point (R502, R504, R555). -/
def dmaMoves (m : Mach) (n : Nat) : Bool :=
  m.rd R.DMA.CH_STATUS.STATE n == 2 || (m.rd R.DMA.CH_STATUS.STATE n == 3 && stillGranted m C_DMA n)

/-- The descriptor at CUR is reached and fetched (R496, R499): from device memory, or as host memory answers. -/
def dmaFetch (d : Mem) (m : Mach) (n : Nat) (host : Option (List Byte)) : Mach :=
  if !(dmaOf m n).active ∨ (dmaOf m n).desc.isSome ∨ (dmaOf m n).last ∨ !dmaMoves m n then m
  else
    let a := dmaCur m n
    let take (m : Mach) (b : List Byte) : Mach :=
      if m.dv D.dma_chain_limit ≤ (dmaOf m n).walked then dmaEnd (dmaFaultSet m n a) n LOOP_SUSPECT
      else match descCode b a with
        | some c => dmaEnd m n c
        | none => dmaMod m n (fun c => { c with desc := some b, walked := c.walked + 1, tmo := false })
    if m.flag R.DMA.CH_CTRL.DESC_SPACE n then
      match host with
      | some b => take m (slice b 0 32)
      | none => m
    else match accessFault m (dmaPrincipal m n) a 32 false with
      | some e => dmaHalt m n e false
      | none => take (noteReads m (dmaMaster n) [(a, 32)]) (d.read a 32)

/-- Whether a descriptor is copied from the highest unit downward (R498). -/
def descDown (b : List Byte) : Bool :=
  bit (dCtrl b) 2 == bit (dCtrl b) 3 && decide (dSrc b < dDst b) && decide (dDst b < dSrc b + dLen b)

/-- The elements of a descriptor in the order they are copied (R496-R498); `data` is what host memory answers. -/
def descXfers (b data : List Byte) : List Xfer :=
  let u := swapUnit (dSwap b)
  let idx := List.range (dLen b / u)
  (if descDown b then idx.reverse else idx).map (fun i =>
    if bit (dCtrl b) 2 then
      { rd := [], host := bit (dCtrl b) 3, wa := dDst b + i * u, wn := u, f := fun _ => swapBytes (dSwap b) (slice data (i * u) u) }
    else
      { rd := [(dSrc b + i * u, u)], host := bit (dCtrl b) 3, wa := dDst b + i * u, wn := u,
        f := fun l => swapBytes (dSwap b) (slice (l.headD []) 0 u) })

/-- A descriptor left in progress: its destination holds an undefined mix (R503). What came from host memory is unknown as well. -/
def descMixed (d : Mem) (m : Mach) (n : Nat) (b : List Byte) : Effect :=
  let (data, m) := if bit (dCtrl b) 2 then m.drawBytes (dLen b) else ([], m)
  let r := xfers m (dmaPrincipal m n) d (descXfers b data)
  let (w, m) := mixWrites d m (devWrites r.2)
  let m := m.each (hostWrites r.2) (fun m o =>
    let (k, m) := m.draw 2
    if k = 0 then m else m.emit o)
  ⟨noteWrites m (dmaMaster n) w, w, false⟩

/-- The descriptor at CUR completes: status, event, count, and the next one (R496, R503, R504). -/
def descDone (m : Mach) (n : Nat) (b : List Byte) : Mach :=
  let m := m.add R.DMA.CH_COUNT.COUNT 1 n
  let m := m.evIf (bit (dCtrl b) 4) E.DMA.DESC_DONE n
  if dNext b = 0 then dmaMod m n (fun c => { c with desc := none, last := true, tmo := false })
  else
    let m := dmaCurSet (dmaMod m n (fun c => { c with desc := none, tmo := false })) n (dNext b)
    if m.rd R.DMA.CH_STATUS.STATE n = 3 then
      let m := (m.wr R.DMA.CH_STATUS.STATE 4 n).wr R.DMA.CH_STATUS.REASON DMA_DRAINED n
      chimRelease (m.ev E.DMA.DRAINED n) C_DMA n
    else m

/-- DMA_DESCRIPTOR_DONE: `host` is the descriptor, and `data` the source bytes, that host memory answers where they lie there. -/
def dmaDescriptorDone (d : Mem) (m : Mach) (n : Nat) (host data : List Byte) : Effect :=
  let m := dmaFetch d m n (some host)
  match (dmaOf m n).desc with
  | none => ⟨dmaRefresh m, [], false⟩
  | some b =>
    if !dmaMoves m n then ⟨m, [], false⟩
    else
      let p := dmaPrincipal m n
      let r := xfers m p d (descXfers b data)
      match r.1 with
      | some e =>
        let (w, m) := mixWrites d m (devWrites r.2)
        let m := dmaHalt (noteWrites m (dmaMaster n) w) n e false
        ⟨dmaRefresh m, w, false⟩
      | none =>
        let w := devWrites r.2
        let m := noteWrites (noteReads m (dmaMaster n) (if bit (dCtrl b) 2 then [] else [(dSrc b, dLen b)])) (dmaMaster n) w
        let m := m.emits (hostWrites r.2)
        let m := snoopBytes m n ((r.2.map (fun x => x.2.2)).foldr (· ++ ·) []) (descDown b)
        let cur := dmaCur m n
        let fin (m : Mach) (w : List (Nat × List Byte)) : Effect :=
          let m := descDone m n b
          ⟨dmaRefresh (dmaFetch (applyWrites d w) m n none), w, false⟩
        if !bit (dCtrl b) 5 then fin m w
        else if m.flag R.DMA.CH_CTRL.DESC_SPACE n then fin (m.emit (.hostWrite (cur + 22) [0xC0])) w
        else match accessFault m p (cur + 22) 1 true with
          | some e => ⟨dmaRefresh (dmaHalt m n e true), w, false⟩
          | none => fin (noteWrites m (dmaMaster n) [(cur + 22, [0xC0])]) (w ++ [(cur + 22, [0xC0])])

def execDmaDescriptorDone (n : Nat) (host data : List Byte) (s : State) : Out' :=
  onW s (fun d m => dmaDescriptorDone d m n host data)

/-- DMA_RUN_DONE (R503): the last descriptor's data are visible. -/
def execDmaRunDone (n : Nat) (s : State) : Out' :=
  onM s (fun m => if (dmaOf m n).active && (dmaOf m n).last then dmaEnd m n DMA_DONE else m)

/-- Whether a principal may write a channel's registers (R495); a denial is recorded. -/
def dmaOwned (m : Mach) (n : Nat) (p : Principal) : Bool × Mach :=
  if p = dmaPrincipal m n then (true, m)
  else (false, fwallDeny m p true true 31 (if p = .host then 0x11 else if p = .bed then 0 else 1) (0x02501000 + n * 0x100))

/-- DMA_START (R501): START written by a principal. -/
def execDmaStart (n : Nat) (p : Principal) (s : State) : Out' :=
  onM s (fun m =>
    let (ok, m) := dmaOwned m n p
    if ok then dmaStart m n else m)

/-- The run of a channel ends ABORTED with a code; a descriptor in progress leaves a mix. -/
def dmaCut (d : Mem) (m : Mach) (n code : Nat) : Effect :=
  match (dmaOf m n).desc with
  | some b =>
    let e := descMixed d m n b
    { e with m := dmaEnd e.m n code }
  | none => ⟨dmaEnd m n code, [], false⟩

/-- DMA_ABORT (R503). -/
def execDmaAbort (n : Nat) (p : Principal) (s : State) : Out' :=
  onW s (fun d m =>
    let (ok, m) := dmaOwned m n p
    if !ok then ⟨m, [], false⟩
    else if (dmaOf m n).active then dmaCut d m n DMA_ABORTED
    else ⟨m.wr R.DMA.CH_STATUS.LATE 1 n, [], false⟩)

/-- DMA_FORCE_STOP (R503): the run ends, ENABLE is cleared, a held start discarded. -/
def execDmaForceStop (n : Nat) (p : Principal) (s : State) : Out' :=
  onW s (fun d m =>
    let (ok, m) := dmaOwned m n p
    if !ok then ⟨m, [], false⟩
    else dmaCut d ((m.wr R.DMA.CH_CTRL.ENABLE 0 n).wr R.DMA.CH_STATUS.HELD 0 n) n ABORTED_BY_DISABLE)

/-- DMA_DRAIN (R504): ENABLE written as 0 drains, as 1 continues. -/
def dmaDrain (m : Mach) (n : Nat) (enable : Bool) : Mach :=
  let st := m.rd R.DMA.CH_STATUS.STATE n
  let m := m.wr R.DMA.CH_CTRL.ENABLE (b2n enable) n
  if enable then
    if (dmaOf m n).active then
      if st = 4 then dmaRefresh (chimRequest (m.wr R.DMA.CH_STATUS.STATE 1 n) C_DMA n (m.dv D.dma_tokens))
      else if st = 3 then m.wr R.DMA.CH_STATUS.STATE (if hasGrant m C_DMA n then 2 else 1) n
      else m
    else dmaRefresh (dmaHeld (if st = 4 then m.wr R.DMA.CH_STATUS.STATE 0 n else m) n)
  else if !(dmaOf m n).active ∨ st = 4 then m
  else if (dmaOf m n).desc.isSome ∨ (dmaOf m n).last then dmaRefresh (m.wr R.DMA.CH_STATUS.STATE 3 n)
  else
    let m := (m.wr R.DMA.CH_STATUS.STATE 4 n).wr R.DMA.CH_STATUS.REASON DMA_DRAINED n
    dmaRefresh (chimRelease (m.ev E.DMA.DRAINED n) C_DMA n)

def execDmaDrain (n : Nat) (enable : Bool) (p : Principal) (s : State) : Out' :=
  onM s (fun m =>
    let (ok, m) := dmaOwned m n p
    if ok then dmaDrain m n enable else m)

/-- DMA_ACCESS_TIMEOUT (R500): a transient in the channel's bucket and a second attempt, which then halts the run. -/
def dmaTimeout (d : Mem) (m : Mach) (n a : Nat) : Effect :=
  if !(dmaOf m n).active ∨ !dmaMoves m n then ⟨m, [], false⟩
  else
    let m := hev (m.add R.DMA.BUS_TIMEOUTS.COUNT 1) 228
    if (dmaOf m n).tmo then dmaCut d (dmaFaultSet m n a) n BUS_TIMEOUT
    else ⟨(bucketAdd (dmaMod m n (fun c => { c with tmo := true })) 10 n 1 BUS_TIMEOUT (a % 2 ^ 32)).2, [], false⟩

def execDmaAccessTimeout (n a : Nat) (s : State) : Out' := onW s (fun d m => dmaTimeout d m n a)

end Sys2Proof.Machine
end

