-- ==== Sys2Proof/Machine/Inflate.lean ====
section
/-!
DEFINITION. Decompression of the raw format of RFC 1951 as the DEFLATE engine judges it: the first failure in stream order ends it
(spec/15_blit_crc_deflate.md R542-R545). What the RFC defines (bit order, code tables, alphabets) is taken from it
(assumption log 53).
-/
namespace Sys2Proof.Machine

def DEFL_OUTPUT_FULL : Nat := 0xE0
def DEFL_BAD_BLOCK_TYPE : Nat := 0xE1
def DEFL_STORED_LEN : Nat := 0xE2
def DEFL_BAD_CODE_LENGTHS : Nat := 0xE3
def DEFL_BAD_SYMBOL : Nat := 0xE4
def DEFL_DIST_TOO_FAR : Nat := 0xE5
def DEFL_INPUT_END : Nat := 0xE6
def DEFL_CRC_MISMATCH : Nat := 0xE7

/-- A decompression under way: bit position, output newest byte first and its length. -/
structure Infl where
  pos : Nat
  out : List Byte
  len : Nat
  deriving DecidableEq, Repr

/-- How it ended: 0 or a code of R544, the bit at which the failing element begins, and the state reached. -/
structure InflEnd where
  code : Nat
  at_  : Nat
  st   : Infl
  deriving DecidableEq, Repr

/-- Either a value and the state after it, or the failure. -/
abbrev InflM (α : Type) := Except InflEnd (α × Infl)

/-- A failure of the element that begins at bit `p`. -/
def inflFail {α : Type} (code p : Nat) (s : Infl) : InflM α := .error ⟨code, p, s⟩

/-- One bit of the input. -/
def inBit (b : List Byte) (p : Nat) : Option Nat := (b[p / 8]?).map (fun x => x.toNat / 2 ^ (p % 8) % 2)

/-- `n` bits, the first lowest, of the element that begins at `p`. -/
def inBits (b : List Byte) (p : Nat) (s : Infl) (n : Nat) : InflM Nat :=
  match (List.range n).mapM (fun k => inBit b (s.pos + k)) with
  | some l => .ok (l.foldr (fun x acc => x + 2 * acc) 0, { s with pos := s.pos + n })
  | none => inflFail DEFL_INPUT_END p s

/-- How many codes of each length 0 to 15 a list of code lengths has. -/
def huffCount (l : List Nat) : List Nat := (List.range 16).map (fun n => (l.filter (· == n)).length)

/-- Places left of a code of 15 bits; none where the lengths are over-subscribed. -/
def huffLeft (l : List Nat) : Option Nat :=
  let c := huffCount l
  (List.range 15).foldl (fun acc k => acc.bind (fun left =>
    let n := c.getD (k + 1) 0
    if 2 * left < n then none else some (2 * left - n))) (some 1)

/-- Whether code lengths make a complete code. -/
def huffComplete (l : List Nat) : Bool := huffLeft l == some 0

/-- A distance code may also have no code at all, or a single code of one bit (RFC 1951, 3.2.7). -/
def huffDistOk (l : List Nat) : Bool :=
  huffComplete l || l.all (· == 0) || ((l.filter (· != 0)) == [1])

/-- Symbols in the order of their codes: by length, then by symbol. -/
def huffSyms (l : List Nat) : List Nat :=
  (List.range 15).foldr (fun k acc => (List.range l.length).filter (fun i => l.getD i 0 == k + 1) ++ acc) []

/-- Decode one symbol: `first` code and `index` of the length under test. -/
def huffWalk (b : List Byte) (counts syms : List Nat) (p : Nat) (s : Infl) : Nat → Nat → Nat → Nat → Nat → InflM Nat
  | 0, _, _, _, _ => inflFail DEFL_BAD_SYMBOL p s
  | fuel + 1, n, code, first, index =>
    match inBit b (s.pos + n) with
    | none => inflFail DEFL_INPUT_END p s
    | some x =>
      let code := code + x
      let c := counts.getD (n + 1) 0
      if code < first + c then .ok (syms.getD (index + (code - first)) 0, { s with pos := s.pos + n + 1 })
      else huffWalk b counts syms p s fuel (n + 1) (2 * code) (2 * (first + c)) (index + c)

/-- Decode one symbol with a code's lengths. -/
def huffDecode (b : List Byte) (lens : List Nat) (p : Nat) (s : Infl) : InflM Nat :=
  huffWalk b (huffCount lens) (huffSyms lens) p s 15 0 0 0 0

/-- Put a byte out. -/
def inflPut (cap p : Nat) (s : Infl) (x : Byte) : InflM Unit :=
  if cap ≤ s.len then inflFail DEFL_OUTPUT_FULL p s else .ok ((), { s with out := x :: s.out, len := s.len + 1 })

/-- Copy `n` bytes from `dist` back. -/
def inflCopy (cap p dist : Nat) : Nat → Infl → InflM Unit
  | 0, s => .ok ((), s)
  | n + 1, s =>
    match inflPut cap p s (s.out.getD (dist - 1) 0) with
    | .error e => .error e
    | .ok (_, s) => inflCopy cap p dist n s

/-- Stored bytes (3.2.4). -/
def inflStoredBytes (b : List Byte) (cap : Nat) : Nat → Infl → InflM Unit
  | 0, s => .ok ((), s)
  | n + 1, s =>
    match inBits b s.pos s 8 with
    | .error e => .error e
    | .ok (x, s') => match inflPut cap s.pos s' (BitVec.ofNat 8 x) with
      | .error e => .error e
      | .ok (_, s'') => inflStoredBytes b cap n s''

/-- A stored block. -/
def inflStored (b : List Byte) (cap : Nat) (s : Infl) : InflM Unit :=
  let s := { s with pos := (s.pos + 7) / 8 * 8 }
  let p := s.pos
  match inBits b p s 16 with
  | .error e => .error e
  | .ok (n, s1) => match inBits b p s1 16 with
    | .error e => .error e
    | .ok (c, s2) => if n + c ≠ 65535 then inflFail DEFL_STORED_LEN p s2 else inflStoredBytes b cap n s2

/-- Length codes (3.2.5): base and extra bits of symbol 257 + k. -/
def lenBase : List Nat := [3, 4, 5, 6, 7, 8, 9, 10, 11, 13, 15, 17, 19, 23, 27, 31, 35, 43, 51, 59, 67, 83, 99, 115, 131, 163, 195, 227, 258]
def lenExtra : List Nat := [0, 0, 0, 0, 0, 0, 0, 0, 1, 1, 1, 1, 2, 2, 2, 2, 3, 3, 3, 3, 4, 4, 4, 4, 5, 5, 5, 5, 0]

/-- Distance codes. -/
def distExtra (k : Nat) : Nat := if k < 4 then 0 else k / 2 - 1
def distBase (k : Nat) : Nat := if k < 4 then k + 1 else (2 + k % 2) * 2 ^ (k / 2 - 1) + 1

/-- Symbols of a compressed block until its end. -/
def inflCodes (b : List Byte) (cap : Nat) (lit dist : List Nat) : Nat → Infl → InflM Unit
  | 0, s => inflFail DEFL_INPUT_END s.pos s
  | fuel + 1, s =>
    let p := s.pos
    match huffDecode b lit p s with
    | .error e => .error e
    | .ok (sym, s) =>
      if sym < 256 then
        match inflPut cap p s (BitVec.ofNat 8 sym) with
        | .error e => .error e
        | .ok (_, s) => inflCodes b cap lit dist fuel s
      else if sym = 256 then .ok ((), s)
      else if 286 ≤ sym then inflFail DEFL_BAD_SYMBOL p s
      else match inBits b p s (lenExtra.getD (sym - 257) 0) with
        | .error e => .error e
        | .ok (x, s) =>
          let n := lenBase.getD (sym - 257) 0 + x
          let q := s.pos
          match huffDecode b dist q s with
          | .error e => .error e
          | .ok (ds, s) =>
            if 30 ≤ ds then inflFail DEFL_BAD_SYMBOL q s
            else match inBits b q s (distExtra ds) with
              | .error e => .error e
              | .ok (y, s) =>
                let far := distBase ds + y
                if s.len < far then inflFail DEFL_DIST_TOO_FAR q s
                else match inflCopy cap p far n s with
                  | .error e => .error e
                  | .ok (_, s) => inflCodes b cap lit dist fuel s

/-- Code lengths of the fixed block (3.2.6). -/
def fixedLit : List Nat := List.replicate 144 8 ++ List.replicate 112 9 ++ List.replicate 24 7 ++ List.replicate 8 8
def fixedDist : List Nat := List.replicate 32 5

/-- Order of the code length code's lengths (3.2.7). -/
def clOrder : List Nat := [16, 17, 18, 0, 8, 7, 9, 6, 10, 5, 11, 4, 12, 3, 13, 2, 14, 1, 15]

/-- `n` fields of three bits. -/
def inflThrees (b : List Byte) (p : Nat) : Nat → Infl → InflM (List Nat)
  | 0, s => .ok ([], s)
  | n + 1, s => match inBits b p s 3 with
    | .error e => .error e
    | .ok (x, s) => match inflThrees b p n s with
      | .error e => .error e
      | .ok (l, s) => .ok (x :: l, s)

/-- The literal and distance code lengths of a dynamic block, `total` of them (newest first in `acc`). -/
def inflLens (b : List Byte) (cl : List Nat) (total : Nat) : Nat → List Nat → Infl → InflM (List Nat)
  | 0, acc, s => .ok (acc, s)
  | fuel + 1, acc, s =>
    if total ≤ acc.length then .ok (acc, s)
    else
      let p := s.pos
      match huffDecode b cl p s with
      | .error e => .error e
      | .ok (sym, s) =>
        if sym < 16 then inflLens b cl total fuel (sym :: acc) s
        else
          let (ex, base) := if sym = 16 then (2, 3) else if sym = 17 then (3, 3) else (7, 11)
          match inBits b p s ex with
          | .error e => .error e
          | .ok (x, s) =>
            let n := base + x
            match (if sym = 16 then acc.head? else some 0) with
            | none => inflFail DEFL_BAD_CODE_LENGTHS p s
            | some v =>
              if total < acc.length + n then inflFail DEFL_BAD_CODE_LENGTHS p s
              else inflLens b cl total fuel (List.replicate n v ++ acc) s

/-- A dynamic block (3.2.7). -/
def inflDynamic (b : List Byte) (cap fuel : Nat) (s : Infl) : InflM Unit :=
  let p := s.pos
  match inBits b p s 5 with
  | .error e => .error e
  | .ok (hl, s) => match inBits b p s 5 with
    | .error e => .error e
    | .ok (hd, s) => match inBits b p s 4 with
      | .error e => .error e
      | .ok (hc, s) =>
        let q := s.pos
        match inflThrees b q (hc + 4) s with
        | .error e => .error e
        | .ok (t, s) =>
          let cl := (List.range 19).map (fun i => match (clOrder.zip t).find? (fun e => e.1 == i) with
            | some e => e.2
            | none => 0)
          if !huffComplete cl then inflFail DEFL_BAD_CODE_LENGTHS q s
          else
            let r := s.pos
            match inflLens b cl (hl + 257 + hd + 1) 320 [] s with
            | .error e => .error e
            | .ok (acc, s) =>
              let l := acc.reverse
              let lit := l.take (hl + 257)
              let dist := l.drop (hl + 257)
              if !huffComplete lit || !huffDistOk dist then inflFail DEFL_BAD_CODE_LENGTHS r s
              else inflCodes b cap lit dist fuel s

/-- Blocks until the final one. -/
def inflBlocks (b : List Byte) (cap : Nat) : Nat → Infl → InflM Unit
  | 0, s => inflFail DEFL_INPUT_END s.pos s
  | fuel + 1, s =>
    let p := s.pos
    match inBits b p s 1 with
    | .error e => .error e
    | .ok (fin, s) => match inBits b p s 2 with
      | .error e => .error e
      | .ok (ty, s) =>
        let work := 8 * b.length + 1
        let r := match ty with
          | 0 => inflStored b cap s
          | 1 => inflCodes b cap fixedLit fixedDist work s
          | 2 => inflDynamic b cap work s
          | _ => inflFail DEFL_BAD_BLOCK_TYPE p s
        match r with
        | .error e => .error e
        | .ok (_, s) => if fin = 1 then .ok ((), s) else inflBlocks b cap fuel s

/-- Decompress `b` into at most `cap` bytes. -/
def inflate (b : List Byte) (cap : Nat) : InflEnd :=
  match inflBlocks b cap (8 * b.length + 1) ⟨0, [], 0⟩ with
  | .error e => e
  | .ok (_, s) => ⟨0, 0, s⟩

/-- The bytes put out, first first. -/
def InflEnd.bytes (e : InflEnd) : List Byte := e.st.out.reverse

/-- Input bytes consumed, a partly used last byte counted (R544). -/
def InflEnd.used (e : InflEnd) : Nat := (e.st.pos + 7) / 8

end Sys2Proof.Machine
end

