-- ==== Sys2Proof/Machine/SideCmds.lean ====
section
/-!
DEFINITION. The commands of the blit engine, the CRC units and both job engines together (spec/15_blit_crc_deflate.md R515-R541).
-/
namespace Sys2Proof.Machine

/-! ## Jobs (R515, R518, R519) -/

/-- The master of an engine (R717). -/
def sideMaster (e : Nat) : Nat := if e = 0 then 0x30 else 0x35

/-- A GO is refused (R515). -/
def goRefused (m : Mach) (e code : Nat) : Mach :=
  let m := m.wr (R.BLIT.STATUS.LAST_CODE.eng e) code
  (hev (m.add (R.BLIT.GOS_REFUSED.COUNT.eng e) 1) (258 + 3 * e)).ev (sideEv e E.BLIT.REFUSED E.DEFL.REFUSED)

/-- A GO (R515, R699): refused with a code, or accepted with the next job number. Answers the code, 0 where accepted. -/
def sideGo (m : Mach) (e : Nat) (p : Principal) (n : Nat) (check : List Byte → Nat) : Nat × Mach :=
  let img := regBytes m (0x02600010 + e * 0x200000) n
  let code := if isRetired m (11 + 2 * e) 0 then UNIT_RETIRED
    else if 4 ≤ (sideOf m e).jobs.length then JOB_QUEUE_FULL
    else check img
  if code ≠ 0 then (code, goRefused m e code)
  else
    let num := m.rd (R.BLIT.STATUS.NEXT_JOB.eng e)
    let m := m.wr (R.BLIT.STATUS.NEXT_JOB.eng e) (num + 1)
    let m := sideMod m e (fun s => { s with jobs := s.jobs ++ [⟨num, p, img⟩] })
    (0, sideNext m e)

/-- Whether a draining job waits at its pause point (R555). -/
def jobPaused (m : Mach) (e : Nat) : Bool :=
  match (sideOf m e).jobs with
  | j :: _ => jobTokens m e j != 0 && !stillGranted m (sideClass e) 0
  | [] => false

/-- The running job of an engine, where its work has begun. -/
def runningJob (m : Mach) (e : Nat) : Option Job :=
  if (sideOf m e).busy && (sideState m e == 2 || (sideState m e == 3 && !jobPaused m e)) then (sideOf m e).jobs.head? else none

/-- A job halts on an access (R516). -/
def sideHalt (m : Mach) (e : Nat) (p : Principal) (f : Nat × Nat) (write : Bool) : Mach :=
  let m := noteFault m p (sideMaster e) f write
  let m := if e = 0 then (m.wr R.BLIT.FAULT_LO.ADDR_LO (f.2 % 2 ^ 32)).wr R.BLIT.FAULT_HI.ADDR_HI (f.2 / 2 ^ 32)
    else (m.wr R.DEFL.FAULT_LO.ADDR_LO (f.2 % 2 ^ 32)).wr R.DEFL.FAULT_HI.ADDR_HI (f.2 / 2 ^ 32)
  sideEnd m e f.1

/-! ## Pixels (R521-R527; R263) -/

/-- The staging fields of a blit job. -/
def Job.op (j : Job) : Nat := bits (j.word 0x10) 1 0
def Job.rot (j : Job) : Nat := bits (j.word 0x10) 7 6
def Job.mirX (j : Job) : Bool := bit (j.word 0x10) 9
def Job.mirY (j : Job) : Bool := bit (j.word 0x10) 10
def Job.clipOut (j : Job) : Bool := bit (j.word 0x10) 11
def Job.clipEn (j : Job) : Nat := bits (j.word 0x10) 15 12
def Job.alpha (j : Job) : Nat := bits (j.word 0x10) 24 16
def Job.srcFmt (j : Job) : Nat := bits (j.word 0x14) 2 0
def Job.dstFmt (j : Job) : Nat := bits (j.word 0x14) 10 8
def Job.srcBase (j : Job) : Nat := j.word 0x18 + 2 ^ 32 * j.word 0x1C
def Job.srcPitch (j : Job) : Nat := j.word 0x20
def Job.srcX (j : Job) : Nat := j.word 0x24 % 65536
def Job.srcY (j : Job) : Nat := j.word 0x24 / 65536
def Job.w (j : Job) : Nat := j.word 0x28 % 65536
def Job.h (j : Job) : Nat := j.word 0x28 / 65536
def Job.dstBase (j : Job) : Nat := j.word 0x2C + 2 ^ 32 * j.word 0x30
def Job.dstPitch (j : Job) : Nat := j.word 0x34
def Job.dstX (j : Job) : Nat := j.word 0x38 % 65536
def Job.dstY (j : Job) : Nat := j.word 0x38 / 65536
def Job.fill (j : Job) : Nat := j.word 0x3C + 2 ^ 32 * j.word 0x40

/-- W' and H' (R526); FILL ignores the transform (R523). -/
def Job.turned (j : Job) : Bool := j.op != 1 && j.rot % 2 == 1
def Job.w2 (j : Job) : Nat := if j.turned then j.h else j.w
def Job.h2 (j : Job) : Nat := if j.turned then j.w else j.h

/-- The byte extent of a rectangle (R528). -/
def extent (base pitch x y w h bpp : Nat) : Nat × Nat := (base + y * pitch + x * bpp, base + (y + h - 1) * pitch + (x + w) * bpp)

/-- The rule of pitches (R522, R526). -/
def pitchOk (base pitch x w bpp : Nat) : Bool :=
  base % bpp == 0 && pitch % bpp == 0 && decide (pitch ≤ 1048576) && decide ((x + w) * bpp ≤ pitch)

/-- Format pairings of R521. -/
def pairOk (op s d : Nat) : Bool :=
  match op with
  | 0 => (s ≤ 1 && d ≤ 1) || (s == d && s ≤ 4)
  | 1 => d ≤ 4
  | _ => s == d && s ≤ 2

/-- The checks of a blit job (R521-R528); 0 where it passes. -/
def blitCheck (img : List Byte) : Nat :=
  let j : Job := ⟨0, .fw, img⟩
  let sb := pixBytes j.srcFmt
  let db := pixBytes j.dstFmt
  let src := j.op != 1
  if j.op = 3 ∨ !pairOk j.op j.srcFmt j.dstFmt then JOB_BAD_PARAM
  else if j.w = 0 ∨ 16384 < j.w ∨ j.h = 0 ∨ 16384 < j.h then JOB_BAD_PARAM
  else if src && !pitchOk j.srcBase j.srcPitch j.srcX j.w sb then JOB_BAD_PARAM
  else if !pitchOk j.dstBase j.dstPitch j.dstX j.w2 db then JOB_BAD_PARAM
  else if src && decide (256 < j.alpha) then JOB_BAD_PARAM
  else if j.op = 1 ∧ 2 ^ (8 * db) ≤ j.fill then JOB_BAD_PARAM
  else if !src then 0
  else
    let a := extent j.srcBase j.srcPitch j.srcX j.srcY j.w j.h sb
    let b := extent j.dstBase j.dstPitch j.dstX j.dstY j.w2 j.h2 db
    if a.2 ≤ b.1 ∨ b.2 ≤ a.1 then 0
    else if j.rot ≠ 0 ∨ j.mirX ∨ j.mirY then OVERLAP_TRANSFORM
    else if j.srcBase ≠ j.dstBase ∨ j.srcPitch ≠ j.dstPitch ∨ j.srcFmt ≠ j.dstFmt then OVERLAP_LAYOUT
    else 0

/-- The place of a source pixel in the destination rectangle (R526). -/
def Job.placeOf (j : Job) (i k : Nat) : Nat × Nat :=
  let i := if j.mirX then j.w - 1 - i else i
  let k := if j.mirY then j.h - 1 - k else k
  match j.rot with
  | 0 => (i, k)
  | 1 => (j.h - 1 - k, i)
  | 2 => (j.w - 1 - i, j.h - 1 - k)
  | _ => (k, j.w - 1 - i)

/-- Whether a destination image position is written (R527). -/
def Job.clips (j : Job) (x y : Nat) : Bool :=
  if j.clipEn = 0 then true
  else
    let inside := (bitList 4 j.clipEn).any (fun k =>
      let xy := j.word (0x44 + 8 * k)
      let wh := j.word (0x48 + 8 * k)
      decide (xy % 65536 ≤ x) && decide (x < xy % 65536 + wh % 65536) &&
      decide (xy / 65536 ≤ y) && decide (y < xy / 65536 + wh / 65536))
    if j.clipOut then !inside else inside

/-- Conversion of a pixel between formats 0 and 1 (R524); others are copied. -/
def convPixel (s d : Nat) (v : Nat) : Nat :=
  if s = 0 ∧ d = 1 then
    let c (n : Nat) : Nat := let b := bits v (n + 7) n; b * 4 + b / 64
    let a := (rdiv ((bits v 31 24 : Nat) * 3) 255).toNat
    a * 2 ^ 30 + c 16 * 2 ^ 20 + c 8 * 2 ^ 10 + c 0
  else if s = 1 ∧ d = 0 then
    let c (n : Nat) : Nat := (rdiv ((bits v (n + 9) n : Nat) * 255) 1023).toNat
    (bits v 31 30 * 85) * 2 ^ 24 + c 20 * 2 ^ 16 + c 10 * 2 ^ 8 + c 0
  else v

/-- One straight-alpha channel of BLEND (R525). -/
def blendChannel (sa da oa : Int) (sc dc : Nat) : Nat :=
  if oa = 0 then 0 else (rdiv (sa * sc + rsh ((65536 - sa) * da) 16 * dc) oa).toNat

/-- BLEND of a source pixel over a destination pixel of one format (R525); the alpha of R263. -/
def blendPixel (f : Nat) (g s d : Nat) : Nat :=
  if f = 2 then
    let sa : Int := (rdiv ((bits s 63 48 : Nat) * 65536) 65535 * g) / 256
    let col (lo : Nat) : Nat :=
      let v : Int := (((bits s (lo + 15) lo * g) / 256 : Nat) : Int) + rsh ((65536 - sa) * (bits d (lo + 15) lo : Nat)) 16
      (if v < 65535 then v else 65535).toNat
    let oa := sa + rsh ((65536 - sa) * rdiv ((bits d 63 48 : Nat) * 65536) 65535) 16
    (rdiv (oa * 65535) 65536).toNat * 2 ^ 48 + col 32 * 2 ^ 32 + col 16 * 2 ^ 16 + col 0
  else
    let top := if f = 0 then 255 else 3
    let al (v : Nat) : Int := rdiv ((if f = 0 then bits v 31 24 else bits v 31 30 : Nat) * 65536) top
    let sa := al s * g / 256
    let da := al d
    let oa := sa + rsh ((65536 - sa) * da) 16
    let w := if f = 0 then 8 else 10
    let ch (k : Nat) : Nat := blendChannel sa da oa (bits s (k * w + w - 1) (k * w)) (bits d (k * w + w - 1) (k * w)) * 2 ^ (k * w)
    (rdiv (oa * top) 65536).toNat * 2 ^ (if f = 0 then 24 else 30) + ch 2 + ch 1 + ch 0

/-- Whether source and destination overlap (R528). -/
def Job.overlaps (j : Job) : Bool :=
  let a := extent j.srcBase j.srcPitch j.srcX j.srcY j.w j.h (pixBytes j.srcFmt)
  let b := extent j.dstBase j.dstPitch j.dstX j.dstY j.w2 j.h2 (pixBytes j.dstFmt)
  j.op != 1 && decide (b.1 < a.2) && decide (a.1 < b.2)

/-- Rows run bottom-up, pixels right-to-left, where an overlap asks for it (R528). -/
def Job.up (j : Job) : Bool := j.overlaps && decide (j.srcY < j.dstY)
def Job.leftward (j : Job) : Bool := j.overlaps && decide (j.srcX < j.dstX)

/-- The pixels of a job in processing order: source positions (i, k) of the W by H rectangle. -/
def Job.order (j : Job) : List (Nat × Nat) :=
  let rows := if j.up then (List.range j.h).reverse else List.range j.h
  let cols := if j.leftward then (List.range j.w).reverse else List.range j.w
  rows.foldr (fun k acc => cols.map (fun i => (i, k)) ++ acc) []

/-- The elements of a blit job (R523-R528). -/
def blitXfers (j : Job) : List Xfer :=
  let sb := pixBytes j.srcFmt
  let db := pixBytes j.dstFmt
  j.order.filterMap (fun p =>
    let q := if j.op = 1 then p else j.placeOf p.1 p.2
    let x := j.dstX + q.1
    let y := j.dstY + q.2
    let da := j.dstBase + y * j.dstPitch + x * db
    let sa := j.srcBase + (j.srcY + p.2) * j.srcPitch + (j.srcX + p.1) * sb
    if !j.clips x y then none
    else if j.op = 0 then
      some { rd := [(sa, sb)], host := false, wa := da, wn := db, f := fun l => toLE db (convPixel j.srcFmt j.dstFmt (fromLE (l.headD []))) }
    else if j.op = 1 then some { rd := [], host := false, wa := da, wn := db, f := fun _ => toLE db j.fill }
    else
      some { rd := [(sa, sb), (da, db)], host := false, wa := da, wn := db,
             f := fun l => toLE db (blendPixel j.dstFmt j.alpha (fromLE (l.headD [])) (fromLE (l.getD 1 []))) })

/-- A blit job ended before its end leaves a mix (R518). -/
def blitMixed (d : Mem) (m : Mach) (l : List XWrite) : Effect :=
  let (w, m) := mixWrites d m (devWrites l)
  ⟨noteWrites m (sideMaster 0) w, w, false⟩

/-- BLIT_GO (R515). -/
def execBlitGo (p : Principal) (s : State) : Out' := onM s (fun m => (sideGo m 0 p 96 blitCheck).2)

/-- BLIT_JOB_DONE (R516, R523). -/
def blitJobDone (d : Mem) (m : Mach) : Effect :=
  match runningJob m 0 with
  | none => ⟨m, [], false⟩
  | some j =>
    let l := blitXfers j
    let r := xfers m j.who d l
    match r.1 with
    | some f =>
      let e := blitMixed d m r.2
      { e with m := sideHalt e.m 0 j.who f false }
    | none =>
      let w := devWrites r.2
      let rd := l.foldr (fun x acc => x.rd ++ acc) []
      let m := noteWrites (noteReads m (sideMaster 0) rd) (sideMaster 0) w
      let m := snoopBytes m 16 ((w.map (·.2)).foldr (· ++ ·) []) (j.up || j.leftward)
      ⟨sideEnd m 0 JOB_DONE, w, false⟩

def execBlitJobDone (s : State) : Out' := onW s blitJobDone

end Sys2Proof.Machine
end

