-- ==== Sys2Proof/Machine/EngineCmds.lean ====
section
/-!
DEFINITION. The DEFLATE engine's jobs, the CRC units' runs, and the commands the engines share
(spec/15_blit_crc_deflate.md R515-R520, R535-R548).
-/
namespace Sys2Proof.Machine

/-! ## DEFLATE (R542-R545) -/

/-- Staging fields of a DEFLATE job (R547). -/
def Job.dMode (j : Job) : Nat := j.word 0x10 % 2
def Job.dLevel (j : Job) : Nat := bits (j.word 0x10) 2 1
def Job.dCheck (j : Job) : Bool := bit (j.word 0x10) 3
def Job.dSrc (j : Job) : Nat := j.word 0x14 + 2 ^ 32 * j.word 0x18
def Job.dSrcLen (j : Job) : Nat := j.word 0x1C
def Job.dDst (j : Job) : Nat := j.word 0x20 + 2 ^ 32 * j.word 0x24
def Job.dCap (j : Job) : Nat := j.word 0x28
def Job.dExpect (j : Job) : Nat := j.word 0x2C

/-- The checks of a DEFLATE job (R542); 0 where it passes. -/
def deflCheck (img : List Byte) : Nat :=
  let j : Job := ⟨0, .fw, img⟩
  if j.dMode = 0 ∧ j.dLevel = 3 then JOB_BAD_PARAM
  else if j.dSrcLen = 0 ∨ 2 ^ 30 < j.dSrcLen ∨ j.dCap = 0 ∨ 2 ^ 31 < j.dCap then JOB_BAD_PARAM
  else if j.dSrc < j.dDst + j.dCap ∧ j.dDst < j.dSrc + j.dSrcLen then OVERLAP_LAYOUT
  else 0

/-- DEFLATE_GO (R515). -/
def execDeflateGo (p : Principal) (s : State) : Out' := onM s (fun m => (sideGo m 1 p 36 deflCheck).2)

/-- CRC-32 of bytes (R535). -/
def crc32 (b : List Byte) : Nat := Nat.xor (crcFold 1 (crcInit 1) b) (crcFinal 1)

/-- How far a range may be accessed: its length, or the first fault and the bytes before it. -/
def reach (m : Mach) (p : Principal) (a n : Nat) (write : Bool) : Nat × Option (Nat × Nat) :=
  match (List.range n).findSome? (fun i => (accessFault m p (a + i) 1 write).map (fun e => (i, e))) with
  | some r => (r.1, some r.2)
  | none => (n, none)

/-- What a job comes to before its final state: the input read, the output made, what ends it (0: it runs to its end; a fault's code with its address;
a code of R544 with its offset), and the input used. -/
structure DeflRun where
  out  : List Byte
  code : Nat
  flt  : Option (Nat × Nat)
  off  : Nat
  used : Nat
  inp  : List Byte
  deriving DecidableEq, Repr

/-- A decompression: whichever of a failure and an access fault comes first in the stream ends it. -/
def inflateJob (d : Mem) (m : Mach) (j : Job) : DeflRun :=
  let ri := reach m j.who j.dSrc j.dSrcLen false
  let inp := d.read j.dSrc ri.1
  let e := inflate inp j.dCap
  let inp := inp.take e.used
  let ro := reach m j.who j.dDst e.bytes.length true
  match ro.2 with
  | some f => ⟨e.bytes.take ro.1, f.1, some f, 0, e.used, inp⟩
  | none =>
    match ri.2 with
    | some f => if e.code = DEFL_INPUT_END then ⟨e.bytes, f.1, some f, 0, e.used, inp⟩ else ⟨e.bytes, e.code, none, e.at_ / 8, e.used, inp⟩
    | none => ⟨e.bytes, e.code, none, e.at_ / 8, e.used, inp⟩

/-- Longest output of a compression (R543). -/
def deflBound (n : Nat) : Nat := n + 5 * ceilDiv n 65535

/-- Whether a stream is one the engine may emit for an input: final block last, byte-aligned, within the bound, and decoding to the
input (R543). -/
def deflStream (inp stream : List Byte) : Bool :=
  let e := inflate stream inp.length
  e.code == 0 && e.bytes == inp && e.used == stream.length && decide (stream.length ≤ deflBound inp.length)

/-- A compression whose bit stream the manual does not define: `stream` is what this device emits. -/
def deflateJob (d : Mem) (m : Mach) (j : Job) (stream : List Byte) : Option DeflRun :=
  let ri := reach m j.who j.dSrc j.dSrcLen false
  let inp := d.read j.dSrc ri.1
  match ri.2 with
  | some f => some ⟨[], f.1, some f, 0, ri.1, inp⟩
  | none =>
    if !deflStream inp stream then none
    else
      let out := stream.take j.dCap
      let ro := reach m j.who j.dDst out.length true
      match ro.2 with
      | some f => some ⟨out.take ro.1, f.1, some f, 0, inp.length, inp⟩
      | none => some ⟨out, if j.dCap < stream.length then DEFL_OUTPUT_FULL else 0, none, 0, inp.length, inp⟩

/-- RES_ERR (R548). -/
def resErr (m : Mach) (trailing : Bool) (off : Nat) : Mach :=
  (m.wr R.DEFL.RES_ERR.TRAILING (b2n trailing)).wr R.DEFL.RES_ERR.OFFSET (off % 2 ^ 30)

/-- A job's end and its results (R545). -/
def deflateFinish (d : Mem) (m : Mach) (j : Job) (r : DeflRun) : Effect :=
  let p := j.who
  let m := noteReads m (sideMaster 1) [(j.dSrc, r.inp.length)]
  let crc := crc32 (if j.dMode = 0 then r.inp else r.out)
  let bad := j.dMode == 1 && j.dCheck && crc != j.dExpect
  let put (w : List (Nat × List Byte)) (m : Mach) : Mach := noteWrites m (sideMaster 1) w
  let m := snoopBytes m 17 r.inp false
  match r.flt with
  | some f =>
    let (w, m) := mixWrites d (resErr m false 0) [(j.dDst, r.out)]
    ⟨sideHalt (put w m) 1 p f (decide (j.dDst ≤ f.2) && decide (f.2 < j.dDst + j.dCap)), w, false⟩
  | none =>
    if r.code = 0 then
      let w := [(j.dDst, r.out)]
      let m := snoopBytes (put w m) 18 r.out false
      let m := (m.wr R.DEFL.RES_OUT_LEN.LEN r.out.length).wr R.DEFL.RES_IN_USED.USED r.used
      let m := resErr (m.wr R.DEFL.RES_CRC.CRC crc) (decide (r.used < j.dSrcLen)) 0
      ⟨sideEnd m 1 (if bad then DEFL_CRC_MISMATCH else JOB_DONE), w, false⟩
    else if r.code = DEFL_OUTPUT_FULL then
      -- the whole range holds undefined data
      let ro := reach m p j.dDst j.dCap true
      let (b, m) := m.drawBytes ro.1
      let w := [(j.dDst, b)]
      let m := resErr ((put w m).wr R.DEFL.RES_OUT_LEN.LEN 0) false r.off
      ⟨sideEnd m 1 r.code, w, false⟩
    else
      let (w, m) := mixWrites d (resErr m false r.off) [(j.dDst, r.out)]
      ⟨sideEnd (put w m) 1 r.code, w, false⟩

/-- DEFLATE_JOB_DONE. -/
def deflateDone (d : Mem) (m : Mach) (stream : List Byte) : Effect :=
  match runningJob m 1 with
  | none => ⟨m, [], false⟩
  | some j =>
    if j.dMode = 1 then deflateFinish d m j (inflateJob d m j)
    else match deflateJob d m j stream with
      | some r => deflateFinish d m j r
      | none => ⟨m, [], false⟩

def execDeflateJobDone (stream : List Byte) (s : State) : Out' := onW s (fun d m => deflateDone d m stream)

/-! ## Ends that do not wait for the work (R518, R519) -/

/-- The running job of an engine ends ABORTED before its end: what it has written is undefined (R518). -/
def sideCut (d : Mem) (m : Mach) (e code : Nat) : Effect :=
  match (sideOf m e).jobs with
  | [] => ⟨m, [], false⟩
  | j :: _ =>
    if !(sideOf m e).busy then ⟨m, [], false⟩
    else if !(sideOf m e).begun then ⟨sideEnd m e code, [], false⟩
    else if e = 0 then
      let x := blitMixed d m (xfers m j.who d (blitXfers j)).2
      { x with m := sideEnd x.m 0 code }
    else
      let n := if j.dMode = 1 then (inflateJob d m j).out.length else Nat.min j.dCap (deflBound j.dSrcLen)
      let ro := reach m j.who j.dDst n true
      let (new, m) := m.drawBytes ro.1
      let new := if j.dMode = 1 then (inflateJob d m j).out.take ro.1 else new
      let (w, m) := mixWrites d (resErr m false 0) [(j.dDst, new)]
      ⟨sideEnd (noteWrites m (sideMaster 1) w) 1 code, w, false⟩

/-- Whether a CRC unit has a run. -/
def crcActive (m : Mach) (n : Nat) : Bool := m.rd R.CRC.UNIT_STATUS.STATE n != 0

/-- ENGINE_ABORT (R518): engine 0 blit, 1 DEFLATE, 2 to 5 the CRC units. -/
def engineAbort (d : Mem) (m : Mach) (e : Nat) : Effect :=
  if e < 2 then
    if (sideOf m e).busy then sideCut d m e JOB_ABORTED
    else ⟨m.wr (R.BLIT.STATUS.LATE.eng e) 1, [], false⟩
  else if e < 6 then
    if crcActive m (e - 2) then ⟨crcEnd m (e - 2) JOB_ABORTED, [], false⟩
    else ⟨m.wr R.CRC.UNIT_STATUS.LATE 1 (e - 2), [], false⟩
  else ⟨m, [], false⟩

def execEngineAbort (e : Nat) (s : State) : Out' := onW s (fun d m => engineAbort d m e)

/-- ENGINE_FORCE_STOP (R519): the running job ends and ENABLE is cleared; queued jobs stay queued. -/
def engineForceStop (d : Mem) (m : Mach) (e : Nat) : Effect :=
  if e < 2 then
    let x := sideCut d (m.wr (R.BLIT.CTRL.ENABLE.eng e) 0) e ABORTED_BY_DISABLE
    if sideState x.m e = 4 then x else { x with m := (sideSet x.m e 4).ev (sideEv e E.BLIT.DRAINED E.DEFL.DRAINED) }
  else if e < 6 then
    let m := m.wr R.CRC.UNIT_CTRL.ENABLE 0 (e - 2)
    ⟨if crcActive m (e - 2) then crcEnd m (e - 2) ABORTED_BY_DISABLE else m, [], false⟩
  else ⟨m, [], false⟩

def execEngineForceStop (e : Nat) (s : State) : Out' := onW s (fun d m => engineForceStop d m e)

/-- ENGINE_FLUSH (R519): every queued job that has not started ends ABORTED; a CRC unit has no queue. -/
def engineFlush (m : Mach) (e : Nat) : Mach :=
  if 2 ≤ e then m
  else
    let keep := if (sideOf m e).busy then 1 else 0
    let gone := (sideOf m e).jobs.drop keep
    let m := sideMod m e (fun s => { s with jobs := s.jobs.take keep })
    m.each gone (fun m j => jobFinal m e j.num JOB_FLUSHED)

def execEngineFlush (e : Nat) (s : State) : Out' := onM s (fun m => engineFlush m e)

/-- ENGINE_DRAIN (R519, R538): a write of CTRL.ENABLE. -/
def engineDrain (m : Mach) (e : Nat) (enable : Bool) : Mach :=
  if e < 2 then
    let m := m.wr (R.BLIT.CTRL.ENABLE.eng e) (b2n enable)
    let st := sideState m e
    if enable then
      if !engineMode m.mode then m
      else if st = 3 then sideSet m e (if jobWaits m e then 1 else 2)
      else if st = 4 then sideNext (sideSet m e 0) e
      else sideNext m e
    else if st = 4 then m
    else if (sideOf m e).busy then sideSet m e 3
    else sideStopped m e
  else if e < 6 then
    let n := e - 2
    let m := m.wr R.CRC.UNIT_CTRL.ENABLE (b2n enable) n
    let st := m.rd R.CRC.UNIT_STATUS.STATE n
    if enable then
      if st = 4 && engineMode m.mode then chimRequest (m.wr R.CRC.UNIT_STATUS.STATE 1 n) C_CRC n (m.dv D.crc_tokens) else m
    else if (crcUnit m n).snoop && (st == 2 || st == 3) then crcEnd m n CRC_INCOMPLETE
    else if st = 1 then ((chimRelease m C_CRC n).wr R.CRC.UNIT_STATUS.STATE 4 n).ev E.CRC.STOPPED n
    else m
  else m
where
  /-- Whether the running job still waits for its grant. -/
  jobWaits (m : Mach) (e : Nat) : Bool :=
    match (sideOf m e).jobs with
    | j :: _ => jobTokens m e j != 0 && !hasGrant m (sideClass e) 0
    | [] => false

def execEngineDrain (e : Nat) (enable : Bool) (s : State) : Out' := onM s (fun m => engineDrain m e enable)

/-- ENGINE_ACCESS_TIMEOUT (R516): a transient in the engine's bucket and a second attempt, which then halts the job. -/
def engineTimeout (d : Mem) (m : Mach) (e a : Nat) : Effect :=
  if e < 2 then
    if (runningJob m e).isNone then ⟨m, [], false⟩
    else if (sideOf m e).tmo then
      let m := if e = 0 then (m.wr R.BLIT.FAULT_LO.ADDR_LO (a % 2 ^ 32)).wr R.BLIT.FAULT_HI.ADDR_HI (a / 2 ^ 32)
        else (m.wr R.DEFL.FAULT_LO.ADDR_LO (a % 2 ^ 32)).wr R.DEFL.FAULT_HI.ADDR_HI (a / 2 ^ 32)
      sideCut d m e BUS_TIMEOUT
    else ⟨(bucketAdd (sideMod m e (fun s => { s with tmo := true })) (11 + 2 * e) 0 1 BUS_TIMEOUT (a % 2 ^ 32)).2, [], false⟩
  else if e < 6 then
    let n := e - 2
    if m.rd R.CRC.UNIT_STATUS.STATE n ≠ 2 ∨ (crcUnit m n).snoop then ⟨m, [], false⟩
    else if (crcUnit m n).tmo then
      let m := (m.wr R.CRC.UNIT_FAULT_LO.FAULT (a % 2 ^ 32) n).wr R.CRC.UNIT_FAULT_HI.FAULT (a / 2 ^ 32) n
      ⟨crcEnd m n BUS_TIMEOUT, [], false⟩
    else ⟨(bucketAdd (crcMod m n (fun u => { u with tmo := true })) 12 n 1 BUS_TIMEOUT (a % 2 ^ 32)).2, [], false⟩
  else ⟨m, [], false⟩

def execEngineAccessTimeout (e a : Nat) (s : State) : Out' := onW s (fun d m => engineTimeout d m e a)

/-! ## CRC runs (R536-R538) -/

/-- The master of a unit (R717). -/
def crcMaster (n : Nat) : Nat := 0x31 + n

def crcBase (m : Mach) (n : Nat) : Nat := m.rd R.CRC.UNIT_SCAN_BASE_LO.BASE n + 2 ^ 32 * m.rd R.CRC.UNIT_SCAN_BASE_HI.BASE n
def crcLen (m : Mach) (n : Nat) : Nat := m.rd R.CRC.UNIT_SCAN_LEN_LO.LEN n + 2 ^ 32 * m.rd R.CRC.UNIT_SCAN_LEN_HI.LEN n
def crcCur (m : Mach) (n : Nat) : Nat := m.rd R.CRC.UNIT_CUR_LO.CUR n + 2 ^ 32 * m.rd R.CRC.UNIT_CUR_HI.CUR n

/-- CUR. -/
def crcCurSet (m : Mach) (n a : Nat) : Mach :=
  (m.wr R.CRC.UNIT_CUR_LO.CUR (a % 2 ^ 32) n).wr R.CRC.UNIT_CUR_HI.CUR (a / 2 ^ 32) n

/-- A START is refused (R515, R537). -/
def crcRefused (m : Mach) (n code : Nat) : Mach := (m.wr R.CRC.UNIT_STATUS.LAST_CODE code n).ev E.CRC.REFUSED n

/-- CRC_START (R515, R536, R537): `p` wrote START. -/
def crcStart (m : Mach) (n : Nat) (p : Principal) : Mach :=
  if 4 ≤ n then m
  else if isRetired m 12 n then crcRefused m n UNIT_RETIRED
  else if crcActive m n then crcRefused m n ENGINE_BUSY
  else
    let snoop := m.flag R.CRC.UNIT_CTRL.FEED n
    let src := m.rd R.CRC.UNIT_CTRL.SNOOP_SRC n
    let poly := m.rd R.CRC.UNIT_CTRL.POLY n
    if snoop && decide (19 ≤ src) then crcRefused m n JOB_BAD_PARAM
    else if !snoop && crcLen m n == 0 then crcRefused m n JOB_BAD_PARAM
    else if !m.flag R.CRC.UNIT_CTRL.ENABLE n || !engineMode m.mode then m
    else
      let m := crcMod m n (fun u => { u with who := p, poly := poly, snoop := snoop, src := src, tmo := false })
      let m := crcLoad m n (if m.flag R.CRC.UNIT_CTRL.INIT n then crcInit poly else crcState m n)
      let m := (m.wr R.CRC.UNIT_BYTES.BYTES 0 n).wr R.CRC.UNIT_STATUS.REVERSED 0 n
      let m := m.wr R.CRC.UNIT_STATUS.LATE 0 n
      if snoop then m.wr R.CRC.UNIT_STATUS.STATE 3 n
      else
        let m := crcCurSet m n (crcBase m n)
        chimRequest (m.wr R.CRC.UNIT_STATUS.STATE 1 n) C_CRC n (m.dv D.crc_tokens)

def execCrcStart (n : Nat) (p : Principal) (s : State) : Out' := onM s (fun m => crcStart m n p)

/-- CRC_VALUE_WRITE (R536): a write of VALUE_LO loads the held high half with it; bits beyond the CRC's width are ignored. -/
def crcValueWrite (m : Mach) (n lo : Nat) : Mach :=
  if 4 ≤ n then m else crcLoad m n (lo % 2 ^ 32 + 2 ^ 32 * (crcUnit m n).hi)

def execCrcValueWrite (n lo : Nat) (s : State) : Out' := onM s (fun m => crcValueWrite m n lo)

/-- A scan folds from CUR up to an address: what halts it, or the state after it (R516, R537). -/
def crcScanTo (d : Mem) (m : Mach) (n upto : Nat) : Bool × Mach :=
  let a := crcCur m n
  let p := (crcUnit m n).who
  let r := reach m p a (upto - a) false
  match r.2 with
  | some f =>
    let m := noteFault m p (crcMaster n) f false
    let m := (m.wr R.CRC.UNIT_FAULT_LO.FAULT (f.2 % 2 ^ 32) n).wr R.CRC.UNIT_FAULT_HI.FAULT (f.2 / 2 ^ 32) n
    (false, crcEnd m n f.1)
  | none => (true, crcCurSet (crcTake (noteReads m (crcMaster n) [(a, upto - a)]) n (d.read a (upto - a))) n upto)

/-- CRC_SCAN_DONE (R537). -/
def crcScanDone (d : Mem) (m : Mach) (n : Nat) : Mach :=
  if m.rd R.CRC.UNIT_STATUS.STATE n ≠ 2 ∨ (crcUnit m n).snoop then m
  else
    let (ok, m) := crcScanTo d m n (crcBase m n + crcLen m n)
    if ok then crcEnd m n JOB_DONE else m

def execCrcScanDone (n : Nat) (s : State) : Out' := onR s (fun d m => crcScanDone d m n)

/-- CRC_SCAN_STOP (R538): a SCAN whose ENABLE is 0, or that M11 drains, reaches the 4 KiB boundary `upto`. -/
def crcScanStop (d : Mem) (m : Mach) (n upto : Nat) : Mach :=
  if m.rd R.CRC.UNIT_STATUS.STATE n ≠ 2 ∨ (crcUnit m n).snoop ∨ (m.flag R.CRC.UNIT_CTRL.ENABLE n ∧ m.mode ≠ 11) ∨ upto % 4096 ≠ 0 ∨
      upto < crcCur m n ∨ crcBase m n + crcLen m n ≤ upto then m
  else
    let (ok, m) := crcScanTo d m n upto
    if !ok then m
    else
      let m := (m.wr R.CRC.UNIT_STATUS.STATE 4 n).wr R.CRC.UNIT_STATUS.LAST_CODE ENGINE_DRAINED n
      chimRelease (m.ev E.CRC.STOPPED n) C_CRC n

def execCrcScanStop (n upto : Nat) (s : State) : Out' := onR s (fun d m => crcScanStop d m n upto)

/-- The grant of an engine, a unit or a channel has come into force: its work begins or goes on (R502, R517). -/
def sideGranted (m : Mach) (e : Nat) : Mach :=
  if sideState m e = 1 ∧ (sideOf m e).busy then sideRun m e else m

def crcGranted (m : Mach) (n : Nat) : Mach := if m.rd R.CRC.UNIT_STATUS.STATE n = 1 then m.wr R.CRC.UNIT_STATUS.STATE 2 n else m

def dmaGranted (d : Mem) (m : Mach) (n : Nat) : Mach :=
  dmaRefresh (dmaFetch d (if m.rd R.DMA.CH_STATUS.STATE n = 1 then m.wr R.DMA.CH_STATUS.STATE 2 n else m) n none)

end Sys2Proof.Machine
end

