-- ==== Sys2Proof/Machine/FabCmds.lean ====
section
/-!
DEFINITION. The commands of the Passage fabric that concern links, the election, addresses, routing and time
(spec/11_passage_fabric.md R387-R401, R408-R411).
-/
namespace Sys2Proof.Machine

/-- A die identifier and the other fields of a HELLO payload (R393). -/
def hDie (b : List Byte) (o : Nat) : Nat := fieldLE b o 16

/-- A lower candidate is taken and sent on (R395). -/
def takeCand (m : Mach) (c : Nat) : Mach :=
  if c = 0 then m
  else
    let better : Bool := match m.fab.cand with
      | none => true
      | some d => decide (c < d)
    if better then sendElect { m with fab := { m.fab with cand := some c } } else m

/-- A candidate or leader named by a neighbour: it enters this node's election, or shows a part with another leader (R411). -/
def heardLeader (m : Mach) (c : Nat) (led : Bool) : Mach :=
  let st := fabState m
  if st = FS_ELECTING then takeCand m c
  else if (st = FS_ASSIGNING ∨ st = FS_JOINED) ∧ c ≠ 0 ∧ c ≠ leaderNum m ∧ (led ∨ c < leaderNum m) then
    { m with fab := { m.fab with merge := some c } }
  else m

/-- The offset a coordinate takes through the link it was heard on (R396). -/
def linkStep (n : Nat) : Int × Int :=
  match n with
  | 0 => (0, 1)
  | 1 => (-1, 0)
  | 2 => (0, -1)
  | _ => (1, 0)

/-- Route a COORD_REPORT toward the leader at (0, 0) by relative coordinates. -/
def routeReport (m : Mach) (p : Packet) : Mach :=
  match m.fab.rel with
  | none => routeDrop m
  | some (x, y) =>
    match nextLink x y 0 0 p.detour with
    | none => m
    | some n =>
      if linkUsable m n then linkPush m n p
      else match nextLink x y 0 0 true with
        | some k => if k != n && linkUsable m k then linkPush m k { p with detour := true } else routeDrop m
        | none => routeDrop m

/-- A neighbour's relative coordinate is learned (R396). -/
def heardCoord (m : Mach) (n : Nat) (x y : Int) : Mach :=
  let s := linkStep n
  let c : Int × Int := (x + s.1, y + s.2)
  match m.fab.rel with
  | some r => if r = c ∨ m.flag R.PASS.STATUS.IS_LEADER then m else fabExclude m COORD_CONFLICT
  | none =>
    let m := { m with fab := { m.fab with rel := some c } }
    let stored := match m.fab.ident with
      | some (_, a, _) => a
      | none => 0xFFFF
    let data := toLE 16 (dieNum m) ++ [BitVec.ofNat 8 (uNat 8 c.1), BitVec.ofNat 8 (uNat 8 c.2)] ++ toLE 2 stored
    routeReport m ⟨2, 0x03, false, 0, (fabAddr m).getD 0xFFF, 0, 255, false, data⟩

/-- HELLO (R394, R387, R395, R396): a HELLO packet is received on link `n`. -/
def hello (m : Mach) (n : Nat) (crc : Bool) (p : Packet) : Mach :=
  let (ok, m) := pktLocal m n crc p
  if !ok then m
  else
    let b := p.data
    let wrong := fieldLE b 16 1 != (n + 2) % 4
    let was := m.flag R.PASS.LINK_STATUS.MISWIRED n
    let m := m.wr R.PASS.LINK_STATUS.MISWIRED (b2n wrong) n
    if wrong then (if was then m else passCode m LINK_MISWIRED)
    else
      let m := m.wr R.PASS.LINK_STATUS.NEIGHBOUR (fieldLE b 18 2 % 4096) n
      let m := linkMod m n (fun l => { l with hello := true })
      let m := { m with fab := { m.fab with epochMax := Nat.max m.fab.epochMax (fieldLE b 22 2) } }
      let st := fieldLE b 17 1
      let led := st == FS_ASSIGNING || st == FS_JOINED
      let m := heardLeader m (hDie b 24) led
      if led ∧ hDie b 24 = leaderNum m ∧ (fabState m = FS_ASSIGNING ∨ fabState m = FS_JOINED) then
        heardCoord m n (fieldLES b 20 1) (fieldLES b 21 1)
      else m

def execHello (n : Nat) (crc : Bool) (p : Packet) (s : State) : Out' := onM s (fun m => hello m n crc p)

/-- HELLO_SEND (R394): one HELLO on each up link. -/
def execHelloSend (s : State) : Out' :=
  onM s (fun m => m.each ((List.range 4).filter (linkUp m)) (fun m n =>
    linkPush m n ⟨2, 0x01, false, 0, (fabAddr m).getD 0xFFF, 0, 255, false, helloData m n⟩))

/-- HELLO_TIMEOUT (R394): a link without HELLO for 5 ms counts as down for routing. -/
def execHelloTimeout (n : Nat) (s : State) : Out' := onM s (fun m => linkMod m n (fun l => { l with hello := false }))

/-- ELECT (R395). -/
def execElect (n : Nat) (crc : Bool) (p : Packet) (s : State) : Out' :=
  onM s (fun m =>
    let (ok, m) := pktLocal m n crc p
    if !ok ∨ m.flag R.PASS.LINK_STATUS.MISWIRED n then m
    else
      let m := { m with fab := { m.fab with epochMax := Nat.max m.fab.epochMax (fieldLE p.data 16 2) } }
      heardLeader m (hDie p.data 0) false)

/-- ELECTION_SETTLED (R395): the candidate has not changed for 20 ms. -/
def electionSettled (m : Mach) : Mach :=
  match m.fab.cand with
  | none => m
  | some c =>
    if fabState m ≠ FS_ELECTING then m
    else
      let m := leaderTakes m c
      let m := m.wr R.PASS.STATUS.STATE FS_ASSIGNING
      if c = dieNum m then
        let e := (m.fab.epochMax + 1) % 65536
        let m := m.wr R.PASS.MESH.EPOCH e
        let m := { m with fab := { m.fab with epochMax := e, rel := some (0, 0), reports := [], ident0 := m.fab.ident } }
        timeEval (if (List.range 4).any (linkUsable m) then m else assignOffset m)
      else timeEval { m with fab := { m.fab with rel := none } }

def execElectionSettled (s : State) : Out' := onM s electionSettled

/-- LEADER_CONTACT_LOST (R410): no HELLO named the leader for 50 ms; the part elects again and takes a new time source. -/
def execLeaderContactLost (s : State) : Out' :=
  onM s (fun m =>
    if (fabState m = FS_JOINED ∨ fabState m = FS_ASSIGNING) ∧ !m.flag R.PASS.STATUS.IS_LEADER then timeEval (startElection m) else m)

/-- COORD_REPORT (R396): the leader records the report and gives out the offset (assumption log 43); other nodes send it on. -/
def coordReport (m : Mach) (n : Nat) (crc : Bool) (p : Packet) : Mach :=
  let (ok, m) := pktLocal m n crc p
  if !ok ∨ m.flag R.PASS.LINK_STATUS.MISWIRED n then m
  else if m.flag R.PASS.STATUS.IS_LEADER then
    let b := p.data
    let r := (hDie b 0, fieldLES b 16 1, fieldLES b 17 1, fieldLE b 18 2)
    let m := { m with fab := { m.fab with reports := r :: m.fab.reports.filter (fun x => x.1 != r.1) } }
    timeEval (assignOffset m)
  else if p.hops ≤ 1 then passCode (hev (m.add R.PASS.TTL_EXPIRED.COUNT 1) 162) PKT_TTL_EXPIRED
  else routeReport m { p with hops := p.hops - 1 }

def execCoordReport (n : Nat) (crc : Bool) (p : Packet) (s : State) : Out' := onM s (fun m => coordReport m n crc p)

/-- COORD_OFFSET (R396): a node takes its final address and passes the packet on. -/
def coordOffset (m : Mach) (n : Nat) (crc : Bool) (p : Packet) : Mach :=
  let had := (fabAddr m).isSome
  let (mine, m) := pktArrive m n crc p
  if !mine ∨ m.flag R.PASS.STATUS.IS_LEADER then m
  else
    match m.fab.rel with
    | none => m
    | some (x, y) =>
      let b := p.data
      let ox := fieldLES b 0 1
      let oy := fieldLES b 1 1
      let m := takeAddress m (x + ox) (y + oy) (oy.toNat * 64 + ox.toNat) (fieldLE b 2 1) (fieldLE b 3 1) (fieldLE b 4 8) (fieldLE b 12 2)
      let m := if had ∨ p.hops ≤ 1 then m else mcastOn m { p with hops := p.hops - 1 }
      timeEval m

def execCoordOffset (n : Nat) (crc : Bool) (p : Packet) (s : State) : Out' := onM s (fun m => coordOffset m n crc p)

/-- LINK_STATE (R398): a node's report reaches the leader, or the leader's map reaches a node. -/
def linkState (m : Mach) (n : Nat) (crc : Bool) (p : Packet) : Mach :=
  let (mine, m) := pktArrive m n crc p
  if !mine then m
  else if p.mcast then
    let nz := (List.range 4096).filterMap (fun a => let v := (p.data.getD a 0).toNat; if v = 0 then none else some (a, v))
    { m with fab := { m.fab with map := nz } }
  else if m.flag R.PASS.STATUS.IS_LEADER then
    { m with fab := { m.fab with map := SMap.put 0 m.fab.map (fieldLE p.data 0 2 % 4096) (fieldLE p.data 2 1), mapDirty := true } }
  else m

def execLinkState (n : Nat) (crc : Bool) (p : Packet) (s : State) : Out' := onM s (fun m => linkState m n crc p)

/-- LINK_STATE_MULTICAST (R398): the leader sends the whole map after a change. -/
def execLinkStateMulticast (s : State) : Out' :=
  onM s (fun m =>
    if m.flag R.PASS.STATUS.IS_LEADER ∧ m.fab.mapDirty then
      let m := { m with fab := { m.fab with mapDirty := false } }
      fabSend m 2 0x05 true (wholeMesh m) ((List.range 4096).map (fun a => BitVec.ofNat 8 (SMap.get 0 m.fab.map a)))
    else m)

/-- LINK_ACK (R392): packets before `next` are acknowledged and credits return; a NAK sends the rest again. -/
def linkAck (m : Mach) (n : Nat) (crc : Bool) (next : Nat) (nak : Bool) (credits : List Nat) : Mach :=
  if !crc ∨ 4 ≤ n ∨ !linkUp m n then m
  else
    let l := linkRec m n
    let rest := l.unacked.dropWhile (fun p => p.lseq != next)
    let known : Bool := next = l.txSeq ∨ rest.length ≠ 0
    let m := if known then linkMod m n (fun l => { l with unacked := rest }) else m
    let m := linkMod m n (fun l => { l with credits := (List.range 6).map (fun i =>
      Nat.min (l.credits.getD i 0 + credits.getD i 0) (fullCredits.getD i 0)) })
    linkFlush (if nak then linkResend m n else m) n

def execLinkAck (n : Nat) (crc : Bool) (next : Nat) (nak : Bool) (credits : List Nat) (s : State) : Out' :=
  onM s (fun m => linkAck m n crc next nak credits)

/-- LINK_RESEND_TIMEOUT (R392): 2 us pass without an acknowledgement. -/
def execLinkResendTimeout (n : Nat) (s : State) : Out' := onM s (fun m => if n < 4 ∧ linkUp m n then linkResend m n else m)

/-- PACKET_LENGTH_TIMEOUT (R392): no tail within 1 us of the head: discarded, counted, NAK. -/
def execPacketLengthTimeout (n : Nat) (s : State) : Out' :=
  onM s (fun m => if n < 4 ∧ linkUp m n then sendAck (hev (m.add R.PASS.LINK_RETRIES.COUNT 1) 160) n true [] else m)

/-- LINK_MASK (R388): the partner's mask from the next packet boundary. -/
def execLinkMask (n : Nat) (crc : Bool) (mask : Nat) (s : State) : Out' :=
  onM s (fun m => if crc then linkMod m n (fun l => { l with partner := mask % 16 }) else m)

/-- Send a TIME unit on the links of the tree rooted at the source (R401). -/
def timeOn (m : Mach) (src seq hops stamp : Nat) : Mach :=
  match fabAddr m with
  | none => m
  | some a =>
    m.each ((mcastLinks (a % 64) (a / 64) (src % 64) (src / 64) (mcastRect (wholeMesh m))).filter (linkUsable m)) (fun m n =>
      m.emit (.passage n 0x55 [seq % 256, hops, stamp]))

/-- What a TIME unit tells a node is noted: fabric time now, its link, its sequence and its links from the source (R401). -/
def unitNote (m : Mach) (n seq hops t : Nat) : Mach :=
  let m := { m with fab := { m.fab with stamp := some t, timeLink := n, timeSeq := seq }, tim := { m.tim with unitAt := some m.tim.now } }
  (m.wr R.PASS.TIME_STATUS.HOPS (satN (hops + 1) 255)).wr R.PASS.TIME_STATUS.AGE_US 0

/-- TIME_UNIT (R401): fabric time is the stamp and the link's measured delay; the unit goes on with a fresh stamp, later by
the time the unit spends in the node, which is free. `adv` is the time passed since the latest command that told the time. -/
def timeUnit (m : Mach) (n : Nat) (crc : Bool) (seq hops stamp adv : Nat) : Mach :=
  if 4 ≤ n ∨ !crc ∨ !linkUsable m n then m
  else
    let m := advance m adv
    let t := stamp + (linkRec m n).delay
    let m := unitNote m n seq hops t
    let (d, m) := m.draw (2 ^ 32)
    let m := timeOn m (m.rd R.PASS.LEADER.TIME_ADDR) seq (hops + 1) (t + d)
    if fabState m = FS_JOINED ∧ !m.flag R.PASS.STATUS.IS_TIME_SOURCE then newOffset m 3 ((t : Int) - m.tim.now) else m

def execTimeUnit (n : Nat) (crc : Bool) (seq hops stamp adv : Nat) (s : State) : Out' :=
  onM s (fun m => timeUnit m n crc seq hops stamp adv)

/-- TIME_UNIT_SEND (R401): the time source sends its time in force. -/
def execTimeUnitSend (adv : Nat) (s : State) : Out' :=
  onM s (fun m =>
    match fabAddr m with
    | none => m
    | some a =>
      if m.flag R.PASS.STATUS.IS_TIME_SOURCE then
        let m := advance m adv
        let seq := (m.fab.timeSeq + 1) % 256
        timeOn { m with fab := { m.fab with timeSeq := seq } } a seq 0 (uNat 64 m.tim.now)
      else m)

/-- LINK_DELAY_MEASURE (R401): half the round trip after subtracting the partner's residence time, 2^-16 ns. -/
def execLinkDelayMeasure (n round residence : Nat) (s : State) : Out' :=
  onM s (fun m =>
    if n < 4 ∧ linkUp m n then
      let (d, m) := m.divFree ((round : Int) - residence) 2
      linkMod m n (fun l => { l with delay := d.toNat })
    else m)

/-- Revoke the claim the leader has granted (R402). -/
def revokeClaim (m : Mach) : Mach :=
  match m.fab.granted with
  | none => m
  | some c =>
    let m := { m with fab := { m.fab with granted := none } }
    if fabAddr m = some c.src then
      (passCode ({ m with fab := { m.fab with claim := none } }.wr R.PASS.STATUS.CLAIM_HELD 0) CLAIM_REVOKED).ev E.PASS.CLAIM_REVOKED
    else fabSend m 2 0x0A false c.src (toLE 4 2 ++ toLE 4 c.seq)

/-- FABRIC_MERGE (R411): two parts become one; the part with the higher leader takes the other's leader, time source and offset. -/
def fabricMerge (m : Mach) : Mach :=
  match m.fab.merge with
  | none => m
  | some c =>
    let lead := leaderNum m
    let m := { m with fab := { m.fab with merge := none } }
    let m := if c < lead then
        let m := if m.flag R.PASS.STATUS.IS_LEADER then revokeClaim m else m
        let m := leaderTakes m c
        let m := m.wr R.PASS.STATUS.STATE FS_ASSIGNING
        { m with fab := { m.fab with rel := none, cand := some c, reports := [], claims := [] } }
      else m
    timeEval ((passCode m FABRIC_MERGED).ev E.PASS.MERGED)

def execFabricMerge (s : State) : Out' := onM s fabricMerge

end Sys2Proof.Machine
end

