-- ==== Sys2Proof/Machine/HostCmds.lean ====
section
/-!
DEFINITION. The host interface: the scene submission ring, BAR4, MSI-X, link and resets (spec/14_host_interface_and_dma.md R482-R494,
R507-R509). What the device reads from host memory comes with the command: the descriptors it fetches, in ring order.
-/
namespace Sys2Proof.Machine

/-- The modes in which the PCIe domains run (R35, R483). -/
def pcieMode (mode : Nat) : Bool := 4 ≤ mode && mode ≤ 11

/-! ## The rings (R489-R494) -/

/-- The ring engine's own state. -/
def hostMod (m : Mach) (f : HostIf → HostIf) : Mach :=
  let m := { m with host := f m.host }
  m.wr R.HOST.RING_STATUS.FETCHED m.host.frags.length

/-- Report a code of R505. -/
def ringCode (m : Mach) (c : Nat) : Mach := m.wr R.HOST.RING_STATUS.LAST_CODE c

/-- HOST_RING_BAD (R489, R490). -/
def ringBad (m : Mach) : Mach := (ringCode m HOST_RING_BAD).ev E.HOST.RING_BAD

/-- Whether the completion ring is full. -/
def cqFull (m : Mach) : Bool :=
  (m.rd R.HOST.CQ_TAIL.TAIL + 1) % m.rd R.HOST.CQ_SIZE.SIZE == m.rd R.HOST.CQ_HEAD.HEAD

/-- Write a completion entry (R492): its place, its phase, and vector 2 where its descriptor asked for it. -/
def cqWrite (m : Mach) (e : List Byte) (irq : Bool) : Mach :=
  let t := m.rd R.HOST.CQ_TAIL.TAIL
  let base := m.rd R.HOST.CQ_BASE_LO.BASE * 4096 + 2 ^ 32 * m.rd R.HOST.CQ_BASE_HI.BASE
  let m := m.emit (.hostWrite (base + 16 * t) (splice e 3 (toLE 1 (b2n m.host.phase))))
  let next := (t + 1) % m.rd R.HOST.CQ_SIZE.SIZE
  let m := m.wr R.HOST.CQ_TAIL.TAIL next
  let m := if next = 0 then hostMod m (fun h => { h with phase := !h.phase }) else m
  if irq then m.raise 2 else m

/-- Write the entries that wait, as far as there is room. -/
def cqFlush : Nat → Mach → Mach
  | 0, m => m
  | fuel + 1, m =>
    match m.host.wait with
    | [] => m
    | (e, irq) :: rest => if cqFull m then m else cqFlush fuel (cqWrite (hostMod m (fun h => { h with wait := rest })) e irq)

/-- A drain of the ring is over (R494). -/
def ringDrained (m : Mach) : Mach :=
  if m.rd R.HOST.RING_STATUS2.STATE = 2 ∧ m.host.frags.isEmpty ∧ m.host.wait.isEmpty then m.wr R.HOST.RING_STATUS2.STATE 3 else m

/-- Descriptor fields (R490). -/
def fragLen (b : List Byte) : Nat := fieldLE b 8 4
def fragFlags (b : List Byte) : Nat := fieldLE b 12 2

/-- Whether a descriptor is refused (R490). -/
def fragBad (b : List Byte) : Bool :=
  fragLen b == 0 || decide (2 ^ 24 < fragLen b) || fragFlags b / 4 != 0 || fieldLE b 16 16 != 0

/-- A start-of-frame on a path (R142, R491): a frame in reception is discarded; the next byte opens a header. -/
def pathStart (m : Mach) (path : Nat) : Mach :=
  let m := match (pathOf m path).rx with
    | some q => match frameOf m q with
      | some f => refuseFrame m f FRAME_INCOMPLETE
      | none => m
    | none => m
  pathMod m path (fun _ => ⟨none, none⟩)

/-- The first fragment is complete with a status (R492): its entry is written, or waits for room. -/
def ringComplete (m : Mach) (status seq written dropped : Nat) : Mach :=
  match m.host.frags with
  | [] => m
  | b :: rest =>
    let e := slice b 14 2 ++ toLE 1 status ++ toLE 1 0 ++ toLE 4 seq ++ toLE 4 written ++ toLE 4 dropped
    let m := hostMod m (fun h => { h with frags := rest, begun := false, wait := h.wait ++ [(e, bit (fragFlags b) 1)] })
    let m := if status = 0 then m else ringCode m status
    let m := hev (m.add R.HOST.SCENE_FRAGMENTS.COUNT 1) 224
    ringDrained (cqFlush (m.host.wait.length + 1) m)

/-- The first fetched fragment begins: refused, or its bytes are read (R490, R491). -/
def ringBegin : Nat → Mach → Mach
  | 0, m => m
  | fuel + 1, m =>
    match m.host.frags with
    | [] => m
    | b :: _ =>
      if m.host.begun then m
      else if fragBad b then ringBegin fuel (ringComplete (m.ev E.HOST.RING_BAD) HOST_RING_BAD 0 0 0)
      else
        let m := hostMod m (fun h => { h with begun := true })
        if bit (fragFlags b) 0 then pathStart m 0 else m

/-- Fetch descriptors in ring order, up to 8 ahead; none while the completion ring is full (R491, R492, R494). -/
def ringFetch : List (List Byte) → Mach → Mach
  | [], m => ringBegin 9 m
  | b :: bs, m =>
    let h := m.rd R.HOST.SQ_HEAD.HEAD
    if m.flag R.HOST.RING_CTRL.ENABLE && decide (m.host.frags.length < 8) && h != m.rd R.HOST.SQ_TAIL.TAIL && !cqFull m &&
        m.host.wait.isEmpty then
      let m := m.wr R.HOST.SQ_HEAD.HEAD ((h + 1) % m.rd R.HOST.SQ_SIZE.SIZE)
      ringFetch bs (hostMod m (fun x => { x with frags := x.frags ++ [slice b 0 32] }))
    else ringBegin 9 m

/-- SQ_DOORBELL (R489). -/
def sqDoorbell (m : Mach) (tail : Nat) (descs : List (List Byte)) : Mach :=
  if m.rd R.HOST.SQ_SIZE.SIZE ≤ tail then ringBad m else ringFetch descs (m.wr R.HOST.SQ_TAIL.TAIL tail)

def execSqDoorbell (tail : Nat) (descs : List (List Byte)) (s : State) : Out' := onM s (fun m => sqDoorbell m tail descs)

/-- CQ_HEAD_WRITE (R489, R492). -/
def cqHeadWrite (m : Mach) (head : Nat) (descs : List (List Byte)) : Mach :=
  if m.rd R.HOST.CQ_SIZE.SIZE ≤ head then ringBad m
  else
    let m := m.wr R.HOST.CQ_HEAD.HEAD head
    ringFetch descs (ringDrained (cqFlush (m.host.wait.length + 1) m))

def execCqHeadWrite (head : Nat) (descs : List (List Byte)) (s : State) : Out' := onM s (fun m => cqHeadWrite m head descs)

/-- FRAGMENT_DONE (R491, R492): of the first fragment's bytes `written` went into the queue and `dropped` were dropped; `seq` is the frame its
first byte belonged to. -/
def fragmentDone (m : Mach) (seq written dropped : Nat) (descs : List (List Byte)) : Mach :=
  if m.host.frags.isEmpty || !m.host.begun then m
  else
    let m := quotaUse m 0 written
    ringFetch descs (ringComplete m (if dropped = 0 then 0 else SCENE_DROPPED) seq written dropped)

def execFragmentDone (seq written dropped : Nat) (descs : List (List Byte)) (s : State) : Out' :=
  onM s (fun m => fragmentDone m seq written dropped descs)

/-- HOST_READ_FAILED (R493): the fragment is completed, the frame in reception discarded, and bytes are dropped until an SOF. -/
def hostReadFailed (m : Mach) (seq written dropped : Nat) (descs : List (List Byte)) : Mach :=
  if m.host.frags.isEmpty || !m.host.begun then m
  else
    let m := quotaUse m 0 written
    let m := hev (m.add R.HOST.SCENE_READ_FAILURES.COUNT 1) 225
    let m := pathMod (pathStart (m.ev E.HOST.READ_FAILED) 0) 0 (fun _ => ⟨none, some (none, false)⟩)
    ringFetch descs (ringComplete m HOST_READ_FAILED seq written dropped)

def execHostReadFailed (seq written dropped : Nat) (descs : List (List Byte)) (s : State) : Out' :=
  onM s (fun m => hostReadFailed m seq written dropped descs)

/-- RING_DRAIN (R494, R509): a write of RING_CTRL.ENABLE. -/
def ringDrain (m : Mach) (enable : Bool) (descs : List (List Byte)) : Mach :=
  let m := m.wr R.HOST.RING_CTRL.ENABLE (b2n enable)
  if enable then ringFetch descs (m.wr R.HOST.RING_STATUS2.STATE 1)
  else if m.rd R.HOST.RING_STATUS2.STATE = 1 then ringDrained (m.wr R.HOST.RING_STATUS2.STATE 2)
  else m

def execRingDrain (enable : Bool) (descs : List (List Byte)) (s : State) : Out' := onM s (fun m => ringDrain m enable descs)

/-- RING_FORCE_STOP (R494); `late`: a fragment's entry was written in the same cycle or before. -/
def ringForceStop (m : Mach) (late : Bool) : Mach :=
  let m := hostMod m (fun h => { h with frags := [], begun := false, wait := [] })
  let m := match (pathOf m 0).rx with
    | some q => match frameOf m q with
      | some f => refuseFrame m f FRAME_INCOMPLETE
      | none => m
    | none => m
  let m := (m.wr R.HOST.RING_CTRL.ENABLE 0).wr R.HOST.RING_STATUS2.STATE 3
  ringCode m (if late then ABORT_LATE else ABORTED_BY_DISABLE)

def execRingForceStop (late : Bool) (s : State) : Out' := onM s (fun m => ringForceStop m late)

/-! ## BAR4 (R485, R486) -/

/-- The size of BAR4. -/
def bar4Bytes (m : Mach) : Nat := 2 ^ (30 + m.host.bar4)

/-- The device address of an offset. -/
def bar4Addr (m : Mach) (off : Nat) : Nat := m.rd R.HOST.BAR4_OFFSET_LO.OFFSET * 2 ^ 30 + 2 ^ 32 * m.rd R.HOST.BAR4_OFFSET_HI.OFFSET + off

/-- BAR4_ACCESS: a read of `len` bytes, or a write of `data` where it is not empty. Outside the window nothing is decoded. -/
def bar4Access (d : Mem) (m : Mach) (off len : Nat) (data : List Byte) : Effect :=
  let n := if data.isEmpty then len else data.length
  let write := !data.isEmpty
  if !m.flag R.HOST.LINK.DL_UP || decide (bar4Bytes m < off + n) || n == 0 then ⟨m, [], false⟩
  else
    let a := bar4Addr m off
    if !inCap m a n then
      let m := (dramCode m DRAM_RANGE).ev E.HOST.BAR4_FAULT
      ⟨if write then m else m.emit (.dram 0x10 false true []), [], false⟩
    else
      let (ok, m) := firewall m .host 0x10 a n write
      if !ok then
        let m := m.ev E.HOST.BAR4_FAULT
        ⟨if write then m else m.emit (.dram 0x10 false true []), [], false⟩
      else if write then dramWrite m 0x10 a data false
      else ⟨dramRead d m 0x10 a n 0, [], false⟩

def execBar4Access (off len : Nat) (data : List Byte) (s : State) : Out' := onW s (fun d m => bar4Access d m off len data)

/-! ## MSI-X (R487, R488) -/

/-- A vector that is no longer masked sends the one message its pending bit stands for. -/
def msixPending (m : Mach) (v : Nat) : Mach :=
  if bit m.msix.pba v && !m.msixMasked v then
    Mach.msixSend { m with msix := { m.msix with pba := clrBit m.msix.pba v } } v
  else m

/-- MSIX_UNMASK: vector `v`, or the whole function where `v` is 64. -/
def msixUnmask (m : Mach) (v : Nat) : Mach :=
  if v < 64 then msixPending (m.msixSet (4 * v + 3) (clrBit (m.msixWord (4 * v + 3)) 0)) v
  else if v = 64 then
    let m := { m with msix := { m.msix with fmask := false } }
    m.each (List.range 64) msixPending
  else m

def execMsixUnmask (v : Nat) (s : State) : Out' := onM s (fun m => msixUnmask m v)

/-! ## Link and resets (R482-R484, R744, R746) -/

/-- PCIE_LINK_UP (R482, R483). A rate above link_speed_max is not advertised and so never results. -/
def pcieLinkUp (m : Mach) (speed width : Nat) : Mach :=
  if !pcieMode m.mode || !m.host.perst || decide (m.dv D.link_speed_max < speed) || speed == 0 || decide (5 < speed) ||
      !([1, 2, 4, 8, 16].contains width) then m
  else
    let m := ((m.wr R.HOST.LINK.DL_UP 1).wr R.HOST.LINK.SPEED speed).wr R.HOST.LINK.WIDTH width
    m.evIf (decide (speed < 3) || decide (width < 8)) E.HOST.LINK_SLOW

def execPcieLinkUp (speed width : Nat) (s : State) : Out' := onM s (fun m => pcieLinkUp m speed width)

/-- Runs of host-owned channels end with HOST_RESET, and the channels' registers are reset (R484): the final state stays reported
(assumption log 54). -/
def dmaHostReset (d : Mem) (m : Mach) : Effect :=
  ((List.range 16).filter (dmaHost m)).foldl (fun (e : Effect) n =>
    let m := (e.m.wr R.DMA.CH_CTRL.ENABLE 0 n).wr R.DMA.CH_STATUS.HELD 0 n
    let had := (dmaOf m n).active
    let x := dmaCut (applyWrites d e.wr) m n HOST_RESET_CODE
    let m := x.m.resetRange (0x02501000 + n * 0x100) (0x02501100 + n * 0x100)
    let m := if had then (m.wr R.DMA.CH_STATUS.FINAL 1 n).wr R.DMA.CH_STATUS.REASON HOST_RESET_CODE n else m
    ⟨dmaRefresh m, e.wr ++ x.wr, false⟩) ⟨m, [], false⟩

/-- The HOST block is reset: its registers but the two counters, which are dictionary entries, and the MSI-X table. The frame in
reception is discarded. -/
def hostBlockReset (m : Mach) : Mach :=
  let link := (m.rd R.HOST.LINK.DL_UP, m.rd R.HOST.LINK.SPEED, m.rd R.HOST.LINK.WIDTH)
  let m := (pathStart m 0).resetRange 0x02400000 0x024000C0
  let m := { m with msix := ⟨[], 0, false⟩, host := { m.host with frags := [], begun := false, wait := [], phase := true } }
  ((m.wr R.HOST.LINK.DL_UP link.1).wr R.HOST.LINK.SPEED link.2.1).wr R.HOST.LINK.WIDTH link.2.2

/-- The link goes down without notice (R483). -/
def linkDown (m : Mach) : Mach := ((m.wr R.HOST.LINK.DL_UP 0).wr R.HOST.LINK.SPEED 0).wr R.HOST.LINK.WIDTH 0

/-- The HOST reset group is reset (R744, R746): as R484 does, and the link goes down. -/
def hostGroupReset (d : Mem) (m : Mach) : Effect :=
  let e := dmaHostReset d m
  let m := linkDown (hostBlockReset e.m)
  { e with m := m.add R.SYS.RESET_STATUS.HOST_RESETS 1 }

/-- HOST_RESET (R484): a hot reset or FLR, or PERST# low. -/
def execHostReset (perst : Bool) (s : State) : Out' :=
  onLantern s (fun d m =>
    -- a pin falls whether or not CORE runs; the group is then in reset already
    if m.mc.off then ⟨{ m with host := { m.host with perst := m.host.perst && !perst } }, [], false⟩
    else if perst then
      let e := hostGroupReset d { m with host := { m.host with perst := false } }
      -- bar4_size applies from here (R485)
      let m := { e.m with host := { e.m.host with bar4 := e.m.dv D.bar4_size } }
      { e with m := m.ev E.HOST.RESET }
    else
      let e := dmaHostReset d m
      { e with m := (hostBlockReset e.m).ev E.HOST.RESET })

/-- PERST_N_RISE (R746): where the PCIe domains run, link training can begin. -/
def execPerstNRise (s : State) : Out' :=
  onL s (fun m =>
    let m := { m with host := { m.host with perst := true } }
    if pcieMode m.mode && !m.mc.off then m.emit (.start 20 0) else m)

end Sys2Proof.Machine
end

