-- ==== Sys2Proof/Machine/TimeCmds.lean ====
section
/-!
DEFINITION. The PTP commands (spec/12_time.md R423-R429). Stamps are those of the SGMII boundary and, like corrections, count
2^-16 ns; the message arithmetic is that of IEEE 1588-2019 (assumption log 44). `adv` is the time, in ns, since the latest
command that told the time.
-/
namespace Sys2Proof.Machine

/-- The domain (0 A, 1 B) a PTP message belongs to, where the device takes it: PTP enabled and the management MAC running (R425). -/
def ptpDomain (m : Mach) (num : Nat) : Option Nat :=
  if !m.flag R.TIME.CTRL.PTP_EN ∨ m.mode = 0 ∨ m.mode = 3 then none
  else if num = m.rd R.TIME.DOMAINS.DOMAIN_A then some 0
  else if num = m.rd R.TIME.DOMAINS.DOMAIN_B ∧ num ≠ 255 then some 1
  else none

/-- A correction register, 2^-8 ns, in 2^-16 ns. -/
def corr (m : Mach) (r : Row) : Int := 256 * sInt 32 (m.rd r)

/-- A whole Sync is known: it waits for a delay measurement to give the domain's offset. -/
def syncWhole (m : Mach) (d : Nat) (t1 t2 c : Int) : Mach := domMod m d (fun r => { r with sync := some (t1, t2, c), wait := none })

/-- PTP_SYNC (R423, R424): `origin` is given by a one-step master. -/
def ptpSync (m : Mach) (num sender seq : Nat) (rx : Int) (origin : Option Int) (cf : Int) (adv : Nat) : Mach :=
  let m := advance m adv
  match ptpDomain m num with
  | none => m
  | some d =>
    if (domRec m d).best ≠ some sender then m
    else
      let t2 := rx - corr m R.TIME.RX_LAT.VALUE
      let c := cf + corr m R.TIME.ASYM.VALUE
      match origin with
      | some t1 => syncWhole m d t1 t2 c
      | none => domMod m d (fun r => { r with wait := some (seq, t2, c) })

def execPtpSync (num sender seq : Nat) (rx : Int) (origin : Option Int) (cf : Int) (adv : Nat) (s : State) : Out' :=
  onM s (fun m => ptpSync m num sender seq rx origin cf adv)

/-- PTP_FOLLOW_UP (R423): the origin of the two-step Sync it names. -/
def ptpFollowUp (m : Mach) (num sender seq : Nat) (origin cf : Int) : Mach :=
  match ptpDomain m num with
  | none => m
  | some d =>
    match (domRec m d).wait with
    | some (q, t2, c) => if q = seq ∧ (domRec m d).best = some sender then syncWhole m d origin t2 (c + cf) else m
    | none => m

def execPtpFollowUp (num sender seq : Nat) (origin cf : Int) (s : State) : Out' := onM s (fun m => ptpFollowUp m num sender seq origin cf)

/-- PTP_DELAY_REQ (R423): domain `d`, 0 A or 1 B, sends a Delay_Req whose start passes the SGMII boundary at `tx`. -/
def execPtpDelayReq (d : Nat) (tx : Int) (adv : Nat) (s : State) : Out' :=
  onM s (fun m =>
    let m := advance m adv
    let num := if d = 0 then m.rd R.TIME.DOMAINS.DOMAIN_A else m.rd R.TIME.DOMAINS.DOMAIN_B
    if d < 2 ∧ ptpDomain m num = some d ∧ (domRec m d).best.isSome then
      let q := ((domRec m d).seq + 1) % 65536
      let m := domMod m d (fun r => { r with seq := q, req := some (q, tx + corr m R.TIME.TX_LAT.VALUE) })
      m.emit (.ptp num 1 [q, uNat 64 (-(corr m R.TIME.ASYM.VALUE))])
    else m)

/-- PTP_DELAY_RESP (R423): mean path delay, and the offset of the master from the time in force. -/
def ptpDelayResp (m : Mach) (num sender seq : Nat) (t4 cf : Int) (adv : Nat) : Mach :=
  let m := advance m adv
  match ptpDomain m num with
  | none => m
  | some d =>
    let r := domRec m d
    match r.req, r.sync with
    | some (q, t3), some (t1, t2, c) =>
      if q = seq ∧ r.best = some sender then
        let m := domMod m d (fun r => { r with req := none })
        let (mpd, m) := m.divFree ((t2 - t3) + (t4 - t1) - c - cf) 2
        newOffset m (d + 1) (-(t2 - t1 - mpd - c))
      else m
    | _, _ => m

def execPtpDelayResp (num sender seq : Nat) (t4 cf : Int) (adv : Nat) (s : State) : Out' :=
  onM s (fun m => ptpDelayResp m num sender seq t4 cf adv)

/-- Whether one dataset is better than another: the first field in which they differ is lower. -/
def betterMaster : List Nat → List Nat → Bool
  | a :: as, b :: bs => if a < b then true else if b < a then false else betterMaster as bs
  | _, _ => false

/-- The best of the masters heard at least twice. -/
def bestMaster (l : List Master) : Option Master :=
  (l.filter (fun x => 2 ≤ x.count)).foldl (fun a x => match a with
    | none => some x
    | some y => if betterMaster x.data y.data then some x else some y) none

/-- A domain's master changes: its Sync and Delay_Req under way and its agreeing offsets no longer count (R425). -/
def setBest (m : Mach) (d : Nat) (b : Option Nat) : Mach :=
  if (domRec m d).best = b then m
  else
    let m := domMod m d (fun r => { r with best := b, wait := none, sync := none, req := none, offs := [] })
    timeEval m

/-- PTP_ANNOUNCE (R423): the default best master algorithm, domain by domain. `data` is the dataset in comparison order with the
sender last; `utc` is currentUtcOffset. -/
def ptpAnnounce (m : Mach) (num : Nat) (data : List Nat) (utc : Int) : Mach :=
  match ptpDomain m num with
  | none => m
  | some d =>
    let snd (x : List Nat) : Nat := x.getD 7 0
    let l := (domRec m d).masters
    let c := ((l.find? (fun x => snd x.data == snd data)).map (·.count)).getD 0
    let l := ⟨data, c + 1⟩ :: l.filter (fun x => snd x.data != snd data)
    let m := domMod m d (fun r => { r with masters := l })
    let b := (bestMaster l).map (fun x => snd x.data)
    let m := setBest m d b
    if b = some (snd data) ∧ (timeSource m = d + 1 ∨ timeSource m = 0) then m.dset D.utc_offset (uNat 16 utc) else m

def execPtpAnnounce (num : Nat) (data : List Nat) (utc : Int) (s : State) : Out' := onM s (fun m => ptpAnnounce m num data utc)

/-- PTP_SIGNALING (R423), unicast negotiation. `tlv`: 0 request, 1 grant, 2 cancel, 3 acknowledge cancel. A request for Announce is
granted with clockClass 255; the device, a slave only, grants no other message. -/
def ptpSignaling (m : Mach) (num tlv typ : Nat) (logInt : Int) (dur : Nat) : Mach :=
  match ptpDomain m num with
  | none => m
  | some d =>
    match tlv with
    | 0 =>
      if typ = 0xB then (m.emit (.ptp num 2 [1, typ, uNat 8 logInt, dur])).emit (.ptp num 3 [255])
      else m.emit (.ptp num 2 [1, typ, uNat 8 logInt, 0])
    | 1 =>
      let g := (domRec m d).grants.filter (fun x => x.1 != typ)
      domMod m d (fun r => { r with grants := if dur = 0 then g else (typ, logInt, dur) :: g })
    | 2 =>
      let m := domMod m d (fun r => { r with grants := r.grants.filter (fun x => x.1 != typ) })
      m.emit (.ptp num 2 [3, typ])
    | _ => m

def execPtpSignaling (num tlv typ : Nat) (logInt : Int) (dur : Nat) (s : State) : Out' :=
  onM s (fun m => ptpSignaling m num tlv typ logInt dur)

/-- PTP_ANNOUNCE_TIMEOUT (R425, R429): the Announce or Sync messages of domain `d` (0 A, 1 B) are lost. Where Announce is lost the
master is forgotten. -/
def execPtpAnnounceTimeout (d : Nat) (announce : Bool) (s : State) : Out' :=
  onM s (fun m =>
    if 2 ≤ d then m
    else
      let m := setFlag m (d + 1) false
      let m := if announce then
          let gone := (domRec m d).best
          let l := (domRec m d).masters.filter (fun x => some (x.data.getD 7 0) != gone)
          let m := domMod m d (fun r => { r with masters := l })
          setBest m d ((bestMaster l).map (fun x => x.data.getD 7 0))
        else m
      timeEval m)

/-- TIME_UNLOCKED (R426): the offset stayed above 10 us for 10 s. -/
def execTimeUnlocked (s : State) : Out' :=
  onM s (fun m =>
    if timeState m = T_LOCKED then
      let m := setFlag m (timeSource m) false
      timeEval ((timeCode (m.wr R.TIME.STATUS.STATE T_ACQUIRING) TIME_UNLOCKED).ev E.TIME.UNLOCKED)
    else m)

end Sys2Proof.Machine
end

