-- ==== Sys2Proof/Machine/TrigCmds.lean ====
section
/-!
DEFINITION. Triggers of the time unit (spec/12_time.md R436, R437, R446).
-/
namespace Sys2Proof.Machine

/-- A trigger's own record. -/
def trigOf (m : Mach) (n : Nat) : Trig := m.tim.trigs.getD n ⟨none, none, 0⟩

/-- Change it. -/
def trigMod (m : Mach) (n : Nat) (f : Trig → Trig) : Mach := { m with tim := { m.tim with trigs := modAt m.tim.trigs n f } }

/-- START as a TIME64, ns. -/
def trigStart (m : Mach) (n : Nat) : Int := sInt 64 (m.rd R.TIME.TRIG_START_LO.START n + 2 ^ 32 * m.rd R.TIME.TRIG_START_HI.START n)

/-- PERIOD, ns. -/
def trigPeriod (m : Mach) (n : Nat) : Nat := m.rd R.TIME.TRIG_PERIOD.PERIOD n

/-- Whether a trigger counts ticks. -/
def trigTicks (m : Mach) (n : Nat) : Bool := m.rd R.TIME.TRIG_CTRL.MODE n == 1

/-- Whether firings are left (R436). -/
def trigLeft (m : Mach) (n : Nat) : Bool :=
  let c := m.rd R.TIME.TRIG_CTRL.COUNT n
  m.flag R.TIME.TRIG_CTRL.ENABLE n && (c == 0 || decide ((trigOf m n).fired < c))

/-- The first instant of a periodic trigger above `t` in 2^-16 ns, which lies at or above its start. -/
def instantAbove (start : Int) (period : Nat) (t : Int) : Int :=
  if t < start * 65536 then start else start + period * (floorDiv (t - start * 65536) (65536 * (period : Int)) + 1)

/-- A firing (R436): stamp, count, event, line; a late one is reported with the instants passed over (R437). -/
def fireTrig (m : Mach) (n : Nat) (late : Bool) (passed : Nat) : Mach :=
  let inst := (trigOf m n).next
  let m := m.wr R.TIME.TRIG_STAMP.STAMP (m.rd R.TIME.NS32.VALUE) n
  let m := (m.add R.TIME.TRIG_STATUS.FIRED 1 n).wr R.TIME.TRIG_STATUS.LATE (b2n late) n
  let m := m.addSat R.TIME.TRIG_STATUS.MISSED passed n
  let m := trigMod m n (fun t => { t with last := inst, fired := t.fired + 1 })
  let m := if late then (timeCode m TRIG_LATE).ev E.TIME.TRIG_LATE else m
  let m := m.evIf (m.flag R.TIME.TRIG_CTRL.IRQ n) E.TIME.TRIG
  let next : Option Int :=
    if !trigLeft m n ∨ trigTicks m n ∨ trigPeriod m n = 0 then none
    else if late then some (instantAbove (trigStart m n) (trigPeriod m n) m.tim.now)
    else inst.map (fun i => i + (trigPeriod m n : Int))
  let m := trigMod m n (fun t => { t with next := next })
  dmaLine (m.wr R.TIME.TRIG_STATUS.ACTIVE (b2n (trigLeft m n)) n) n

/-- How many instants of a trigger from its next one on lie below the time in force. -/
def passedOver (m : Mach) (n : Nat) (i : Int) : Nat :=
  if trigTicks m n ∨ trigPeriod m n = 0 then 1
  else ((m.tim.now - i * 65536 + 65536 * (trigPeriod m n : Int) - 1) / (65536 * (trigPeriod m n : Int))).toNat

/-- Triggers whose instant the time in force has passed over fire once, late (R437). -/
def trigLate (m : Mach) : Mach :=
  m.each (List.range 8) (fun m n =>
    match (trigOf m n).next with
    | some i => if i * 65536 < m.tim.now then fireTrig m n true (passedOver m n i) else m
    | none => m)

/-- Triggers whose instant the time in force has reached fire, in ascending order. -/
def trigDue (m : Mach) : Mach :=
  m.each (List.range 8) (fun m n =>
    match (trigOf m n).next with
    | some i => if i * 65536 ≤ m.tim.now then fireTrig m n false 0 else m
    | none => m)

/-- The part of a tick after action 5 (R436, R437): TICK triggers take their instant, and those at the tick's instant fire. -/
def trigTick (m : Mach) (tick : Int) : Mach :=
  let m := m.each (List.range 8) (fun m n =>
    if trigLeft m n && trigTicks m n && m.tickCount % m.rd R.TIME.TRIG_CTRL.DIVIDE n == 0 then
      trigMod m n (fun t => { t with next := some (tick + (m.rd R.TIME.TRIG_START_LO.START n : Int)) })
    else m)
  trigDue m

/-- Write a trigger's registers (R436, R446): DIVIDE 0, MODE above 1 and an OFFSET of a frame time or more keep the old value. -/
def trigWrite (m : Mach) (n ctrl lo hi period : Nat) : Mach :=
  let m := (m.wr R.TIME.TRIG_CTRL.COUNT (ctrl / 65536) n).wr R.TIME.TRIG_CTRL.IRQ (ctrl / 8) n
  let m := if bits ctrl 15 8 = 0 then m else m.wr R.TIME.TRIG_CTRL.DIVIDE (ctrl / 256) n
  let m := if 2 ≤ bits ctrl 2 1 then m else m.wr R.TIME.TRIG_CTRL.MODE (ctrl / 2) n
  let m := m.wr R.TIME.TRIG_CTRL.ENABLE ctrl n
  let big := trigTicks m n && decide (m.tim.rate.2 * 1000000000 ≤ lo % 2 ^ 32 * m.tim.rate.1)
  let m := if big then m else m.wr R.TIME.TRIG_START_LO.START lo n
  (m.wr R.TIME.TRIG_START_HI.START hi n).wr R.TIME.TRIG_PERIOD.PERIOD period n

/-- A trigger is armed anew with what its registers hold, or stopped (R437). -/
def trigArm (m : Mach) (n : Nat) : Mach :=
  let m := trigMod m n (fun _ => ⟨none, none, 0⟩)
  let m := m.wr R.TIME.TRIG_STATUS.ACTIVE (b2n (trigLeft m n)) n
  if !trigLeft m n ∨ trigTicks m n then m
  else
    let i := trigStart m n
    let m := trigMod m n (fun t => { t with next := some i })
    if i * 65536 < m.tim.now then fireTrig m n true (passedOver m n i) else m

/-- TRIGGER_ARM: the trigger's four registers are written. -/
def execTriggerArm (n ctrl lo hi period : Nat) (s : State) : Out' :=
  onM s (fun m => if n < 8 then trigArm (trigWrite m n ctrl lo hi period) n else m)

/-- The earliest instant at which a trigger is to fire. -/
def trigNext (m : Mach) : Option Int :=
  (m.tim.trigs.filterMap (·.next)).foldl (fun (best : Option Int) i => match best with
    | some b => some (if i < b then i else b)
    | none => some i) none

/-- TRIGGER_FIRE: the time in force reaches the earliest trigger instant before the next tick. At the tick's own instant the tick comes
first (R437). -/
def triggerFire (m : Mach) : Mach :=
  match trigNext m with
  | none => m
  | some i =>
    if nextTick m ≤ i then m
    else trigDue (if m.tim.now < i * 65536 then runTo m (i * 65536) else m)

def execTriggerFire (s : State) : Out' := onM s triggerFire

end Sys2Proof.Machine
end

