-- ==== Sys2Proof/Machine/RegWrite.lean ====
section
/-!
DEFINITION. Register writes and the reads that change state (spec/00_scope.md R3-R7, R789; spec/01_architecture.md R27, R30;
spec/21_health_faults_and_counters.md R719). A field whose write is a command of its own keeps its value here.
-/
namespace Sys2Proof.Machine

/-! ## Rules on values, shared with the dictionary entries -/

/-- Values of entries_configured (R308): one active size, and the entry in force while the panel is driven. -/
def entriesOk (m : Mach) (v : Nat) : Bool :=
  let es := bitList 24 v
  let size (e : Nat) : Nat × Nat := ((tentry e).w, (tentry e).h)
  (match es with
   | [] => true
   | e :: rest => rest.all (fun x => size x == size e)) &&
  (!drivesPanel m.mode || bit v m.entry)

/-- The queue's region may be moved (R137): no frame is held. -/
def queueFree (m : Mach) : Bool := m.flow.frames.isEmpty

/-- A region for the scene queue (R137, R226). -/
def queueOk (m : Mach) (base size : Nat) : Bool :=
  base % 2 ^ 20 == 0 && size % 2 ^ 20 == 0 && decide (16 * 2 ^ 20 ≤ size) && decide (size ≤ 16 * 2 ^ 30) &&
  decide (base + size ≤ m.rd R.DRAM.CAPACITY.MIB * 2 ^ 20) &&
  (let pb := m.rd R.GROT.PLAN_BASE_HI.BASE_HI * 2 ^ 32 + m.rd R.GROT.PLAN_BASE_LO.BASE_LO * 2 ^ 20
   decide (base + size ≤ pb) || decide (pb + m.rd R.GROT.PLAN_SIZE.SIZE_MIB * 2 ^ 20 ≤ base))

/-- The plan area may be moved (R226): no plan is held. -/
def planFree (m : Mach) : Bool := planSlots m == 0

/-- A region for the plan area (R226, R239). -/
def planOk (m : Mach) (base size : Nat) : Bool :=
  base % 2 ^ 20 == 0 && size % (20 * 2 ^ 20) == 0 && decide (160 * 2 ^ 20 ≤ size) && decide (size ≤ 640 * 2 ^ 20) &&
  (decide (base + size ≤ queueBase m) || decide (queueBase m + queueSize m ≤ base))

/-- The two context quotas that would hold at the tick a write now is due at (R151). -/
def ctxOther (m : Mach) (r : Row) : Nat :=
  let k := r.key 0 0
  if m.mc.deadline then m.rdNew r else (SMap.look m.held1 k).getD (m.rd r)

/-- Values of the context quotas (R151, R152). -/
def ctxQuotaOk (m : Mach) (aux : Bool) (v : Nat) : Bool :=
  if aux then decide (ctxOther m R.FLOW.CTX_QUOTA_SCENE.QUOTA + v ≤ 262144)
  else decide (v + ctxOther m R.FLOW.CTX_QUOTA_AUX.QUOTA ≤ 262144) && decide (sceneQuotaMin m ≤ v)

/-- Values of a bandwidth quota (R467). -/
def bwQuotaOk (m : Mach) (r : Row) (v : Nat) : Bool :=
  decide (sumN ((quotaRows.filter (fun x => decide (x ≠ r))).map (fun x => ctxOther m x)) + v ≤ sideBudget m)

/-- The ceiling that will be in force at the tick a write now is due at (R551). -/
def ceilingDue (m : Mach) : Nat :=
  let held := if m.mc.deadline then (match m.dic.ceil2 with
    | some c => some c
    | none => m.dic.ceil1) else m.dic.ceil1
  held.getD (m.rd R.CHIM.LIMITS.CEILING)

/-- Ring sizes (R507). -/
def ringSizeOk (v : Nat) : Bool := (List.range 11).any (fun k => v == 64 * 2 ^ k)

/-! ## One field -/

/-- Fields whose write is a command of its own (assumption log 56). -/
def commandFields : List Row :=
  [R.FLOW.CTRL.ENABLE, R.HEL.CTRL.ENABLE, R.GAL.TAP_CTRL.ENABLE, R.HOST.RING_CTRL.ENABLE, R.DMA.CH_CTRL.ENABLE, R.BLIT.CTRL.ENABLE,
   R.CRC.UNIT_CTRL.ENABLE, R.DEFL.CTRL.ENABLE, R.CAL.CTRL.ENABLE, R.HLTH.DRIP_CTRL.ENABLE, R.LANT.LABEL_CTRL.ENABLE,
   R.VEIN.LANE_CTRL.LOOP, R.PASS.LANE_CTRL.LOOP, R.HOST.SQ_TAIL.TAIL, R.HOST.CQ_HEAD.HEAD, R.CRC.UNIT_VALUE_LO.VALUE,
   R.HLTH.BKT_SEL.KIND, R.HLTH.BKT_SEL.UNIT, R.HLTH.SUMP_SEL.INDEX, R.FLOW.CTX_INDEX.INDEX, R.DRAM.CTRL.SETPOINT,
   R.TIME.TRIG_CTRL.ENABLE, R.TIME.TRIG_CTRL.MODE, R.TIME.TRIG_CTRL.IRQ, R.TIME.TRIG_CTRL.DIVIDE, R.TIME.TRIG_CTRL.COUNT,
   R.TIME.TRIG_START_LO.START, R.TIME.TRIG_START_HI.START, R.TIME.TRIG_PERIOD.PERIOD]

/-- The base of the scene queue or plan area with one part replaced. -/
def baseWith (m : Mach) (lo hi r : Row) (v : Nat) : Nat :=
  (if r = hi then v else m.rd hi) * 2 ^ 32 + (if r = lo then v else m.rd lo) * 2 ^ 20

/-- The effect of writing a read-write field that takes effect at once (R4), under its owner's rules. -/
def writeRW (m : Mach) (f : Fld) (v : Nat) : Mach :=
  let r := f.1
  let i := f.2.1
  let set := m.wr r v i f.2.2
  if commandFields.contains r then m
  -- R137, R175
  else if r = R.FLOW.QUEUE_BASE_LO.BASE_LO ∨ r = R.FLOW.QUEUE_BASE_HI.BASE_HI then
    if queueFree m && queueOk m (baseWith m R.FLOW.QUEUE_BASE_LO.BASE_LO R.FLOW.QUEUE_BASE_HI.BASE_HI r v) (queueSize m)
    then queueRefresh set else m
  else if r = R.FLOW.QUEUE_SIZE.SIZE_MIB then
    if queueFree m && queueOk m (queueBase m) (v * 2 ^ 20) then queueRefresh set else m
  -- R252
  else if r = R.GROT.PLAN_BASE_LO.BASE_LO ∨ r = R.GROT.PLAN_BASE_HI.BASE_HI then
    if planFree m && planOk m (baseWith m R.GROT.PLAN_BASE_LO.BASE_LO R.GROT.PLAN_BASE_HI.BASE_HI r v) (m.rd R.GROT.PLAN_SIZE.SIZE_MIB * 2 ^ 20)
    then set else m
  else if r = R.GROT.PLAN_SIZE.SIZE_MIB then
    if planFree m && planOk m (m.rd R.GROT.PLAN_BASE_HI.BASE_HI * 2 ^ 32 + m.rd R.GROT.PLAN_BASE_LO.BASE_LO * 2 ^ 20) (v * 2 ^ 20)
    then set else m
  -- R507
  else if [R.HOST.SQ_SIZE.SIZE, R.HOST.CQ_SIZE.SIZE].contains r then
    if m.flag R.HOST.RING_CTRL.ENABLE || !ringSizeOk v then m else set
  else if [R.HOST.SQ_BASE_LO.BASE, R.HOST.SQ_BASE_HI.BASE, R.HOST.CQ_BASE_LO.BASE, R.HOST.CQ_BASE_HI.BASE].contains r then
    if m.flag R.HOST.RING_CTRL.ENABLE then m else set
  -- R58, R730, R693, R534, R604, R441, R443
  else if r = R.SYS.MODE_REQ.ENTRY then (if 24 ≤ v then m else set)
  else if r = R.HLTH.TELEM_CTRL.DIVIDE then (if v = 0 then m else set)
  else if r = R.HLTH.TELEM_CTRL.COUNT_LOG2 then (if 1 ≤ v ∧ v ≤ 12 then set else m)
  else if r = R.LANT.PWR_CTRL.WAKE_TIMEOUT then (if v < 10 then m else set)
  else if r = R.BLIT.PACE.BURST_LOG then (if 6 < v then m else set)
  else if r = R.CAL.BLEND.TARGET then (if 65536 < v then m else set)
  else if r = R.CAL.BLEND_STEP.STEP then (if v = 0 then m else set)
  else if r = R.TIME.CTRL.SELECT then (if v = 3 then m else timeEval set)
  else if r = R.TIME.DOMAINS.DOMAIN_B then (if v ≤ 127 ∨ v = 255 then set else m)
  else if r = R.TIME.DOMAINS.DOMAIN_A then (if v ≤ 127 then set else m)
  -- R536
  else if r = R.CRC.UNIT_VALUE_HI.VALUE then crcMod m i (fun u => { u with hi := v })
  -- R413
  else if [R.PASS.CTRL.ENABLE, R.PASS.CTRL.LINK_EN].contains r then passMode set
  else if r = R.PASS.CTRL.GEN then
    (List.range 16).foldl (fun m k => if laneState m (48 + k) = L_OFF then m else requestGen m (48 + k) (passGen m) true) set
  -- R693
  else if r = R.LANT.RTC_SEC_HI.SEC then { m with lant := { m.lant with rtcHi := v } }
  else if r = R.LANT.RTC_SEC_LO.SEC then rtcLoad m (m.lant.rtcHi * 2 ^ 32 + v) true
  -- R597, R591: matrices, LUT and uniformity map are results too
  else if keyIn 0x1001000 0x1005000 (r.key i f.2.2) || keyIn 0x1020000 0x1030000 (r.key i f.2.2) then calAbandon set KIND_OPTICS
  else if r = R.CAL.OSC.TRIM then calAbandon set KIND_OSC
  else if r = R.CAL.SENS.GAIN ∨ r = R.CAL.SENS.OFFSET then calAbandon set KIND_SENSOR
  -- R719
  else if r = R.PERF.CNT_VALUE_HI.VALUE then { m with hl := { m.hl with perfHi := SMap.put 0 m.hl.perfHi i v } }
  else if r = R.PERF.CNT_VALUE_LO.VALUE then perfSet m i (SMap.get 0 m.hl.perfHi i * 2 ^ 32 + v)
  else set

/-- The map whose base a field holds a part of (R200). -/
def mapOfRow (r : Row) : Option Nat := (List.range 3).find? (fun (i : Nat) => r == (mapRows i).1 || r == (mapRows i).2)

/-- A value of the optics set reaches the commit logic; a map base starts the map's verification (R200), and an OPTICS run ends
(R597). -/
def optPut (m : Mach) (r : Row) (v : Nat) : Mach :=
  let m := optWrite (calAbandon m KIND_OPTICS) r v
  let m := if r = R.HEL.OPT_BLEND.ALPHA then m.wr R.CAL.BLEND.TARGET v else m
  match mapOfRow r with
  | some i => setMap m i (if mapBase m i = 0 then 0 else 1)
  | none => m

/-- The events a performance counter can select (R715). -/
def perfCodes : List Nat :=
  [0, 1, 2, 3, 0x10, 0x11, 0x12, 0x13, 0x14, 0x15, 0x16, 0x17, 0x18, 0x20, 0x21, 0x22, 0x28, 0x29, 0x30, 0x31, 0x32, 0x33, 0x34, 0x35,
   0x36, 0x37, 0x38]

/-- The effect of a value for an RWT field reaching the commit logic (R7), under its owner's rules. -/
def writeRWT (m : Mach) (f : Fld) (v : Nat) : Mach :=
  let r := f.1
  let hold := m.hold r v f.2.1 f.2.2
  let hold := if lantPlace (r.key f.2.1 f.2.2) then lantWake hold else hold
  if r = R.HEL.OPT_BLEND.ALPHA ∧ 65536 < v then m
  else if (optRows ++ xformRows).contains r || (mapOfRow r).isSome then optPut m r v
  else if r = R.DRAM.RH.MODE then (if v = 3 then m else hold)
  else if r = R.DRAM.RH.THRESHOLD then (if 256 ≤ v ∧ v ≤ 16384 then hold else m)
  else if r = R.PERF.CNT_CTRL.EVENT then (if perfCodes.contains v then hold else m)
  else if r = R.FLOW.CTX_QUOTA_SCENE.QUOTA then (if ctxQuotaOk m false v then hold else m)
  else if r = R.FLOW.CTX_QUOTA_AUX.QUOTA then (if ctxQuotaOk m true v then hold else m)
  else if r = R.SCAN.PANEL_CFG.ENTRIES then (if entriesOk m v then hold else m)
  else if quotaRows.contains r then (if bwQuotaOk m r v then hold else m)
  else if r = R.CHIM.LIMITS.POOL then (if 48 ≤ v ∧ v ≤ ceilingDue m then hold else m)
  else if r = R.CHIM.CLASS.QUOTA then (if v ≤ 560 then hold else m)
  else if r = R.TIME.LIMITS.FREQ_LIMIT then (if 100 ≤ v ∧ v ≤ 3000 then hold else m)
  else if r = R.GROT.PART.GALLERY_MIB then (if 8 ≤ v ∧ v ≤ 48 then hold else m)
  else if r = R.SCAN.LP_CTRL.DIVIDE then (if 1 ≤ v ∧ v ≤ 8 then hold else m)
  else hold

/-- The master identifier of a principal's register accesses (R717). -/
def regMaster : Principal → Nat
  | .bed => 0
  | .fw => 1
  | _ => 0x11

/-- A register access by the host arrives over the link (R481), and by firmware while the main cores run. -/
def busReaches (m : Mach) : Principal → Bool
  | .bed => true
  | .fw => m.sec.cores
  | .host => m.flag R.HOST.LINK.DL_UP
  | .net => false

/-- chimney_ceiling is held for its tick (R551). -/
def ceilHold (m : Mach) (v : Nat) : Mach :=
  if v < 48 ∨ 560 < v then m
  else if m.mc.deadline then deferNote { m with dic := { m.dic with ceil2 := some v } }
  else { m with dic := { m.dic with ceil1 := some v } }

/-- Bedrock's write of THRM.LIMITS, judged whole (R567): no field above its default or below 100 C, and WARN ≤ THROTTLE ≤ STEP_DOWN. -/
def limitsOk (w : Nat) : Bool :=
  let warn := R.THRM.LIMITS.WARN.part w
  let th := R.THRM.LIMITS.THROTTLE.part w
  let sd := R.THRM.LIMITS.STEP_DOWN.part w
  decide (100 ≤ warn) && decide (warn ≤ th) && decide (th ≤ sd) && decide (warn ≤ 135) && decide (th ≤ 140) && decide (sd ≤ 145)

/-- Whether a word at an offset is a lane's TXFIR whose taps break R366 (R385). -/
def tapsBreak (a w : Nat) : Bool :=
  let vein := decide (0x1810000 ≤ a) && decide (a < 0x1813000) && a % 0x100 == 8
  let pass := decide (0x1C10000 ≤ a) && decide (a < 0x1C11000) && a % 0x100 == 8
  (vein || pass) && !tapsOk (R.VEIN.LANE_TXFIR.PRE.part w) (R.VEIN.LANE_TXFIR.POST.part w)

/-- One field of a register write (R4, R789): a read-write field acts only where the value differs. DMA channel registers answer to
the channel's owner alone (R495). -/
def writeField (m : Mach) (p : Principal) (a w : Nat) (f : Fld) : Mach :=
  let v := f.1.part w
  let cur := m.rd f.1 f.2.1 f.2.2
  match f.1.acc with
  | .RO | .WO | .RC | .RWT => m
  | .W1C => m.wr f.1 (cur - Nat.land cur v) f.2.1 f.2.2
  | .W1S => m.wr f.1 (Nat.lor cur v) f.2.1 f.2.2
  | .RWB =>
    if v = cur then m
    else if p = .bed then (if f.1 = R.CHIM.LIMITS.CEILING then ceilHold m v else m.wr f.1 v f.2.1 f.2.2)
    else fwallDeny m p true true 31 (regMaster p) a
  | .RW => if v = cur then m else writeRW m f v

/-- Replace a part of a BAR2 slot's data area (R81). -/
def slotPut (m : Mach) (n o : Nat) (b : List Byte) : Mach :=
  let put (x : DSlot) : DSlot := { x with data := splice x.data o b }
  { m with dic := { m.dic with slots := modAt m.dic.slots n put } }

/-- REGISTER_WRITE (R3, R789): a word is written at an offset of BAR0, or of the BAR2 window from 0x1000_0000 on. -/
def registerWrite (m : Mach) (p : Principal) (a w : Nat) : Mach :=
  if !busReaches m p ∨ a % 4 ≠ 0 then m
  else if 0x2501000 ≤ a ∧ a < 0x2502000 ∧ !(dmaOwned m ((a - 0x2501000) / 0x100) p).1 then
    (dmaOwned m ((a - 0x2501000) / 0x100) p).2
  -- the MSI-X table and pending bits (R487)
  else if 0x2408000 ≤ a ∧ a < 0x2408400 then
    let k := (a - 0x2408000) / 4
    let clears : Bool := k % 4 == 3 && bit (m.msixWord k) 0 && !bit w 0
    if clears then msixUnmask (m.msixSet k w) (k / 4) else m.msixSet k w
  else if a = 0x300010 ∧ p = .bed ∧ !limitsOk w then m
  -- a BAR2 slot's registers and data area while it is busy (R81)
  else if 0x10001000 ≤ a ∧ a < 0x10011000 ∧ m.flag R.DICT.SLOT_STATUS.BUSY ((a - 0x10001000) / 0x1000) then m
  else if 0x10001000 ≤ a ∧ a < 0x10011000 ∧ 0x20 ≤ a % 0x1000 then
    slotPut m ((a - 0x10001000) / 0x1000) (a % 0x1000 - 0x20) (toLE 4 w)
  else dmaRefresh (m.each (fieldsAt a) (fun m f => writeField m p a w f))

def execRegisterWrite (p : Principal) (off word : Nat) (s : State) : Out' := onM s (fun m => registerWrite m p off word)

/-! ## The commit logic (R7, R17) -/

/-- COMMIT_LOGIC_WRITE (R7, R789): the RWT fields of a register write reach the commit logic. A field written with its present read value is
not written. -/
def commitWrite (m : Mach) (p : Principal) (a w : Nat) : Mach :=
  if !busReaches m p ∨ a % 4 ≠ 0 ∨ tapsBreak a w then m
  else
    let m' := m.each (fieldsAt a) (fun m (f : Fld) =>
      if f.1.acc = .RWT ∧ f.1.part w ≠ m.rdNew f.1 f.2.1 f.2.2 then writeRWT m f (f.1.part w) else m)
    if m'.held2 = m.held2 then m' else deferNote m'

def execCommitLogicWrite (p : Principal) (off word : Nat) (s : State) : Out' := onM s (fun m => commitWrite m p off word)

/-! ## Reads that change state -/

/-- The _LO registers outside PERF and LANT whose read latches the register after them (R30, R434, R512). -/
def loOffsets : List Nat :=
  [0x100, 0x100020, 0x100030, 0x100038, 0x2000018, 0x2A00088, 0x2D00048, 0x2D00050, 0x2E00044, 0x2600074, 0x2800050] ++
  (List.range 6).map (fun (k : Nat) => 0x800080 + 8 * k) ++
  (List.range 16).flatMap (fun (n : Nat) => [0x2501010 + 0x100 * n, 0x2501018 + 0x100 * n]) ++
  (List.range 4).flatMap (fun (n : Nat) => [0x10, 0x18, 0x20, 0x28, 0x30].map (fun (o : Nat) => 0x2701000 + o + 0x100 * n))

/-- The offsets a read of `a` latches. RTC_SEC_LO latches the two other words of the clock (R693). -/
def latchedBy (a : Nat) : List Nat :=
  if loOffsets.contains a then [a + 4] else if a = 0x2C00024 then [0x2C00028, 0x2C00020] else []

/-- The offsets answered from a latch. -/
def latchOffsets : List Nat := loOffsets.map (· + 4) ++ [0x2C00028, 0x2C00020]

/-- What a read of an offset returns: the latched _HI registers return their latch (R30, R719). -/
def busRead (m : Mach) (p : Principal) (a : Nat) : Nat :=
  let perf : Bool := 0x2B01000 ≤ a && a < 0x2B01800 && (a % 0x40 == 0x1C || a % 0x40 == 0x24)
  if perf then SMap.get 0 m.hl.perfLatch (p.bit * 2 ^ 32 + a)
  else if latchOffsets.contains a then SMap.get 0 m.latch a
  else regWord m a

/-- LO_REGISTER_READ (R30, R434, R719): the time in force has run on by `adv` ns where the register shows it. The counters of PERF keep a
latch for each principal; every other pair one latch. -/
def loRead (m : Mach) (p : Principal) (a adv : Nat) : Mach :=
  if !busReaches m p then m
  else
    let m := if a = 0x100020 then advance m adv else m
    let n := (a - 0x2B01000) / 0x40
    if 0x2B01000 ≤ a ∧ n < 32 ∧ (a % 0x40 = 0x18 ∨ a % 0x40 = 0x20) then
      let k := p.bit * 2 ^ 32 + a + 4
      let m := { m with hl := { m.hl with perfLatch := SMap.ins m.hl.perfLatch k (regWord m (a + 4)) } }
      m.emit (.read (busRead m p a))
    else
      let m1 := m.each (latchedBy a) (fun m x => { m with latch := SMap.ins m.latch x (regWord m x) })
      m1.emit (.read (busRead m p a))

def execLoRegisterRead (p : Principal) (off adv : Nat) (s : State) : Out' := onM s (fun m => loRead m p off adv)

/-- READ_CLEAR_REGISTER (R4): the register's word is returned, and its RC fields return to their reset values. -/
def readClear (m : Mach) (p : Principal) (a : Nat) : Mach :=
  if !busReaches m p then m
  else
    let v := regWord m a
    (m.each (fieldsAt a) (fun m (f : Fld) =>
      if f.1.acc = .RC then m.wr f.1 (f.1.reset f.2.1 f.2.2) f.2.1 f.2.2 else m)).emit (.read v)

def execReadClearRegister (p : Principal) (off : Nat) (s : State) : Out' := onM s (fun m => readClear m p off)

end Sys2Proof.Machine
end

