-- ==== Sys2Proof/Machine/SceneCmds.lean ====
section
/-!
DEFINITION. Scene frames as they arrive, on the HOST path and through the fabric, and as an ingest sends them on
(spec/04_mbaudel_scene_format.md R100-R132; spec/05_flowstone_decoder.md R137-R143; spec/11_passage_fabric.md R402-R406).
-/
namespace Sys2Proof.Machine

/-! ## Frustum rectangles (R405) -/

/-- A rectangle of nodes: x0, x1, y0, y1. -/
abbrev Rect := Nat × Nat × Nat × Nat

/-- A binary32 field of a geometry block. -/
def geomF (g : List Byte) (o : Nat) : F64 := f32 (fieldLE g o 4)

/-- The whole mesh of a geometry block. -/
def geomWhole (g : List Byte) : Rect := (0, fieldLE g 78 1, 0, fieldLE g 79 1)

/-- A corner of a tile's box in the scene frame; `c` numbers the corners. -/
def tileCorner (pose : List Nat) (col row : Nat) (dmin dmax : Int) (c : Nat) : V3 :=
  let u := v3 pose 3
  let v := v3 pose 6
  let n := vnormal (vcross u v)
  let edge (k : Nat) (hi : Bool) : F64 := f64OfInt (if hi then 64 * k + 65 else 64 * k - 1)
  let d := fmul (f64OfInt (if bit c 2 then dmax else dmin)) (f32 (pose.getD 9 0))
  vadd (vadd (vadd (v3 pose 0) (vscale (edge col (bit c 0)) u)) (vscale (edge row (bit c 1)) v)) (vscale d n)

/-- The smaller and the larger of two values. -/
def fmin (a b : F64) : F64 := if flt b a then b else a
def fmax (a b : F64) : F64 := if flt a b then b else a

/-- floor of a value less or plus a margin. -/
def edgeNode (v : F64) (margin : Int) : Option Int := v.map (fun a => ffloor a + margin)

/-- clamp_to_mesh: none where the rectangle lies wholly outside. -/
def clampMesh (g : List Byte) (x0 x1 y0 y1 : Int) : Option Rect :=
  let w : Int := fieldLE g 78 1
  let h : Int := fieldLE g 79 1
  if x1 < 0 ∨ y1 < 0 ∨ w < x0 ∨ h < y0 ∨ x1 < x0 ∨ y1 < y0 then none
  else some ((clampI x0 0 w).toNat, (clampI x1 0 w).toNat, (clampI y0 0 h).toNat, (clampI y1 0 h).toNat)

/-- tile_rect (R405). A value that is not finite gives the whole mesh (assumption log 51). -/
def tileRect (g : List Byte) (pose : List Nat) (col row : Nat) (dmin dmax : Int) : Option Rect :=
  let d := geomF g 72
  if fieldLE g 77 1 = 1 then some (geomWhole g)
  else
    let mat := (List.range 12).map (fun i => fieldLE g (4 * i) 4)
    let qs := (List.range 8).map (fun c => matPoint mat (tileCorner pose col row dmin dmax c))
    if qs.any (fun q => !flt q.2.2 d) then some (geomWhole g)
    else
      let pts := qs.foldr (fun q acc =>
        let k := fdiv d (fsub d q.2.2)
        (List.range 4).map (fun z =>
          let zx := geomF g (56 + 4 * (z % 2))
          let zy := geomF g (64 + 4 * (z / 2))
          (fadd zx (fmul k (fsub q.1 zx)), fadd zy (fmul k (fsub q.2.1 zy)))) ++ acc) []
      match pts with
      | [] => some (geomWhole g)
      | p :: ps =>
        let xlo := ps.foldl (fun a b => fmin a b.1) p.1
        let xhi := ps.foldl (fun a b => fmax a b.1) p.1
        let ylo := ps.foldl (fun a b => fmin a b.2) p.2
        let yhi := ps.foldl (fun a b => fmax a b.2) p.2
        let px := geomF g 48
        let py := geomF g 52
        let hx := fdiv px (f64OfInt 2)
        let hy := fdiv py (f64OfInt 2)
        let mg : Int := fieldLE g 76 1
        let fin : Bool := pts.all (fun p => p.1.isSome && p.2.isSome)
        match edgeNode (fdiv (fadd xlo hx) px) (-mg), edgeNode (fdiv (fadd xhi hx) px) mg,
            edgeNode (fdiv (fsub hy yhi) py) (-mg), edgeNode (fdiv (fsub hy ylo) py) mg with
        | some x0, some x1, some y0, some y1 => if fin then clampMesh g x0 x1 y0 y1 else some (geomWhole g)
        | _, _, _, _ => some (geomWhole g)

/-- The rectangle of a tile of a slab under a pose. -/
def slabRect (g : List Byte) (pose : List Nat) (s : MSlab) (i : Nat) (t : MTile) : Option Rect :=
  tileRect g pose (i % s.w) (i / s.w) t.dmin t.dmax

/-- Whether a node lies in a rectangle. -/
def inRectN (a : Nat) : Option Rect → Bool
  | some (x0, x1, y0, y1) => decide (x0 ≤ a % 64) && decide (a % 64 ≤ x1) && decide (y0 ≤ a / 64) && decide (a / 64 ≤ y1)
  | none => false

/-- The nodes of one rectangle that are not in another, as at most four rectangles (R406). -/
def rectDiff (a : Option Rect) (b : Option Rect) : List Rect :=
  match a, b with
  | none, _ => []
  | some a, none => [a]
  | some (ax0, ax1, ay0, ay1), some (bx0, bx1, by0, by1) =>
    if ax1 < bx0 ∨ bx1 < ax0 ∨ ay1 < by0 ∨ by1 < ay0 then [(ax0, ax1, ay0, ay1)]
    else
      let y0 := Nat.max ay0 by0
      let y1 := Nat.min ay1 by1
      (if ay0 < by0 then [(ax0, ax1, ay0, by0 - 1)] else []) ++ (if by1 < ay1 then [(ax0, ax1, by1 + 1, ay1)] else []) ++
      (if ax0 < bx0 then [(ax0, bx0 - 1, y0, y1)] else []) ++ (if bx1 < ax1 then [(bx1 + 1, ax1, y0, y1)] else [])

/-! ## Poses and tiles of a frame -/

/-- The pose of a slab in a frame: its own, or its base's for KEEP (R109). -/
def poseIn (m : Mach) : Nat → Frame → Nat → List Nat
  | 0, _, _ => []
  | fuel + 1, f, id =>
    match f.slab id with
    | none => []
    | some s =>
      if s.pers ≠ 1 ∨ F_ADMITTED ≤ f.st then s.pose
      else match baseOf m f with
        | some b => if b.seq = f.seq then s.pose else poseIn m fuel b id
        | none => s.pose

/-- The frame that last carried a slab as REPLACE, and the slab as that frame has it. -/
def srcSlab (m : Mach) (f : Frame) (id : Nat) : Option (Frame × MSlab) :=
  (traceSrc m 64 f id).bind (fun q => (frameOf m q).bind (fun g => (g.slab id).map (fun s => (g, s))))

/-- Tile `k` of a frame in tile-index order: slab, number within it, tile. -/
def Frame.tileAt (f : Frame) (k : Nat) : Option (MSlab × Nat × MTile) :=
  let step (acc : Nat × Option (MSlab × Nat × MTile)) (s : MSlab) : Nat × Option (MSlab × Nat × MTile) :=
    if s.pers ≠ 0 ∨ acc.2.isSome then acc
    else if acc.1 < s.tiles.length then (acc.1, (s.tiles[acc.1]?).map (fun t => (s, acc.1, t)))
    else (acc.1 - s.tiles.length, none)
  (f.slabs.foldl step (k, none)).2

/-- The tile-index number of tile `i` of a slab of a frame. -/
def Frame.tileNo (f : Frame) (id i : Nat) : Nat :=
  (f.slabs.foldl (fun (acc : Nat × Bool) s =>
    if acc.2 then acc
    else if s.id = id then (acc.1 + i, true)
    else (acc.1 + (if s.pers = 0 then s.tiles.length else 0), false)) (0, false)).1

/-- A tile of a frame is in place: in the frame that carried it, and in every frame that refers to it. -/
def markHere (m : Mach) (src id i : Nat) : Mach :=
  let mark (s : MSlab) : MSlab := if s.id == id && s.src == src then { s with tiles := modAt s.tiles i (fun t => { t with here := true }) } else s
  setFrames m (m.flow.frames.map (fun f => { f with slabs := f.slabs.map mark }))

/-! ## The ingest (R402, R403, R406) -/

/-- Cut bytes into pieces: `first` bytes, then 2,032 each. -/
def cutBytes : Nat → Nat → List Byte → List (List Byte)
  | 0, _, _ => []
  | fuel + 1, n, b => if b.isEmpty then [] else b.take n :: cutBytes fuel 2032 (b.drop n)

/-- Pieces with their offsets. -/
def withOffsets (l : List (List Byte)) : List (Nat × List Byte) :=
  (l.foldl (fun (acc : Nat × List (Nat × List Byte)) b => (acc.1 + b.length, acc.2 ++ [(acc.1, b)])) (0, [])).2

/-- A rectangle as a destination. -/
def Rect.dest (r : Rect) : Nat := rectDest r.1 r.2.1 r.2.2.1 r.2.2.2

/-- The geometry a frame is sent with (R406): wall_geometry at a keyframe, else its base's. -/
def geomFor (m : Mach) (f : Frame) : List Byte :=
  let own := slice (m.dbytes D.wall_geometry) 0 78 ++ toLE 1 (m.rd R.PASS.MESH.WIDTH_M1) ++ toLE 1 (m.rd R.PASS.MESH.HEIGHT_M1)
  if bit f.flags 0 then own
  else match baseOf m f with
    | some b => if b.geom.isEmpty then own else b.geom
    | none => own

/-- Send the head: SCENE_HEAD fragments to the whole mesh. -/
def sendHead (d : Mem) (m : Mach) (f : Frame) : Mach :=
  let bytes := d.read f.addr f.poff
  m.each (withOffsets (cutBytes (f.poff / 2032 + 2) 1952 bytes)) (fun m p =>
    let data := toLE 4 f.seq ++ toLE 4 p.1 ++ toLE 8 0 ++ (if p.1 = 0 then slice f.geom 0 80 else []) ++ p.2
    fabSend m 0 0x0C true (wholeMesh m) data)

/-- Send a tile's payload in fragments of a kind to a rectangle. -/
def sendTile (d : Mem) (m : Mach) (kind : Nat) (g : Frame) (no : Nat) (t : MTile) (r : Rect) : Mach :=
  m.each (withOffsets (cutBytes (t.len / 2032 + 2) 2032 (d.read (g.addr + t.off) t.len))) (fun m p =>
    fabSend m 0 kind true r.dest (toLE 4 g.seq ++ toLE 4 no ++ toLE 4 p.1 ++ toLE 4 0 ++ p.2))

/-- Send the payloads of a frame's REPLACE tiles, each to its rectangle. -/
def sendPayloads (d : Mem) (m : Mach) (f : Frame) : Mach :=
  m.each (f.slabs.filter (fun s => s.pers == 0)) (fun m s =>
    m.each ((List.range s.tiles.length).zip s.tiles) (fun m e =>
      if e.2.cls = 0 then m
      else match slabRect f.geom s.pose s e.1 e.2 with
        | some r => sendTile d m 0x0D f (f.tileNo s.id e.1) e.2 r
        | none => m))

/-- Send the supplements: tiles of KEEP and POSE_ONLY slabs, to the nodes that only this frame's pose brings them to. -/
def sendSuppl (d : Mem) (m : Mach) (f : Frame) : Mach :=
  m.each (f.slabs.filter (fun s => s.pers != 0)) (fun m s =>
    match srcSlab m f s.id, baseOf m f with
    | some (g, q), some b =>
      let new := poseIn m 64 f s.id
      let old := poseIn m 64 b s.id
      m.each ((List.range q.tiles.length).zip q.tiles) (fun m e =>
        if e.2.cls = 0 then m
        else m.each (rectDiff (slabRect f.geom new q e.1 e.2) (slabRect f.geom old q e.1 e.2)) (fun m r =>
          sendTile d m 0x0E g (g.tileNo s.id e.1) e.2 r))
    | _, _ => m)

/-- The leader grants a claim: to another node by SCENE_GRANT, to itself at once. -/
def grantClaim (m : Mach) (c : Claim) : Mach :=
  let m := { m with fab := { m.fab with granted := some c } }
  if fabAddr m = some c.src then (if m.fab.claim = some c.seq then m.wr R.PASS.STATUS.CLAIM_HELD 1 else m)
  else fabSend m 2 0x0A false c.src (toLE 4 0 ++ toLE 4 c.seq)

/-- The leader takes a claim (R402): granted, or queued; CONTINUE claims go before all others. -/
def takeClaim (m : Mach) (c : Claim) : Mach :=
  match m.fab.granted with
  | none => grantClaim m c
  | some _ =>
    let l := m.fab.claims
    let l := if c.cont then l.filter (·.cont) ++ [c] ++ l.filter (fun x => !x.cont) else l ++ [c]
    let m := { m with fab := { m.fab with claims := l } }
    if fabAddr m = some c.src then m else fabSend m 2 0x0A false c.src (toLE 4 1 ++ toLE 4 c.seq)

/-- The leader grants the next claim. -/
def nextClaim (m : Mach) : Mach :=
  let m := { m with fab := { m.fab with granted := none } }
  match m.fab.claims with
  | [] => m
  | c :: l => grantClaim { m with fab := { m.fab with claims := l } } c

/-- The claim of the oldest own frame that waits to be sent. -/
def claimNext (m : Mach) : Mach :=
  match m.fab.claim, m.fab.send, fabAddr m with
  | none, q :: _, some a =>
    let m := { m with fab := { m.fab with claim := some q, headOut := false } }
    if m.flag R.PASS.STATUS.IS_LEADER then takeClaim m ⟨a, q, false⟩
    else fabSend m 2 0x09 false (m.rd R.PASS.LEADER.LEADER_ADDR) (toLE 4 0 ++ toLE 4 q)
  | _, _, _ => m

/-- The own claim ends; SCENE_RELEASE. -/
def releaseClaim (m : Mach) (q : Nat) : Mach :=
  let rest := m.fab.send.filter (· != q)
  let m := { m.wr R.PASS.STATUS.CLAIM_HELD 0 with fab := { m.fab with claim := none, headOut := false, send := rest } }
  if m.flag R.PASS.STATUS.IS_LEADER then
    (match m.fab.granted with
      | some c => if fabAddr m = some c.src ∧ c.seq = q then nextClaim m else m
      | none => m)
  else fabSend m 2 0x0B false (m.rd R.PASS.LEADER.LEADER_ADDR) (toLE 4 0 ++ toLE 4 q)

/-- What the ingest can send now of the frame whose claim is granted. -/
def ingestSend (d : Mem) (m : Mach) : Mach :=
  match m.fab.claim with
  | none => m
  | some q =>
    if !m.flag R.PASS.STATUS.CLAIM_HELD then m
    else match frameOf m q with
      | none => m
      | some f =>
        let m := if m.fab.headOut then m else { sendHead d m f with fab := { (sendHead d m f).fab with headOut := true } }
        if f.st = F_RECEIVING then m
        else
          let m := sendSuppl d (sendPayloads d m f) f
          let m := fabSend m 0 0x0F true (wholeMesh m) (toLE 4 q ++ d.read (f.addr + f.bytes - 8) 8 ++ toLE 4 f.tcount)
          releaseClaim m q

/-- The ingest's work: send, then claim for the next frame; a claim granted at once is used at once. -/
def ingestStep (d : Mem) (m : Mach) : Mach := ingestSend d (claimNext (ingestSend d m))

/-- A HOST frame whose head has passed its checks is to be sent through a fabric this node has joined. -/
def ingestHead (d : Mem) (m : Mach) (q : Nat) : Mach :=
  match frameOf m q with
  | none => m
  | some f =>
    if f.stage < 3 ∨ (fabAddr m).isNone ∨ m.fab.send.contains q then m
    else
      let m := frameMod m q (fun g => { g with geom := geomFor m f })
      ingestStep d { m with fab := { m.fab with send := m.fab.send ++ [q] } }

/-! ## The HOST path (R129, R141-R143) -/

/-- A part of a frame in stream order: judged, written to its place, and passed on by an ingest. -/
def hostPart (d : Mem) (m : Mach) (kind : Nat) (b : List Byte) (arrive : Mach → Frame → List Byte → Mach) : Effect :=
  match receiving m 0 kind with
  | none => ⟨m, [], false⟩
  | some f =>
    let m := arrive m f b
    if (frameOf m f.seq).isNone then ⟨m, [], false⟩
    else
      let w := [(f.addr + f.got, b)]
      ⟨ingestHead (applyWrites d w) m f.seq, w, false⟩

/-- MSF_HEADER: the 64 bytes that open a frame. -/
def hostHeader (m : Mach) (b : List Byte) : Effect :=
  let b := slice b 0 64
  match headerArrives m 0 b with
  | (some a, m) => ⟨m, [(a, b)], false⟩
  | (none, m) => ⟨m, [], false⟩

def execMsfHeader (b : List Byte) (s : State) : Out' := onW s (fun _ m => hostHeader m b)

/-- MSF_SLAB_ENTRY: 192 bytes. -/
def execMsfSlabEntry (b : List Byte) (s : State) : Out' := onW s (fun d m => hostPart d m 1 (slice b 0 192) slabArrives)

/-- MSF_TILE_INDEX: 16 bytes. -/
def execMsfTileIndex (b : List Byte) (s : State) : Out' := onW s (fun d m => hostPart d m 2 (slice b 0 16) tileArrives)

/-- MSF_TILE_PAYLOAD: the zero bytes before a payload, and the payload. -/
def execMsfTilePayload (b : List Byte) (s : State) : Out' := onW s (fun d m => hostPart d m 3 b payloadArrives)

/-- MSF_FRAME_TRAILER: the zero bytes before the trailer, and the trailer. An ingest then sends the rest of the frame. -/
def hostTrailer (d : Mem) (m : Mach) (b : List Byte) : Effect :=
  let e := hostPart d m 4 b trailerArrives
  { e with m := ingestStep (applyWrites d e.wr) e.m }

def execMsfFrameTrailer (b : List Byte) (s : State) : Out' := onW s (fun d m => hostTrailer d m b)

/-! ## Claims (R402) -/

/-- SCENE_CLAIM at the leader. -/
def execSceneClaim (n : Nat) (crc : Bool) (p : Packet) (s : State) : Out' :=
  onM s (fun m =>
    let (mine, m) := pktArrive m n crc p
    if mine && m.flag R.PASS.STATUS.IS_LEADER then takeClaim m ⟨p.src, fieldLE p.data 4 4, bit (fieldLE p.data 0 1) 0⟩ else m)

/-- SCENE_GRANT at an ingest: granted, queued or revoked. -/
def sceneGrant (d : Mem) (m : Mach) (b : List Byte) : Mach :=
  let q := fieldLE b 4 4
  if m.fab.claim ≠ some q then m
  else match fieldLE b 0 1 with
    | 0 => ingestStep d (m.wr R.PASS.STATUS.CLAIM_HELD 1)
    | 2 =>
      let rest := m.fab.send.filter (· != q)
      let m := { m.wr R.PASS.STATUS.CLAIM_HELD 0 with fab := { m.fab with claim := none, headOut := false, send := rest } }
      ingestStep d ((passCode m CLAIM_REVOKED).ev E.PASS.CLAIM_REVOKED)
    | _ => m

def execSceneGrant (n : Nat) (crc : Bool) (p : Packet) (s : State) : Out' :=
  onR s (fun d m =>
    let (mine, m) := pktArrive m n crc p
    if mine then sceneGrant d m p.data else m)

/-- SCENE_RELEASE at the leader. -/
def sceneRelease (m : Mach) (src q : Nat) : Mach :=
  match m.fab.granted with
  | some c => if c.src = src ∧ c.seq = q then nextClaim m else m
  | none => m

def execSceneRelease (n : Nat) (crc : Bool) (p : Packet) (s : State) : Out' :=
  onR s (fun d m =>
    let (mine, m) := pktArrive m n crc p
    if mine && m.flag R.PASS.STATUS.IS_LEADER then ingestStep d (sceneRelease m p.src (fieldLE p.data 4 4)) else m)

/-- SCENE_CLAIM_REVOKE: 2 s pass without a release. -/
def sceneRevoke (d : Mem) (m : Mach) : Mach :=
  match m.fab.granted with
  | none => m
  | some c =>
    let own := fabAddr m == some c.src
    let m := revokeClaim m
    let rest := m.fab.send.filter (· != c.seq)
    let m := if own then { m with fab := { m.fab with headOut := false, send := rest } } else m
    ingestStep d (nextClaim m)

def execSceneClaimRevoke (s : State) : Out' := onR s sceneRevoke

/-! ## The FABRIC path (R403, R404, R406) -/

/-- Bytes `o` to `o + n` of fragments, where all have arrived. -/
def fragRead (l : List (Nat × List Byte)) (o n : Nat) : Option (List Byte) :=
  let at_ (k : Nat) : Option Byte := l.findSome? (fun p => if p.1 ≤ k then p.2[k - p.1]? else none)
  (List.range n).mapM (fun i => at_ (o + i))

/-- Whether this node needs a tile: not EMPTY, and the node lies in its rectangle. -/
def needsTile (m : Mach) (g : List Byte) (pose : List Nat) (s : MSlab) (i : Nat) (t : MTile) : Bool :=
  t.cls != 0 && inRectN (m.rd R.PASS.STATUS.ADDRESS) (slabRect g pose s i t)

/-- Whether every payload and supplement a FABRIC frame needs is in place (R404). -/
def fabWhole (m : Mach) (f : Frame) : Bool :=
  f.slabs.all (fun s =>
    match (if s.pers = 0 then some (f, s) else srcSlab m f s.id) with
    | none => false
    | some (_, q) =>
      let pose := poseIn m 64 f s.id
      ((List.range q.tiles.length).zip q.tiles).all (fun e => e.2.here || !needsTile m f.geom pose q e.1 e.2))

/-- A FABRIC frame is complete once SCENE_END and all it needs have arrived. -/
def fabJudge (m : Mach) (q : Nat) : Mach :=
  match frameOf m q with
  | some f =>
    if f.path = 1 ∧ f.st = F_RECEIVING ∧ f.tail ∧ 3 ≤ f.stage ∧ fabWhole m f then
      let m := queueRefresh (frameMod m q (fun g => { g with st := F_COMPLETE, got := f.bytes }))
      if (pathOf m 1).rx = some q then pathMod m 1 (fun _ => ⟨none, none⟩) else m
    else m
  | none => m

/-- Take slab entries and tile-index entries from the fragments in stream order, at most `fuel` of them. -/
def headRun : Nat → Mach → Nat → Mach
  | 0, m, _ => m
  | fuel + 1, m, q =>
    match frameOf m q with
    | none => m
    | some f =>
      let st := f.stage
      if 3 ≤ st then m
      else match fragRead f.head f.got (if st = 1 then 192 else 16) with
        | none => m
        | some b => headRun fuel (if st = 1 then slabArrives m f b else tileArrives m f b) q

/-- The HOST path's whole-frame stages take no payload from a FABRIC frame, whose bytes arrive in any order. -/
def fabDropped (m : Mach) (n : Nat) : Mach := lateBytes m 1 n

/-- SCENE_HEAD: a fragment of the head. Offset 0 with a new sequence starts a frame. -/
def sceneHead (d : Mem) (m : Mach) (b : List Byte) : Effect :=
  let q := fieldLE b 0 4
  let o := fieldLE b 4 4
  let body := b.drop (if o = 0 then 96 else 16)
  let known : Bool := (match frameOf m q with
    | some f => f.path == 1 && f.st == F_RECEIVING
    | none => false)
  let (ok, m, w) : Bool × Mach × List (Nat × List Byte) :=
    if known then (true, m, [])
    else if o = 0 then
      (match headerArrives m 1 (slice body 0 64) with
        | (some a, m) => (true, frameMod m q (fun f => { f with geom := slice (b.drop 16) 0 80 }), [(a, slice body 0 64)])
        | (none, m) => (false, m, []))
    else (false, m, [])
  if !ok then ⟨if o = 0 then m else fabDropped m body.length, [], false⟩
  else match frameOf m q with
    | none => ⟨m, w, false⟩
    | some f =>
      let m := frameMod m q (fun f => { f with head := (o, body) :: f.head })
      let m := headRun (f.poff / 16 + 1) m q
      if (frameOf m q).isNone then ⟨m, [], false⟩
      else
        let part := body.take (f.poff - o)
        let w := w ++ [(f.addr + o, part)]
        let m := match frameOf m q with
          | some g => if 3 ≤ g.stage then frameMod m q (fun g => { g with head := [] }) else m
          | none => m
        let _ := d
        ⟨fabJudge m q, w, false⟩

def execSceneHead (n : Nat) (crc : Bool) (p : Packet) (s : State) : Out' :=
  onW s (fun d m =>
    let (mine, m) := pktArrive m n crc p
    if mine then sceneHead d m p.data else ⟨m, [], false⟩)

/-- A payload fragment (SCENE_PAYLOAD, or SCENE_SUPPL into the space of an older frame) is placed; a payload that is whole is checked. -/
def scenePart (d : Mem) (m : Mach) (suppl : Bool) (b : List Byte) : Effect :=
  let q := fieldLE b 0 4
  let no := fieldLE b 4 4
  let o := fieldLE b 8 4
  let body := b.drop 16
  let held : Option Frame := match frameOf m q with
    | some f => if suppl ∨ (f.path = 1 ∧ f.st = F_RECEIVING) then some f else none
    | none => none
  match held.bind (fun f => (f.tileAt no).map (fun e => (f, e))) with
  | none => ⟨fabDropped m body.length, [], false⟩
  | some (f, s, i, t) =>
    -- a supplement's need rests on the frame in reception, whose supplement it is; only tiles not yet in place are taken
    if t.here ∨ t.cls = 0 ∨ t.len < o + body.length ∨ (!suppl ∧ !needsTile m f.geom s.pose s i t) then ⟨m, [], false⟩
    else
      let w := [(f.addr + t.off + o, body)]
      let parts := if f.parts.contains (no, o, body.length) then f.parts else (no, o, body.length) :: f.parts
      let m := frameMod m q (fun f => { f with parts := parts })
      if sumN ((parts.filter (fun x => x.1 == no)).map (·.2.2)) < t.len then ⟨m, w, false⟩
      else
        let p := Mem.read (applyWrites d w) (f.addr + t.off) t.len
        let c := payloadCode p s.itv (f.ver != 2)
        let m := frameMod m q (fun f => { f with parts := parts.filter (fun x => x.1 != no) })
        if c ≠ 0 then ⟨if suppl then m else refuseFrame m f c, w, false⟩
        else
          let m := markHere m q s.id i
          ⟨m.each (m.flow.frames.map (·.seq)) fabJudge, w, false⟩

def execScenePayload (n : Nat) (crc : Bool) (p : Packet) (s : State) : Out' :=
  onW s (fun d m =>
    let (mine, m) := pktArrive m n crc p
    if mine then scenePart d m false p.data else ⟨m, [], false⟩)

/-- SCENE_SUPPL (R406). -/
def execSceneSuppl (n : Nat) (crc : Bool) (p : Packet) (s : State) : Out' :=
  onW s (fun d m =>
    let (mine, m) := pktArrive m n crc p
    if mine then scenePart d m true p.data else ⟨m, [], false⟩)

/-- SCENE_END (R404): the end marker is checked; a frame without its base is refused (R406). -/
def sceneEnd (m : Mach) (b : List Byte) : Effect :=
  let q := fieldLE b 0 4
  match frameOf m q with
  | none => ⟨fabDropped m (b.length - 4), [], false⟩
  | some f =>
    if f.path ≠ 1 ∨ f.st ≠ F_RECEIVING then ⟨m, [], false⟩
    else if fieldLE b 8 4 ≠ 0x4546534D ∨ fieldLE b 12 4 ≠ f.tcount then ⟨refuseFrame m f MSF_SYNTAX, [], false⟩
    else if f.slabs.any (fun s => s.pers != 0) && (baseOf m f).isNone then ⟨refuseFrame m f MSF_BASE_MISSING, [], false⟩
    else ⟨fabJudge (frameMod m q (fun f => { f with tail := true })) q, [(f.addr + f.bytes - 8, slice (b.drop 4) 0 8)], false⟩

def execSceneEnd (n : Nat) (crc : Bool) (p : Packet) (s : State) : Out' :=
  onW s (fun _ m =>
    let (mine, m) := pktArrive m n crc p
    if mine then sceneEnd m p.data else ⟨m, [], false⟩)

end Sys2Proof.Machine
end

