-- ==== Sys2Proof/Machine/DictApply.lean ====
section
/-!
DEFINITION. The checks of R68 that look at an entry, and what a write of each entry does (spec/03_object_dictionary.md R67-R70, R73,
R789, R790; the dictionary tables of the owning chapters).
-/
namespace Sys2Proof.Machine

/-! ## Mode conditions (check 5) -/

/-- Whether an entry's registers lie in a domain that is stopped in the mode (R73, R790). -/
def stoppedEntry (m : Mach) (e : DEntry) : Bool :=
  let gal := decide (0x5000 ≤ e.ix) && decide (e.ix ≤ 0x51FF)
  let ray := (decide (0x3020 ≤ e.ix) && decide (e.ix ≤ 0x30FF)) || (decide (0x4000 ≤ e.ix) && decide (e.ix ≤ 0x41FF)) ||
    (decide (0x8100 ≤ e.ix) && decide (e.ix ≤ 0x81FF))
  !e.fw && (((m.mode == 4 || m.mode == 11) && (gal || ray)) || ((m.mode == 1 || m.mode == 2) && ray))

/-- Whether M11 refuses a write of an address by a principal (R73). -/
def lockedOut (m : Mach) (p : Principal) (ix sb : Nat) : Bool :=
  m.mode == 11 && (p == .host || p == .net) && !(decide (0x1000 ≤ ix) && decide (ix ≤ 0x1FFF)) &&
  !(ix == 0xB010 && sb == 2) && !(ix == 0x8000 && (sb == 1 || sb == 2) && m.rd R.SEC.STATE.INTEG_CAUSE == 7)

/-- The mode condition stated with an entry (R137, R226, R679, R690). -/
def entryShut (m : Mach) (e : DEntry) : Bool :=
  if e.ix = 0x3000 ∧ (e.sb = 2 ∨ e.sb = 3) then !queueFree m
  else if e.ix = 0x8200 then !planFree m
  else if e.ix = 0xC010 ∧ e.sb = 1 then m.lant.run.isSome
  else if e.ix = 0xC010 ∧ e.sb = 3 then m.lant.run.isSome || !(m.flag R.LANT.LABEL_STATUS.FORCE_FULL || m.mode == 4)
  else false

/-- Check 5 of R68 for a write. -/
def writeShut (m : Mach) (p : Principal) (e : DEntry) : Bool :=
  stoppedEntry m e || lockedOut m p e.ix e.sb || entryShut m e

/-! ## Length (check 7) -/

/-- The rows a TABLE may have: those of label_target follow the label's geometry (R690). -/
def rowsAllowed (m : Mach) (e : DEntry) (n : Nat) : Bool :=
  if e.ix = 0xC010 then n == labelH m else decide (e.lo ≤ n) && decide ((n : Int) ≤ e.hi)

/-- Whether a value has a length its type allows (R64, R65). -/
def lengthOk (m : Mach) (e : DEntry) (b : List Byte) : Bool :=
  match e.ty with
  | .str => decide (b.length ≤ e.sz)
  | .table =>
    decide (16 ≤ b.length) && fieldLE b 4 2 == rowSize m e && rowsAllowed m e (fieldLE b 0 4) &&
      b.length == 16 + fieldLE b 0 4 * rowSize m e
  | _ => b.length == e.sz

/-! ## Range (check 8) -/

/-- A value as a number, by its type. -/
def DEntry.num (e : DEntry) (b : List Byte) : Int :=
  match e.ty with
  | .sint => fieldLES b 0 e.sz
  | _ => fieldLE b 0 e.sz

/-- The range of the type and of the entry's own table (R64). -/
def plainRange (e : DEntry) (b : List Byte) : Bool :=
  match e.ty with
  | .str | .octets | .table | .time64 | .q16 => true
  | .f32 => fieldLE b 0 4 / 2 ^ 23 % 256 != 255
  | _ => decide (e.lo ≤ e.num b) && decide (e.num b ≤ e.hi)

/-- The rows of a TABLE value. -/
def valueRows (b : List Byte) : List (List Byte) := rowsOf (fieldLE b 4 2) (b.drop 16)

/-- Data rates a set point may have (R448). -/
def rateOk (m : Mach) (r : Nat) : Bool :=
  [3200, 4266, 5500, 6400, 7500, 8533].contains r && decide (r ≤ (if m.dr.typ = 0 then 6400 else 8533))

/-- The units of a kind in service: engines, banks, lanes (R241, R248, R170). -/
def unitsInService (m : Mach) (kind : Nat) : List Nat :=
  match kind with
  | 1 => enginesLive m
  | 2 => banksLive m
  | 3 => (bitList 26 (m.rd R.FLOW.LANE_ACTIVE.LANES)).filter (fun l => !isRetired m 3 l)
  | _ => []

/-- The spare that would take a unit's place: the lowest serviceable one. -/
def spareFor (m : Mach) (kind : Nat) : Option Nat :=
  (List.range (kindUnits m kind)).find? (fun (u : Nat) => !isRetired m kind u && !(unitsInService m kind).contains u)

/-- Whether a spare_swap is accepted (R630). -/
def swapOk (m : Mach) (kind unit : Nat) : Bool :=
  decide (4 ≤ m.mode) && decide (m.mode ≤ 9) && (unitsInService m kind).contains unit && (spareFor m kind).isSome

/-- The rules on values that chapters state beside the range (R152, R137, R226, R308, R366, R441, R448, R467, R551, R697, R676, R630). -/
def ruleOk (m : Mach) (e : DEntry) (b : List Byte) : Bool :=
  let v := fieldLE b 0 e.sz
  match e.ix, e.sb with
  | 0x2100, 2 => decide (v ≤ ceilingDue m)
  | 0x3000, 2 => queueOk m v (queueSize m)
  | 0x3000, 3 => queueOk m (queueBase m) v
  | 0x3020, 1 => ctxQuotaOk m false v
  | 0x3020, 2 => ctxQuotaOk m true v
  | 0x5100, 1 => entriesOk m v
  | 0x6001, 1 => (valueRows b).all (fun r => tapsOk (fieldLE r 0 1) (fieldLE r 1 1) && decide (1 ≤ fieldLE r 3 1) && decide (fieldLE r 3 1 ≤ 3))
  | 0x6110, 1 => fieldLE b 78 2 == 0
  | 0x7000, 3 => decide (v ≤ 127) || v == 255
  | 0x8000, 3 => (valueRows b).all (fun r => rateOk m (fieldLE r 0 2))
  | 0x8010, s => bwQuotaOk m (quotaRows.getD (s - 1) R.DRAM.QUOTA0.MBPS) v
  | 0x8200, 1 => planOk m v (m.rd R.GROT.PLAN_SIZE.SIZE_MIB * 2 ^ 20)
  | 0x8200, 2 => planOk m (m.rd R.GROT.PLAN_BASE_HI.BASE_HI * 2 ^ 32 + m.rd R.GROT.PLAN_BASE_LO.BASE_LO * 2 ^ 20) v
  | 0xA010, _ => decide (1 ≤ fieldLE b 0 2) && decide (1 ≤ fieldLE b 2 4) && decide (fieldLE b 2 4 ≤ 604800000)
  | 0xB020, 1 => swapOk m (v / 256) (v % 256)
  | 0xC010, 3 => decide (1 ≤ v % 65536) && decide (v % 65536 ≤ 400) && decide (1 ≤ v / 65536) && decide (v / 65536 ≤ 300)
  | 0xC010, 5 => (List.range 6).all (fun k => decide (fieldLES b k 1 < fieldLES b (k + 1) 1))
  | 0xC030, 2 => v % 4096 == 0
  | 0xD100, 2 => decide (R.BLIT.PACE.BURST_LOG.part v ≤ 6)
  | _, _ => true

/-- Check 8 of R68. -/
def rangeOk (m : Mach) (e : DEntry) (b : List Byte) : Bool := plainRange e b && ruleOk m e b

/-! ## Effects -/

/-- The code an accepted write is answered with (R70). -/
def timingCode (m : Mach) (e : DEntry) : Nat :=
  if !e.tick then DICT_OK else if m.mc.deadline then COMMIT_DEFERRED else DICT_PENDING

/-- Hold an AT_TICK value of an entry no register holds (R70). -/
def holdOwn (m : Mach) (k : Nat) (b : List Byte) : Mach :=
  if m.mc.deadline then { m with dict2 := SMap.ins m.dict2 k b } else { m with dict1 := SMap.ins m.dict1 k b }

/-- One field of a dictionary write: the whole entry is written, whatever its present value (R789). -/
def dictField (m : Mach) (f : Fld) (v : Nat) : Mach :=
  match f.1.acc with
  | .RWT => writeRWT m f v
  | .RW => writeRW m f v
  | .RWB => m.wr f.1 v f.2.1 f.2.2
  | _ => m

/-- Register words written from bytes. -/
def dictWords (m : Mach) (l : List Nat) (b : List Byte) : Mach :=
  m.each (l.mapIdx (fun k o => (k, o))) (fun m x =>
    m.each (fieldsAt x.2) (fun m f => dictField m f (f.1.part (fieldLE b (4 * x.1) 4))))

/-- Rows of consecutive words from an offset, `step` bytes apart. -/
def dictRowsTo (m : Mach) (base step : Nat) (rows : List (List Byte)) : Mach :=
  m.each (rows.mapIdx (fun k r => (k, r))) (fun m x =>
    dictWords m ((List.range (ceilDiv x.2.length 4)).map (fun (j : Nat) => base + step * x.1 + 4 * j)) (x.2 ++ toLE 4 0))

/-- A value of a TABLE that changed has a new generation (R65). -/
def bumpGen (m : Mach) (e : DEntry) : Mach :=
  { m with dic := { m.dic with gen := SMap.put 0 m.dic.gen e.key ((SMap.get 0 m.dic.gen e.key + 1) % 2 ^ 32) } }

/-- A firmware-backed entry whose write is a request to firmware or Bedrock, which carries it out as a command of its own
(assumption log 57). -/
def passOn (m : Mach) (e : DEntry) : Mach := m.emit (.start 40 e.key)

/-- Sessions on a key slot close (R87, R91). -/
def closeSlot (m : Mach) (k : Nat) : Mach := { m with dic := { m.dic with sess := m.dic.sess.filter (fun s => s.slot != k) } }

/-- The code of a job submission (R550). -/
def jobAnswer (r : Nat × Mach) : Nat × Mach :=
  (if r.1 = 0 then DICT_OK else if r.1 = JOB_QUEUE_FULL then DICT_BUSY else DICT_RANGE, r.2)

/-- tap_config (R289, R293): the shadowed words, then ENABLE, which acts at once; FORCE_STOP acts by its own command (assumption log 56). -/
def tapConfig (m : Mach) (l : List Nat) (b : List Byte) : Mach :=
  let m := dictWords m l b
  let en := bit (fieldLE b 0 4) 0
  if en = m.flag R.GAL.TAP_CTRL.ENABLE then m else tapDrain m en

/-- crc_unit_n (R550): CTRL, VALUE, SCAN_BASE and SCAN_LEN, then START. -/
def crcUnitWrite (m : Mach) (p : Principal) (n : Nat) (l : List Nat) (b : List Byte) : Mach :=
  let c := fieldLE b 0 4
  let m := dictWords m l b
  let m := engineDrain m (2 + n) (bit c 0)
  let m := crcValueWrite (crcMod m n (fun u => { u with hi := fieldLE b 8 4 })) n (fieldLE b 4 4)
  if bit c 31 then crcStart m n p else m

/-- lane_coeffs (R380): the coefficients kept for a row's generation, and at once those of an ACTIVE lane at that generation. -/
def coeffsApply (m : Mach) (rows : List (List Byte)) : Mach :=
  m.each (rows.mapIdx (fun k r => (k, r))) (fun m x =>
    let g := fieldLE x.2 3 1
    let m := keepCoef m x.1 g (some ⟨fieldLE x.2 0 1, fieldLE x.2 1 1, fieldLE x.2 2 1⟩)
    if laneState m x.1 = L_ACTIVE ∧ laneGen m x.1 = g then setTaps m x.1 (fieldLE x.2 0 1) (fieldLE x.2 1 1) else m)

/-- Whether a dram_training write touches the set point in force (R591). -/
def trainInForce (f : Fuse) (m : Mach) (e : DEntry) (b : List Byte) : Bool :=
  let old := valueRows (forceValue f m e)
  let new := valueRows b
  (List.range 32).any (fun k => k % 4 == m.rd R.DRAM.STATUS.SP && old.getD k [] != new.getD k [])

/-- A new label geometry makes both images invalid (R690). -/
def geometrySet (m : Mach) (b : List Byte) : Mach :=
  let m := m.dsetB D.label_geometry b
  { m with lant := { m.lant with targetOk := false, currentOk := false } }

/-- The label temperature in use after its source or its written value has changed (R675). -/
def labelTempShow (m : Mach) : Mach := m.wr R.LANT.LABEL_TEMP.TEMP (uNat 16 (labelTemp m))

/-- A write of an entry whose value lies in state of its own. -/
def writeSpecial (f : Fuse) (m : Mach) (e : DEntry) (b : List Byte) : Nat × Mach :=
  let rows := valueRows b
  let raw := b.drop 16
  let ok (m : Mach) : Nat × Mach := (timingCode m e, m)
  let tab (m : Mach) : Nat × Mach := ok (bumpGen m e)
  match e.ix, e.sb with
  | 0x5030, 3 => tab (m.each (List.range 3) (fun m c => dictRowsTo m (0x1002000 + 0x1000 * c) 4 (rows.map (fun r => slice r (4 * c) 4))))
  | 0x5030, s =>
    let a := 0x1005000 + 0x800 * (s - 4)
    tab (dictRowsTo (dictRowsTo m a 16 (rows.map (fun r => slice r 0 16))) (a + 0x400) 12 (rows.map (fun r => slice r 16 12)))
  | 0x5031, s =>
    let m := dictRowsTo m (if s = 1 then 0x1020000 else 0x1030000) 8 rows
    tab { m with gal := { m.gal with cnt := setAt m.gal.cnt (s - 1) rows.length } }
  | 0x6001, _ => tab (holdOwn (calAbandon m KIND_LANE) e.key raw)
  | 0x6100, _ => ok (dictField m (R.PASS.CTRL.GEN, 0, 0) (fieldLE b 0 1 - 2))
  | 0x8000, _ => tab { m with dict := SMap.ins m.dict e.key raw }
  | 0x9030, _ =>
    let m := calAbandon m KIND_AGING
    tab { m with dict := SMap.ins m.dict e.key raw }
  | 0x9040, 1 =>
    if trainInForce f m e b && (m.mode == 1 || m.mode == 2 || drivesRays m.mode) then (DICT_MODE, m)
    else
      let m := calAbandon m KIND_DRAM
      tab { m with dict := SMap.ins m.dict e.key raw }
  | 0x9040, 2 =>
    let m := { m with dict := SMap.ins m.dict e.key raw }
    tab (vaultRequest m ⟨1, e.key, .bytes (toLE 2 0 ++ toLE 2 1 ++ toLE 4 0 ++ raw), .fclass⟩)
  | 0x9040, _ =>
    let m := m.each (rows.mapIdx (fun k r => (k, r))) (fun m x =>
      (m.wr R.CAL.SENS.GAIN (fieldLE x.2 0 2) x.1).wr R.CAL.SENS.OFFSET (uNat 8 (clampI (fieldLES x.2 2 2) (-128) 127)) x.1)
    tab (calAbandon m KIND_SENSOR)
  | 0xA100, _ => tab (dictRowsTo m 0x2A01000 16 rows)
  | 0xA400, _ => tab (dictRowsTo m 0x2B01000 64 rows)
  | 0xA500, _ =>
    let m := (m.wr R.HLTH.TELEM_BASE_LO.BASE (fieldLE b 0 8 / 4096)).wr R.HLTH.TELEM_BASE_HI.BASE (fieldLE b 0 8 / 2 ^ 32)
    let m := dictField (dictField m (R.HLTH.TELEM_CTRL.COUNT_LOG2, 0, 0) (fieldLE b 8 1)) (R.HLTH.TELEM_CTRL.DIVIDE, 0, 0) (fieldLE b 9 1)
    ok (m.wr R.HLTH.TELEM_CTRL.ENABLE (fieldLE b 10 1))
  | 0xC010, _ => tab { m with lant := { m.lant with target := raw, targetOk := true } }
  | 0xC020, _ => tab { m with dict := SMap.ins m.dict e.key raw }
  | _, _ =>
    if 0x5010 ≤ e.ix ∧ e.ix ≤ 0x501D then tab (dictRowsTo m (0x1010800 + 0x1000 * (e.ix - 0x5010)) 8 rows)
    else (DICT_WRITE_DENIED, m)

/-- A write of an entry held as dictionary bytes; some entries are a request rather than a value. -/
def writeOwn (m : Mach) (d : DKey) (e : DEntry) (b : List Byte) : Nat × Mach :=
  let v := fieldLE b 0 e.sz
  match e.ix, e.sb with
  | 0x3000, 5 => (DICT_OK, queueFlush m)
  | 0x5120, 1 =>
    let r := galCommit m v
    (if r.1 = GAL_SET_BAD then DICT_RANGE else DICT_OK, r.2)
  | 0x6001, 3 => (DICT_OK, laneRestore m v)
  | 0x6100, 7 =>
    let m := { m with fab := { m.fab with ident := none } }
    (DICT_OK, vaultRequest m ⟨7, 0, .bytes [], .fabric⟩)
  | 0x9000, 5 => (DICT_OK, calRun m v)
  | 0xB100, 6 => (DICT_OK, vaultCompact m)
  | 0xC010, 2 => labelUpdate m v
  | 0xA020, 1 => unitRestore m (v / 2 ^ 24) (v % 65536)
  | 0xB020, 1 =>
    let sw := some (v / 256, v % 256)
    (timingCode m e, if m.mc.deadline then { m with sec := { m.sec with swap2 := sw } } else { m with sec := { m.sec with swap := sw } })
  | 0x9030, 4 | 0x9100, 1 | 0x9100, 2 | 0x9100, 3 | 0xB000, 2 | 0xB000, 3 | 0xB000, 4 | 0xB000, 6 | 0xB001, 1 | 0xB001, 2 | 0xB001, 3 |
    0xB010, 2 => (DICT_OK, passOn m e)
  | 0xC010, 3 => (DICT_OK, geometrySet m b)
  | ix, _ =>
    let b := b ++ toLE (e.sz - b.length) 0
    if e.tick then (timingCode m e, holdOwn m e.key b)
    else
      let m := m.dsetB d b
      let m := if ix = 0xB200 then closeSlot m (e.sb - 1) else m
      let m := if ix = 0xC010 then labelTempShow m else m
      let m := if ix = 0x9010 ∧ e.sb = 5 then calAbandon m KIND_OPTICS else m
      -- after a failed training Bedrock commits type and density itself (R447)
      let m := if ix = 0x8000 ∧ e.sb ≤ 2 ∧ m.mode = 11 ∧ m.rd R.SEC.STATE.INTEG_CAUSE = 7 then
          vaultRequest m ⟨1, e.key, .bytes (toLE 2 0 ++ toLE 2 1 ++ toLE 4 0 ++ b), .fclass⟩ else m
      (DICT_OK, m)

/-- The effect of an accepted write by its entry's home: the status and the state after it. -/
def writeHome (f : Fuse) (m : Mach) (p : Principal) (e : DEntry) (b : List Byte) : Nat × Mach :=
  let v := fieldLE b 0 e.sz
  let ok (m : Mach) : Nat × Mach := (timingCode m e, m)
  match e.home with
  | .own d => writeOwn m d e b
  | .special => writeSpecial f m e b
  | .field r i =>
    if e.ix = 0x2000 ∧ e.sb = 2 then (DICT_OK, modeRequest m (p == .bed) v (m.rd R.SYS.MODE_REQ.ENTRY))
    else if e.ix = 0x2100 ∧ e.sb = 1 then
      ok (if m.mc.deadline then { m with dic := { m.dic with ceil2 := some v } } else { m with dic := { m.dic with ceil1 := some v } })
    else if e.ix = 0x8000 ∧ e.sb = 4 then (DICT_OK, setpointRequest (m.wr R.DRAM.CTRL.SETPOINT v) v)
    else if e.ix = 0x9000 ∧ e.sb = 1 then (DICT_OK, calDrain m (v == 1))
    else ok (dmaRefresh (dictField m (r, i, 0) v))
  | .two8 a b' => ok (dictField (dictField m (a, 0, 0) (v % 256)) (b', 0, 0) (v / 256))
  | .pair lo hi => if e.sb = 1 then ok (rtcLoad m v true) else ok ((m.wr lo (v % 2 ^ 32)).wr hi (v / 2 ^ 32))
  | .flags l => ok (m.each (l.mapIdx (fun k r => (k, r))) (fun m x => m.wr x.2 (b2n (bit v x.1))))
  | .mib lo hi => ok (queueRefresh ((m.wr lo (v / 2 ^ 20)).wr hi (v / 2 ^ 32)))
  | .mib1 r => ok (queueRefresh (m.wr r (v / 2 ^ 20)))
  | .words l =>
    if e.ix = 0x5050 then ok (tapConfig m l b)
    else if e.ix = 0x7020 then
      let n := e.sb - 1
      ok (trigArm (trigWrite m n (fieldLE b 0 4) (fieldLE b 4 4) (fieldLE b 8 4) (fieldLE b 12 4)) n)
    else if e.ix = 0xD101 then jobAnswer (sideGo (regLoad m 0x2600010 b) 0 p 96 blitCheck)
    else if e.ix = 0xD301 then jobAnswer (sideGo (regLoad m 0x2800010 b) 1 p 36 deflCheck)
    else if e.ix = 0xD201 then ok (crcUnitWrite m p (e.sb - 1) l b)
    else ok (dictWords m l b)

/-- The write of an entry after checks 1 to 6: length, range, effect (R68, R70). A refused write changes nothing; a deferred one is
reported (R17). -/
def writeEntry (f : Fuse) (m : Mach) (p : Principal) (e : DEntry) (b : List Byte) : Nat × Mach :=
  if !lengthOk m e b then (DICT_LENGTH, m)
  else if !rangeOk m e b then (DICT_RANGE, m)
  else
    let r := writeHome f m p e b
    if r.1 = COMMIT_DEFERRED then (r.1, deferNote r.2) else r

end Sys2Proof.Machine
end

