-- ==== Sys2Proof/Machine/DictServe.lean ====
section
/-!
DEFINITION. How the dictionary engine serves a request at this node: the checks of R68 in their order, READ and WRITE, block transfers,
STORE and RESTORE_DEFAULT, SUBSCRIBE, and the session entries (spec/03_object_dictionary.md R63-R92).
-/
namespace Sys2Proof.Machine

/-! ## Requests and replies -/

/-- A request as the engine sees it: principal, opcode (R86), entry, byte offset of a part, value, whether its session tag was right
or its DICT_REQ was marked authenticated, its session number, who gets the reply, and the largest part of its path (R82). -/
structure Req where
  p    : Principal
  op   : Nat
  ix   : Nat
  sb   : Nat
  off  : Nat
  data : List Byte
  auth : Bool
  sess : Nat
  org  : Origin
  max  : Nat
  deriving DecidableEq, Repr

/-- A reply: status and value. -/
structure Rep where
  code : Nat
  val  : List Byte
  deriving DecidableEq, Repr

/-- A reply without a value. -/
def Rep.of (c : Nat) : Rep := ⟨c, []⟩

/-- Count an event of 0x1102:01 to :05, which are health sources 229 to 233 (R97, R713). -/
def idpCount (m : Mach) (d : DKey) : Mach := hev (m.dadd d 1) (228 + d.sb)

/-! ## Replies on their paths (R81, R84, R85, R89, R96, R407) -/

/-- This node's address as replies carry it: 0xFFF before JOINED. -/
def nodeNow (m : Mach) : Nat := (fabAddr m).getD 0xFFF % 4096

/-- A v2 reply header with STATUS 0, from the header of its request. -/
def replyHead (hdr : List Byte) (node sess len : Nat) : List Byte :=
  toLE 1 2 ++ toLE 1 (Nat.lor (fieldLE hdr 1 1) 0x80) ++ slice hdr 2 2 ++ toLE 2 node ++ slice hdr 6 3 ++ toLE 1 0 ++ toLE 2 len ++
    toLE 2 sess ++ slice hdr 14 2

/-- A whole v2 reply: with the key of its session it carries a tag (R89). -/
def replyV2 (hdr : List Byte) (node : Nat) (key : Option (List Byte)) (r : Rep) : List Byte :=
  match key with
  | some k =>
    let h := replyHead hdr node (fieldLE hdr 12 2) r.val.length
    splice h 9 (toLE 1 r.code) ++ r.val ++ slice (Config.hmac256 k (h ++ r.val)) 0 16
  | none => splice (replyHead hdr node 0 r.val.length) 9 (toLE 1 r.code) ++ r.val

/-- A v1 reply (R96). -/
def replyV1 (hdr : List Byte) (r : Rep) : List Byte :=
  toLE 1 1 ++ toLE 1 (Nat.lor (fieldLE hdr 1 1) 0x80) ++ slice hdr 2 5 ++ toLE 1 r.code ++ toLE 2 r.val.length ++ toLE 2 0 ++ r.val

/-- The open session of a number. -/
def sessOf (m : Mach) (n : Nat) : Option Sess := m.dic.sess.find? (fun s => s.num == n)

/-- Change the open session of a number. -/
def sessMod (m : Mach) (n : Nat) (f : Sess → Sess) : Mach :=
  { m with dic := { m.dic with sess := m.dic.sess.map (fun s => if s.num == n then f s else s) } }

/-- Keep the reply to a SEQUENCE of a session for its repetition (R90). -/
def keepReply (m : Mach) (num seq : Nat) (b : List Byte) : Mach :=
  sessMod m num (fun s => { s with cache := s.cache.map (fun c => if c.1 == seq then (seq, b) else c) })

/-- A slot's reply is in place (R81): `tick` is the tick an AT_TICK write takes effect at. -/
def slotReply (m : Mach) (n : Nat) (r : Rep) (tick : Nat) : Mach :=
  let m := slotPut m n 0 r.val
  let m := (m.wr R.DICT.SLOT_STATUS.STATUS r.code n).wr R.DICT.SLOT_STATUS.RLEN r.val.length n
  let m := (m.wr R.DICT.SLOT_STATUS.BUSY 0 n).wr R.DICT.SLOT_TICK.TICK_LO tick n
  if m.rd R.DICT.SLOT_GO.IRQ n = 0 then m
  else
    let done := m.rd R.DICT.WIN_DONE.DONE
    let m := m.wr R.DICT.WIN_DONE.DONE (setBit done n)
    if !bit done n && bit (m.rd R.DICT.WIN_IRQ_EN.IRQ_EN) n then m.raise 1 else m

/-- The tick at which a write answered so takes effect (R81). -/
def tickOf (m : Mach) (code : Nat) : Nat :=
  if code = DICT_PENDING then (m.tickCount + 1) % 2 ^ 32 else if code = COMMIT_DEFERRED then (m.tickCount + 2) % 2 ^ 32 else 0

/-- Send a reply where its request came from. `key`: of the session that the request came in; `node`: the responding node. -/
def sendReply (m : Mach) (o : Origin) (key : Option (List Byte)) (node : Nat) (r : Rep) (tick : Nat) : Mach :=
  match o with
  | .port _ => m.emit (.dict r.code r.val)
  | .slot n => slotReply m n r tick
  | .udp v6 a pt hdr =>
    let b := if fieldLE hdr 0 1 = 1 then replyV1 hdr r else replyV2 hdr node key r
    let m := if key.isSome then keepReply m (fieldLE hdr 12 2) (fieldLE hdr 2 2) b else m
    m.emit (.udp v6 a pt b)
  | .fabric ing tag hdr =>
    fabSend m 2 0x07 false ing (toLE 4 0 ++ toLE 2 ing ++ toLE 2 tag ++ replyV2 hdr node none r)

/-- The key a reply to a request is tagged with: that of its session while it is open. -/
def originKey (m : Mach) : Origin → Option (List Byte)
  | .udp _ _ _ hdr => (sessOf m (fieldLE hdr 12 2)).map (·.key)
  | _ => none

/-! ## Sessions (R87-R91) -/

/-- An authentication failure is counted (R97). -/
def authFailed (m : Mach) : Rep × Mach := (Rep.of DICT_AUTH_FAILED, idpCount m D.idp_auth_fail)

/-- SESSION_CHALLENGE_READ (R88): a fresh nonce, its value open, valid for 10 s and one use. -/
def sessChallenge (m : Mach) : Rep × Mach :=
  let (b, m) := m.drawBytes 16
  let live := m.dic.nonces.filter (fun n => decide (m.rtc < n.2 + 10))
  (⟨DICT_OK, b⟩, { m with dic := { m.dic with nonces := live ++ [(b, m.rtc)] } })

/-- The number a new session takes: free, and not in use. -/
def sessNumber (m : Mach) : Nat × Mach :=
  let (v, m) := m.draw 65535
  ((((List.range 9).map (fun k => (v + k) % 65535 + 1)).find? (fun n => (sessOf m n).isNone)).getD 1, m)

/-- The pre-shared key of a slot (R87). -/
def pskOf (m : Mach) (k : Nat) : List Byte :=
  m.dbytes (match k with
    | 0 => D.net_psk_0
    | 1 => D.net_psk_1
    | 2 => D.net_psk_2
    | _ => D.net_psk_3)

/-- SESSION_OPEN (R88, R91). A nonce named in an attempt is used up by it. -/
def sessOpen (m : Mach) (b : List Byte) : Rep × Mach :=
  let k := fieldLE b 0 1
  let dev := slice b 4 16
  let cli := slice b 20 16
  let psk := pskOf m k
  let key := Config.hmac256 psk ([0x49, 0x44, 0x50, 0x53] ++ dev ++ cli)
  let known := m.dic.nonces.any (fun n => n.1 == dev && decide (m.rtc < n.2 + 10))
  let proof := slice (Config.hmac256 key ([0x4F, 0x50, 0x45, 0x4E] ++ dev ++ cli)) 0 16
  let m := { m with dic := { m.dic with nonces := m.dic.nonces.filter (fun n => n.1 != dev) } }
  if b.length ≠ 52 then (Rep.of DICT_LENGTH, m)
  else if fieldLE b 1 3 ≠ 0 then (Rep.of DICT_RANGE, m)
  else if 4 ≤ k ∨ !known ∨ fromLE psk = 0 ∨ proof ≠ slice b 36 16 then authFailed m
  else if 8 ≤ m.dic.sess.length then (Rep.of DICT_SESSION_LIMIT, m)
  else
    let (n, m) := sessNumber m
    (⟨DICT_OK, toLE 2 n⟩, { m with dic := { m.dic with sess := m.dic.sess ++ [⟨n, k, key, none, [], [], none⟩] } })

/-- A session is closed (R91). -/
def sessDrop (m : Mach) (n : Nat) : Mach := { m with dic := { m.dic with sess := m.dic.sess.filter (fun s => s.num != n) } }

/-- SESSION_CLOSE (R91, R97): only within the session it names. -/
def sessClose (m : Mach) (r : Req) : Rep × Mach :=
  if r.data.length ≠ 2 then (Rep.of DICT_LENGTH, m)
  else if r.sess = 0 ∨ fieldLE r.data 0 2 ≠ r.sess then authFailed m
  else (Rep.of DICT_OK, sessDrop m r.sess)

/-! ## Checks 3 to 6 (R68) -/

/-- Whether a principal may read, or write, an entry (R66). -/
def mayRead (e : DEntry) (p : Principal) : Bool := bit e.acc p.bit
def mayWrite (e : DEntry) (p : Principal) : Bool := bit e.acc (4 + p.bit)

/-- What an address stands for in checks: subindex 0 and the values in force are entries that nobody writes. -/
def Found.entry? (ix sb : Nat) : Found → Option DEntry
  | .count _ => some ⟨ix, sb, .uint, 1, 0, 255, 0x0F, .v, false, false, .special, false⟩
  | .entry e => some e
  | .force e => some (forceTwin e)
  | _ => none

/-- The value an address reads as, and the state after drawing what the manual leaves free. -/
def foundValue (f : Fuse) (m : Mach) : Found → List Byte × Mach
  | .count n => (toLE 1 n, m)
  | .entry e => readEntry f m e
  | .force e =>
    let r := readEntry f m.galInForce e
    (r.1, { m with freeN := r.2.freeN })
  | _ => ([], m)

/-- Entries that Bedrock stage 2 serves itself after DRAM training has failed (R447, R614). -/
def bedServes (m : Mach) (e : DEntry) : Bool :=
  m.mode == 11 && m.rd R.SEC.STATE.INTEG_CAUSE == 7 && e.ix == 0x8000 && decide (e.sb ≤ 2)

/-- The first of checks 3 to 6 that a read or a write of an address fails; `none` where it passes. -/
def gate (m : Mach) (r : Req) (x : Found) (write : Bool) : Option Nat :=
  match x with
  | .noEntry => some DICT_NO_ENTRY
  | .noSub => some DICT_NO_SUBINDEX
  | _ =>
    match x.entry? r.ix r.sb with
    | none => some DICT_NO_SUBINDEX
    | some e =>
      if write && !mayWrite e r.p then some DICT_WRITE_DENIED
      else if !write && !mayRead e r.p then some DICT_READ_DENIED
      else if write && writeShut m r.p e then some DICT_MODE
      else if e.fw && !fwServes m && !bedServes m e then some DICT_UNAVAILABLE
      else none

/-! ## READ and WRITE (R70, R82, R86) -/

/-- The status of a read (R70). -/
def readCode (m : Mach) : Found → Nat
  | .entry e => match pendingOf m e with
    | 2 => COMMIT_DEFERRED
    | 1 => DICT_PENDING
    | _ => DICT_OK
  | _ => DICT_OK

def serveRead (f : Fuse) (m : Mach) (r : Req) : Rep × Mach :=
  let x := findEntry m r.ix r.sb
  match gate m r x false with
  | some c => (Rep.of c, m)
  | none =>
    if r.ix = 0x1101 ∧ r.sb = 1 then sessChallenge m
    else
      let (b, m') := foundValue f m x
      if r.max < b.length then (Rep.of DICT_LENGTH, m) else (⟨readCode m x, b⟩, m')

/-- READ_BLOCK (R82): the part of at most the wanted length at an offset. -/
def serveReadBlock (f : Fuse) (m : Mach) (r : Req) : Rep × Mach :=
  let x := findEntry m r.ix r.sb
  match gate m r x false with
  | some c => (Rep.of c, m)
  | none =>
    if r.data.length ≠ 2 ∨ r.max < fieldLE r.data 0 2 then (Rep.of DICT_LENGTH, m)
    else
      let (b, m') := foundValue f m x
      if r.off % 4 ≠ 0 ∨ b.length ≤ r.off then (Rep.of DICT_BAD_OFFSET, m)
      else (⟨readCode m x, slice b r.off (Nat.min (fieldLE r.data 0 2) (b.length - r.off))⟩, m')

/-- A write of a whole value that passed checks 1 to 6. -/
def serveValue (f : Fuse) (m : Mach) (r : Req) (x : Found) (b : List Byte) : Rep × Mach :=
  if r.ix = 0x1101 ∧ r.sb = 2 then sessOpen m b
  else if r.ix = 0x1101 ∧ r.sb = 3 then sessClose m { r with data := b }
  else match x with
    | .entry e =>
      let w := writeEntry f m r.p e b
      (Rep.of w.1, w.2)
    | _ => (Rep.of DICT_WRITE_DENIED, m)

def serveWrite (f : Fuse) (m : Mach) (r : Req) : Rep × Mach :=
  let x := findEntry m r.ix r.sb
  match gate m r x true with
  | some c => (Rep.of c, m)
  | none => serveValue f m r x r.data

/-- The staged value of a request's slot or session (R82). -/
def stageOf (m : Mach) (r : Req) : Option Stage :=
  match r.org with
  | .slot n => (m.dic.slots[n]?).bind (·.stage)
  | .udp _ _ _ _ => (sessOf m r.sess).bind (·.stage)
  | _ => none

def setStage (m : Mach) (r : Req) (s : Option Stage) : Mach :=
  match r.org with
  | .slot n => { m with dic := { m.dic with slots := modAt m.dic.slots n (fun x => { x with stage := s }) } }
  | .udp _ _ _ _ => sessMod m r.sess (fun x => { x with stage := s })
  | _ => m

/-- Whether a request has a place where parts are staged: a slot or a session (R82). -/
def canStage (m : Mach) (r : Req) : Bool :=
  match r.org with
  | .slot _ => true
  | .udp _ _ _ _ => (sessOf m r.sess).isSome
  | _ => false

/-- The length a value declares with its first part (R82). -/
def declared (e : DEntry) (b : List Byte) : Nat :=
  match e.ty with
  | .table => 16 + fieldLE b 0 4 * fieldLE b 4 2
  | _ => e.sz

/-- WRITE_BLOCK (R82): parts in order from 0; the value is applied when the part that completes it arrives. -/
def serveWriteBlock (f : Fuse) (m : Mach) (r : Req) : Rep × Mach :=
  let x := findEntry m r.ix r.sb
  match gate m r x true with
  | some c => (Rep.of c, m)
  | none =>
    let st := stageOf m r
    let m := setStage m r none
    match x with
    | .entry e =>
      let short : Bool := match e.ty with
        | .table => decide (r.data.length < 16)
        | _ => false
      if r.off = 0 then
        let n := declared e r.data
        if short ∨ n < r.data.length ∨ 2 ^ 24 < n then (Rep.of DICT_LENGTH, m)
        else if r.data.length = n then serveValue f m r x r.data
        else if !canStage m r then (Rep.of DICT_LENGTH, m)
        else (Rep.of DICT_OK, setStage m r (some ⟨r.ix, r.sb, n, r.data⟩))
      else match st with
        | none => (Rep.of DICT_BAD_OFFSET, m)
        | some s =>
          if s.ix ≠ r.ix ∨ s.sb ≠ r.sb ∨ s.data.length ≠ r.off ∨ r.data.isEmpty then (Rep.of DICT_BAD_OFFSET, m)
          else
            let b := s.data ++ r.data
            if s.total < b.length then (Rep.of DICT_LENGTH, m)
            else if b.length = s.total then serveValue f m r x b
            else (Rep.of DICT_OK, setStage m r (some { s with data := b }))
    | _ => (Rep.of DICT_WRITE_DENIED, m)

/-! ## STORE and RESTORE_DEFAULT (R75-R77) -/

/-- The entries a selection names, or the code it is refused with (R63, R75). -/
def selectEntries (m : Mach) (ix sb : Nat) : Nat ⊕ List DEntry :=
  if ix = 0 ∧ sb = 0 then .inr (entriesNow m)
  else match findEntry m ix sb with
    | .noEntry => .inl DICT_NO_ENTRY
    | .noSub => .inl DICT_NO_SUBINDEX
    | .count _ => .inr ((entriesNow m).filter (fun e => e.ix == ix))
    | .entry e => .inr [e]
    | .force _ => .inr []

/-- Whether M11 refuses a STORE or RESTORE_DEFAULT of a selection (R73). -/
def selectionShut (m : Mach) (r : Req) : Bool :=
  m.mode == 11 && (r.p == .host || r.p == .net) && !(decide (0x1000 ≤ r.ix) && decide (r.ix ≤ 0x1FFF))

/-- The records of a stored value: parts of at most 4,056 bytes (R645). -/
def storeRecords (e : DEntry) (b : List Byte) (by_ : VBy) : List VReq :=
  let n := Nat.max 1 (ceilDiv b.length 4056)
  (List.range n).map (fun k => ⟨1, k * 2 ^ 24 + e.key, .bytes (toLE 2 k ++ toLE 2 n ++ toLE 4 0 ++ (b.drop (4056 * k)).take 4056), by_⟩)

/-- Whether a record would take the live set above 2 MiB (R647). -/
def overLive (m : Mach) (q : VReq) : Bool :=
  let old := match m.vlt.latest q.typ q.key with
    | some r => recSize r.pay.length
    | none => 0
  decide (2 * 2 ^ 20 < m.vlt.liveBytes - old + recSize q.pay.len)

/-- Request the next records of the STORE in progress while places are free. -/
def storeFeed (m : Mach) : Mach :=
  match m.dic.store with
  | none => m
  | some op =>
    let op0 := { op with pend := [] }
    op.pend.foldl (fun m q =>
      let keep (m : Mach) : Mach := match m.dic.store with
        | some o => { m with dic := { m.dic with store := some { o with pend := o.pend ++ [q] } } }
        | none => m
      if m.vlt.storeLost then m
      else if 64 ≤ m.vlt.held.length then keep m
      else if overLive m q then { m with vlt := { m.vlt with storeLost := true } }
      else
        let m := match m.dic.store with
          | some o => { m with dic := { m.dic with store := some { o with open_ := o.open_ + 1 } } }
          | none => m
        vaultRequest m q) { m with dic := { m.dic with store := some op0 } }

/-- End the STORE in progress where it has failed or its last record is committed (R75, R76). -/
def storeCheck (m : Mach) : Mach :=
  match m.dic.store with
  | none => { m with vlt := { m.vlt with storeLost := false } }
  | some op =>
    let close (m : Mach) (c : Nat) : Mach :=
      sendReply { m with dic := { m.dic with store := none } } op.org (originKey m op.org) (nodeNow m) (Rep.of c) 0
    if m.vlt.storeLost then
      let held := m.vlt.held.filter (fun q => q.by_ != .store)
      close { m with vlt := { m.vlt with storeLost := false, held := held } } DICT_STORE_FAILED
    else if op.open_ = 0 ∧ op.pend.isEmpty then close m DICT_OK
    else m

/-- A record of the STORE in progress is committed. -/
def storeCommitted (m : Mach) : Mach :=
  match m.dic.store with
  | none => m
  | some op => storeCheck (storeFeed { m with dic := { m.dic with store := some { op with open_ := op.open_ - 1 } } })

/-- STORE (R75, R76): the reply follows the last commit, so none is given here unless it is refused. -/
def serveStore (f : Fuse) (m : Mach) (r : Req) : Option Rep × Mach :=
  match selectEntries m r.ix r.sb with
  | .inl c => (some (Rep.of c), m)
  | .inr es =>
    if selectionShut m r then (some (Rep.of DICT_MODE), m)
    else if !fwServes m then (some (Rep.of DICT_UNAVAILABLE), m)
    else if m.dic.store.isSome then (some (Rep.of DICT_BUSY), m)
    else
      let mine := es.filter (fun e => e.cls == .p && mayWrite e r.p)
      let recs := joinL (mine.map (fun e => storeRecords e (forceValue f m e) .store))
      (none, storeCheck (storeFeed { m with dic := { m.dic with store := some ⟨recs, 0, r.org⟩ } }))

/-- RESTORE_DEFAULT (R77): entries whose default is refused at that moment are skipped. -/
def serveRestore (f : Fuse) (m : Mach) (r : Req) : Rep × Mach :=
  match selectEntries m r.ix r.sb with
  | .inl c => (Rep.of c, m)
  | .inr es =>
    if selectionShut m r then (Rep.of DICT_MODE, m)
    else if !fwServes m then (Rep.of DICT_UNAVAILABLE, m)
    else
      let mine := es.filter (fun e => (e.cls == .v || e.cls == .p) && e.dflt && mayWrite e r.p)
      let done := mine.foldl (fun (acc : Bool × Mach) e =>
        if writeShut acc.2 r.p e then (false, acc.2)
        else
          let w := writeEntry f acc.2 r.p e (defaultOf f acc.2 e)
          (acc.1 && w.1 ≤ 2, w.2)) (true, m)
      (Rep.of (if done.1 then DICT_OK else DICT_RANGE), done.2)

/-! ## SUBSCRIBE (R92) -/

/-- Whether two subscriptions are the same: source, report port, entry. -/
def sameSub (a : Sub) (t : SubTo) (ix sb : Nat) : Bool := a.to_ == t && a.ix == ix && a.sb == sb

/-- Where a subscription of a request reports: its report port, or the source port where that is 0. -/
def subTarget (r : Req) : Option SubTo :=
  let p := fieldLE r.data 4 2
  match r.org with
  | .udp v6 a sp _ => some (.udp v6 a (if p = 0 then sp else p))
  | .fabric ing tag _ => some (.relay ing tag)
  | _ => none

/-- The slot a subscription has, or the lowest free one. -/
def subSlot (m : Mach) (t : SubTo) (ix sb : Nat) : Option Nat × Option Nat :=
  (m.dic.subs.findIdx? (fun s => match s with
    | some s => sameSub s t ix sb
    | none => false),
   m.dic.subs.findIdx? (fun s => s.isNone))

/-- Put a subscription into a slot, or empty it. -/
def setSub (m : Mach) (n : Nat) (s : Option Sub) : Mach := { m with dic := { m.dic with subs := setAt m.dic.subs n s } }

/-- Create, renew or cancel a subscription. -/
def serveSubscribe (f : Fuse) (m : Mach) (r : Req) : Rep × Mach :=
  let x := findEntry m r.ix r.sb
  match gate m r x false with
  | some c => (Rep.of c, m)
  | none =>
    let v := (foundValue f m x).1
    let table : Bool := match x.entry? r.ix r.sb with
      | some e => e.ty == .table
      | none => false
    if r.data.length ≠ 6 ∨ table ∨ 1008 < v.length then (Rep.of DICT_LENGTH, m)
    else if 3600 < fieldLE r.data 2 2 then (Rep.of DICT_RANGE, m)
    else match subTarget r with
      | none => (Rep.of DICT_BAD_OPCODE, m)
      | some t =>
        let (have_, free) := subSlot m t r.ix r.sb
        if fieldLE r.data 2 2 = 0 then
          (Rep.of DICT_OK, match have_ with
            | some n => setSub m n none
            | none => m)
        else match have_ with
          | some n => (Rep.of DICT_OK, { m with dic := { m.dic with subs := modAt m.dic.subs n (fun s => s.map (fun s =>
              { s with period := fieldLE r.data 0 2, ticks := 0 })) } })
          | none => match free with
            | some n => (Rep.of DICT_OK, setSub m n (some ⟨t, r.ix, r.sb, fieldLE r.data 0 2, 0, v, 0⟩))
            | none => (Rep.of DICT_SUB_LIMIT, m)

/-! ## One request (R68, R86) -/

/-- Whether check 2 wants a session that the request lacks: NET writes, STORE, RESTORE_DEFAULT, SUBSCRIBE; not session_open (R88, R89). -/
def lacksSession (r : Req) : Bool :=
  r.p == .net && !r.auth && (r.op == 2 || r.op == 4 || r.op == 5 || r.op == 6 || r.op == 7) && !(r.op == 2 && r.ix == 0x1101 && r.sb == 2)

/-- Serve a request at this node: its reply, unless it follows later, and the state after it. -/
def serve (f : Fuse) (m : Mach) (r : Req) : Option Rep × Mach :=
  let now (x : Rep × Mach) : Option Rep × Mach := (some x.1, x.2)
  let bar2 : Bool := match r.org with
    | .slot _ | .port _ => true
    | _ => false
  if r.op = 0 ∨ 7 < r.op ∨ (bar2 ∧ r.op = 7) then now (Rep.of DICT_BAD_OPCODE, m)
  else if lacksSession r then now (Rep.of DICT_AUTH_REQUIRED, m)
  else match r.op with
    | 1 => now (serveRead f m r)
    | 2 => now (serveWrite f m r)
    | 3 => now (serveReadBlock f m r)
    | 4 => now (serveWriteBlock f m r)
    | 5 => serveStore f m r
    | 6 => now (serveRestore f m r)
    | _ => now (serveSubscribe f m r)

end Sys2Proof.Machine
end

