-- ==== Sys2Proof/Machine/TickOps.lean ====
section
/-!
DEFINITION. Values held for a tick take effect (spec/01_architecture.md R7, R16, R17; spec/03_object_dictionary.md R70).
-/
namespace Sys2Proof.Machine

/-- MAIN follows PRE and POST of a lane (R366). -/
def mainTap (m : Mach) (f : Fld) : Mach :=
  let n : Option Nat := if f.1 = R.VEIN.LANE_TXFIR.PRE ∨ f.1 = R.VEIN.LANE_TXFIR.POST then some f.2.1
    else if f.1 = R.PASS.LANE_TXFIR.PRE ∨ f.1 = R.PASS.LANE_TXFIR.POST then some (48 + f.2.1) else none
  match n with
  | some n => setTaps m n (m.lrd n R.VEIN.LANE_TXFIR.PRE) (m.lrd n R.VEIN.LANE_TXFIR.POST)
  | none => m

/-- Write the field instance a key names. -/
def wrKey (m : Mach) (k v : Nat) : Mach :=
  match (fieldsAt (k / 32)).find? (fun (f : Fld) => f.1.lo == k % 32) with
  | some f => mainTap (m.wr f.1 v f.2.1 f.2.2) f
  | none => m

/-- The keys of the optics set and the panel transform, which have a check of their own at the tick (R201, R202). -/
def opticsKey (k : Nat) : Bool := (optRows ++ xformRows).any (fun r => r.key 0 0 == k)

/-- The register values held for the coming tick, those of `stay` apart, come into force; those held for the following tick move up. -/
def regTick (m : Mach) (stay : Nat → Bool) : Mach :=
  let due := SMap.keep m.held1 (fun k => !stay k)
  let kept := SMap.keep m.held1 stay
  let next := m.held2.foldl (fun a e => SMap.ins a e.1 e.2) kept
  let m := due.foldl (fun m e => wrKey m e.1 e.2) { m with held1 := [], held2 := [] }
  { m with held1 := next }

/-- The dictionary values held for the coming tick come into force (R70); lane_coeffs reaches the lanes (R380). -/
def dictTick (m : Mach) : Mach :=
  let due := m.dict1
  let m := { m with dict1 := m.dict2, dict2 := [] }
  due.foldl (fun m e =>
    if e.1 = 0x6001 * 256 + 1 then coeffsApply m (rowsOf 4 e.2) else { m with dict := SMap.ins m.dict e.1 e.2 }) m

end Sys2Proof.Machine
end

