-- ==== Sys2Proof/Machine/Replay.lean ====
section
/-!
DEFINITION. The replay of the Vault's journal at boot (spec/19_vault_persistent_state.md R645, R651-R653;
spec/03_object_dictionary.md R69).
-/
namespace Sys2Proof.Machine

/-! ## Stored dictionary values (R645, R69) -/

/-- The good records of a type and key, latest first. -/
def Vault.history (v : Vault) (typ key : Nat) : List VRec :=
  sortDesc (·.seq) (v.records.filter (fun r => r.typ == typ && r.key == key && !r.bad))

/-- The value of a stored entry: the latest whole set of parts that share one part-0 seq. -/
def Vault.stored (v : Vault) (key : Nat) : Option (List Byte) :=
  ((v.history 1 key).filterMap (fun r0 =>
    let n := fieldLE r0.pay 2 2
    let tag := fieldLE r0.pay 4 4
    let parts := (List.range n).map (fun k => (v.history 1 (k * 2 ^ 24 + key)).find? (fun r => fieldLE r.pay 4 4 == tag))
    if n ≠ 0 ∧ parts.all (·.isSome) then
      some (parts.foldr (fun p acc => (match p with
        | some r => r.pay.drop 8
        | none => []) ++ acc) [])
    else none)).head?

/-- Whether a stored value keeps to its type's length and plain range. -/
def storedOk (m : Mach) (e : DEntry) (b : List Byte) : Bool := lengthOk m e b && plainRange e b

/-- Put a P value in force at boot, without what a write at run time would start. -/
def putStored (f : Fuse) (m : Mach) (e : DEntry) (b : List Byte) : Mach :=
  if e.ix = 0xC010 ∧ e.sb = 3 then m.dsetB D.label_geometry b else (writeHome f m .bed e b).2

/-- A stored value that fails its checks is replaced by the default, and the ledger says so (R69). -/
def badStored (f : Fuse) (m : Mach) (e : DEntry) : Mach :=
  let m := sumpSystem m 494 0 (e.ix * 256 + e.sb)
  if e.dflt then putStored f m e (defaultOf f m e) else m

/-- Every value held comes into force. -/
def flushHeld (m : Mach) : Mach :=
  let m := dictTick (regTick m (fun _ => false))
  match m.dic.ceil1 with
  | some c => { m.wr R.CHIM.LIMITS.CEILING c with dic := { m.dic with ceil1 := none } }
  | none => m

/-- P and F values are replayed (R69): first each by its type, then by the rules that look at other entries as well. -/
def replayDict (f : Fuse) (m : Mach) : Mach :=
  let v := m.vlt
  let ps := (dictTable.filter (fun e => e.cls == .p)).filterMap (fun e => (v.stored e.key).map (fun b => (e, b)))
  let good := ps.filter (fun p => storedOk m p.1 p.2)
  let m := m.each (ps.filter (fun p => !storedOk m p.1 p.2)) (fun m p => badStored f m p.1)
  let m := flushHeld (m.each good (fun m p => putStored f m p.1 p.2))
  let m := flushHeld (m.each good (fun m p => if ruleOk m p.1 p.2 then m else badStored f m p.1))
  let fs := (dictTable.filter (fun e => e.cls == .f)).filterMap (fun e => (v.stored e.key).map (fun b => (e, b)))
  m.each fs (fun m p => { m with dict := SMap.ins m.dict p.1.key p.2 })

/-! ## Ledger, retirements, hours, doses -/

/-- A ledger entry from its 32 bytes (R703). -/
def sumpOf (b : List Byte) : SumpE :=
  { seq := fieldLE b 0 4, tick := fieldLE b 4 4, rtc := fieldLE b 8 8, kind := fieldLE b 16 1, flags := fieldLE b 17 1,
    unit := fieldLE b 18 2, code := fieldLE b 20 1, weight := fieldLE b 21 1, level := fieldLE b 22 2, count := fieldLE b 24 4,
    detail := fieldLE b 28 4, opened := 0, window := false }

/-- The latest good record of every key of a type. -/
def Vault.allLatest (v : Vault) (typ : Nat) : List VRec :=
  (v.records.filter (fun r => r.typ == typ && !r.bad)).filter (fun r =>
    match v.latest typ r.key with
    | some l => l.seq == r.seq
    | none => false)

/-- The ledger (R705). -/
def replaySump (m : Mach) : Mach :=
  let es := sortDesc (·.seq) ((m.vlt.allLatest 2).map (fun r => sumpOf r.pay))
  let m := { m with hl := { m.hl with sump := es, nextSeq := match es.head? with
    | some e => (e.seq + 1) % 2 ^ 32
    | none => 0 } }
  let m := m.wr R.HLTH.STATUS.SUMP_FILL es.length
  match es.head? with
  | some e => m.wr R.HLTH.SUMP_SEQ.SEQ e.seq
  | none => m

/-- A retirement takes hold in the unit's own block. -/
def retireReplayed (m : Mach) (kind unit : Nat) : Mach :=
  let m := { m with hl := { m.hl with retired := SMap.put 0 m.hl.retired (bktKey kind unit) 1 } }
  match kind with
  | 4 => setLane m unit L_RETIRED
  | 5 => (m.wr R.DRAM.STATUS.SERVICEABLE (clrBit (m.rd R.DRAM.STATUS.SERVICEABLE) unit)).wr R.DRAM.CH_STATUS.STATE 4 unit
  | 6 => m.wr R.THRM.SENS.STATE 2 unit
  | 7 => { m with vlt := { m.vlt with sectors := modAt m.vlt.sectors unit (fun s => { s with retired := true }) } }
  | _ => m

/-- Retirement state (R699, R471): channels named by channel_restore return. -/
def replayRetired (m : Mach) (back : Nat) : Mach :=
  let rs := (m.vlt.allLatest 3).filter (fun r => fieldLE r.pay 0 1 == 1)
  m.each rs (fun m r =>
    let kind := r.key / 65536
    let unit := r.key % 65536
    if kind = 5 ∧ bit back unit then unitRestored (retireRecord m 5 unit 0 UNIT_RESTORED) 5 unit
    else if 1 ≤ kind ∧ kind ≤ 7 ∧ unit < kindUnits m kind then retireReplayed m kind unit else m)

/-- The hours counts (R652): power cycles rise once at each replay. -/
def replayHours (m : Mach) : Mach :=
  let b := match m.vlt.latest 4 0 with
    | some r => r.pay
    | none => []
  let m := { m with vlt := { m.vlt with cycles := (fieldLE b 16 4 + 1) % 2 ^ 32, replayHours := (0, 0) } }
  let m := (m.wr R.VAULT.OPER_S_LO.VALUE (fieldLE b 0 4)).wr R.VAULT.OPER_S_HI.VALUE (fieldLE b 4 4)
  (m.wr R.VAULT.PANEL_S_LO.VALUE (fieldLE b 8 4)).wr R.VAULT.PANEL_S_HI.VALUE (fieldLE b 12 4)

/-- The bytes of a dose generation where it is whole: its DOSE_END, every group, the grid and the map's CRC (R653). -/
def doseWhole (m : Mach) (g : Nat) : Option (List Byte) :=
  match m.vlt.latest 6 g with
  | none => none
  | some e =>
    let n := gridNodes m
    let groups := (List.range (ceilDiv n 225)).map (fun k => m.vlt.latest 5 (g * 256 + k))
    let b := groups.foldr (fun r acc => (match r with
      | some r => r.pay
      | none => []) ++ acc) []
    if groups.all (·.isSome) ∧ fieldLE e.pay 0 2 = m.rd R.GAL.ZONE_GRID.ZW ∧ fieldLE e.pay 2 2 = m.rd R.GAL.ZONE_GRID.ZH ∧
        b.length = 18 * n ∧ crc32c b = fieldLE e.pay 4 4 then some b else none

/-- The doses in force: the highest whole generation, else 0 (R653). -/
def replayDose (m : Mach) : Mach :=
  let all := m.vlt.records.filter (fun r => r.typ == 5 || r.typ == 6)
  let gens := sortDesc (fun (k : Nat) => k) ((all.filter (fun r => r.typ == 6)).map (·.key))
  let last := maxN (all.map (fun r => if r.typ = 5 then r.key / 256 else r.key))
  let m := { m with cal := { m.cal with doseGen := last } }
  match gens.findSome? (doseWhole m) with
  | some b =>
    let ds := (List.range (b.length / 6)).foldl (fun d k =>
      SMap.put 0 d k (fieldLE b (6 * k) 4 * 65536 + fieldLE b (6 * k + 4) 2)) ([] : SMap Nat)
    { m with cal := { m.cal with dose := ds, shown := ds } }
  | none => if all.isEmpty then m else (vaultCode m VAULT_RECORD_BAD).ev E.VAULT.RECORD_BAD

/-- The stored fabric identity, the LABEL record and the anti-rollback mirrors (R409, R681, R616). -/
def replayParts (m : Mach) : Mach :=
  let m := match m.vlt.latest 7 0 with
    | some r => if r.pay.isEmpty then m
        else { m with fab := { m.fab with ident := some (fieldLE r.pay 0 8, fieldLE r.pay 8 2, fieldLE r.pay 10 2) } }
    | none => m
  let m := match m.vlt.latest 8 0 with
    | some r =>
      let m := { m with lant := { m.lant with record := some r.pay } }
      if fieldLE r.pay 0 1 % 4 = 0 then m
      else { m.wr R.LANT.LABEL_STATUS.FORCE_FULL 1 with lant := { m.lant with recover := true } }
    | none => m
  let step (k : Nat) : Nat := match m.vlt.latest 9 k with
    | some r => fieldLE r.pay 0 1
    | none => 0
  (m.wr R.SEC.ROLLBACK.BED_MIRROR (step K_STAGE2)).wr R.SEC.ROLLBACK.FW_MIRROR (step K_MAIN)

/-- The size of a VCP area in MiB (R641). -/
def vcpMib (m : Mach) : Nat :=
  let n := m.vlt.sectors.length
  if n = 240 then 8 else if n = 496 then 32 else 80

/-- Replay (R651), with the zone grid of the panel as configured (R653): a record whose CRC is wrong on every device is skipped and counted; without a valid sector the defaults apply. A
failed device has its records copied back and returns (R649). -/
def vaultReplay (f : Fuse) (m : Mach) (back : Nat) : Mach :=
  let m := { m with vlt := { m.vlt with devOk := 3, failRun := (0, 0) } }
  let m := (m.wr R.VAULT.GEOM.SECTORS m.vlt.sectors.length).wr R.VAULT.GEOM.VCP_AREA_MIB (vcpMib m)
  let m := m.wr R.VAULT.SEQ.SEQ (maxN (m.vlt.records.map (·.seq)))
  let m := m.wr R.VAULT.STATUS.STATE 2
  let bad := (m.vlt.records.filter (·.bad)).length
  let m := if bad = 0 then m
    else (vaultCode (hev (m.add R.VAULT.CNT.COUNT bad 1) 321 bad) VAULT_RECORD_BAD).ev E.VAULT.RECORD_BAD
  let m := if m.vlt.sectors.any (·.valid) then m else vaultCode m VAULT_EMPTY
  let m := replaySump m
  let m := replayDict f m
  let m := replayParts (replayRetired (replayHours m) back)
  let m := (replayDose (gridTick m)).wr R.CAL.VCP_STATUS.STORED (b2n m.vlt.storedVcp.isSome)
  vaultRefresh ((vaultCode m VAULT_REPLAYED).ev E.VAULT.REPLAYED)

end Sys2Proof.Machine
end

