-- ==== Sys2Proof/Machine/Boot.lean ====
section
/-!
DEFINITION. Power, reset and boot (spec/18_firmware_trust_and_live_update.md R611-R614; spec/20_lantern_and_label.md R665, R670;
spec/22_clock_crossing_and_reset.md R744-R749; spec/02_operating_modes.md R39, R40, R49).
-/
namespace Sys2Proof.Machine

/-! ## What a reset of CORE leaves (R665, R746) -/

/-- The register fields Lantern holds: its own block, and the trip count (R665, R580). -/
def lantKey (k : Nat) : Bool :=
  keyIn 0x02C00000 0x02D00000 k || k == R.THRM.TRIPS.COUNT.key 0 0

/-- The dictionary values Lantern holds: band edges and waveform tables (R665). -/
def lantDict (k : Nat) : Bool := k == D.band_edges.key || (decide (0xC020 * 256 < k) && decide (k ≤ 0xC020 * 256 + 8))

/-- Lantern through a reset of CORE: an update under way is abandoned, the glow buffer is lost (R682, R686). -/
def lantThrough (m : Mach) : Mach :=
  let m := lantMode m 3
  if m.lant.run.isSome then labelEnd m LABEL_ABANDONED else m

/-- The NOR devices through a reset: a record that was open is lost, a sector under erase is half-erased (R650, R651). -/
def norThrough (v : Vault) : Vault :=
  let half (s : VSector) : VSector := { s with valid := false, recs := [], used := sectorBytes }
  let ss := match v.erasing with
    | some (i, _) => modAt v.sectors i half
    | none => v.sectors
  { Vault.init with sectors := ss, head := v.head, tail := v.tail, areaA := v.areaA, areaB := v.areaB, oscSec := v.oscSec }

/-- The block after a reset of CORE, CPU and HOST: everything but Lantern, the NOR devices and the pins is at reset. -/
def coreCleared (m : Mach) : Mach :=
  let m := lantThrough m
  let rfm (c : DChan) : DChan := ⟨List.replicate 16 ⟨none, []⟩, [], 0, false, c.rfm, 0⟩
  { Mach.init with
    regs := SMap.keep m.regs lantKey
    dict := SMap.keep m.dict lantDict
    freeN := m.freeN
    mc := { ModeCtl.init with pfwLow := m.mc.pfwLow, off := false, rstCause := m.mc.rstCause }
    vlt := norThrough m.vlt
    scan := { Scan.init with phi := m.scan.phi }
    dr := { Dram.init with chans := m.dr.chans.map rfm, poison := m.dr.poison, kept := m.dr.kept }
    sec := { Sec.init with slots := m.sec.slots, sel := m.sec.sel }
    lant := m.lant
    host := { HostIf.init with perst := m.host.perst } }

/-! ## Boot (R611-R613) -/

/-- The boot selector in force: the newer valid copy (R611). -/
def selectorNow (m : Mach) : Nat × Nat :=
  match m.sec.sel.getD 0 none, m.sec.sel.getD 1 none with
  | some (a, x), some (b, y) => if (a + 2 ^ 32 - b) % 2 ^ 32 < 2 ^ 31 then x else y
  | some (_, x), none => x
  | none, some (_, y) => y
  | none, none => (0, 0)

/-- Why a slot's image fails R610. -/
def slotCode (f : Fuse) (m : Mach) (kind slot : Nat) : Nat :=
  let s := secSlot m kind slot
  if !s.ok then IMG_BAD_FORMAT
  else if (keyHash f s.key).isNone ∨ (2 ≤ s.key ∧ (kind = K_STAGE2 ∨ m.dv D.key_state = 1)) then IMG_KEY_REJECTED
  else IMG_ROLLBACK

/-- The slot of a kind that boots: the committed one, else the other (steps 3 and 6 of R612). -/
def bootSlot (f : Fuse) (m : Mach) (kind slot : Nat) : Option Nat :=
  if slotPasses f m kind slot then some slot else if slotPasses f m kind (1 - slot) then some (1 - slot) else none

/-- A fall-back rewrites the selector and reports why (R612). -/
def bootFell (f : Fuse) (m : Mach) (kind want got : Nat) : Mach :=
  if want = got then m
  else
    let c := slotCode f m kind want
    let sel := selectorNow m
    secCode (if kind = K_STAGE2 then writeSelector m got sel.2 else writeSelector m sel.1 got) c

/-- The set points M3 trains: setpoint_boot, then the flagged others (R448). -/
def bootSetpoints (m : Mach) : List Nat :=
  let sp := m.dv D.setpoint_boot
  let rows := rowsOf 4 ((SMap.look m.dict (0x8000 * 256 + 3)).getD (setpointsDflt m))
  sp :: (List.range 4).filter (fun k => k != sp && bit (fieldLE (rows.getD k []) 2 1) 0)

/-- The bring-up of the DRAM in M3 (R447, R448, R461). -/
def bootDram (m : Mach) : Mach :=
  let m := { m with dr := { m.dr with typ := m.dv D.dram_type, density := m.dv D.channel_density } }
  let m := capRefresh (m.wr R.DRAM.STATUS.SP (m.dv D.setpoint_boot))
  m.each (dramChannels m) (fun m c => queueTraining m c (bootSetpoints m))

/-- Whether a new label geometry has come with the replay: both images are then invalid (R690). -/
def geometryKept (m : Mach) (old : Nat) : Mach :=
  if m.dv D.label_geometry = old then m else { m with lant := { m.lant with targetOk := false, currentOk := false } }

/-- Steps 1 to 5 of R612, from the release of CORE: the time unit starts from the real-time count (R422). -/
def bootStart (f : Fuse) (m0 : Mach) : Mach :=
  let back := m0.dv D.channel_restore
  let m := (coreCleared m0).wr R.SYS.RESET_STATUS.CORE_CAUSE m0.mc.rstCause
  let m := (m.dset D.key_state (b2n f.closed)).dsetB D.die_id f.dieId
  let m := showFuses m f
  let m := firstTickAfter (setNow m (m.rtc * 1000000000 * 65536))
  -- the first tick's deadline may lie before the release (R17)
  let m := { m with mc := { m.mc with deadline := decide (nextTick m ≤ nowNs m + 40000) } }
  let sel := selectorNow m
  let m := (m.wr R.SEC.STATE.BED_COMMITTED sel.1).wr R.SEC.STATE.FW_COMMITTED sel.2
  match bootSlot f m K_STAGE2 sel.1 with
  | none => bootIntegrity m 0x2
  | some b =>
    let m := secVersions ((bootFell f m K_STAGE2 sel.1 b).wr R.SEC.STATE.BED_SLOT b)
    let stored := match m.vlt.stored D.channel_restore.key with
      | some v => fieldLE v 0 1
      | none => 0
    let m := vaultReplay f (fixedRegions m) (maskOf 8 (fun c => bit back c || bit stored c))
    chimRefresh (labelTempShow (bootDram (geometryKept m (m0.dv D.label_geometry))))

/-- CORE_RESET_RELEASE (R746, R747): once the supplies are valid. -/
def execCoreResetRelease (s : State) : Out' :=
  onL s (fun m => if m.mc.off ∧ m.lant.power = 0 then (bootStart s.fuse m).emits m.out else m)

/-- Whether step 6 of R612 is due: training has ended with at least one channel in service, and nothing has failed. -/
def bootMainDue (m : Mach) : Bool :=
  m.mode == 3 && m.mc.imm.isNone && m.rd R.SEC.STATE.INTEG_CAUSE == 0 && !m.sec.cores && m.sec.await == 0 &&
  (dramChannels m).all (fun c => (chanQueue m c).isEmpty) && (dramChannels m).any (fun c => chanState m c == 2)

/-- The code region of a slot is loaded from its image, where the model holds the bytes (R613, R619). -/
def loadCode (m : Mach) (slot : Nat) : List (Nat × List Byte) :=
  match (secSlot m K_MAIN slot).img with
  | some (_, p) => [(codeBase slot, p)]
  | none => []

/-- Steps 6 and 7 of R612: the DRAM was initialised unless it was kept (R452); the main image is checked and the cores released. -/
def bootMain (f : Fuse) (m : Mach) : Effect :=
  let kept := m.dr.kept
  let poison := if kept then m.dr.poison else []
  let m := { m with dr := { m.dr with kept := false, poison := poison } }
  let want := (selectorNow m).2
  match bootSlot f m K_MAIN want with
  | none => ⟨bootIntegrity m 0x3, [], !kept⟩
  | some k =>
    let m := mapMain (bootFell f m K_MAIN want k) k
    let m := { m with sec := { m.sec with await := 1, cores := true, sinceNs := 0, prevFw := k, prevBed := m.rd R.SEC.STATE.BED_SLOT } }
    ⟨m, loadCode m k, !kept⟩

/-- DRAM_TRAINING_DONE (R461, R464): `ok` tells that every step of the training itself succeeded. The end of the last training of M3
lets the boot go on. -/
def execDramTrainingDone (ch ca rd wr vref : Nat) (ok : Bool) (s : State) : Out' :=
  onW s (fun _ m =>
    let m := dramTrainingDone m ch ca rd wr vref ok
    if bootMainDue m then bootMain s.fuse m else ⟨m, [], false⟩)

/-- END_OF_BOOT (R612, R42): firmware, checked in, ends the boot: M4, or M11 where the quarantine flag stands (R46). -/
def endOfBoot (m : Mach) : Mach :=
  if m.mode = 3 ∧ m.mc.imm.isNone ∧ m.flag R.SEC.STATE.FW_PRESENT then
    let m := m.wr R.DICT.WIN_DIR_COUNT.COUNT (directory m).length
    match m.lant.quar with
    | some c => beginImm (m.wr R.SEC.STATE.INTEG_CAUSE c) ⟨11, 0, CAUSE_INTEGRITY, 3, false, false, false⟩
    | none => beginImm m ⟨4, 0, CAUSE_BOOT, 3, false, false, false⟩
  else m

/-! ## Supplies -/

/-- BROWNOUT (R746): CORE, CPU and HOST are held in reset until the supplies are valid again. -/
def execBrownout (s : State) : Out' :=
  onL s (fun m => if m.mc.off then m
    else { m with mc := { m.mc with off := true, rstCause := 2, imm := none, due := none }, dr := { m.dr with kept := false } })

/-- TEST_RESET (R744): TRST_N resets the test logic alone, which lies outside every group and holds nothing this model does. -/
def execTestReset (s : State) : Out' := onL s (fun m => m)

/-- VDD_LANT is first applied (R746, R323, R670): only the NOR devices and the pins keep anything. -/
def lantPowerOn (m : Mach) : Mach :=
  let v := norThrough m.vlt
  let z := { Mach.init with freeN := m.freeN, vlt := v, sec := { Sec.init with slots := m.sec.slots, sel := m.sec.sel } }
  let z := { z with host := { HostIf.init with perst := m.host.perst }, mc := { ModeCtl.init with pfwLow := m.mc.pfwLow } }
  (z.emit (.pin PIN_PWREN_CORE 1)).emit (.pin PIN_PWREN_DRAM 1)

def execLantPowerOn (s : State) : Out' := onLantern s (fun _ m => ⟨lantPowerOn m, [], true⟩)

/-- The falling edge of PFW_N (R49, R560, R650): side grants are revoked, a capture is abandoned, the Vault goes to HOLD. -/
def pfwFall (m : Mach) : Effect :=
  let m := { m with mc := { m.mc with pfwLow := true, grantHold := false } }
  let m := storeCheck (vaultHold (chimRevokeAll m))
  match m.gal.tap with
  | none => ⟨m, [], false⟩
  | some c =>
    let (wr, m) := tapEnd m c false (c.fin == 2)
    ⟨tapDrained (tapSkip m), wr, false⟩

def execPfwNFall (s : State) : Out' :=
  onLantern s (fun _ m =>
    if m.mc.off then ⟨{ m with mc := { m.mc with pfwLow := true } }, [], false⟩
    else if m.mc.pfwLow then ⟨m, [], false⟩ else pfwFall m)

/-- The rising edge of PFW_N: records open again, grants resume at the next tick (R49, R560). -/
def execPfwNRise (s : State) : Out' :=
  onL s (fun m =>
    if m.mc.off ∨ !m.mc.pfwLow then { m with mc := { m.mc with pfwLow := false } }
    else vaultRise { m with mc := { m.mc with pfwLow := false, grantHold := true } })

end Sys2Proof.Machine
end

