-- ==== Sys2Proof/Machine/Deadline.lean ====
section
/-!
DEFINITION. The commit deadline, 40 us before a tick (spec/01_architecture.md R17): what is judged then for the coming tick.
-/
namespace Sys2Proof.Machine

/-- Frames due at the coming tick and not yet judged. -/
def unjudged (m : Mach) : List Frame := m.flow.frames.filter (fun f => decide (f.st ≤ F_COMPLETE) && dueAt f (nextTick m))

/-- Frames are judged one band time before their tick (R20): with a band time of 40 us or more, before the deadline
(assumption log 60). -/
def judgedEarly (m : Mach) : Bool := decide (40000 ≤ (tentry (modeDue m).2).bandNs)

/-- Judge the frames that are due. -/
def judgeDue (m : Mach) : Mach := m.each (unjudged m) (fun m f => admissionCheck m f.seq)

/-- The keys of the drive block. -/
def driveKeys : List Nat := (List.range 4).map (fun i => R.SCAN.DRIVE.BYTES.key i 0)

/-- Whether a drive block is held for the coming tick. -/
def drivePending (m : Mach) : Bool := driveKeys.any (fun k => (SMap.look m.held1 k).isSome)

/-- The check of a pending drive block (R326). -/
def driveDeadline (m : Mach) : Mach :=
  if !drivePending m || driveOk (driveHeld m) (tentry (modeDue m).2).lineNs then m
  else
    let m := { m with held1 := SMap.keep m.held1 (fun k => !driveKeys.contains k) }
    (scanCode m SCAN_DRIVE_BAD).ev E.SCAN.DRIVE_BAD

/-- One step of resid_blend joins the pending set (R587). A held value that is the target stands: it was written directly, or is the
last step. -/
def blendStep (m : Mach) : Mach :=
  let goal := m.rd R.CAL.BLEND.TARGET
  let a := m.rd R.HEL.OPT_BLEND.ALPHA
  if !calEnabled m ∨ m.mode < 5 ∨ 9 < m.mode ∨ a = goal ∨ SMap.look m.held1 (R.HEL.OPT_BLEND.ALPHA.key 0 0) = some goal then m
  else optWrite m R.HEL.OPT_BLEND.ALPHA (stepToward a goal (m.rd R.CAL.BLEND_STEP.STEP)).toNat

/-- The commit deadline of the coming tick passes. -/
def deadlinePass (m : Mach) : Mach :=
  let t := (nextTick m - 40000) * 65536
  let m := if m.tim.now < t then runTo m t else m
  let m := if judgedEarly m then judgeDue m else m
  let m := driveDeadline (lanesDeadline (secDeadline (thermDeadline m)))
  let m := optDeadline (blendStep m) (fun f => dueAt f (nextTick m))
  let m := galDeadline m
  let m := { m with mc := { m.mc with deadline := true } }
  (m.wr R.SYS.TICK_STATUS.COMMIT_OPEN 0).ev E.SYS.DEADLINE

/-- COMMIT_DEADLINE (R17): it passes once before each tick. -/
def commitDeadline (m : Mach) : Mach := if m.mc.deadline then m else deadlinePass m

def execCommitDeadline (s : State) : Out' := onM s commitDeadline

end Sys2Proof.Machine
end

