-- ==== Sys2Proof/Machine/DictCmds.lean ====
section
/-!
DEFINITION. Dictionary requests as they arrive: the internal ports, BAR2 slots, IDP datagrams, and requests carried over Passage
(spec/03_object_dictionary.md R66, R73, R81-R96; spec/11_passage_fabric.md R407). A command that names an operation takes the requests
that spell it; what spells none is taken by DICT_READ (assumption log 59).
-/
namespace Sys2Proof.Machine

/-- A command of the dictionary engine. It reads the fuses (key_table) and changes neither fuses nor DRAM. -/
def onD (s : State) (g : Fuse → Mach → Mach) : Out' := onF s (fun _ m f => (f, ⟨g f m, [], false⟩))

/-- Serve at this node and reply. -/
def serveHere (f : Fuse) (m : Mach) (r : Req) (key : Option (List Byte)) : Mach :=
  match serve f m r with
  | (some rep, m) => sendReply m r.org key (nodeNow m) rep (tickOf m rep.code)
  | (none, m) => m

/-! ## Requests that go to another node (R94, R95, R407) -/

/-- Whether this node has a route to an address. -/
def hasRoute (m : Mach) (d : Nat) : Bool :=
  match fabAddr m with
  | none => false
  | some a =>
    let (x, y) := addrXY a
    let (dx, dy) := addrXY d
    let ok (yx : Bool) : Bool := match nextLink x y dx dy yx with
      | some n => linkUsable m n
      | none => false
    a != d && decide (d % 64 ≤ m.rd R.PASS.MESH.WIDTH_M1) && decide (d / 64 ≤ m.rd R.PASS.MESH.HEIGHT_M1) && (ok false || ok true)

/-- Send a DICT_REQ with a tag and remember who asked. -/
def sendRemote (m : Mach) (o : Origin) (hdr data : List Byte) (auth host : Bool) (node tag : Nat) : Mach :=
  let m := { m with dic := { m.dic with remote := m.dic.remote ++ [⟨tag, o⟩] } }
  fabSend m 2 0x06 false node (toLE 1 (b2n auth + 2 * b2n host) ++ toLE 3 0 ++ toLE 2 (nodeNow m) ++ toLE 2 tag ++ hdr ++ data)

/-- The next tag that is not a subscription slot. -/
def takeTag (m : Mach) : Nat × Mach :=
  let t := m.dic.nextTag
  (t, { m with dic := { m.dic with nextTag := if t = 65535 then 64 else t + 1 } })

/-- A forwarded SUBSCRIBE holds a slot here, whose number is its tag, so that its reports find their way (R94, R407). -/
def forwardSub (m : Mach) (o : Origin) (key : Option (List Byte)) (hdr data : List Byte) (auth : Bool) (node : Nat) : Mach :=
  let ix := fieldLE hdr 6 2
  let sb := fieldLE hdr 8 1
  let port (sp : Nat) : Nat := if fieldLE data 4 2 = 0 then sp else fieldLE data 4 2
  match o with
  | .udp v6 a sp _ =>
    let t : SubTo := .remote v6 a (port sp) node
    let (have_, free) := subSlot m t ix sb
    if data.length ≠ 6 then sendReply m o key (nodeNow m) (Rep.of DICT_LENGTH) 0
    else if fieldLE data 2 2 = 0 then
      match have_ with
      | some n => sendRemote (setSub m n none) o hdr data auth false node n
      | none =>
        let (k, m) := takeTag m
        sendRemote m o hdr data auth false node k
    else match have_, free with
      | some n, _ => sendRemote m o hdr data auth false node n
      | none, some n => sendRemote (setSub m n (some ⟨t, ix, sb, fieldLE data 0 2, 0, [], 0⟩)) o hdr data auth false node n
      | none, none => sendReply m o key (nodeNow m) (Rep.of DICT_SUB_LIMIT) 0
  | _ => sendReply m o key (nodeNow m) (Rep.of DICT_BAD_OPCODE) 0

/-- Carry a request to another node. -/
def forward (m : Mach) (o : Origin) (key : Option (List Byte)) (hdr data : List Byte) (auth host : Bool) (node : Nat) : Mach :=
  let say (c : Nat) : Mach := sendReply m o key (nodeNow m) (Rep.of c) 0
  if 64 ≤ m.dic.remote.length then say DICT_BUSY
  else if !hasRoute m node then say DICT_NODE_UNREACHABLE
  else if fieldLE hdr 1 1 = 7 then forwardSub m o key hdr data auth node
  else
    let (t, m) := takeTag m
    sendRemote m o hdr data auth host node t

/-! ## The internal ports and BAR2 (R66, R81) -/

/-- A request at Bedrock's or firmware's port. -/
def portRequest (f : Fuse) (m : Mach) (op : Nat) (p : Principal) (ix sb off : Nat) (data : List Byte) : Mach :=
  if p = .bed ∨ (p = .fw ∧ m.sec.cores) then serveHere f m ⟨p, op, ix, sb, off, data, true, 0, .port p, 2 ^ 24⟩ none else m

/-- The opcode of a slot. -/
def slotOp (m : Mach) (n : Nat) : Nat := m.rd R.DICT.SLOT_CMD.OPCODE n

/-- A GO write of a slot (R81): ignored while BUSY. -/
def slotGo (f : Fuse) (m : Mach) (n : Nat) (irq : Bool) : Mach :=
  if 16 ≤ n ∨ !busReaches m .host ∨ m.mode < 4 ∨ m.flag R.DICT.SLOT_STATUS.BUSY n then m
  else
    let m := (m.wr R.DICT.SLOT_GO.IRQ (b2n irq) n).wr R.DICT.SLOT_STATUS.BUSY 1 n
    let m := m.add R.DICT.SLOT_STATUS.SEQ 1 n
    let op := slotOp m n
    let ix := m.rd R.DICT.SLOT_CMD.INDEX n
    let sb := m.rd R.DICT.SLOT_CMD.SUBINDEX n
    let len := m.rd R.DICT.SLOT_TARGET.LENGTH n
    let off := m.rd R.DICT.SLOT_OFFSET.OFFSET n
    let node := m.rd R.DICT.SLOT_TARGET.NODE n
    let data := slice ((m.dic.slots.getD n ⟨[], none⟩).data) 0 len
    let say (c : Nat) : Mach := slotReply m n (Rep.of c) 0
    if op = 0 ∨ 6 < op then say DICT_BAD_OPCODE
    else if 4064 < len then say DICT_LENGTH
    else if !m.flag R.DICT.SLOT_TARGET.REMOTE n then
      if (op = 3 ∨ op = 4) ∧ off % 4 ≠ 0 then say DICT_BAD_OFFSET
      else serveHere f m ⟨.host, op, ix, sb, off, data, true, 0, .slot n, 4064⟩ none
    else if 1024 < len then say DICT_LENGTH
    else if (op = 3 ∨ op = 4) ∧ off % 1024 ≠ 0 then say DICT_BAD_OFFSET
    else
      let hdr := toLE 1 2 ++ toLE 1 op ++ toLE 2 (m.rd R.DICT.SLOT_STATUS.SEQ n) ++ toLE 2 node ++ toLE 2 ix ++ toLE 1 sb ++ toLE 1 0 ++
        toLE 2 len ++ toLE 2 0 ++ toLE 2 (off / 1024)
      forward m (.slot n) none hdr data (m.dv D.host_fabric_write == 1) true node

/-! ## IDP datagrams (R84, R85, R89, R90, R96) -/

/-- Whether IDP runs for an address family (R73, R97). -/
def idpRuns (m : Mach) (v6 : Bool) : Bool :=
  m.mode != 0 && m.mode != 3 && m.dv D.idp_enable == 1 && (if v6 then m.dv D.ipv6_address != 0 else m.dv D.ipv4_address != 0)

/-- A datagram dropped without a reply (R85). -/
def idpDrop (m : Mach) : Mach := idpCount m D.idp_dropped

/-- A request in or out of a session goes to this node's engine or on to its node. -/
def netRequest (f : Fuse) (m : Mach) (o : Origin) (key : Option (List Byte)) (hdr data : List Byte) : Mach :=
  let node := fieldLE hdr 4 2
  let auth := key.isSome
  if 0x8000 ≤ node ∨ fabAddr m = some (node % 4096) then
    serveHere f m ⟨.net, fieldLE hdr 1 1, fieldLE hdr 6 2, fieldLE hdr 8 1, 1024 * fieldLE hdr 14 2, data, auth,
      if auth then fieldLE hdr 12 2 else 0, o, 1024⟩ key
  else forward m o key hdr data auth false (node % 4096)

/-- How a session takes a SEQUENCE (R90). -/
inductive SeqUse where
  | fresh | again | stale
  deriving DecidableEq, Repr

def Sess.take (s : Sess) (seq : Nat) : SeqUse :=
  match s.top with
  | none => .fresh
  | some t =>
    if t < seq then .fresh
    else if s.cache.any (fun c => c.1 == seq) then .again
    else if t ≤ seq + 32 ∧ !s.seen.contains seq then .fresh
    else .stale

/-- The session after it has accepted a SEQUENCE. -/
def Sess.accept (s : Sess) (seq : Nat) : Sess :=
  let t := match s.top with
    | none => seq
    | some t => Nat.max t seq
  { s with top := some t, seen := (seq :: s.seen).filter (fun x => t ≤ x + 32), cache := ((seq, []) :: s.cache).take 8 }

/-- A v2 message in a session: tag, SEQUENCE, then the request (R89, R90). -/
def inSession (f : Fuse) (m : Mach) (o : Origin) (s : Sess) (b : List Byte) : Mach :=
  let len := fieldLE b 10 2
  let hdr := slice b 0 16
  let seq := fieldLE b 2 2
  let tag := slice (Config.hmac256 s.key (splice hdr 9 [0] ++ slice b 16 len)) 0 16
  let say (m : Mach) (c : Nat) : Mach := sendReply m o (some s.key) (nodeNow m) (Rep.of c) 0
  if tag ≠ slice b (16 + len) 16 then say (idpCount m D.idp_auth_fail) DICT_AUTH_FAILED
  else match s.take seq with
    | .again =>
      match s.cache.find? (fun c => c.1 == seq), o with
      | some (_, r), .udp v6 a pt _ => if r.isEmpty then m else m.emit (.udp v6 a pt r)
      | _, _ => m
    | .stale => say (idpCount m D.idp_replay) DICT_REPLAY
    | .fresh =>
      let m := netRequest f (sessMod m s.num (fun s => s.accept seq)) o (some s.key) hdr (slice b 16 len)
      if seq = 0xFFFF then sessDrop m s.num else m

/-- A v2 message (R85). -/
def idpV2 (f : Fuse) (m : Mach) (v6 : Bool) (a pt : Nat) (b : List Byte) : Mach :=
  let len := fieldLE b 10 2
  let sess := fieldLE b 12 2
  let op := fieldLE b 1 1
  let o : Origin := .udp v6 a pt (slice b 0 16)
  if b.length < 16 ∨ 1024 < len ∨ b.length ≠ 16 + len + (if sess = 0 then 0 else 16) ∨ bits (fieldLE b 4 2) 14 12 ≠ 0 ∨ op = 8 then idpDrop m
  else if op = 0 ∨ 7 < op then sendReply m o (originKey m o) (nodeNow m) (Rep.of DICT_BAD_OPCODE) 0
  else if sess = 0 then netRequest f m o none (slice b 0 16) (slice b 16 len)
  else match sessOf m sess with
    | none => sendReply (idpCount m D.idp_auth_fail) o none (nodeNow m) (Rep.of DICT_AUTH_FAILED) 0
    | some s => inSession f m o s b

/-- A v1 message (R96): a READ of the receiving node, or DICT_V1_READ_ONLY. -/
def idpV1 (f : Fuse) (m : Mach) (v6 : Bool) (a pt : Nat) (b : List Byte) : Mach :=
  let o : Origin := .udp v6 a pt (slice b 0 12)
  if m.dv D.idp_v1_enable ≠ 1 ∨ b.length < 12 ∨ b.length ≠ 12 + fieldLE b 8 2 ∨ fieldLE b 10 2 ≠ 0 then idpDrop m
  else if fieldLE b 1 1 ≠ 1 then sendReply m o none 0 (Rep.of DICT_V1_READ_ONLY) 0
  else serveHere f m ⟨.net, 1, fieldLE b 4 2, fieldLE b 6 1, 0, [], false, 0, o, 1024⟩ none

/-- A datagram arrives: the version is read first (R85, R96). -/
def idpArrive (f : Fuse) (m : Mach) (v6 : Bool) (a pt : Nat) (b : List Byte) : Mach :=
  if !idpRuns m v6 then m
  else
    let m := idpCount m D.idp_rx
    if b.isEmpty then idpDrop m
    else match fieldLE b 0 1 with
      | 1 => idpV1 f m v6 a pt b
      | 2 => idpV2 f m v6 a pt b
      | _ => sendReply m (.udp v6 a pt (slice b 0 16)) none (nodeNow m) (Rep.of DICT_BAD_VERSION) 0

/-! ## Which command a request belongs to -/

/-- What a request spells: an opcode of R86, 100 for a v1 message, 0 for nothing; a port request spells what its command names. -/
def reqOp (m : Mach) (op : Nat) : DReq → Nat
  | .port _ _ _ _ _ => op
  | .slot n _ => let k := slotOp m n; if 1 ≤ k ∧ k ≤ 7 then k else 0
  | .idp _ _ _ b =>
    let k := fieldLE b 1 1
    if !b.isEmpty && fieldLE b 0 1 == 1 then 100 else if fieldLE b 0 1 = 2 ∧ 1 ≤ k ∧ k ≤ 7 then k else 0

/-- The entry a request names. -/
def reqEntry (m : Mach) : DReq → Nat × Nat
  | .port _ ix sb _ _ => (ix, sb)
  | .slot n _ => (m.rd R.DICT.SLOT_CMD.INDEX n, m.rd R.DICT.SLOT_CMD.SUBINDEX n)
  | .idp _ _ _ b => (fieldLE b 6 2, fieldLE b 8 1)

/-- A request is carried out. -/
def dictRequest (f : Fuse) (m : Mach) (op : Nat) : DReq → Mach
  | .port p ix sb off data => portRequest f m op p ix sb off data
  | .slot n irq => slotGo f m n irq
  | .idp v6 a pt b => idpArrive f m v6 a pt b

/-- A command of the dictionary takes a request that spells its operation and names an entry it takes. -/
def dictCmd (op : Nat) (takes : Nat × Nat → Bool) (q : DReq) (f : Fuse) (m : Mach) : Mach :=
  let k := reqOp m op q
  if (k = op ∨ (op = 1 ∧ k = 0)) ∧ takes (reqEntry m q) then dictRequest f m op q else m

/-- Every entry. -/
def anyEntry : Nat × Nat → Bool := fun _ => true

def execDictRead (q : DReq) (s : State) : Out' := onD s (dictCmd 1 anyEntry q)
def execDictWrite (q : DReq) (s : State) : Out' := onD s (dictCmd 2 anyEntry q)
def execReadBlock (q : DReq) (s : State) : Out' := onD s (dictCmd 3 anyEntry q)
def execWriteBlock (q : DReq) (s : State) : Out' := onD s (dictCmd 4 anyEntry q)
def execStore (q : DReq) (s : State) : Out' := onD s (dictCmd 5 anyEntry q)
def execRestoreDefault (q : DReq) (s : State) : Out' := onD s (dictCmd 6 anyEntry q)
def execSubscribe (q : DReq) (s : State) : Out' := onD s (dictCmd 7 anyEntry q)
def execIdpV1Request (q : DReq) (s : State) : Out' := onD s (dictCmd 100 anyEntry q)
def execSessionChallengeRead (q : DReq) (s : State) : Out' := onD s (dictCmd 1 (fun e => e == (0x1101, 1)) q)
def execSessionOpen (q : DReq) (s : State) : Out' := onD s (dictCmd 2 (fun e => e == (0x1101, 2)) q)
def execSessionClose (q : DReq) (s : State) : Out' := onD s (dictCmd 2 (fun e => e == (0x1101, 3)) q)

/-- PSK_WRITE (R87): a write of 0xB200:01 to :04. -/
def execPskWrite (q : DReq) (s : State) : Out' := onD s (dictCmd 2 (fun e => e.1 == 0xB200 && 1 ≤ e.2 && e.2 ≤ 4) q)

/-! ## Times that run out (R82, R91, R92, R95) -/

def execSessionIdleTimeout (num : Nat) (s : State) : Out' := onM s (fun m => sessDrop m num)

/-- BLOCK_STAGE_TIMEOUT (R82): a staged value of a slot, or of a session, received no part for 1 s. -/
def stageTimeout (m : Mach) (sess : Bool) (n : Nat) : Mach :=
  if sess then sessMod m n (fun x => { x with stage := none })
  else { m with dic := { m.dic with slots := modAt m.dic.slots n (fun x => { x with stage := none }) } }

def execBlockStageTimeout (sess : Bool) (n : Nat) (s : State) : Out' := onM s (fun m => stageTimeout m sess n)

def execSubscriptionLeaseExpiry (n : Nat) (s : State) : Out' := onM s (fun m => setSub m n none)

/-- REMOTE_REQUEST_TIMEOUT (R95): no reply to a tag within 10 ms. -/
def remoteTimeout (m : Mach) (tag : Nat) : Mach :=
  match m.dic.remote.find? (fun r => r.tag == tag) with
  | none => m
  | some r =>
    let m := { m with dic := { m.dic with remote := m.dic.remote.filter (fun x => x.tag != tag) } }
    sendReply m r.org (originKey m r.org) (nodeNow m) (Rep.of DICT_NODE_TIMEOUT) 0

def execRemoteRequestTimeout (tag : Nat) (s : State) : Out' := onM s (fun m => remoteTimeout m tag)

/-! ## Over Passage (R94, R407) -/

/-- DICT_REQ at its target: checked as NET, in no session. -/
def dictReq (f : Fuse) (m : Mach) (b : List Byte) : Mach :=
  let hdr := slice b 8 16
  let len := fieldLE b 18 2
  let o : Origin := .fabric (fieldLE b 4 2) (fieldLE b 6 2) hdr
  if m.mode = 0 ∨ m.mode = 3 ∨ b.length < 24 then m
  else if fieldLE hdr 0 1 ≠ 2 then sendReply m o none (nodeNow m) (Rep.of DICT_BAD_VERSION) 0
  else serveHere f m ⟨.net, fieldLE hdr 1 1, fieldLE hdr 6 2, fieldLE hdr 8 1, 1024 * fieldLE hdr 14 2, slice b 24 len,
    bit (fieldLE b 0 1) 0, 0, o, 1024⟩ none

def execDictReq (n : Nat) (crc : Bool) (p : Packet) (s : State) : Out' :=
  onD s (fun f m =>
    let r := pktArrive m n crc p
    if r.1 then dictReq f r.2 p.data else r.2)

/-- DICT_REPLY at the ingress node: a reply that nobody waits for is late (R95). A SUBSCRIBE that failed, or cancelled, frees its slot. -/
def dictReply (m : Mach) (b : List Byte) : Mach :=
  let tag := fieldLE b 6 2
  match m.dic.remote.find? (fun r => r.tag == tag) with
  | none => idpCount m D.idp_late_remote
  | some r =>
    let code := fieldLE b 17 1
    let m := { m with dic := { m.dic with remote := m.dic.remote.filter (fun x => x.tag != tag) } }
    let m := if tag < 64 ∧ code ≠ 0 then setSub m tag none else m
    sendReply m r.org (originKey m r.org) (fieldLE b 12 2 % 4096) ⟨code, slice b 24 (fieldLE b 18 2)⟩ 0

def execDictReply (n : Nat) (crc : Bool) (p : Packet) (s : State) : Out' :=
  onM s (fun m =>
    let r := pktArrive m n crc p
    if r.1 then dictReply r.2 p.data else r.2)

/-- A NOTIFY datagram (R93): SESSION 0, no tag, SEQUENCE the subscription's count. -/
def notifyBytes (s : Sub) (node : Nat) (pay : List Byte) : List Byte :=
  toLE 1 2 ++ toLE 1 8 ++ toLE 2 s.count ++ toLE 2 node ++ toLE 2 s.ix ++ toLE 1 s.sb ++ toLE 1 0 ++ toLE 2 pay.length ++ toLE 2 0 ++
    toLE 2 0 ++ pay

/-- NOTIFY_RELAY at the ingress node: sent on over UDP (R94). -/
def notifyRelay (m : Mach) (b : List Byte) : Mach :=
  let n := fieldLE b 0 2
  match m.dic.subs.getD n none with
  | some s =>
    match s.to_ with
    | .remote v6 a pt node => (setSub m n (some { s with count := s.count + 1 })).emit (.udp v6 a pt (notifyBytes s node (b.drop 2)))
    | _ => m
  | none => m

def execNotifyRelay (n : Nat) (crc : Bool) (p : Packet) (s : State) : Out' :=
  onM s (fun m =>
    let r := pktArrive m n crc p
    if r.1 then notifyRelay r.2 p.data else r.2)

end Sys2Proof.Machine
end

