-- ==== Sys2Proof/Machine/DoseCmds.lean ====
section
/-!
DEFINITION. The luminance doses, their commits to the Vault, and the aging map (spec/17_calibration.md R588, R589;
spec/19_vault_persistent_state.md R645, R653).
-/
namespace Sys2Proof.Machine

/-- The largest dose (R588). -/
def doseMax : Nat := (2 ^ 32 - 1) * 65536 + 65535

/-- Pixels of a zone: those of its 256 x 256 square that lie on the panel (R280). -/
def zonePixels (e z : Nat) : Nat :=
  let t := tentry e
  let zw := zoneW e
  Nat.min 256 (t.w - 256 * (z % zw)) * Nat.min 256 (t.h - 256 * (z / zw))

/-- Firmware adds a frame's light to the doses (R588). Which way the fraction of a step is rounded is open. -/
def doseTick (m : Mach) : Mach :=
  if !drivesRays m.mode || !fwServes m then m
  else
    let t := tentry m.entry
    m.each (List.range (3 * gridNodes m)) (fun m k =>
      let s := m.rd R.GAL.ZONE_SUM.SUM k
      if s = 0 then m
      else
        let n := s * 64 * 65536 * t.den
        let d := zonePixels m.entry (k / 3) * t.num * 3600
        let (r, m) := if n % d = 0 then (0, m) else m.draw 2
        let v := Nat.min doseMax (SMap.get 0 m.cal.dose k + n / d + r)
        { m with cal := { m.cal with dose := SMap.put 0 m.cal.dose k v } })

/-! ## The aging map (R589) -/

/-- The aging curve in force: rows of dose in 2^-16 cd/m2 h and three efficiencies. -/
def agingCurve (m : Mach) : List (Nat × List Nat) :=
  (rowsOf 10 ((SMap.look m.dict (0x9030 * 256 + 2)).getD agingDflt)).map (fun r =>
    (fieldLE r 0 4 * 65536, [fieldLE r 4 2, fieldLE r 6 2, fieldLE r 8 2]))

/-- E_ch(D): piecewise linear between the rows around D. -/
def efficiency (c : List (Nat × List Nat)) (ch d : Nat) : Int :=
  let e (r : Nat × List Nat) : Int := (r.2.getD ch 0 : Nat)
  match (c.filter (fun r => decide (r.1 ≤ d))).getLast?, c.find? (fun r => decide (d < r.1)) with
  | some a, some b => e a + rdiv ((e b - e a) * ((d - a.1 : Nat) : Int)) ((b.1 - a.1 : Nat) : Int)
  | some a, none => e a
  | none, some b => e b
  | none, none => 0

/-- A node's gain; where its efficiency is 0 the rule gives no quotient, and the gain is free within the clamp. -/
def agingGain (m : Mach) (ref z : Int) : Nat × Mach :=
  if z = 0 then
    let (g, m) := m.draw 0x2001
    (0x2000 + g, m)
  else ((clampI (floorDiv (ref * 16384) z) 0x2000 0x4000).toNat, m)

/-- Firmware computes the aging map, writes its shadow and commits it, while Gallery runs (R584, R589). -/
def agingCompute (m : Mach) : Mach :=
  if m.dv D.aging_auto ≠ 1 ∨ !drivesRays m.mode then m
  else
    let c := agingCurve m
    let n := gridNodes m
    let dose (z ch : Nat) : Nat := SMap.get 0 m.cal.dose (3 * z + ch)
    let ref (ch : Nat) : Int := efficiency c ch (maxN ((List.range n).map (fun z => dose z ch)))
    let refs := [ref 0, ref 1, ref 2]
    let gains := (List.range n).foldl (fun (acc : List (List Byte) × Mach) z =>
      let r := (List.range 3).foldl (fun (a : List Byte × Mach) ch =>
        let g := agingGain a.2 (refs.getD ch 0) (efficiency c ch (dose z ch))
        (a.1 ++ toLE 2 g.1, g.2)) ([], acc.2)
      (r.1 :: acc.1, r.2)) ([], m)
    let m := dictRowsTo gains.2 0x1030000 8 gains.1.reverse
    let m := { m with gal := { m.gal with cnt := setAt m.gal.cnt 1 n } }
    let k := 0x5031 * 256 + 2
    let m := { m with dic := { m.dic with gen := SMap.put 0 m.dic.gen k ((SMap.get 0 m.dic.gen k + 1) % 2 ^ 32) } }
    let r := galCommit m (0x8000 + m.cal.doseGen % 0x8000)
    if r.1 = GAL_SET_BAD then r.2 else r.2.ev E.CAL.AGING

/-! ## Commits (R653) -/

/-- Firmware requests its dose records while places are free. -/
def doseFeed (m : Mach) : Mach :=
  let l := m.cal.dosePend
  let m := { m with cal := { m.cal with dosePend := [] } }
  l.foldl (fun m q =>
    if 64 ≤ m.vlt.held.length ∨ !m.cal.dosePend.isEmpty then { m with cal := { m.cal with dosePend := m.cal.dosePend ++ [q] } }
    else vaultRequest m q) m

/-- The records of a generation: its groups of 225 nodes, then DOSE_END. -/
def doseRecords (m : Mach) (g : Nat) : List VReq :=
  let rows := doseRows m m.cal.dose
  let groups := (List.range (ceilDiv rows.length 225)).map (fun k =>
    (⟨5, g * 256 + k, .bytes (joinL ((rows.drop (225 * k)).take 225)), .dose⟩ : VReq))
  let pay := toLE 2 (m.rd R.GAL.ZONE_GRID.ZW) ++ toLE 2 (m.rd R.GAL.ZONE_GRID.ZH) ++ toLE 4 (crc32c (joinL rows)) ++ toLE 8 0
  groups ++ [⟨6, g, .bytes pay, .dose⟩]

/-- A commit of the dose maps under a new generation. -/
def doseCommit (m : Mach) : Mach :=
  if !fwServes m then m
  else
    let g := (m.cal.doseGen + 1) % 2 ^ 24
    let m := { m with cal := { m.cal with doseGen := g, shown := m.cal.dose, dosePend := m.cal.dosePend ++ doseRecords m g } }
    agingCompute (doseFeed m)

/-- DOSE_COMMIT (R588, R653): every 10 minutes. -/
def execDoseCommit (s : State) : Out' := onM s doseCommit

/-- DOSE_RESET (R588): every dose is 0, and the maps are committed. -/
def doseReset (m : Mach) : Mach :=
  if !fwServes m then m else doseCommit { m with cal := { m.cal with dose := [] } }

def execDoseReset (s : State) : Out' := onM s doseReset

end Sys2Proof.Machine
end

