-- ==== Sys2Proof/Machine/DripStep.lean ====
section
/-!
DEFINITION. One step of Dripstone (spec/21_health_faults_and_counters.md R707-R711).
-/
namespace Sys2Proof.Machine

/-- Where the DRAM target stands. -/
def dripPos (m : Mach) : Nat := m.rd R.HLTH.DRIP_DRAM_POS_HI.POS * 2 ^ 32 + m.rd R.HLTH.DRIP_DRAM_POS_LO.POS

/-- Move the DRAM target. -/
def dripPosSet (m : Mach) (a : Nat) : Mach := (m.wr R.HLTH.DRIP_DRAM_POS_LO.POS (a % 2 ^ 32)).wr R.HLTH.DRIP_DRAM_POS_HI.POS (a / 2 ^ 32)

/-- A block of a DRAM step (R708): `err` 1 a correctable error, 2 an uncorrectable one. Answers the write-back; the data of a block with an
uncorrectable error are as they were read, which is open. -/
def dripBlock (m : Mach) (a err : Nat) : List (Nat × List Byte) × Mach :=
  if (poisoned m a 32).isSome then ([], dripCount m 1)
  else if err = 1 then
    ([], dripCount (hev ((eccNote (m.add R.DRAM.ECC_CORRECTED.COUNT 1) a false false).ev E.DRAM.ECC_CORR) 192) 0)
  else if err = 2 then
    let m := hev ((eccNote (m.add R.DRAM.ECC_UNCORRECTED.COUNT 1) a true false).ev E.DRAM.ECC_UNCORR) 193
    let m := channelEvent m (dramPlace m a).1 wUncorr DRAM_POISONED (a % 2 ^ 32)
    let (x, m) := m.drawBytes 32
    ([(a, x)], (dripCount (setPoison m a 32 true) 1).ev E.HLTH.DRIP_UNCORR)
  else ([], m)

/-- A step of the DRAM target (R708): 4 KiB; `errs` are the blocks of the step found in error. It pauses while a remap walk runs and
while DRAM is in self-refresh. -/
def dripDram (m : Mach) (errs : List (Nat × Nat)) : Effect :=
  if m.dr.walk.isSome ∨ (dramChannels m).any (fun c => chanState m c == 3) then ⟨m, [], false⟩
  else
    let cap := m.rd R.DRAM.CAPACITY.MIB * 2 ^ 20
    let a := if dripPos m < cap then dripPos m else 0
    let m := countMoved m 0x40 a 4096 false
    let m := m.each (lineStarts a 4096) dramOpen
    let r := (List.range 128).foldl (fun (acc : List (Nat × List Byte) × Mach) k =>
      let err := match errs.find? (fun e => e.1 == k) with
        | some e => e.2
        | none => 0
      let x := dripBlock acc.2 (a + 32 * k) err
      (acc.1 ++ x.1, x.2)) ([], m)
    let m := if cap ≤ a + 4096 then dripPassEnd (dripPosSet r.2 0) 0 else dripPosSet r.2 (a + 4096)
    ⟨m, r.1, false⟩

/-- A bank's line in a Grotto step (R709): `err` 1 correctable, 2 uncorrectable, at a word of the line. -/
def dripBank (m : Mach) (bank word err : Nat) : Mach :=
  let spare := !(banksLive m).contains bank
  let weight := if err = 2 then wUncorr else 1
  let m := dripCount m (if err = 2 then 3 else 2)
  let m := m.evIf (err == 2) E.HLTH.DRIP_UNCORR
  if spare then
    let (crossed, m) := bucketAdd m 2 bank weight 0 (bank * 2 ^ 19 + word)
    if crossed then bankRetired m bank else m
  else if err = 2 then grottoEcc m bank word true false
  else m

/-- A step of the Grotto target: one line of 16 words of every bank; `errs` are bank, word of the line, and kind of error. -/
def dripGrotto (m : Mach) (errs : List (Nat × Nat × Nat)) : Mach :=
  let p := m.rd R.HLTH.DRIP_GROT_POS.POS
  let m := m.each (errs.filter (fun e => decide (e.1 < 68) && decide (e.2.1 < 16) && (e.2.2 == 1 || e.2.2 == 2))) (fun m e =>
    dripBank m e.1 (16 * p + e.2.1) e.2.2)
  if 24576 ≤ p + 1 then dripPassEnd (m.wr R.HLTH.DRIP_GROT_POS.POS 0) 1 else m.wr R.HLTH.DRIP_GROT_POS.POS (p + 1)

/-- The size of a NOR device by its journal (R641). -/
def norBytes (m : Mach) : Nat :=
  let n := m.vlt.sectors.length
  if n = 240 then 2 ^ 26 else if n = 496 then 2 ^ 27 else 2 ^ 28

/-- One bad copy is found at a NOR offset (R710): selector and slots are rewritten from the good copy; a journal sector is copied to the
head; the stored package is rewritten. -/
def dripNorBad (m : Mach) (p : Nat) : Mach :=
  let n := m.vlt.sectors.length
  if p < 0x02100000 then m
  else
    let i := (p - 0x02100000) / 65536
    if i < n then
      let live := m.vlt.liveOf i
      vaultRefresh ((sectorEvent m i VAULT_RECORD_BAD).each live copyRec)
    else
      match m.vlt.storedVcp, m.vlt.latest 0xA 0 with
      | some d, some r =>
        let half := (norBytes m - 0x02100000 - n * 65536) / 2
        let area := if p < 0x02100000 + n * 65536 + half then 0 else 1
        if fieldLE r.pay 0 1 = area ∧ m.cal.vcp.isNone then vcpWrite m d (fieldLE r.pay 8 4) else m
      | _, _ => m

/-- Whether a NOR offset lies in the image slot that is being installed. -/
def norInstalling (m : Mach) (p : Nat) : Bool :=
  match m.sec.install with
  | some (kind, slot, _, _) =>
    let b := if kind = K_STAGE2 then 0x00010000 + 0x20000 * slot else 0x00100000 + 0x1000000 * slot
    decide (b ≤ p) && decide (p < b + (if kind = K_STAGE2 then 0x20000 else 0x1000000))
  | none => false

/-- A step of the NOR target: 4 KiB at one offset of both devices; `bad` 1 one bad copy, 2 no good copy. -/
def dripNor (m : Mach) (bad : Nat) : Mach :=
  let p := m.rd R.HLTH.DRIP_NOR_POS.POS
  let m := if bad = 0 ∨ norInstalling m p then m
    else if bad = 1 then dripNorBad (dripCount m 4) p
    else (sumpSystem (dripCount m 4) 455 0 p).ev E.HLTH.DRIP_UNCORR
  if norBytes m ≤ p + 4096 then dripPassEnd (m.wr R.HLTH.DRIP_NOR_POS.POS 0) 2 else m.wr R.HLTH.DRIP_NOR_POS.POS (p + 4096)

/-- DRIP_STEP (R707): a target in a pass carries out one step under its grant. Errors found: for DRAM block and kind, for Grotto bank,
word and kind, for NOR in the first entry's last place. -/
def dripStep (m : Mach) (t : Nat) (errs : List (Nat × Nat × Nat)) : Effect :=
  if 3 ≤ t ∨ !(dripRec m t).inPass ∨ !dripRuns m t ∨ !hasGrant m C_SCRUB t then ⟨m, [], false⟩
  else if t = 0 then dripDram m (errs.map (fun e => (e.1, e.2.2)))
  else if t = 1 then ⟨dripGrotto m errs, [], false⟩
  else ⟨dripNor m ((errs.map (fun e => e.2.2)).headD 0), [], false⟩

def execDripStep (target : Nat) (errs : List (Nat × Nat × Nat)) (s : State) : Out' := onW s (fun _ m => dripStep m target errs)

end Sys2Proof.Machine
end

