-- ==== Sys2Proof/Machine/GrantCmds.lean ====
section
/-!
DEFINITION. Chimney's grants coming into force and holders reaching their pause points (spec/16_power_and_thermal.md R555, R558).
Holders: TRAIN quads 0 to 15, DRAM channels 16 to 23 and the remap walk 32; CAL the kind; SCRUB the target; DMA the
channel; CRC the unit; the other classes 0.
-/
namespace Sys2Proof.Machine

/-- A holder all of whose tokens are in force begins or goes on (R558). The walk, sweeps, background work and the tap go on by their own
commands. -/
def holderBegins (d : Mem) (m : Mach) (cls h : Nat) : Mach :=
  if cls = C_TRAIN then (if h < 16 then quadGranted m h else if h < 24 then chanGranted m (h - 16) else m)
  else if cls = C_DMA then dmaGranted d m h
  else if cls = C_BLIT then sideGranted m 0
  else if cls = C_CRC then crcGranted m h
  else if cls = C_DEFL then sideGranted m 1
  else m

/-- GRANT_IN_FORCE (R558). -/
def grantComes (d : Mem) (m : Mach) (cls h : Nat) : Mach :=
  let r := grantInForce m cls h
  if r.1 then holderBegins d r.2 cls h else r.2

def execGrantInForce (cls holder : Nat) (s : State) : Out' := onR s (fun d m => grantComes d m cls holder)

/-- The state an engine shows while it waits at its pause point (R502, R517); a drain goes on showing DRAINING. -/
def holderWaits (m : Mach) (cls h : Nat) : Mach :=
  if cls = C_DMA then (if m.rd R.DMA.CH_STATUS.STATE h = 2 then dmaRefresh (m.wr R.DMA.CH_STATUS.STATE 1 h) else m)
  else if cls = C_BLIT then (if sideState m 0 = 2 then sideSet m 0 1 else m)
  else if cls = C_CRC then (if m.rd R.CRC.UNIT_STATUS.STATE h = 2 then m.wr R.CRC.UNIT_STATUS.STATE 1 h else m)
  else if cls = C_DEFL then (if sideState m 1 = 2 then sideSet m 1 1 else m)
  else m

/-- PAUSE_POINT_REACHED (R555): a holder whose renewal was refused, or whose grant was revoked, releases its tokens and waits. -/
def pauseReached (m : Mach) (cls h : Nat) : Mach :=
  if m.ch.grants.any (fun g => g.cls == cls && g.holder == h && g.ending) then chimPaused (holderWaits m cls h) cls h else m

def execPausePointReached (cls holder : Nat) (s : State) : Out' := onM s (fun m => pauseReached m cls holder)

end Sys2Proof.Machine
end

