-- ==== Sys2Proof/Machine/SwapCmds.lean ====
section
/-!
DEFINITION. SPARE_SWAP (spec/18_firmware_trust_and_live_update.md R630), a write of spare_swap at an internal port.
-/
namespace Sys2Proof.Machine

/-- A write of spare_swap by Bedrock or firmware names a kind and an active unit; it is checked as any dictionary write and takes effect
at its tick (R630, R68, R70). -/
def execSpareSwap (p : Principal) (kind unit : Nat) (s : State) : Out' :=
  onD s (fun f m => portRequest f m 2 p 0xB020 1 0 (toLE 2 (kind % 256 * 256 + unit % 256)))

end Sys2Proof.Machine
end

