-- ==== Sys2Proof/Machine/SysCmds.lean ====
section
/-!
DEFINITION. The mode controller's commands (spec/02_operating_modes.md R41-R54, R58).
-/
namespace Sys2Proof.Machine

/-- MODE_REQUEST (R58): a GO write of SYS.MODE_REQ or a write of mode_request; only Bedrock leaves M11 (R43). -/
def execModeRequest (p : Principal) (mode entry : Nat) (s : State) : Out' :=
  onM s (fun m => modeRequest m (p == .bed) mode entry)

/-- The HOST group is released once a mode that runs the PCIe domains is reached and PERST# is high (R747, R485). -/
def hostRelease (old m : Mach) : Mach :=
  if !pcieMode old.mode && pcieMode m.mode then
    let m := { m with host := { m.host with bar4 := m.dv D.bar4_size } }
    if m.host.perst then m.emit (.start 20 0) else m
  else m

/-- Lane training that a transition waits for is over (R54): it fails outright where a used bundle has no serviceable lane at the entry's
generation, else it is in force at the next tick. -/
def trainDone (m : Mach) (t : Imm) : Mach :=
  let e := tentry t.entry
  let waits := (List.range e.b).any (fun k =>
    (quadLanes k).any (fun n => laneTraining m n && (laneRec m n).target == e.gen && (laneRec m n).required))
  if (dramChannels m).any (fun c => chanState m c == 3) || waits then m
  else if !everyBundleServ m t.entry then failImm m t
  else { m with mc := { m.mc with imm := some { t with ready := true } } }

/-- Entry to M0 completes once no record waits or is open (R656); Lantern then runs OFF_DELAY, or wakes at once (R670, R671). -/
def intoM0 (m : Mach) (t : Imm) : Mach :=
  let st := vaultState m
  if (st = 2 ∨ st = 3 ∨ st = 4) ∧ (m.vlt.opened.isSome ∨ m.vlt.pick.isSome) then m
  else
    let wake := m.mc.latchedWk
    let quar := if t.start = 11 ∧ t.cause = CAUSE_TRIP then some (m.rd R.SEC.STATE.INTEG_CAUSE) else m.lant.quar
    let m := endImm m t 0 MODE_DONE
    { m with lant := { m.lant with power := if wake then 0 else 1, quar := quar }
             mc := { m.mc with off := true, rstCause := 1, latchedWk := false } }

/-- M4 is reached after boot: the other code region is loaded (R613), and boot_target M5 goes on under R42. -/
def bootReached (m : Mach) : Effect :=
  let other := 1 - m.rd R.SEC.STATE.FW_SLOT
  let wr := if (secSlot m K_MAIN other).ok then loadCode m other else []
  let m := if m.dv D.boot_target = 5 ∧ m.mode = 4 ∧ m.mc.imm.isNone then startImm m 5 (m.rd R.SYS.MODE_REQ.ENTRY) CAUSE_BOOT false else m
  ⟨m, wr, false⟩

/-- MODE_TRANSITION_COMPLETE (R42): what the transition in progress waits for is over. -/
def transitionDone (f : Fuse) (m : Mach) : Effect :=
  match m.mc.imm with
  | none => ⟨m, [], false⟩
  | some t =>
    if t.train then ⟨trainDone m t, [], false⟩
    else if t.target = 0 then ⟨intoM0 m t, [], false⟩
    else if t.target = 3 then
      ⟨bootStart f { m with mc := { m.mc with rstCause := if t.start = 10 then 3 else 4 } , dr := { m.dr with kept := false } }, [], false⟩
    else
      let m' := hostRelease m (endImm m t t.target MODE_DONE)
      if t.start = 3 ∧ t.target = 4 then bootReached m' else ⟨m', [], false⟩

def execModeTransitionComplete (s : State) : Out' := onW s (fun _ m => transitionDone s.fuse m)

/-- THERMAL_AUTO_RESUME (R48): the maximum has stayed below 125 C for 10 s; the way back starts with M4 to M5. -/
def autoResume (m : Mach) : Mach :=
  match m.mc.left with
  | none => m
  | some (_, e) =>
    let recent := m.mc.trips.filter (fun t => decide (m.rtc < t + 3600))
    if m.mode = 4 ∧ m.rd R.SYS.MODE_STATUS.CAUSE = CAUSE_TRIP ∧ m.mc.imm.isNone ∧ m.dv D.thermal_auto_resume = 1 ∧
        sInt 16 (m.rd R.THRM.STATUS.MAX_TEMP) < 2000 ∧ recent.length < 3 then
      startImm m 5 e CAUSE_RESUME false
    else m

def execThermalAutoResume (s : State) : Out' := onM s autoResume

/-- DATAPATH_FAILURE (R290, R46): Gallery, scan-out or CD32 logic, none of which has a spare. -/
def execDatapathFailure (s : State) : Out' := onM s (fun m => forceDatapath m 0 0)

end Sys2Proof.Machine
end

