-- ==== Sys2Proof/Machine/TickScan.lean ====
section
/-!
DEFINITION. What scan-out does at a tick: frame-start messages, polarity, the raster's start and line 0
(spec/09_scanout_and_panel_driving.md R311, R314, R316, R322-R328; spec/10_vein_and_lanes.md R350, R353, R354).
-/
namespace Sys2Proof.Machine

/-! Kinds of R316. -/
def K_NORMAL : Nat := 0
def K_HOLD : Nat := 1
def K_BLANK : Nat := 2

/-- The lane masks of a frame-start: those of the bundles named, no lane on the others. -/
def fixMasks (m : Mach) (ks : List Nat) (gen : Nat) : Mach :=
  m.each (List.range 12) (fun m k =>
    let r := if ks.contains k then bundleMask m k gen else (0, m)
    { r.2 with scan := { r.2.scan with masks := setAt r.2.scan.masks k r.1 } })

/-- FRAME_START and the drive block's data unit on every lane of a bundle's mask (R350, R354). -/
def startUnits (m : Mach) (kind e tick : Nat) (drive : List Byte) (k : Nat) : List Out :=
  let mask := m.scan.masks.getD k 0
  (maskLanes m k).foldr (fun l acc =>
    Out.lane l 0x10 [kind, e, b2n m.scan.phi, m.rd R.SCAN.POL_CTRL.MODE, mask, tick % 65536, (tentry e).gen, k, crc32c drive] ::
      Out.lane l 0xD0 [fromLE drive] :: acc) []

/-- The frame-start of a tick on the bundles of `ks` that are up (R316): where any is sent, the phase inverts (R323). A raster on no lane
sends nothing. -/
def startFrames (m : Mach) (kind e tick : Nat) (ks : List Nat) : Mach :=
  let t := tentry e
  let m := fixMasks m ks t.gen
  if ks.all (fun k => m.scan.masks.getD k 0 == 0) then m
  else
    let m := { m with scan := { m.scan with phi := !m.scan.phi } }
    let m := (m.wr R.SCAN.STATUS.PHASE (b2n m.scan.phi)).wr R.SCAN.STATUS.FRAME_KIND kind
    let m := m.wr R.SCAN.STATUS.POL_MODE (m.rd R.SCAN.POL_CTRL.MODE)
    let drive := driveSent (driveBytes m) t.lineNs
    m.emits (ks.foldr (fun k acc => startUnits m kind e tick drive k ++ acc) [])

/-- No raster frame is under way: the raster is dark. -/
def scanDark (m : Mach) : Mach :=
  let m := { m with scan := { m.scan with frame := 0 } }
  (m.wr R.SCAN.STATUS.DARK 1).wr R.SYS.TICK_STATUS.IN_BLANK 1

/-- A raster frame begins at a tick with count `tick` (R321): its place, its checks and its blanking. KL-06: where a frame restarts after an
abort at a V1 entry, the first checked line of each bundle shows a false lane code (R787). -/
def scanBegin (m : Mach) (tick gen : Nat) (ks : List Nat) : Mach :=
  let spur := if m.scan.frame = 2 ∧ gen = 1 then ks else []
  let s := m.scan
  let s := { s with frame := 1, frameTick := tick, nextY := 0, nextQ := 0, nextK := 0, mism := 0, mismBand := 0, lineCrcs := [],
                    crcs := List.replicate 12 0xFFFFFFFF, spur := spur }
  let m := { m with scan := s, gal := { m.gal with line := [], late := [] } }
  (((m.wr R.SCAN.STATUS.DARK 1).wr R.SYS.TICK_STATUS.IN_BLANK 1).wr R.SYS.TICK_STATUS.BAND 0).wr R.SYS.TICK_STATUS.LINE 0

/-- The entry scan-out shows, with its bundles and its CD03 cycles per line (R307, R338, R341). -/
def scanShow (m : Mach) (e state : Nat) : Mach :=
  let t := tentry e
  let m := (m.wr R.SCAN.STATUS.ENTRY e).wr R.SCAN.STATUS.BUNDLES t.b
  (m.wr R.SCAN.STATUS.STATE state).wr R.SCAN.CD03_DIV.N t.n

/-- A tick in M6 to M9 (R314, R316): a raster frame, or HOLD while the lanes are trained for another entry. `change`: the entry has come
into force at this tick. Once the training is complete permission is judged (R314). -/
def scanRays (m : Mach) (tick : Nat) (change : Bool) : Mach :=
  let e := m.entry
  let t := tentry e
  let ks := List.range t.b
  let waits := m.rd R.SCAN.STATUS.STATE == 3
  -- an entry change may leave the drive block too long for the line (R326)
  let m := if change && !driveOk (driveBytes m) t.lineNs then (scanCode m SCAN_DRIVE_BAD).ev E.SCAN.DRIVE_BAD else m
  let m := if change && !entryTrained m e then trainEntry m e else m
  if (change || waits) && !entryTrained m e then
    let m := (scanShow (scanDark m) e 3).ev E.SCAN.WAIT_TRAIN
    startFrames m K_HOLD e tick ks
  else
    let m := startFrames (scanShow (scanBegin m tick t.gen ks) e 1) K_NORMAL e tick ks
    if waits then forceRetirement m else m

/-- A tick in M1 or M2 (R327, R328): the bundles that are up carry a frame at every low_power_divide-th tick. -/
def scanLow (m : Mach) (tick : Nat) : Mach :=
  let e := m.scan.lpEntry
  let t := tentry e
  let ks := (List.range t.b).filter (fun k => !(servAt m k t.gen).isEmpty)
  let normal := tick % (Nat.max 1 (m.rd R.SCAN.LP_CTRL.DIVIDE)) == 0
  let m := if normal then scanBegin m tick t.gen ks else scanDark m
  let m := startFrames (scanShow m e 2) (if normal then K_NORMAL else K_HOLD) e tick ks
  -- the lowest lane of a mask listens (R377)
  m.each ks (fun m k => m.each (maskLanes m k) (fun m n =>
    m.lwr n R.VEIN.LANE_CTRL.RX_PWR (if (maskLanes m k).head? = some n then 0 else 1)))

/-- Line 0 of a frame whose next tick lies `i` / 65536 ns ahead (R311). A half cycle is rounded either way. -/
def line0 (m : Mach) (e : Nat) (i : Int) : Mach :=
  let t := tentry e
  let p : Int := i * ((t.n * t.lines * t.num : Nat) : Int)
  let q : Int := ((t.den * 1000000000 * 65536 : Nat) : Int)
  let fl := floorDiv p q
  let rest := 2 * (p - fl * q)
  let (up, m) := if rest < q then (0, m) else if q < rest then (1, m) else m.draw 2
  let d := fl + up - (t.lines * t.n : Nat)
  let c := clampI d (-256) 256
  let m := (m.wr R.SCAN.LINE0.DELTA (uNat 10 c)).wr R.SCAN.LINE0.CLAMPED (b2n (c != d))
  if c = d then m
  else hev ((m.add R.SCAN.LINE0_CLAMPED.COUNT 1).ev (if c < d then E.SCAN.TICK_LATE else E.SCAN.TICK_EARLY)) 99

/-- Coefficients accepted since the last tick are applied in M5 too (R367). -/
def tapsTick (m : Mach) : Mach :=
  m.each (List.range 48) (fun m n =>
    let m := match (laneRec m n).tap with
      | some (a, b) => setTaps m n a b
      | none => m
    laneMod m n (fun l => { l with tap := none, tapTick := false }))

/-- Scan-out at a tick, once the mode is in force: `blank` tells that the tick has sent BLANK. -/
def scanTick (m : Mach) (tick : Nat) (change blank : Bool) : Mach :=
  if drivesRays m.mode then scanRays m tick change
  else if m.mode = 1 ∨ m.mode = 2 then (if blank then scanShow (scanDark m) m.scan.lpEntry 2 else scanLow m tick)
  else { tapsTick m with scan := { m.scan with frame := 0, masks := List.replicate 12 0 } }

end Sys2Proof.Machine
end

