-- ==== Sys2Proof/Machine/TickModes.lean ====
section
/-!
DEFINITION. What a tick does to the mode and the timing entry at action 2 (spec/02_operating_modes.md R41-R54;
spec/16_power_and_thermal.md R569, R570), and to the units in service (R210, R222, R630).
-/
namespace Sys2Proof.Machine

/-- Where M1 or M2 takes effect: the running jobs end, and the PCIe domains stop (R35, R520, R744). -/
def lowPowerEntry (d : Mem) (m : Mach) : Effect :=
  let a := sideCut d m 0 ABORTED_BY_DISABLE
  let b := sideCut (applyWrites d a.wr) a.m 1 ABORTED_BY_DISABLE
  let c := hostGroupReset (applyWrites (applyWrites d a.wr) b.wr) b.m
  ⟨linkDown c.m, a.wr ++ b.wr ++ c.wr, false⟩

/-- The entry in force where one is asked for: of the requested and the stepped entry the one with fewer tokens (R570). -/
def entryUnderStep (m : Mach) (e : Nat) : Nat :=
  match m.th.stepped with
  | some s => if (tentry s).tokens < (tentry e).tokens then s else e
  | none => e

/-- Outside M6 to M9 nothing is stepped down (assumption log 61). -/
def stepForget (m : Mach) : Mach :=
  if drivesRays m.mode then m
  else { m.wr R.THRM.STATUS.STEPS 0 with th := { m.th with stepped := none, stepDue := none } }

/-- The outcome of a tick's part: the effect, whether a mode or entry was taken from a request, and whether BLANK was sent. -/
structure Taken where
  e     : Effect
  took  : Bool
  blank : Bool
  deriving DecidableEq, Repr

/-- Whether a transition into M6 to M9 may take its entry (R44, R53); a forced one keeps the entry in force. -/
def dueAllowed (m : Mach) (t : Due) (tgt : Nat) : Bool :=
  !drivesRays tgt || t.cause == CAUSE_RETIREMENT || (configured m t.entry && entryOk m tgt t.entry)

/-- The raster entry of M1 and M2: that in force when the first of them is entered (R327). -/
def lowEntry (m : Mach) (t : Due) : Nat := if drivesPanel m.mode then rasterEntry m else t.entry

/-- A tick-aligned transition takes effect (R41-R47, R53). A change of entry within one mode is no transition (R44). -/
def takeDue (d : Mem) (m : Mach) (t : Due) : Taken :=
  let m := { m with mc := { m.mc with due := none } }
  let old := m.mode
  let tgt := m6or9 m t.target t.entry
  let done (m : Mach) (c : Nat) : Mach := if t.isReq then answerMode m c else m
  if !dueAllowed m t tgt then ⟨⟨(done m MODE_FAILED).wr R.SYS.MODE_STATUS.PENDING 0xF, [], false⟩, false, false⟩
  else if tgt = old then
    let m := (m.wr R.SYS.MODE_STATUS.ENTRY (entryUnderStep m t.entry)).wr R.SYS.MODE_STATUS.PENDING 0xF
    ⟨⟨done m MODE_DONE, [], false⟩, true, false⟩
  else
    let low : Bool := tgt == 1 || tgt == 2
    let e := if low then lowEntry m t else entryUnderStep m t.entry
    let blank : Bool := low || tgt == 4 || tgt == 5
    let m := if blank then startFrames m K_BLANK (if drivesPanel old then rasterEntry m else t.entry) (m.tickCount + 1)
        (List.range (tentry (if drivesPanel old then rasterEntry m else t.entry)).b) else m
    let x : Effect := if low then lowPowerEntry d m else ⟨m, [], false⟩
    let m := { x.m with scan := { x.m.scan with lpEntry := if low then e else x.m.scan.lpEntry, waking := [] } }
    let forced := t.cause == CAUSE_RETIREMENT
    let m := enterMode m tgt e t.cause forced
    let m := if forced then judgeM9 m else m
    let m := if t.cause = CAUSE_RESUME then { m with mc := { m.mc with left := none } } else m
    ⟨⟨stepForget (done m MODE_DONE), x.wr, false⟩, true, blank⟩

/-- The pending tick-aligned transition at a tick: one tick nearer, or taken. -/
def dueTick (d : Mem) (m : Mach) : Taken :=
  match m.mc.due with
  | none => ⟨⟨m, [], false⟩, false, false⟩
  | some t =>
    if t.wait = 0 then takeDue d m t
    else ⟨⟨{ m with mc := { m.mc with due := some { t with wait := t.wait - 1 } } }, [], false⟩, false, false⟩

/-- After a trip the way back goes on from M5 to the mode it left, at the next tick (R48). -/
def resumeOn (m : Mach) (cause : Nat) : Mach :=
  if cause ≠ CAUSE_RESUME ∨ m.mode ≠ 5 then m
  else match m.mc.left with
    | some (md, e) =>
      if md = 5 then { m with mc := { m.mc with left := none } }
      else
        let m := { m with th := { m.th with reqEntry := if drivesRays md then e else m.th.reqEntry } }
        schedule m ⟨md, e, CAUSE_RESUME, false, 0⟩
    | none => m

/-- An immediate transition whose training is over is in force at this tick (R42, R54). -/
def immTick (m : Mach) : Mach :=
  match m.mc.imm with
  | none => m
  | some t =>
    if !t.train || !t.ready then m
    else if !everyBundleServ m t.entry then failImm m t
    else if !anyPermitted m then forceImm m 4 CAUSE_RETIREMENT
    else
      let tgt := m6or9 m t.target t.entry
      let bad := configured m t.entry && !entryOk m tgt t.entry
      let m' := endImm m t (if bad then 5 else tgt) (if bad then MODE_BAD_ENTRY else MODE_DONE)
      resumeOn (hostRelease m m') t.cause

/-- A thermal step due at this tick (R569, R570). -/
def stepTick (m : Mach) (took : Bool) : Mach :=
  match m.th.stepDue with
  | none => m
  | some e =>
    if drivesRays m.mode && !took then (takeStep m e).wr R.SYS.MODE_STATUS.ENTRY e
    else { m with th := { m.th with stepDue := none } }

/-! ## Units in service -/

/-- The mask registers of the units in service of a kind. -/
def putUnits (m : Mach) (kind : Nat) (l : List Nat) : Mach :=
  match kind with
  | 1 => (m.wr R.HEL.ENGINE_ACTIVE_LO.ENGINES (maskOf 32 (fun u => l.contains u))).wr R.HEL.ENGINE_ACTIVE_HI.ENGINES
      (maskOf 2 (fun u => l.contains (32 + u)))
  | 2 =>
    let m := m.wr R.GROT.BANK_ACTIVE.BANKS (maskOf 32 (fun u => l.contains u)) 0
    let m := m.wr R.GROT.BANK_ACTIVE.BANKS (maskOf 32 (fun u => l.contains (32 + u))) 1
    m.wr R.GROT.BANK_ACTIVE2.BANKS (maskOf 4 (fun u => l.contains (64 + u)))
  | 3 => m.wr R.FLOW.LANE_ACTIVE.LANES (maskOf 26 (fun u => l.contains u))
  | _ => m

/-- A spare takes an active unit's place (R630); the unit's self-test begins. -/
def swapUnits (m : Mach) (kind unit : Nat) : Mach :=
  if !swapOk m kind unit then m
  else
    match spareFor m kind with
    | none => m
    | some s =>
      let m := putUnits m kind ((unitsInService m kind).filter (fun u => u != unit) ++ [s])
      let m := if kind = 2 then dropRows m (fun r => r.slot / 6144 == unit) else m
      let m := if kind = 3 then setDemands m (m.flow.demands.map (fun q => if q.lane == some unit then { q with lane := none } else q)) else m
      m.emit (.start 41 (kind * 256 + unit))

/-- The exchange due at this tick. -/
def swapTick (m : Mach) : Mach :=
  let sw := m.sec.swap
  let m := { m with sec := { m.sec with swap := m.sec.swap2, swap2 := none } }
  match sw with
  | some (k, u) => swapUnits m k u
  | none => m

/-- The units in service from this tick on. -/
def unitsTick (m : Mach) : Mach := banksAtTick (lanesAtTick (enginesAtTick (retiredMasks m)))

end Sys2Proof.Machine
end

