-- ==== Sys2Proof/Machine/Tick.lean ====
section
/-!
DEFINITION. The tick and its five actions (spec/01_architecture.md R16), and what follows them in the same tick event: switches, triggers,
the time in force, the next tick, reports and telemetry.
-/
namespace Sys2Proof.Machine

/-- Action 1 (R16, R237, R283, R285, R721): the frame that ends is closed and its counts are taken. A frame whose last line has not ended is
aborted (R311). -/
def actOne (m : Mach) : Mach :=
  let m := if m.scan.frame = 1 then frameAbort m ABORT_TICK_EARLY else m
  let whole := m.scan.frame == 3 && drivesRays m.mode
  let m := m.wr R.SYS.TICK_STATUS.LAST_ABORTED (b2n (m.scan.frame == 2))
  doseTick (galSnapshots (countSnapshots (topDown m) m.tickCount) whole)

/-- Held values that do not come into force at this tick: the optics set, which has its own check (R201), and in M1 and M2 places whose
bundles are still being woken (R328). -/
def stays (m : Mach) (k : Nat) : Bool :=
  opticsKey k ||
  ((m.mode == 1 || m.mode == 2) && lantPlace k && m.scan.waking.any (fun b => (servAt m b (tentry m.scan.lpEntry).gen).isEmpty))

/-- The held values of action 2, all but the optics set (R7, R70, R326, R687). -/
def heldTick (m : Mach) : Mach :=
  let drive := drivePending m
  let glow := [R.LANT.GLOW_BASE_LO.BASE, R.LANT.GLOW_BASE_HI.BASE].any (fun r => (SMap.look m.held1 (r.key 0 0)).isSome)
  let held := stays m
  let woken := !(m.held1.any (fun e => held e.1 && lantPlace e.1))
  let m := dictTick (regTick m held)
  let m := if woken then { m with scan := { m.scan with waking := [] } } else m
  let m := if drive then (scanCode m SCAN_DRIVE_APPLIED).ev E.SCAN.DRIVE_APPLIED else m
  glowTick m glow

/-- Action 2 (R16). Values held for the following tick move up last; the answer tells also whether the entry changed and whether BLANK was
sent. -/
def actTwo (d : Mem) (m : Mach) : Taken :=
  let later := m.held2
  let was := (m.mode, m.scan.lastEntry, m.rd R.GROT.STATUS.BANKS_ACTIVE)
  let x := dueTick d (heldTick { m with held2 := [] })
  let m := swapTick (stepTick (immTick x.e.m) x.took)
  let m := unitsTick m
  let e := entryNow m
  let change := e != was.2.1
  let m := { m with scan := { m.scan with lastEntry := e } }
  let m := galTick m (m.rd R.GROT.STATUS.BANKS_ACTIVE != was.2.2) (m.tickCount + 1)
  let m := calTick (gainStep (gridTick (plTick m)) (!calEnabled m))
  let m := optTick (applyWrites d x.e.wr) m change (!m.mc.firstTick)
  let m := { m with held1 := later.foldl (fun a h => SMap.ins a h.1 h.2) m.held1 }
  ⟨⟨renewMask m, x.e.wr, false⟩, change || (drivesRays m.mode && !drivesRays was.1), x.blank⟩

/-! ## Action 3 (R16, R34, R106, R438) -/

/-- A delayed stream's frames count the ticks issued (R438). -/
def legacyTick (m : Mach) (at_ : Int) : Mach :=
  setFrames m (m.flow.frames.map (fun f => match f.legacy with
    | none => f
    | some (l, delay) => match f.due with
      | some k => { f with due := some (k - 1) }
      | none => if l ≤ 2 * at_ then { f with due := some delay } else f))

/-- The frame that becomes current, and what goes with it (R16, R107, R150): the older due ones leave unseen, the one before stays only
as far as tile data is traced to it. -/
def launch (m : Mach) (f : Frame) (due : List Nat) : Mach :=
  let l := m.flow.frames.filter (fun g => g.seq == f.seq || !due.contains g.seq)
  let m := setFrames m (l.map (fun g =>
    if g.seq = f.seq then { g with st := F_CURRENT } else if g.st = F_CURRENT then { g with st := F_BASE } else g))
  let m := { queueSweep m with hel := { m.hel with black := false } }
  hev (m.ev E.SYS.SCENE_LAUNCHED) 482

/-- Action 3: whether a frame was launched and whether one was held, with the state. -/
def actThree (m : Mach) (at_ : Int) : Bool × Bool × Mach :=
  if !launchMode m.mode then (false, false, legacyTick m at_)
  else
    let due := m.flow.frames.filter (fun f => f.st == F_ADMITTED && dueAt f at_)
    let held := m.flow.missed.any (fun t => decide (t ≤ at_))
    let m := { m with flow := { m.flow with missed := m.flow.missed.filter (fun t => decide (at_ < t)) } }
    let m := if held then hev (m.ev E.SYS.SCENE_HELD) 483 else m
    let m := match due.getLast? with
      | some f => launch m f (due.map (·.seq))
      | none => m
    (due.getLast?.isSome, held, freeUnreferred (legacyTick m at_))

/-- What the rendering of the new frame starts from (R192, R211, R219). -/
def renderTick (m : Mach) : Mach := lookaheadTick (engsStart (setupSlabs (setBundles m [])))

/-! ## Action 4 (R16, R151, R152, R467, R551, R557) -/

/-- The SCENE quota is raised to its least value, and the AUX quota lowered by as much (R152). -/
def sceneQuotaTick (m : Mach) : Mach :=
  let lo := sceneQuotaMin m
  let q := m.rd R.FLOW.CTX_QUOTA_SCENE.QUOTA
  if lo ≤ q then m
  else (m.wr R.FLOW.CTX_QUOTA_SCENE.QUOTA lo).wr R.FLOW.CTX_QUOTA_AUX.QUOTA (m.rd R.FLOW.CTX_QUOTA_AUX.QUOTA - (lo - q))

/-- The ceiling that is due (R551). -/
def ceilTick (m : Mach) : Mach :=
  let m := match m.dic.ceil1 with
    | some c => m.wr R.CHIM.LIMITS.CEILING c
    | none => m
  { m with dic := { m.dic with ceil1 := m.dic.ceil2, ceil2 := none } }

/-- Quads with lanes that wait ask at each tick (R370). -/
def quadsAsk (m : Mach) : Mach :=
  m.each (List.range 16) (fun m q => match (quadLanes q).find? (fun n => (laneRec m n).wait) with
    | some n => askQuad m n
    | none => m)

/-- Action 4. -/
def actFour (m : Mach) : Mach :=
  let m := { m with mc := { m.mc with grantHold := false } }
  let m := bgAsk (dripTick (quadsAsk m))
  let m := chimSettle (ceilTick (quotaTick m))
  ctxReport (quotaCut (quotaCut (sceneQuotaTick m) 0) 1)

/-- Action 5: the count and the event; the commit window opens. -/
def actFive (m : Mach) : Mach :=
  let n := m.tickCount + 1
  let m := (m.wr R.SYS.TICK_COUNT_LO.COUNT_LO (n % 2 ^ 32)).wr R.SYS.TICK_COUNT_HI.COUNT_HI (n / 2 ^ 32 % 2 ^ 32)
  let m := { m with mc := { m.mc with deadline := false, firstTick := true } }
  hev ((m.wr R.SYS.TICK_STATUS.COMMIT_OPEN 1).ev E.SYS.TICK) 480

/-! ## After the actions -/

/-- The step due at this tick (R428), and whether there was one. -/
def timeStep (m : Mach) : Bool × Mach :=
  match m.tim.pend with
  | some (s, o) => (true, trigLate (applyStep m s o))
  | none => (false, m)

/-- The next tick, and line 0 of a raster frame that has begun (R311, R430, R431). -/
def nextTickSet (m : Mach) (stepped change : Bool) : Mach :=
  let m := scheduleNext (newFreq m) stepped change
  if m.scan.frame = 1 then line0 m (rasterEntry m) (nextTick m * 65536 - m.tim.now) else m

/-- A subscription's report is sent (R93, R94). -/
def subSend (m : Mach) (s : Sub) (pay : List Byte) : Mach :=
  match s.to_ with
  | .udp v6 a pt => m.emit (.udp v6 a pt (notifyBytes s (nodeNow m) pay))
  | .relay ing slot => if fabricMode m.mode then fabSend m 2 0x08 false ing (toLE 2 slot ++ pay) else m
  | .remote _ _ _ _ => m

/-- One subscription at a tick (R92, R93): every `period` ticks, or with period 0 after a change. While firmware is absent the reports of its
entries are only counted. -/
def subOne (f : Fuse) (m : Mach) (n : Nat) (s : Sub) (at_ : Int) : Mach :=
  let x := findEntry m s.ix s.sb
  let fw : Bool := match x.entry? s.ix s.sb with
    | some e => e.fw && !fwServes m
    | none => true
  let due : Bool := s.period != 0 && decide (s.period ≤ s.ticks + 1)
  let ticks := if due then 0 else s.ticks + 1
  if fw then setSub m n (some { s with ticks := ticks, count := if due then s.count + 1 else s.count })
  else
    let v := foundValue f m x
    let m := v.2
    if due || (s.period == 0 && v.1 != s.last) then
      let m := setSub m n (some { s with ticks := ticks, last := v.1, count := s.count + 1 })
      subSend m s (toLE 8 m.tickCount ++ toLE 8 (uNat 64 at_) ++ v.1)
    else setSub m n (some { s with ticks := ticks, last := v.1 })

/-- Subscribed entries are sampled (R93); an entry of another node reports there. -/
def subTick (f : Fuse) (m : Mach) (at_ : Int) : Mach :=
  if m.mode = 3 then m
  else m.each (List.range 64) (fun m n => match m.dic.subs.getD n none with
    | some s => (match s.to_ with
      | .remote _ _ _ _ => m
      | _ => subOne f m n s at_)
    | none => m)

/-- A telemetry record (R723). -/
def telemRecord (m : Mach) (at_ : Int) (launched held : Bool) : List Byte :=
  let ovf := (List.range 64).any (fun n => m.flag R.HLTH.CNT_CTRL.OVF n)
  let flags := m.rd R.SYS.TICK_STATUS.LAST_ABORTED + 2 * b2n launched + 4 * b2n held + 8 * b2n ovf
  let td (i : Nat) : List Byte := toLE 4 (m.rd R.HEL.TD_LO.SLOTS_LO i) ++ toLE 4 (m.rd R.HEL.TD_HI.SLOTS_HI i)
  let perf (n : Nat) : List Byte := toLE 4 (m.rd R.PERF.CNT_SNAP_LO.SNAP n) ++ toLE 4 (m.rd R.PERF.CNT_SNAP_HI.SNAP n)
  let b := toLE 4 0x4D4C5455 ++ toLE 4 m.hl.recNo ++ toLE 8 m.tickCount ++ toLE 8 (uNat 64 at_) ++
    [BitVec.ofNat 8 m.mode, BitVec.ofNat 8 m.entry, BitVec.ofNat 8 flags, 0] ++ toLE 2 (m.rd R.THRM.STATUS.MAX_TEMP) ++
    toLE 2 (m.rd R.CHIM.STATUS.FREE) ++ toLE 4 (m.rd R.FLOW.CURRENT_SEQ.SEQ) ++ List.replicate 28 0 ++
    joinL ((List.range 64).map (fun n => toLE 4 (m.rd R.HLTH.CNT_SNAP.COUNT n))) ++ joinL ((List.range 32).map perf) ++
    joinL ((List.range 6).map td) ++ List.replicate 396 0
  b ++ toLE 4 (crc32c b)

/-- The telemetry record of a tick (R723): a write that is refused or out of range skips it (assumption log 62). -/
def telemTick (m : Mach) (at_ : Int) (launched held : Bool) : Effect :=
  if !m.flag R.HLTH.TELEM_CTRL.ENABLE || m.tickCount % (Nat.max 1 (m.rd R.HLTH.TELEM_CTRL.DIVIDE)) != 0 then ⟨m, [], false⟩
  else
    let slot := m.rd R.HLTH.TELEM_HEAD.SLOT
    let base := m.rd R.HLTH.TELEM_BASE_HI.BASE * 2 ^ 32 + m.rd R.HLTH.TELEM_BASE_LO.BASE * 4096
    let w := devWrite m .fw 0x44 (base + slot * 1024) (telemRecord m at_ launched held)
    let m := w.2.2
    if !w.1 then ⟨(m.wr R.HLTH.STATUS.LAST_CODE TELEM_SKIPPED).ev E.HLTH.TELEM_SKIPPED, w.2.1, false⟩
    else
      let m := { m with hl := { m.hl with recNo := (m.hl.recNo + 1) % 2 ^ 32 } }
      ⟨m.wr R.HLTH.TELEM_HEAD.SLOT ((slot + 1) % 2 ^ m.rd R.HLTH.TELEM_CTRL.COUNT_LOG2), w.2.1, false⟩

/-! ## TICK -/

/-- What comes before the tick's actions: its deadline, its instant, and the frames judged between the two (R20, R106); a frame that came too late
to be judged before the deadline is incomplete. -/
def tickBefore (m : Mach) (at_ : Int) : Mach :=
  let m := commitDeadline m
  let m := if m.tim.now < at_ * 65536 then runTo m (at_ * 65536) else m
  if !launchMode (modeDue m).1 then m
  else if judgedEarly m then
    m.each ((unjudged m).filter (fun f => f.launch != 0 || f.legacy.isSome)) (fun m f => refuseFrame m f FRAME_INCOMPLETE)
  else judgeDue m

/-- From action 3's end to the triggers: rendering starts, the raster, actions 4 and 5, the switches of Bedrock, the triggers, and DMA. -/
def tickMid (m : Mach) (took blank : Bool) (at_ : Int) : Mach :=
  let m := if launchMode m.mode then renderTick m else m
  let m := actFive (actFour (scanTick m (m.tickCount + 1) took blank))
  dmaTick (trigTick (secTick m) at_)

/-- The end of a tick: the step of time, the next tick, the reports and the telemetry record. -/
def tickAfter (f : Fuse) (m : Mach) (took launched held : Bool) (at_ : Int) : Effect :=
  let x := timeStep m
  telemTick (subTick f (nextTickSet x.2 x.1 took) at_) at_ launched held

/-- TICK: the tick of the schedule's next instant. -/
def tick (f : Fuse) (d : Mem) (m : Mach) : Effect :=
  let at_ := nextTick m
  let x := actTwo d (actOne (tickBefore m at_))
  let l := actThree x.e.m at_
  let y := tickAfter f (tickMid l.2.2 x.took x.blank at_) x.took l.1 l.2.1 at_
  ⟨y.m, x.e.wr ++ y.wr, false⟩

def execTick (s : State) : Out' := onW s (fun d m => tick s.fuse d m)

end Sys2Proof.Machine
end

