-- ==== Sys2Proof/Machine/VcpCmds.lean ====
section
/-!
DEFINITION. The Virinaec calibration package: its layout, export, store and restore (spec/17_calibration.md R591-R597).
-/
namespace Sys2Proof.Machine

/-! ## The file (R592, R593) -/

/-- A section: entry, scope (0 DIE, 1 PANEL, 2 MAP), raw value, and the address of a map. -/
structure VSec where
  ix    : Nat
  sb    : Nat
  scope : Nat
  raw   : List Byte
  addr  : Nat
  deriving DecidableEq, Repr

/-- A package as read: its two identifiers and its sections in file order. -/
structure Vcp where
  die   : List Byte
  panel : List Byte
  secs  : List VSec
  deriving DecidableEq, Repr

/-- Bytes of padding that bring a length to a multiple of 8. -/
def vcpPad (n : Nat) : Nat := ceilDiv n 8 * 8 - n

/-- The bytes of a section; `enc` is its encoding and `stored` its stored value. -/
def VSec.bytes (s : VSec) (enc : Nat) (stored : List Byte) : List Byte :=
  toLE 2 s.ix ++ toLE 1 s.sb ++ toLE 1 s.scope ++ toLE 1 enc ++ toLE 3 0 ++ toLE 4 stored.length ++ toLE 4 s.raw.length ++
    toLE 4 (crc32 s.raw) ++ toLE 8 s.addr ++ toLE 4 0 ++ stored ++ toLE (vcpPad stored.length) 0

/-- A whole file. -/
def vcpFile (die panel : List Byte) (time : Nat) (secs : List (List Byte)) : List Byte :=
  let body := joinL secs
  let head := [0x55, 0x56, 0x43, 0x50] ++ toLE 4 1 ++ toLE 4 secs.length ++ toLE 4 (72 + body.length) ++ die ++ panel ++ toLE 8 time ++ toLE 4 0
  let b := head ++ toLE 4 (crc32c head) ++ body
  b ++ toLE 4 (crc32c b) ++ [0x56, 0x43, 0x50, 0x45]

/-- A section's raw value from its stored one; `none` where it does not decode to its raw length. -/
def vcpRaw (enc : Nat) (stored : List Byte) (n : Nat) : Option (List Byte) :=
  if enc = 0 then (if stored.length = n then some stored else none)
  else if enc = 1 then
    let r := inflate stored n
    if r.code = 0 ∧ r.bytes.length = n then some r.bytes else none
  else none

/-- `n` sections from a position, and the position after them. -/
def vcpSecs (b : List Byte) : Nat → Nat → Option (List VSec × Nat)
  | 0, p => some ([], p)
  | n + 1, p =>
    let len := fieldLE b (p + 8) 4
    let p' := p + 32 + len + vcpPad len
    if b.length < p' then none
    else match vcpRaw (fieldLE b (p + 4) 1) (slice b (p + 32) len) (fieldLE b (p + 12) 4) with
      | none => none
      | some raw =>
        if crc32 raw ≠ fieldLE b (p + 16) 4 ∨ 2 < fieldLE b (p + 3) 1 then none
        else match vcpSecs b n p' with
          | none => none
          | some (l, q) => some (⟨fieldLE b p 2, fieldLE b (p + 2) 1, fieldLE b (p + 3) 1, raw, fieldLE b (p + 20) 8⟩ :: l, q)

/-- Verification (step 1 of R594): header, trailer, every section CRC. -/
def vcpParse (b : List Byte) : Option Vcp :=
  let total := fieldLE b 12 4
  let b := b.take total
  if total < 72 ∨ b.length ≠ total ∨ slice b 0 4 ≠ [0x55, 0x56, 0x43, 0x50] ∨ fieldLE b 4 1 ≠ 1 ∨
      fieldLE b 60 4 ≠ crc32c (b.take 60) ∨ slice b (total - 4) 4 ≠ [0x56, 0x43, 0x50, 0x45] ∨
      fieldLE b (total - 8) 4 ≠ crc32c (b.take (total - 8)) then none
  else match vcpSecs (b.take (total - 8)) (fieldLE b 8 4) 64 with
    | some (l, p) => if p = total - 8 then some ⟨slice b 16 16, slice b 32 16, l⟩ else none
    | none => none

/-! ## Results (R591) -/

/-- The scope an entry's section has; `none` for an entry that is no result. -/
def vcpScope (e : DEntry) : Option Nat :=
  let k := e.ix * 256 + e.sb
  if [0x600101, 0x904001, 0x904003, 0x904004].contains k then some 0
  else if (0x4000 ≤ e.ix ∧ e.ix ≤ 0x4002) ∨ [0x400301, 0x400302, 0x400303, 0x400304, 0x503001, 0x503002, 0x503003, 0x503101, 0x903002, 0x901005].contains k
    then some 1
  else none

/-- The results, by index and subindex. -/
def vcpResults : List (Nat × DEntry) :=
  (dictTable.foldl (fun l e => insDescr e l) []).filterMap (fun e => (vcpScope e).map (fun s => (s, e)))

/-- The length of the map in DRAM at a base, with its header (R197). -/
def mapLength (d : Mem) (base : Nat) : Nat := mapField d base 24 4 + 32

/-- The base of map `i` in force. -/
def mapForce (m : Mach) (i : Nat) : Nat := m.rd (mapRows i).1 * 4096 + m.rd (mapRows i).2 * 2 ^ 32

/-- Every base of map `i` in force or pending (R203). -/
def mapBases (m : Mach) (i : Nat) : List Nat :=
  let at_ (h : SMap Nat) : Nat :=
    (SMap.look h ((mapRows i).1.key 0 0)).getD (m.rd (mapRows i).1) * 4096 + (SMap.look h ((mapRows i).2.key 0 0)).getD (m.rd (mapRows i).2) * 2 ^ 32
  [mapForce m i, at_ m.held1, mapBase m i].filter (· != 0)

/-! ## Outcomes (R595, R599) -/

/-- An operation ends. -/
def vcpEnd (m : Mach) (code : Nat) : Mach :=
  let m := { m with cal := { m.cal with vcp := none } }
  (calCode ((m.wr R.CAL.VCP_STATUS.CODE code).wr R.CAL.VCP_STATUS.BUSY 0) code).ev E.CAL.VCP_DONE

/-- An operation begins, where firmware serves and no other one runs. -/
def vcpBegin (m : Mach) (go : Mach → Effect) : Effect :=
  if !fwServes m then ⟨m, [], false⟩
  else if m.cal.vcp.isSome then ⟨calCode m CAL_BUSY, [], false⟩
  else go ((m.wr R.CAL.VCP_STATUS.BUSY 1).wr R.CAL.VCP_STATUS.SKIPPED 0)

/-! ## Export -/

/-- The stored form of a map: compressed where asked for and the stream given decodes to it. -/
def vcpStored (z : Bool) (raw stream : List Byte) : Nat × List Byte :=
  if z ∧ vcpRaw 1 stream raw.length = some raw then (1, stream) else (0, raw)

/-- The sections of an export (R597: the values in force); a map in force comes before the entry of its base. `streams`: the compressed
forms of the three maps. -/
def vcpSections (f : Fuse) (d : Mem) (m : Mach) (z : Bool) (streams : List (List Byte)) : List (List Byte) × Mach :=
  vcpResults.foldl (fun acc x =>
    let (l, m) := acc
    let e := x.2
    let (b, m') := readEntry f m.inForce.galInForce e
    let m := { m with freeN := m'.freeN }
    let sec := (⟨e.ix, e.sb, x.1, b, 0⟩ : VSec).bytes 0 b
    let i := e.sb - 1
    if e.ix = 0x4003 ∧ e.sb ≤ 3 ∧ mapForce m i ≠ 0 then
      let raw := d.read (mapForce m i) (mapLength d (mapForce m i))
      let (enc, st) := vcpStored z raw (streams.getD i [])
      (l ++ [(⟨e.ix, e.sb, 2, raw, mapForce m i⟩ : VSec).bytes enc st, sec], m)
    else (l ++ [sec], m)) ([], m)

/-- The package of an export is written, unless it is longer than the capacity (R595). -/
def vcpWritten (m : Mach) (secs : List (List Byte)) (addr cap : Nat) : Effect :=
  let b := vcpFile (m.dbytes D.die_id) (m.dbytes D.panel_id) (uNat 64 (floorDiv m.tim.now 65536)) secs
  if cap < b.length then ⟨vcpEnd m VCP_TOO_LARGE, [], false⟩
  else
    let w := devWrite m .fw 1 addr b
    ⟨vcpEnd w.2.2 (if w.1 then CAL_DONE else VCP_BAD), w.2.1, false⟩

/-- VCP_EXPORT (R595). -/
def vcpExport (f : Fuse) (d : Mem) (m : Mach) (addr cap flags : Nat) (streams : List (List Byte)) : Effect :=
  vcpBegin m (fun m =>
    let x := vcpSections f d m (bit flags 0) streams
    vcpWritten x.2 x.1 addr cap)

def execVcpExport (addr cap flags : Nat) (streams : List (List Byte)) (s : State) : Out' :=
  onW s (fun d m => vcpExport s.fuse d m addr cap flags streams)

/-! ## Store (R595, R655) -/

/-- VCP_STORE: verified, then written and committed by the Vault, which ends the operation. -/
def vcpStore (d : Mem) (m : Mach) (addr len : Nat) : Effect :=
  vcpBegin m (fun m =>
    let (r, b, m) := devRead d m .fw 1 addr len
    let data := b.take (fieldLE b 12 4)
    if r ≠ .fine ∨ (vcpParse b).isNone then ⟨vcpEnd m VCP_BAD, [], false⟩
    else if vcpMib m * 2 ^ 20 < data.length then ⟨vcpEnd m VCP_TOO_LARGE, [], false⟩
    else ⟨vcpWrite { m with cal := { m.cal with vcp := some (2, data) } } data (crc32c data), [], false⟩)

def execVcpStore (addr len : Nat) (s : State) : Out' := onW s (fun d m => vcpStore d m addr len)

/-! ## Restore (R594) -/

/-- The state of a restore: DRAM as written so far, the writes, sections skipped for their scope, sections refused, and the last code of
a refusal. -/
structure VcpRun where
  d    : Mem
  wr   : List (Nat × List Byte)
  skip : Nat
  part : Nat
  m    : Mach

/-- A write by firmware under R68. -/
def fwWrite (f : Fuse) (m : Mach) (ix sb : Nat) (b : List Byte) : Bool × Mach :=
  match findEntry m ix sb with
  | .entry e =>
    if !mayWrite e .fw || writeShut m .fw e || (e.fw && !fwServes m) then (false, m)
    else
      let r := writeEntry f m .fw e b
      (r.1 ≤ 2, r.2)
  | _ => (false, m)

/-- Whether two address ranges meet. -/
def rangesMeet (a n b k : Nat) : Bool := decide (a < b + k) && decide (b < a + n)

/-- Whether a MAP section may not be written to its place (R594). -/
def vcpMapShut (d : Mem) (m : Mach) (s : VSec) : Bool :=
  decide (m.rd R.DRAM.RETIRE_SAFE.MIB * 2 ^ 20 < s.addr + s.raw.length) ||
  (List.range 3).any (fun i => (mapBases m i).any (fun b => rangesMeet s.addr s.raw.length b (mapLength d b)))

/-- A section is skipped or refused. -/
def VcpRun.out (x : VcpRun) (part : Nat) : VcpRun := { x with skip := x.skip + 1, part := part }

/-- One section is applied. -/
def vcpApply (f : Fuse) (p : Vcp) (x : VcpRun) (s : VSec) : VcpRun :=
  let mine := if s.scope = 0 then p.die == x.m.dbytes D.die_id else p.panel == x.m.dbytes D.panel_id || fromLE p.panel == 0
  if !mine then x.out (if x.part = 0 then VCP_PARTIAL else x.part)
  else if s.scope = 2 then
    if vcpMapShut x.d x.m s then x.out CAL_MAP_IN_USE
    else
      let (ok, wr, m) := devWrite x.m .fw 1 s.addr s.raw
      if !ok then { x with m := m }.out VCP_PARTIAL
      else
        let x := { x with m := m, d := applyWrites x.d wr, wr := x.wr ++ wr }
        let (ok, m) := fwWrite f x.m s.ix s.sb (toLE 8 s.addr)
        let x := { x with m := m }
        if ok then x else x.out VCP_PARTIAL
  else
    let (ok, m) := fwWrite f x.m s.ix s.sb s.raw
    let x := { x with m := m }
    if ok then x else x.out VCP_PARTIAL

/-- A package is applied in file order; sections skipped or refused are counted, and the last reason is the operation's code. -/
def vcpRestoreData (f : Fuse) (d : Mem) (m : Mach) (b : List Byte) : Effect :=
  match vcpParse b with
  | none => ⟨vcpEnd m VCP_BAD, [], false⟩
  | some p =>
    let x := p.secs.foldl (vcpApply f p) ⟨d, [], 0, 0, m⟩
    let m := x.m.addSat R.CAL.VCP_STATUS.SKIPPED x.skip
    ⟨vcpEnd m (if x.part = 0 then CAL_DONE else x.part), x.wr, false⟩

/-- VCP_RESTORE (R594): from DRAM, or from the stored package where `source` is 1. -/
def vcpRestore (f : Fuse) (d : Mem) (m : Mach) (addr len source : Nat) : Effect :=
  vcpBegin m (fun m =>
    if source = 1 then vcpRestoreData f d m (m.vlt.storedVcp.getD [])
    else
      let (r, b, m) := devRead d m .fw 1 addr len
      if r = .fine then vcpRestoreData f d m b else ⟨vcpEnd m VCP_BAD, [], false⟩)

def execVcpRestore (addr len source : Nat) (s : State) : Out' := onW s (fun d m => vcpRestore s.fuse d m addr len source)

/-- END_OF_BOOT (R612, R42), after the automatic restore of the stored package (R596). -/
def bootEnds (f : Fuse) (d : Mem) (m : Mach) : Effect :=
  let due := m.mode == 3 && m.mc.imm.isNone && fwServes m && m.dv D.vcp_autorestore == 1 && m.vlt.storedVcp.isSome
  let x := if due then vcpRestore f d m 0 0 1 else ⟨m, [], false⟩
  ⟨endOfBoot x.m, x.wr, false⟩

def execEndOfBoot (s : State) : Out' := onW s (fun d m => bootEnds s.fuse d m)

end Sys2Proof.Machine
end

