-- ==== Sys2Proof/Machine/VaultCommit.lean ====
section
/-!
DEFINITION. What a committed record does for its requester, and a failed flash operation (spec/19_vault_persistent_state.md
R644-R656).
-/
namespace Sys2Proof.Machine

/-- The payload as written: a DICT_VALUE that the Vault itself made carries the seq of its part 0 (R645). -/
def commitPayload (m : Mach) (r : VReq) (seq : Nat) : List Byte :=
  let b := match r.pay with
    | .bytes b => b
    | .dram _ _ => []
  if r.typ = 1 ∧ (r.by_ = .store ∨ r.by_ = .fclass) then
    let tag := if fieldLE b 0 2 = 0 then seq else match m.vlt.latest 1 (r.key % 2 ^ 24) with
      | some r0 => fieldLE r0.pay 4 4
      | none => seq
    splice b 4 (toLE 4 tag)
  else b

/-- The requester is told (R644, R661). -/
def commitAnswer (f : Fuse) (m : Mach) (r : VReq) (b : List Byte) : Fuse × Mach :=
  match r.by_ with
  | .reg => (f, vaultAnswerReg m VAULT_COMMITTED)
  | .store => (f, storeCommitted m)
  | .label => (f, labelCommitted m b)
  | .rollback =>
    let x := rollCommitted m f r.key (fieldLE b 0 1)
    (x.2, x.1)
  | .vcp =>
    let m := (m.wr R.CAL.VCP_STATUS.STORED 1)
    let m := { m with vlt := { m.vlt with oscSec := m.rtc } }
    (f, if m.cal.vcp.isSome then vcpEnd m CAL_DONE else m)
  | .fclass | .sump | .retire | .hours | .pfw | .fabric | .dose => (f, m)

/-- VAULT_RECORD_COMMIT (R644): the open record's marker is in place; the next one opens (R646). -/
def recordCommit (f : Fuse) (m : Mach) : Fuse × Mach :=
  match m.vlt.opened with
  | none => (f, m)
  | some r =>
    let seq := (m.rd R.VAULT.SEQ.SEQ + 1) % 2 ^ 32
    let b := commitPayload m r seq
    let v := m.vlt.append ⟨seq, r.typ, r.key, b, false⟩
    let m := { m.wr R.VAULT.SEQ.SEQ seq with vlt := { v with opened := none, suspended := false, failRun := (0, 0) } }
    let m := (vaultCode (hev (m.add R.VAULT.CNT.COUNT 1 0) 320) VAULT_COMMITTED).ev E.VAULT.COMMITTED
    let x := commitAnswer f m r b
    (x.1, vaultRefresh (vaultKick (doseFeed (vaultKick x.2))))

def execVaultRecordCommit (s : State) : Out' :=
  onF s (fun _ m f =>
    let x := recordCommit f m
    (x.1, ⟨x.2, [], false⟩))

/-- FLASH_OPERATION_FAILED (R649): `answers` false where the device no longer answers. -/
def execFlashOperationFailed (dev : Nat) (answers : Bool) (s : State) : Out' :=
  onM s (fun m => if dev < 2 then storeCheck (flashFailed m dev answers) else m)

end Sys2Proof.Machine
end

