-- ==== Sys2Proof/Machine/Dispatch.lean ====
section
/-!
DEFINITION. One arm per command: each calls that command's own meaning.
-/
namespace Sys2Proof.Machine

open Sys2Proof

def exec (i : Instr) (s : State) : Host.Outcome State Fault Refusal :=
  match i with
  | .tick => Sys2Proof.Machine.execTick s
  | .commitDeadline => Sys2Proof.Machine.execCommitDeadline s
  | .commitLogicWrite p off word => Sys2Proof.Machine.execCommitLogicWrite p off word s
  | .registerWrite p off word => Sys2Proof.Machine.execRegisterWrite p off word s
  | .loRegisterRead p off adv => Sys2Proof.Machine.execLoRegisterRead p off adv s
  | .readClearRegister p off => Sys2Proof.Machine.execReadClearRegister p off s
  | .modeRequest p mode entry => Sys2Proof.Machine.execModeRequest p mode entry s
  | .modeTransitionComplete => Sys2Proof.Machine.execModeTransitionComplete s
  | .thermalAutoResume => Sys2Proof.Machine.execThermalAutoResume s
  | .datapathFailure => Sys2Proof.Machine.execDatapathFailure s
  | .pfwNFall => Sys2Proof.Machine.execPfwNFall s
  | .pfwNRise => Sys2Proof.Machine.execPfwNRise s
  | .dictRead q => Sys2Proof.Machine.execDictRead q s
  | .dictWrite q => Sys2Proof.Machine.execDictWrite q s
  | .readBlock q => Sys2Proof.Machine.execReadBlock q s
  | .writeBlock q => Sys2Proof.Machine.execWriteBlock q s
  | .store q => Sys2Proof.Machine.execStore q s
  | .restoreDefault q => Sys2Proof.Machine.execRestoreDefault q s
  | .subscribe q => Sys2Proof.Machine.execSubscribe q s
  | .idpV1Request q => Sys2Proof.Machine.execIdpV1Request q s
  | .sessionChallengeRead q => Sys2Proof.Machine.execSessionChallengeRead q s
  | .sessionOpen q => Sys2Proof.Machine.execSessionOpen q s
  | .sessionClose q => Sys2Proof.Machine.execSessionClose q s
  | .sessionIdleTimeout num => Sys2Proof.Machine.execSessionIdleTimeout num s
  | .blockStageTimeout sess n => Sys2Proof.Machine.execBlockStageTimeout sess n s
  | .subscriptionLeaseExpiry n => Sys2Proof.Machine.execSubscriptionLeaseExpiry n s
  | .remoteRequestTimeout tag => Sys2Proof.Machine.execRemoteRequestTimeout tag s
  | .msfHeader b => Sys2Proof.Machine.execMsfHeader b s
  | .msfSlabEntry b => Sys2Proof.Machine.execMsfSlabEntry b s
  | .msfTileIndex b => Sys2Proof.Machine.execMsfTileIndex b s
  | .msfTilePayload b => Sys2Proof.Machine.execMsfTilePayload b s
  | .msfFrameTrailer b => Sys2Proof.Machine.execMsfFrameTrailer b s
  | .lateFrameBytes path n => Sys2Proof.Machine.execLateFrameBytes path n s
  | .frameAdmissionCheck seq => Sys2Proof.Machine.execFrameAdmissionCheck seq s
  | .stallTimeout path => Sys2Proof.Machine.execStallTimeout path s
  | .queueFlush => Sys2Proof.Machine.execQueueFlush s
  | .tileRowDemand k band req => Sys2Proof.Machine.execTileRowDemand k band req s
  | .rowCommit lane => Sys2Proof.Machine.execRowCommit lane s
  | .backgroundSegmentDone => Sys2Proof.Machine.execBackgroundSegmentDone s
  | .flowDrain enable => Sys2Proof.Machine.execFlowDrain enable s
  | .flowDrained => Sys2Proof.Machine.execFlowDrained s
  | .flowForceStop late => Sys2Proof.Machine.execFlowForceStop late s
  | .flowLaneError lane => Sys2Proof.Machine.execFlowLaneError lane s
  | .ctxSnapshot n => Sys2Proof.Machine.execCtxSnapshot n s
  | .bandAdvance => Sys2Proof.Machine.execBandAdvance s
  | .bandWalkStart seq opt => Sys2Proof.Machine.execBandWalkStart seq opt s
  | .bandWalkDone seq plan => Sys2Proof.Machine.execBandWalkDone seq plan s
  | .bundleIssue e => Sys2Proof.Machine.execBundleIssue e s
  | .bundleDone line n cuts => Sys2Proof.Machine.execBundleDone line n cuts s
  | .governorLevelChange e slack => Sys2Proof.Machine.execGovernorLevelChange e slack s
  | .engineError e => Sys2Proof.Machine.execEngineError e s
  | .grottoEccError bank word uncorr sample => Sys2Proof.Machine.execGrottoEccError bank word uncorr sample s
  | .helDrain enable => Sys2Proof.Machine.execHelDrain enable s
  | .helDrained => Sys2Proof.Machine.execHelDrained s
  | .helForceStop late => Sys2Proof.Machine.execHelForceStop late s
  | .mapVerifyStart k base => Sys2Proof.Machine.execMapVerifyStart k base s
  | .mapVerifyDone k => Sys2Proof.Machine.execMapVerifyDone k s
  | .galCommit tok => Sys2Proof.Machine.execGalCommit tok s
  | .plCommit tok => Sys2Proof.Machine.execPlCommit tok s
  | .depthLoadDone layer => Sys2Proof.Machine.execDepthLoadDone layer s
  | .spanDemand late bad => Sys2Proof.Machine.execSpanDemand late bad s
  | .rasterBandEnd => Sys2Proof.Machine.execRasterBandEnd s
  | .rasterFrameEnd => Sys2Proof.Machine.execRasterFrameEnd s
  | .echoLineCheck k y crc flags => Sys2Proof.Machine.execEchoLineCheck k y crc flags s
  | .tapCaptureStart => Sys2Proof.Machine.execTapCaptureStart s
  | .tapCaptureDone full => Sys2Proof.Machine.execTapCaptureDone full s
  | .tapDrain enable => Sys2Proof.Machine.execTapDrain enable s
  | .tapForceStop late => Sys2Proof.Machine.execTapForceStop late s
  | .bcStatus lane crc locks shown tick subst => Sys2Proof.Machine.execBcStatus lane crc locks shown tick subst s
  | .bcLockLost lane crc lanes => Sys2Proof.Machine.execBcLockLost lane crc lanes s
  | .bcTapReq lane crc preOp postOp pst => Sys2Proof.Machine.execBcTapReq lane crc preOp postOp pst s
  | .bcEye lane crc width height => Sys2Proof.Machine.execBcEye lane crc width height s
  | .bcLineCrc lane crc y tick => Sys2Proof.Machine.execBcLineCrc lane crc y tick s
  | .trainingSet lane kind gen pst crc => Sys2Proof.Machine.execTrainingSet lane kind gen pst crc s
  | .laneLost lane => Sys2Proof.Machine.execLaneLost lane s
  | .laneReverseSilence lane => Sys2Proof.Machine.execLaneReverseSilence lane s
  | .laneNoSignal lane => Sys2Proof.Machine.execLaneNoSignal lane s
  | .laneEqTimeout lane => Sys2Proof.Machine.execLaneEqTimeout lane s
  | .laneTrained lane errors width height ctle => Sys2Proof.Machine.execLaneTrained lane errors width height ctle s
  | .laneGenChange lane => Sys2Proof.Machine.execLaneGenChange lane s
  | .retrain lane => Sys2Proof.Machine.execRetrain lane s
  | .laneRestore lane => Sys2Proof.Machine.execLaneRestore lane s
  | .laneLoop lane loop => Sys2Proof.Machine.execLaneLoop lane loop s
  | .hello n crc p => Sys2Proof.Machine.execHello n crc p s
  | .helloSend => Sys2Proof.Machine.execHelloSend s
  | .helloTimeout n => Sys2Proof.Machine.execHelloTimeout n s
  | .elect n crc p => Sys2Proof.Machine.execElect n crc p s
  | .electionSettled => Sys2Proof.Machine.execElectionSettled s
  | .leaderContactLost => Sys2Proof.Machine.execLeaderContactLost s
  | .coordReport n crc p => Sys2Proof.Machine.execCoordReport n crc p s
  | .coordOffset n crc p => Sys2Proof.Machine.execCoordOffset n crc p s
  | .linkState n crc p => Sys2Proof.Machine.execLinkState n crc p s
  | .linkStateMulticast => Sys2Proof.Machine.execLinkStateMulticast s
  | .dictReq n crc p => Sys2Proof.Machine.execDictReq n crc p s
  | .dictReply n crc p => Sys2Proof.Machine.execDictReply n crc p s
  | .notifyRelay n crc p => Sys2Proof.Machine.execNotifyRelay n crc p s
  | .sceneClaim n crc p => Sys2Proof.Machine.execSceneClaim n crc p s
  | .sceneGrant n crc p => Sys2Proof.Machine.execSceneGrant n crc p s
  | .sceneRelease n crc p => Sys2Proof.Machine.execSceneRelease n crc p s
  | .sceneClaimRevoke => Sys2Proof.Machine.execSceneClaimRevoke s
  | .sceneHead n crc p => Sys2Proof.Machine.execSceneHead n crc p s
  | .scenePayload n crc p => Sys2Proof.Machine.execScenePayload n crc p s
  | .sceneSuppl n crc p => Sys2Proof.Machine.execSceneSuppl n crc p s
  | .sceneEnd n crc p => Sys2Proof.Machine.execSceneEnd n crc p s
  | .linkAck n crc next nak credits => Sys2Proof.Machine.execLinkAck n crc next nak credits s
  | .linkResendTimeout n => Sys2Proof.Machine.execLinkResendTimeout n s
  | .packetLengthTimeout n => Sys2Proof.Machine.execPacketLengthTimeout n s
  | .linkMask n crc mask => Sys2Proof.Machine.execLinkMask n crc mask s
  | .timeUnit n crc seq hops stamp adv => Sys2Proof.Machine.execTimeUnit n crc seq hops stamp adv s
  | .timeUnitSend adv => Sys2Proof.Machine.execTimeUnitSend adv s
  | .linkDelayMeasure n round residence => Sys2Proof.Machine.execLinkDelayMeasure n round residence s
  | .fabricMerge => Sys2Proof.Machine.execFabricMerge s
  | .ptpSync num sender seq rx origin cf adv => Sys2Proof.Machine.execPtpSync num sender seq rx origin cf adv s
  | .ptpFollowUp num sender seq origin cf => Sys2Proof.Machine.execPtpFollowUp num sender seq origin cf s
  | .ptpDelayResp num sender seq t4 cf adv => Sys2Proof.Machine.execPtpDelayResp num sender seq t4 cf adv s
  | .ptpAnnounce num data utc => Sys2Proof.Machine.execPtpAnnounce num data utc s
  | .ptpSignaling num tlv typ logInt dur => Sys2Proof.Machine.execPtpSignaling num tlv typ logInt dur s
  | .ptpDelayReq d tx adv => Sys2Proof.Machine.execPtpDelayReq d tx adv s
  | .ptpAnnounceTimeout d announce => Sys2Proof.Machine.execPtpAnnounceTimeout d announce s
  | .timeUnlocked => Sys2Proof.Machine.execTimeUnlocked s
  | .rtcSecondLoad => Sys2Proof.Machine.execRtcSecondLoad s
  | .triggerArm n ctrl lo hi period => Sys2Proof.Machine.execTriggerArm n ctrl lo hi period s
  | .triggerFire => Sys2Proof.Machine.execTriggerFire s
  | .dramRead master addr len err => Sys2Proof.Machine.execDramRead master addr len err s
  | .dramWrite master addr data bad => Sys2Proof.Machine.execDramWrite master addr data bad s
  | .dramRefresh ch bank => Sys2Proof.Machine.execDramRefresh ch bank s
  | .refreshWindowEnd ch => Sys2Proof.Machine.execRefreshWindowEnd ch s
  | .dramTempPoll ch rate beyond => Sys2Proof.Machine.execDramTempPoll ch rate beyond s
  | .pageIdleClose ch bank => Sys2Proof.Machine.execPageIdleClose ch bank s
  | .dramTracking ch move ca rd wr vref => Sys2Proof.Machine.execDramTracking ch move ca rd wr vref s
  | .dramRetrain => Sys2Proof.Machine.execDramRetrain s
  | .dramTrainingDone ch ca rd wr vref ok => Sys2Proof.Machine.execDramTrainingDone ch ca rd wr vref ok s
  | .setpointRequest sp => Sys2Proof.Machine.execSetpointRequest sp s
  | .selfRefreshEntry => Sys2Proof.Machine.execSelfRefreshEntry s
  | .selfRefreshExit ok => Sys2Proof.Machine.execSelfRefreshExit ok s
  | .remapWalkDone => Sys2Proof.Machine.execRemapWalkDone s
  | .sqDoorbell tail descs => Sys2Proof.Machine.execSqDoorbell tail descs s
  | .cqHeadWrite head descs => Sys2Proof.Machine.execCqHeadWrite head descs s
  | .fragmentDone seq written dropped descs => Sys2Proof.Machine.execFragmentDone seq written dropped descs s
  | .hostReadFailed seq written dropped descs => Sys2Proof.Machine.execHostReadFailed seq written dropped descs s
  | .ringDrain enable descs => Sys2Proof.Machine.execRingDrain enable descs s
  | .ringForceStop late => Sys2Proof.Machine.execRingForceStop late s
  | .hostReset perst => Sys2Proof.Machine.execHostReset perst s
  | .bar4Access off len data => Sys2Proof.Machine.execBar4Access off len data s
  | .msixUnmask v => Sys2Proof.Machine.execMsixUnmask v s
  | .dmaStart n p => Sys2Proof.Machine.execDmaStart n p s
  | .dmaDescriptorDone n host data => Sys2Proof.Machine.execDmaDescriptorDone n host data s
  | .dmaRunDone n => Sys2Proof.Machine.execDmaRunDone n s
  | .dmaAbort n p => Sys2Proof.Machine.execDmaAbort n p s
  | .dmaForceStop n p => Sys2Proof.Machine.execDmaForceStop n p s
  | .dmaDrain n enable p => Sys2Proof.Machine.execDmaDrain n enable p s
  | .dmaAccessTimeout n a => Sys2Proof.Machine.execDmaAccessTimeout n a s
  | .blitGo p => Sys2Proof.Machine.execBlitGo p s
  | .blitJobDone => Sys2Proof.Machine.execBlitJobDone s
  | .engineAbort e => Sys2Proof.Machine.execEngineAbort e s
  | .engineForceStop e => Sys2Proof.Machine.execEngineForceStop e s
  | .engineFlush e => Sys2Proof.Machine.execEngineFlush e s
  | .engineDrain e enable => Sys2Proof.Machine.execEngineDrain e enable s
  | .engineAccessTimeout e a => Sys2Proof.Machine.execEngineAccessTimeout e a s
  | .crcStart n p => Sys2Proof.Machine.execCrcStart n p s
  | .crcValueWrite n lo => Sys2Proof.Machine.execCrcValueWrite n lo s
  | .crcScanDone n => Sys2Proof.Machine.execCrcScanDone n s
  | .crcScanStop n upto => Sys2Proof.Machine.execCrcScanStop n upto s
  | .deflateGo p => Sys2Proof.Machine.execDeflateGo p s
  | .deflateJobDone stream => Sys2Proof.Machine.execDeflateJobDone stream s
  | .chimneyRequest cls holder tok => Sys2Proof.Machine.execChimneyRequest cls holder tok s
  | .chimneyRelease cls holder => Sys2Proof.Machine.execChimneyRelease cls holder s
  | .pausePointReached cls holder => Sys2Proof.Machine.execPausePointReached cls holder s
  | .grantInForce cls holder => Sys2Proof.Machine.execGrantInForce cls holder s
  | .sensorSample readings => Sys2Proof.Machine.execSensorSample readings s
  | .stepUp => Sys2Proof.Machine.execStepUp s
  | .tempCompensation move => Sys2Proof.Machine.execTempCompensation move s
  | .calRun mask => Sys2Proof.Machine.execCalRun mask s
  | .trackInterval => Sys2Proof.Machine.execTrackInterval s
  | .calRunDone kind rows => Sys2Proof.Machine.execCalRunDone kind rows s
  | .calPpsEdge cycles => Sys2Proof.Machine.execCalPpsEdge cycles s
  | .calPpsMissing => Sys2Proof.Machine.execCalPpsMissing s
  | .vrefMeasure mv10 => Sys2Proof.Machine.execVrefMeasure mv10 s
  | .doseCommit => Sys2Proof.Machine.execDoseCommit s
  | .doseReset => Sys2Proof.Machine.execDoseReset s
  | .vcpExport addr cap flags streams => Sys2Proof.Machine.execVcpExport addr cap flags streams s
  | .vcpStore addr len => Sys2Proof.Machine.execVcpStore addr len s
  | .vcpRestore addr len source => Sys2Proof.Machine.execVcpRestore addr len source s
  | .calDrain enable => Sys2Proof.Machine.execCalDrain enable s
  | .calForceStop late => Sys2Proof.Machine.execCalForceStop late s
  | .imageInstall kind slot addr len => Sys2Proof.Machine.execImageInstall kind slot addr len s
  | .switch kind slot => Sys2Proof.Machine.execSwitch kind slot s
  | .trialCommit vdd => Sys2Proof.Machine.execTrialCommit vdd s
  | .trialPeriodEnd kind vdd => Sys2Proof.Machine.execTrialPeriodEnd kind vdd s
  | .rollbackAdvance kind vdd => Sys2Proof.Machine.execRollbackAdvance kind vdd s
  | .keyEnrol addr vdd => Sys2Proof.Machine.execKeyEnrol addr vdd s
  | .keyRevoke slot vdd => Sys2Proof.Machine.execKeyRevoke slot vdd s
  | .enrolLock vdd => Sys2Proof.Machine.execEnrolLock vdd s
  | .regionSet n base pages rights => Sys2Proof.Machine.execRegionSet n base pages rights s
  | .release target key sig => Sys2Proof.Machine.execRelease target key sig s
  | .releaseChallengeRead => Sys2Proof.Machine.execReleaseChallengeRead s
  | .pskWrite q => Sys2Proof.Machine.execPskWrite q s
  | .checkout data => Sys2Proof.Machine.execCheckout data s
  | .wdogKick => Sys2Proof.Machine.execWdogKick s
  | .checkin => Sys2Proof.Machine.execCheckin s
  | .quiesced => Sys2Proof.Machine.execQuiesced s
  | .watchdogExpiry => Sys2Proof.Machine.execWatchdogExpiry s
  | .checkinTimeout => Sys2Proof.Machine.execCheckinTimeout s
  | .codeRegionCheck slot differs => Sys2Proof.Machine.execCodeRegionCheck slot differs s
  | .spareSwap p kind unit => Sys2Proof.Machine.execSpareSwap p kind unit s
  | .vaultRequest p typ key addr len => Sys2Proof.Machine.execVaultRequest p typ key addr len s
  | .vaultRecordCommit => Sys2Proof.Machine.execVaultRecordCommit s
  | .vaultReclaim => Sys2Proof.Machine.execVaultReclaim s
  | .vaultCompact => Sys2Proof.Machine.execVaultCompact s
  | .sectorEraseDone ok => Sys2Proof.Machine.execSectorEraseDone ok s
  | .hoursCommit => Sys2Proof.Machine.execHoursCommit s
  | .vcpAreaRefresh => Sys2Proof.Machine.execVcpAreaRefresh s
  | .coreResetRelease => Sys2Proof.Machine.execCoreResetRelease s
  | .brownout => Sys2Proof.Machine.execBrownout s
  | .testReset => Sys2Proof.Machine.execTestReset s
  | .lantWakePin secs => Sys2Proof.Machine.execLantWakePin secs s
  | .rtcAlarm => Sys2Proof.Machine.execRtcAlarm s
  | .supplyWake secs => Sys2Proof.Machine.execSupplyWake secs s
  | .offDelayExpiry => Sys2Proof.Machine.execOffDelayExpiry s
  | .supplyValid => Sys2Proof.Machine.execSupplyValid s
  | .wakeTimeout => Sys2Proof.Machine.execWakeTimeout s
  | .wakeRetry => Sys2Proof.Machine.execWakeRetry s
  | .labelUpdate kind => Sys2Proof.Machine.execLabelUpdate kind s
  | .labelWaveformStart => Sys2Proof.Machine.execLabelWaveformStart s
  | .labelFrame => Sys2Proof.Machine.execLabelFrame s
  | .labelWaveformEnd => Sys2Proof.Machine.execLabelWaveformEnd s
  | .labelRecovery => Sys2Proof.Machine.execLabelRecovery s
  | .labelTempMeasure t fault => Sys2Proof.Machine.execLabelTempMeasure t fault s
  | .labelDrain enable => Sys2Proof.Machine.execLabelDrain enable s
  | .labelForceStop late => Sys2Proof.Machine.execLabelForceStop late s
  | .glowLoadDone => Sys2Proof.Machine.execGlowLoadDone s
  | .bucketLeak kind => Sys2Proof.Machine.execBucketLeak kind s
  | .unitRestore kind unit => Sys2Proof.Machine.execUnitRestore kind unit s
  | .sumpCoalesceClose seq => Sys2Proof.Machine.execSumpCoalesceClose seq s
  | .persistAllowanceRefill => Sys2Proof.Machine.execPersistAllowanceRefill s
  | .dripStep target errs => Sys2Proof.Machine.execDripStep target errs s
  | .dripPassStart target => Sys2Proof.Machine.execDripPassStart target s
  | .dripDrain enable => Sys2Proof.Machine.execDripDrain enable s
  | .dripForceStop late => Sys2Proof.Machine.execDripForceStop late s
  | .bktSelect kind unit => Sys2Proof.Machine.execBktSelect kind unit s
  | .sumpSelect index => Sys2Proof.Machine.execSumpSelect index s
  | .perfResetAll => Sys2Proof.Machine.execPerfResetAll s
  | .counterIncrement perf event amount lost => Sys2Proof.Machine.execCounterIncrement perf event amount lost s
  | .lantPowerOn => Sys2Proof.Machine.execLantPowerOn s
  | .bedrockSramError => Sys2Proof.Machine.execBedrockSramError s
  | .pcieLinkUp speed width => Sys2Proof.Machine.execPcieLinkUp speed width s
  | .perstNRise => Sys2Proof.Machine.execPerstNRise s
  | .endOfBoot => Sys2Proof.Machine.execEndOfBoot s
  | .latchedSetpointApply => Sys2Proof.Machine.execLatchedSetpointApply s
  | .flashOperationFailed dev answers => Sys2Proof.Machine.execFlashOperationFailed dev answers s
  | .installComplete ok => Sys2Proof.Machine.execInstallComplete ok s

end Sys2Proof.Machine
end

