-- ==== Sys2Proof/Safety.lean ====
section
/-!
DEFINITION. What a run keeps safe: the DRAM contents stay in canonical form, and a fuse once programmed is never
unprogrammed (spec/18_firmware_trust_and_live_update.md R611, R615, R617).
-/
namespace Sys2Proof.Machine

open Sys2Proof

/-- A key slot keeps the hash once fused into it. -/
def slotKept (a b : Option (List Byte)) : Prop := a = none ∨ b = a

/-- What fuses may do: bits of `revoked` are only added, the locks are only closed, the counters only rise, the die keeps its identity and
a filled key slot keeps its hash. -/
structure Fuse.le (f g : Fuse) : Prop where
  dieId   : g.dieId = f.dieId
  slots   : ∀ k, slotKept (f.slots.getD k none) (g.slots.getD k none)
  revoked : ∀ k, f.revoked.testBit k = true → g.revoked.testBit k = true
  locked  : f.locked = true → g.locked = true
  closed  : f.closed = true → g.closed = true
  rollFw  : f.rollFw ≤ g.rollFw
  rollBed : f.rollBed ≤ g.rollBed

/-- CORE runs: it is out of reset and the device is not in M0 with its supplies off (R35, R744). -/
abbrev State.Runs (s : State) : Prop := s.m.mc.off = false

/-- The state with another block state: memory, fuses and the queue stay as they are. A record request of the Vault that opened with its payload in
DRAM takes it (R661). -/
def State.after (s : State) (m : Mach) : State := { s with m := settle s.mem m }

/-- The state after a command that also writes DRAM. -/
def State.afterW (s : State) (m : Mach) (w : List (Nat × List Byte)) : State :=
  { s with m := settle (applyWrites s.mem w) m, mem := applyWrites s.mem w }

/-- Every register field outside a list of fields is as before. -/
def Mach.SameBut (a b : Mach) (l : List Nat) : Prop := ∀ (r : Row) (i j : Nat), r.key i j ∉ l → b.rd r i j = a.rd r i j

/-- The block state after a packet has come in whole on link `n` and LINK_ACK has gone back (R392). -/
def Mach.took (m : Mach) (n : Nat) (p : Packet) : Mach :=
  sendAck (linkMod m n (fun l => { l with rxSeq := (l.rxSeq + 1) % 256 })) n false [p.channel, p.units]

/-- A request of an IDP v2 message, as the engine of the node named in it serves it (R84, R86). -/
def idpReq (v6 : Bool) (a pt : Nat) (hdr pay : List Byte) (auth : Bool) : Req :=
  ⟨.net, fieldLE hdr 1 1, fieldLE hdr 6 2, fieldLE hdr 8 1, 1024 * fieldLE hdr 14 2, pay, auth, if auth then fieldLE hdr 12 2 else 0,
    .udp v6 a pt hdr, 1024⟩

/-- The header of an IDP v2 message that is no v1 message, is addressed to the node that takes it in, and fits its payload (R84, R85). -/
structure IdpHead (hdr pay : List Byte) (op : Nat) : Prop where
  len     : hdr.length = 16
  version : fieldLE hdr 0 1 = 2
  opcode  : fieldLE hdr 1 1 = op
  node    : 0x8000 ≤ fieldLE hdr 4 2 ∧ bits (fieldLE hdr 4 2) 14 12 = 0
  size    : fieldLE hdr 10 2 = pay.length ∧ pay.length ≤ 1024

/-- A reply goes back where its request came from (R84, R89). -/
def Mach.answer (m : Mach) (o : Origin) (key : Option (List Byte)) (r : Rep) : Mach :=
  sendReply m o key (nodeNow m) r (tickOf m r.code)

/-- The block state after a message of session `num` has been counted and its SEQUENCE accepted (R90, R97). -/
def Mach.inSess (m : Mach) (num seq : Nat) : Mach := sessMod (idpCount m D.idp_rx) num (fun s => s.accept seq)

/-- The commands that may write DRAM: those that bring scene bytes or data in, those whose engine writes as it goes, and those that lose
what DRAM holds (R452, R454). -/
def writesDram : Instr → Bool
  | .tick | .modeTransitionComplete | .msfHeader _ | .msfSlabEntry _ | .msfTileIndex _ | .msfTilePayload _ | .msfFrameTrailer _
  | .tapCaptureDone _ | .tapForceStop _ | .sceneHead _ _ _ | .scenePayload _ _ _ | .sceneSuppl _ _ _ | .sceneEnd _ _ _
  | .dramWrite _ _ _ _ | .dramTrainingDone _ _ _ _ _ _ | .bar4Access _ _ _ | .dmaDescriptorDone _ _ _ | .dmaAbort _ _
  | .dmaForceStop _ _ | .dmaAccessTimeout _ _ | .blitJobDone | .engineAbort _ | .engineForceStop _ | .engineAccessTimeout _ _
  | .deflateJobDone _ | .vcpExport _ _ _ _ | .vcpStore _ _ | .vcpRestore _ _ _ | .dripStep _ _ | .endOfBoot
  | .installComplete _ | .pfwNFall | .hostReset _ | .lantPowerOn => true
  | _ => false

/-- The commands that may program a fuse (R611, R615, R617). -/
def writesFuse : Instr → Bool
  | .trialCommit _ | .rollbackAdvance _ _ | .keyEnrol _ _ | .keyRevoke _ _ | .enrolLock _ | .vaultRecordCommit => true
  | _ => false

/-- The commands of the supplies and pins and of the Lantern domain, which act while CORE does not run (R35, R665, R744). -/
def alwaysActs : Instr → Bool
  | .coreResetRelease | .brownout | .testReset | .lantPowerOn | .pfwNFall | .pfwNRise | .hostReset _ | .perstNRise | .lantWakePin _
  | .rtcAlarm | .supplyWake _ | .offDelayExpiry | .supplyValid | .wakeTimeout | .wakeRetry | .labelWaveformStart | .labelFrame
  | .labelWaveformEnd | .labelTempMeasure _ _ => true
  | _ => false

/-- A state whose DRAM contents are in canonical form. -/
def State.Inv (s : State) : Prop := Mem.wf s.mem = true

end Sys2Proof.Machine
end

