-- ==== Sys2Proof/Certificates/Slice0/Obligations.lean ====
section
/-!
DEFINITION. The statements for the provers. A clause about a command names a state and operands that meet conditions on them alone
and says which next state exec answers; State.after and State.afterW (Sys2Proof/Safety.lean) are the states that differ from s in the
block state, or in it and the DRAM bytes listed: fuses, queue and every other byte are as before.
-/

open Sys2Proof Sys2Proof.Machine

/-- O1. A step carries out the command at the front of the queue. For every command c and every state s whose queue is c followed by rest,
step s is exec c on s with the queue rest. That commands wait in a queue is the convention of this model (assumption log 63), no rule of
the spec. -/
def Obligations.StepRunsFrontCommand : Prop :=
  ∀ (c : Instr) (s : State) (rest : List Instr), s.pending = c :: rest → step s = exec c { s with pending := rest }

/-- O2. With no command waiting the block idles. A step on an empty queue answers the same state. This is the choice of this model (assumption
log 64), no rule of the spec: what happens in time is a command of the table. -/
def Obligations.EmptyQueueIdles : Prop :=
  ∀ s : State, s.pending = [] → step s = .next s

/-- O3. Every command of the table is carried out in every state. For every command and every state exec answers a next state, never a fault
and never a refusal, and that state differs from the old one in the block state, the DRAM contents and the fuses only: the queue is as
before. -/
def Obligations.EveryCommandAnswersNext : Prop :=
  ∀ (c : Instr) (s : State), ∃ (m : Mach) (d : Mem) (f : Fuse), exec c s = .next { s with m := m, mem := d, fuse := f }

/-- O4. Every step keeps the DRAM contents in canonical form. From every state whose DRAM list is in canonical form (addresses strictly
rising, no entry equal to what an unlisted byte reads as), a step that answers a next state answers one whose DRAM list is in canonical
form: equal contents stay equal data whatever the commands wrote. The form is the representation of this model. -/
def Obligations.StepsKeepDramForm : Prop :=
  ∀ s t : State, s.Inv → step s = .next t → t.Inv

/-- O5. A step never takes back what a fuse holds. For every step that answers a next state: the anti-rollback counters of stage 2 and of the
main image do not fall, a filled customer key slot keeps its hash, a revoked slot stays revoked, closed enrolment stays closed, and the
die keeps its identity and its key state. -/
def Obligations.FusesOnlyGrow : Prop :=
  ∀ s t : State, step s = .next t → Fuse.le s.fuse t.fuse

/-- O6. Only six commands program fuses. Every command but TRIAL_COMMIT, ROLLBACK_ADVANCE, KEY_ENROL, KEY_REVOKE, ENROL_LOCK and
VAULT_RECORD_COMMIT leaves every fuse as it was. -/
def Obligations.OtherCommandsKeepFuses : Prop :=
  ∀ (c : Instr) (s t : State), writesFuse c = false → exec c s = .next t → t.fuse = s.fuse

/-- O7. Commands that store nothing leave every byte of DRAM as it was. For every command that is not one of those that bring data into DRAM,
write as an engine goes, or lose what DRAM holds (the list writesDram), a next state reads the same byte at every DRAM address. -/
def Obligations.OtherCommandsKeepDram : Prop :=
  ∀ (c : Instr) (s t : State), writesDram c = false → exec c s = .next t → ∀ a : Nat, Mem.byte t.mem a = Mem.byte s.mem a

/-- O8. A DRAM write reaches the bytes it covers and no other. After a command whose DRAM writes are the list w, in order, every address
outside all of them reads as before; and where the last write of the list covers an address, that address reads the byte of it. -/
def Obligations.DramWriteReach : Prop :=
  (∀ (s : State) (m : Mach) (w : List (Nat × List Byte)) (a : Nat), (∀ e ∈ w, a < e.1 ∨ e.1 + e.2.length ≤ a) →
    Mem.byte (s.afterW m w).mem a = Mem.byte s.mem a) ∧
  (∀ (s : State) (m : Mach) (w : List (Nat × List Byte)) (a : Nat) (b : List Byte) (k : Nat), k < b.length →
    Mem.byte (s.afterW m (w ++ [(a, b)])).mem (a + k) = b.getD k 0)

/-- O9. While CORE does not run, only Lantern, the supplies and the pins act. In a state in which CORE is off or held in reset, every command
but those of the Lantern domain, of the supplies and of the pins leaves registers, DRAM, fuses and queue as they were, and nothing goes
out. -/
def Obligations.CommandsWhileCoreIsOff : Prop :=
  ∀ (c : Instr) (s : State), alwaysActs c = false → s.m.mc.off = true → exec c s = .next { s with m := s.m.fresh }

/-- O10. The block right after first power. At State.reset every register field reads its reset value; SYS.MODE_STATUS reads CURRENT 3,
PREVIOUS 3, PENDING 0xF, CAUSE 1, IN_TRANSITION 1 and ENTRY 0; CHIM.LIMITS reads POOL and CEILING 0x230; CORE is held; no command waits,
and the DRAM list is in canonical form. That DRAM lists nothing and the fuses are unprogrammed are choices of this model (assumption logs
10, 11). -/
def Obligations.ResetState : Prop :=
  (∀ (r : Row) (i j : Nat), State.reset.m.rd r i j = r.reset i j) ∧
  State.reset.m.rd R.SYS.MODE_STATUS.CURRENT = 3 ∧ State.reset.m.rd R.SYS.MODE_STATUS.PREVIOUS = 3 ∧
  State.reset.m.rd R.SYS.MODE_STATUS.PENDING = 0xF ∧ State.reset.m.rd R.SYS.MODE_STATUS.CAUSE = 1 ∧
  State.reset.m.rd R.SYS.MODE_STATUS.IN_TRANSITION = 1 ∧ State.reset.m.rd R.SYS.MODE_STATUS.ENTRY = 0 ∧
  State.reset.m.rd R.CHIM.LIMITS.POOL = 0x230 ∧ State.reset.m.rd R.CHIM.LIMITS.CEILING = 0x230 ∧
  ¬State.reset.Runs ∧ State.reset.pending = [] ∧ State.reset.Inv

/-- O11. SWAP reorders the bytes of each unit. SWAP codes 0 to 3 have units of 1, 2, 4 and 4 bytes; NONE leaves four input bytes as they are,
BYTES16 exchanges the bytes of each of two units, BYTES32 reverses the four bytes, HALVES32 exchanges the halves. -/
def Obligations.SwapReordersUnits : Prop :=
  ∀ b0 b1 b2 b3 : Byte,
    [swapUnit 0, swapUnit 1, swapUnit 2, swapUnit 3] = [1, 2, 4, 4] ∧
    swapBytes 0 [b0] ++ swapBytes 0 [b1] ++ swapBytes 0 [b2] ++ swapBytes 0 [b3] = [b0, b1, b2, b3] ∧
    swapBytes 1 [b0, b1] ++ swapBytes 1 [b2, b3] = [b1, b0, b3, b2] ∧
    swapBytes 2 [b0, b1, b2, b3] = [b3, b2, b1, b0] ∧
    swapBytes 3 [b0, b1, b2, b3] = [b2, b3, b0, b1]

/-- O12. Conversion between pixel formats 0 and 1. From format 0 to 1 each colour code c8 becomes (c8 << 2) | (c8 >> 6) and alpha a8 becomes
rdiv(a8 × 3, 255); from format 1 to 0 each c10 becomes rdiv(c10 × 255, 1,023) and a2 becomes a2 × 85, for every pixel: codes alone decide,
and no PQ decoding enters. -/
def Obligations.PixelsConvert : Prop :=
  (∀ v k : Nat, k < 3 →
    bits (convPixel 0 1 v) (10 * k + 9) (10 * k) = ((bits v (8 * k + 7) (8 * k)) <<< 2) ||| ((bits v (8 * k + 7) (8 * k)) >>> 6)) ∧
  (∀ v : Nat, (bits (convPixel 0 1 v) 31 30 : Int) = rdiv ((bits v 31 24 : Int) * 3) 255) ∧
  (∀ v k : Nat, k < 3 →
    (bits (convPixel 1 0 v) (8 * k + 7) (8 * k) : Int) = rdiv ((bits v (10 * k + 9) (10 * k) : Int) * 255) 1023) ∧
  (∀ v : Nat, bits (convPixel 1 0 v) 31 24 = bits v 31 30 * 85)

/-- O13. What a raise of an MSI-X vector does. A raise of an unmasked vector sends its message. Where the vector or the whole function is
masked, the PBA bit is set instead and nothing is sent; where the bit is set already, the raise adds nothing. On unmask exactly one
message is sent where the bit was set, which clears it, and none where it was not. The message is the address and the data of the vector's
table words. -/
def Obligations.VectorMessages : Prop :=
  (∀ (m : Mach) (v : Nat), m.msixMasked v = false → m.raise v = m.emit (.msix v
    (m.msixWord (4 * v) + 2 ^ 32 * m.msixWord (4 * v + 1)) (m.msixWord (4 * v + 2)))) ∧
  (∀ (m : Mach) (v : Nat), m.msixMasked v = true → (m.raise v).out = m.out ∧ bit (m.raise v).msix.pba v = true) ∧
  (∀ (m : Mach) (v : Nat), m.msixMasked v = true → bit m.msix.pba v = true → m.raise v = m) ∧
  (∀ (s : State) (v : Nat), s.Runs → v < 64 → s.m.msix.fmask = false → bit s.m.msix.pba v = true →
    ∃ m, exec (.msixUnmask v) s = .next (s.after m) ∧ bit m.msix.pba v = false ∧
      m.out = [.msix v (s.m.msixWord (4 * v) + 2 ^ 32 * s.m.msixWord (4 * v + 1)) (s.m.msixWord (4 * v + 2))]) ∧
  (∀ (s : State) (v : Nat), s.Runs → v < 64 → bit s.m.msix.pba v = false →
    ∃ m, exec (.msixUnmask v) s = .next (s.after m) ∧ m.out = [])

/-- O14. What each mode reserves for the ray path. The reservation is 24 tokens in M1 and M2, 80 in M3, 48 in M4 and M11, 368 in M10 and none
in M0; in M5 it is the Tokens column of R304 for the entry requested, in M6 to M9 that of the entry in force. -/
def Obligations.ReservationOfEachMode : Prop :=
  ∀ (entry req : Nat),
    (∀ k ∈ [1, 2], reservation k entry req = 24) ∧ reservation 3 entry req = 80 ∧
    (∀ k ∈ [4, 11], reservation k entry req = 48) ∧ reservation 10 entry req = 368 ∧ reservation 0 entry req = 0 ∧
    (∀ t : Nat, [368, 368, 315, 304, 208, 182, 176, 176, 368, 368, 208, 208, 182, 128, 128, 115, 333, 333, 191, 191, 191, 120, 84, 78][req]? = some t →
      reservation 5 entry req = t) ∧
    (∀ t : Nat, ∀ k ∈ [6, 7, 8, 9],
      [368, 368, 315, 304, 208, 182, 176, 176, 368, 368, 208, 208, 182, 128, 128, 115, 333, 333, 191, 191, 191, 120, 84, 78][entry]? = some t →
      reservation k entry req = t)

/-- O15. An image passes only with every check passed, and the first failure is reported. For a kind (1 STAGE2, 2 MAIN) and a 384-byte header:
the check answers IMG_BAD_FORMAT just where the format fails; IMG_KEY_REJECTED where the format holds and the key is not held for its
slot, is revoked or is not allowed for the kind; IMG_BAD_SIGNATURE where those hold and the signature or the payload hash is wrong;
IMG_ROLLBACK where those hold and the step is below the effective counter; IMG_BAD_ENTRIES where those hold and an extension entry of a
MAIN image under a customer key lies outside 0xE000 to 0xEFFF; and none just where all hold. SHA-384 and ECDSA are uninterpreted
(assumption log 2). -/
def Obligations.ImageChecksInOrder : Prop :=
  ∀ (f : Fuse) (m : Mach) (kind : Nat) (hdr pay : List Byte), kind = 1 ∨ kind = 2 → hdr.length = 384 →
    let slot := fieldLE hdr 6 1
    let pub := slice hdr 48 96
    let size := fieldLE hdr 12 4
    let Format := slice hdr 0 4 = [0x55, 0x46, 0x57, 0x49] ∧ fieldLE hdr 4 1 = 1 ∧ fieldLE hdr 5 1 = kind ∧
      (∀ k, (28 ≤ k ∧ k < 48) ∨ (288 ≤ k ∧ k < 384) → hdr[k]? = some 0) ∧
      1 ≤ size ∧ size ≤ (if kind = 1 then 98304 else 16776832) ∧ fieldLE hdr 16 4 < size ∧
      (fieldLE hdr 20 4 = 0 ∨ fieldLE hdr 20 4 + 8 * fieldLE hdr 24 4 ≤ size)
    let KeyHeld := bit f.revoked slot = false ∧
      (if slot < 2 then Config.romKeyHash slot = Config.sha384 pub else f.slots.getD (slot - 2) none = some (Config.sha384 pub))
    let KeyAllowed := slot < 2 ∨ (kind = 2 ∧ m.dv D.key_state ≠ 1)
    let Signed := Config.ecdsaOk pub (Config.sha384 (slice hdr 0 192)) (slice hdr 192 96) = true ∧ Config.sha384 pay = slice hdr 144 48
    let NotOld := rollCounter m kind ≤ fieldLE hdr 7 1
    let Entries := kind = 2 → 2 ≤ slot → ∀ d ∈ imgExt hdr pay, 0xE000 ≤ fieldLE d 0 2 ∧ fieldLE d 0 2 ≤ 0xEFFF
    (imgCheck f m kind hdr pay = some IMG_BAD_FORMAT ↔ ¬Format) ∧
    (imgCheck f m kind hdr pay = some IMG_KEY_REJECTED ↔ Format ∧ ¬(KeyHeld ∧ KeyAllowed)) ∧
    (imgCheck f m kind hdr pay = some IMG_BAD_SIGNATURE ↔ Format ∧ KeyHeld ∧ KeyAllowed ∧ ¬Signed) ∧
    (imgCheck f m kind hdr pay = some IMG_ROLLBACK ↔ Format ∧ KeyHeld ∧ KeyAllowed ∧ Signed ∧ ¬NotOld) ∧
    (imgCheck f m kind hdr pay = some IMG_BAD_ENTRIES ↔ Format ∧ KeyHeld ∧ KeyAllowed ∧ Signed ∧ NotOld ∧ ¬Entries) ∧
    (imgCheck f m kind hdr pay = none ↔ Format ∧ KeyHeld ∧ KeyAllowed ∧ Signed ∧ NotOld ∧ Entries)

/-- O16. The effective anti-rollback counter and what it refuses. The effective counter of stage 2 and of the main image is the larger of its
fuse reading and its mirror as SEC.ROLLBACK shows them, and no image whose step is below it passes the checks. -/
def Obligations.EffectiveCounter : Prop :=
  (∀ m : Mach, rollCounter m 1 = max (m.rd R.SEC.ROLLBACK.BED_FUSE) (m.rd R.SEC.ROLLBACK.BED_MIRROR) ∧
    rollCounter m 2 = max (m.rd R.SEC.ROLLBACK.FW_FUSE) (m.rd R.SEC.ROLLBACK.FW_MIRROR)) ∧
  (∀ (f : Fuse) (m : Mach) (kind : Nat) (hdr pay : List Byte), fieldLE hdr 7 1 < rollCounter m kind →
    imgCheck f m kind hdr pay ≠ none)

/-- O17. The lowest-numbered enabled region that contains an address decides. The deciding region of an address is the lowest-numbered of the
32 that is enabled and contains it. Where no region contains it, BED, FW and HOST may read and write it; where one does, its rights for
the principal decide, and NET has none. An access is performed just where every 4 KiB page it touches is granted, and one performed leaves
the block state as it was. -/
def Obligations.FirewallDecides : Prop :=
  (∀ (m : Mach) (a n : Nat), regionOf m a = some n ↔
    n < 32 ∧ m.flag R.SEC.REGION_RIGHTS.ENABLE n = true ∧ regionBase m n ≤ a ∧ a < regionBase m n + regionSize m n ∧
    ∀ k, k < n → ¬(m.flag R.SEC.REGION_RIGHTS.ENABLE k = true ∧ regionBase m k ≤ a ∧ a < regionBase m k + regionSize m k)) ∧
  (∀ (m : Mach) (p : Principal) (a : Nat) (w : Bool), regionOf m a = none → regionGrants m p a w = true) ∧
  (∀ (m : Mach) (a n : Nat) (w : Bool), regionOf m a = some n →
    regionGrants m .bed a w = bit (m.rd R.SEC.REGION_RIGHTS.BED n) (if w then 1 else 0) ∧
    regionGrants m .fw a w = bit (m.rd R.SEC.REGION_RIGHTS.FW n) (if w then 1 else 0) ∧
    regionGrants m .host a w = bit (m.rd R.SEC.REGION_RIGHTS.HOST n) (if w then 1 else 0) ∧
    regionGrants m .net a w = false) ∧
  (∀ (m : Mach) (p : Principal) (ms a n : Nat) (w : Bool), (firewall m p ms a n w).1 = mayAccess m p a n w) ∧
  (∀ (m : Mach) (p : Principal) (ms a n : Nat) (w : Bool), mayAccess m p a n w = true → firewall m p ms a n w = (true, m))

/-- O18. Scene sequence numbers compare in serial arithmetic. For 32-bit sequences s and t, s is later than t just where (s − t) mod 2^32 lies
between 1 and 2^31 − 1; no sequence is later than itself, and of two none is later both ways. -/
def Obligations.SequencesCompareSerially : Prop :=
  ∀ s t : Nat, s < 2 ^ 32 → t < 2 ^ 32 →
    (later s t = true ↔ 1 ≤ ((s : Int) - t) % 2 ^ 32 ∧ ((s : Int) - t) % 2 ^ 32 ≤ 2 ^ 31 - 1) ∧
    later s s = false ∧ ¬(later s t = true ∧ later t s = true)

/-- O19. A wrap carries into a chained counter. Where counter n of PERF wraps and counter n + 1 is chained and enabled, counter n + 1 rises by
1, or wraps to 0 from its greatest value; where it is not chained, it stays; in both cases OVF bit n is set. That ENABLE must be 1 is the
reading of this model (assumption log 65). -/
def Obligations.ChainedCountersCarry : Prop :=
  (∀ (m : Mach) (fuel n : Nat), n < 31 → m.flag R.PERF.CNT_CTRL.CHAIN (n + 1) = true → m.flag R.PERF.CNT_CTRL.ENABLE (n + 1) = true →
    perfValue m (n + 1) < 2 ^ 48 →
    perfValue (perfCarry m (fuel + 1) n) (n + 1) = (perfValue m (n + 1) + 1) % 2 ^ 48) ∧
  (∀ (m : Mach) (fuel n : Nat), n < 31 → m.flag R.PERF.CNT_CTRL.CHAIN (n + 1) = false →
    perfValue (perfCarry m (fuel + 1) n) (n + 1) = perfValue m (n + 1)) ∧
  (∀ (m : Mach) (fuel n : Nat), n < 32 → bit ((perfCarry m (fuel + 1) n).rd R.PERF.OVF.OVF) n = true)

/-- O20. The band sample budget. For every timing entry and every count e of active engines, the budget is 0.9 × e × 12 samples × 1.6 GHz ×
the time of 64 lines, rounded down to whole samples (the rounding is the reading of this model, assumption log 66); at T00 with 32 engines
the capacity is 614.4 G samples/s and the budget 33,512,727 samples. -/
def Obligations.BandBudget : Prop :=
  (∀ n e : Nat, n < 24 →
    (tentry n).budget e * (10 * (tentry n).lines * (tentry n).num) ≤ 9 * e * 12 * 1600000000 * (64 * (tentry n).den) ∧
    9 * e * 12 * 1600000000 * (64 * (tentry n).den) < ((tentry n).budget e + 1) * (10 * (tentry n).lines * (tentry n).num)) ∧
  32 * 12 * 1600000000 = 614400000000 ∧ (tentry 0).budget 32 = 33512727

/-- O21. Bucket, ledger, Dripstone and counter commands. -/
def Obligations.BucketLedgerCounterCommands : Prop :=
  -- BKT_SELECT of a unit that exists: BKT_DATA shows its level and state, SNAP_DONE is 1, no other register changes
  (∀ (s : State) (kind unit : Nat),
    s.Runs →
    kind < 16 →
    unit < kindUnits s.m kind →
    ∃ m, exec (.bktSelect kind unit) s = .next (s.after m) ∧
     m.rd R.HLTH.BKT_SEL.SNAP_DONE = 1 ∧
     m.rd R.HLTH.BKT_DATA.LEVEL = bktLevel s.m kind unit % 2 ^ 16 ∧
     m.rd R.HLTH.BKT_DATA.STATE = b2n (isRetired s.m kind unit) ∧
     s.m.SameBut m [R.HLTH.BKT_SEL.KIND.key 0 0, R.HLTH.BKT_SEL.UNIT.key 0 0, R.HLTH.BKT_SEL.SNAP_DONE.key 0 0, R.HLTH.BKT_DATA.LEVEL.key 0 0, R.HLTH.BKT_DATA.STATE.key 0 0]) ∧
  -- SUMP_SELECT below 4,096: INDEX, SNAP_DONE and the eight words of the entry, nothing else changes
  (∀ (s : State) (index : Nat),
    s.Runs →
    index < 4096 →
    ∃ m, exec (.sumpSelect index) s = .next (s.after m) ∧
     m.rd R.HLTH.SUMP_SEL.INDEX = index ∧
     m.rd R.HLTH.SUMP_SEL.SNAP_DONE = 1 ∧
     (∀ i < 8, m.rd R.HLTH.SUMP_DATA.DATA i = fieldLE ((sumpNumber s.m index).elim [] SumpE.bytes) (4 * i) 4 % 2 ^ 32) ∧
     s.m.SameBut m (R.HLTH.SUMP_SEL.INDEX.key 0 0 :: R.HLTH.SUMP_SEL.SNAP_DONE.key 0 0 :: (List.range 8).map (fun i => R.HLTH.SUMP_DATA.DATA.key i 0)) ∧
     { m with regs := s.m.regs } = s.m.fresh) ∧
  -- SUMP_COALESCE_CLOSE with allowance left: the window closes, the entry is persisted, the allowance falls by 1
  (∀ (s : State) (seq i : Nat) (e : SumpE),
    s.Runs →
    s.m.hl.sump.findIdx? (fun e => e.seq == seq && e.window) = some i →
    s.m.hl.sump[i]? = some e →
    s.m.hl.allowance ≠ 0 →
    exec (.sumpCoalesceClose seq) s = .next (s.after (
     sumpPersist { s.m.fresh with hl := { s.m.hl with sump := setAt s.m.hl.sump i { e with window := false }, allowance := s.m.hl.allowance - 1 } } { e with window := false }))) ∧
  -- with none left: the window closes and flag 6 is set instead
  (∀ (s : State) (seq i : Nat) (e : SumpE),
    s.Runs →
    s.m.hl.sump.findIdx? (fun e => e.seq == seq && e.window) = some i →
    s.m.hl.sump[i]? = some e →
    s.m.hl.allowance = 0 →
    exec (.sumpCoalesceClose seq) s = .next (s.after (
     { s.m.fresh with hl := { s.m.hl with sump := setAt s.m.hl.sump i { e with window := false, flags := setBit e.flags 6 } } }))) ∧
  -- PERSIST_ALLOWANCE_REFILL at a rate above 0: the allowance rises by 1, to at most 64
  (∀ (s : State),
    s.Runs →
    s.m.dv D.sump_persist_rate ≠ 0 →
    exec (.persistAllowanceRefill) s = .next (s.after (
     { s.m.fresh with hl := { s.m.hl with allowance := Nat.min 64 (s.m.hl.allowance + 1) } }))) ∧
  -- BUCKET_LEAK: the level of a unit in service falls by 1, only levels change
  (∀ (s : State) (kind unit : Nat),
    s.Runs →
    unit < kindUnits s.m kind →
    isRetired s.m kind unit = false →
    0 < bktLevel s.m kind unit →
    ∃ m, exec (.bucketLeak kind) s = .next (s.after m) ∧
     bktLevel m kind unit + 1 = bktLevel s.m kind unit ∧
     { m with hl := { m.hl with level := s.m.hl.level } } = s.m.fresh) ∧
  -- UNIT_RESTORE of a retired unit without a record: it is in service again, answer DICT_OK
  (∀ (s : State) (kind unit : Nat),
    s.Runs →
    10 ≤ kind →
    kind ≤ 13 →
    isRetired s.m kind unit = true →
    exec (.unitRestore kind unit) s = .next (s.after (
     (unitRestored { s.m.fresh with hl := { s.m.hl with retired := SMap.put 0 s.m.hl.retired (bktKey kind unit) 0 } } kind unit).emit (.dict DICT_OK [])))) ∧
  -- of one with a RETIRE record: that is rewritten too
  (∀ (s : State) (kind unit : Nat),
    s.Runs →
    kind = 1 ∨ kind = 2 ∨ kind = 3 ∨ kind = 6 →
    isRetired s.m kind unit = true →
    exec (.unitRestore kind unit) s = .next (s.after (
     (unitRestored (retireRecord s.m.fresh kind unit 0 UNIT_RESTORED) kind unit).emit (.dict DICT_OK [])))) ∧
  -- DRIP_PASS_START of a running target: the pass begins and asks for scrub tokens
  (∀ (s : State) (target : Nat),
    s.Runs →
    target < 3 →
    (dripRec s.m target).inPass = false →
    dripRuns s.m target = true →
    exec (.dripPassStart target) s = .next (s.after (
     dripRefresh (chimRequest (dripMod s.m.fresh target (fun d => { d with inPass := true, elapsed := false })) C_SCRUB target (s.m.dv D.scrub_tokens))))) ∧
  -- while the pass before still runs: DRIP_LATE
  (∀ (s : State) (target : Nat),
    s.Runs →
    target < 3 →
    (dripRec s.m target).inPass = true →
    exec (.dripPassStart target) s = .next (s.after (
     dripMod ((dripCode (dripCount s.m.fresh 6) DRIP_LATE).ev E.HLTH.DRIP_LATE) target (fun d => { d with elapsed := true })))) ∧
  -- DRIP_STEP of the NOR target with its grant: one step, no DRAM write
  (∀ (s : State) (target : Nat) (errs : List (Nat × Nat × Nat)),
    s.Runs →
    target = 2 →
    (dripRec s.m target).inPass = true →
    dripRuns s.m target = true →
    hasGrant s.m C_SCRUB target = true →
    exec (.dripStep target errs) s = .next (s.afterW
     (dripNor s.m.fresh ((errs.map (fun e => e.2.2)).headD 0)) [])) ∧
  -- DRIP_DRAIN: ENABLE 0, state stopped, DRIP_DRAINED, grants returned
  (∀ (s : State),
    s.Runs →
    s.m.rd R.HLTH.DRIP_STATUS.STATE = 1 →
    exec (.dripDrain false) s = .next (s.after (
     dripRefresh (((dripCode ((s.m.fresh.wr R.HLTH.DRIP_CTRL.ENABLE 0).wr R.HLTH.DRIP_STATUS.STATE 3) DRIP_DRAINED).ev E.HLTH.DRIP_DRAINED).each (List.range 3) (fun m t => chimRelease m C_SCRUB t))))) ∧
  -- DRIP_FORCE_STOP: disabled, stopped, grants returned, ABORTED_BY_DISABLE, or ABORT_LATE where late
  (∀ (s : State) (late : Bool),
    s.Runs →
    exec (.dripForceStop late) s = .next (s.after (
     dripRefresh (dripCode (((s.m.fresh.wr R.HLTH.DRIP_CTRL.ENABLE 0).wr R.HLTH.DRIP_STATUS.STATE 3).each (List.range 3) (fun m t => chimRelease m C_SCRUB t)) (if late then ABORT_LATE else ABORTED_BY_DISABLE))))) ∧
  -- PERF_RESET_ALL: all 32 counters read 0, nothing else changes
  (∀ (s : State),
    s.Runs →
    ∃ m, exec (.perfResetAll) s = .next (s.after m) ∧
     (∀ n < 32, perfValue m n = 0) ∧
     (∀ (r : Row) (i j : Nat), (∀ n < 32, r.key i j ≠ R.PERF.CNT_VALUE_LO.VALUE.key n 0 ∧ r.key i j ≠ R.PERF.CNT_VALUE_HI.VALUE.key n 0) → m.rd r i j = s.m.rd r i j) ∧
     { m with regs := s.m.regs } = s.m.fresh) ∧
  -- COUNTER_INCREMENT of a health event: what its crossing gathered is counted
  (∀ (s : State) (event amount gathered : Nat) (lost : Bool),
    s.Runs →
    SMap.get 0 s.m.hl.pulse event = gathered →
    gathered ≠ 0 →
    SMap.get 0 s.m.hl.pulseOv event ≠ 1 →
    exec (.counterIncrement false event amount lost) s = .next (s.after (
     healthCount { s.m.fresh with hl := { s.m.fresh.hl with pulse := SMap.del s.m.fresh.hl.pulse event, pulseOv := SMap.del s.m.fresh.hl.pulseOv event } } event gathered))) ∧
  -- and an overflow is marked lost
  (∀ (s : State) (event amount : Nat) (lost : Bool),
    s.Runs →
    SMap.get 0 s.m.hl.pulse event = 0 →
    SMap.get 0 s.m.hl.pulseOv event = 1 →
    exec (.counterIncrement false event amount lost) s = .next (s.after (
     healthLost { s.m.fresh with hl := { s.m.fresh.hl with pulse := SMap.del s.m.fresh.hl.pulse event, pulseOv := SMap.del s.m.fresh.hl.pulseOv event } } event))) ∧
  -- of a performance event: every counter that selects it counts
  (∀ (s : State) (event amount : Nat),
    s.Runs →
    exec (.counterIncrement true event amount false) s = .next (s.after (
     perfCount s.m.fresh event amount noAccess)))

/-- O22. Lantern commands. -/
def Obligations.LanternCommands : Prop :=
  -- RTC_SECOND_LOAD with time locked: the seconds of the time in force are loaded
  (∀ (s : State),
    s.Runs →
    timeState s.m = T_LOCKED →
    exec (.rtcSecondLoad) s = .next (s.after (
     rtcLoad s.m.fresh ((nowNs s.m.fresh / 1000000000).toNat % 2 ^ 48) ((nowNs s.m.fresh / 1000000000).toNat % 2 ^ 48 == s.m.rtc + 1)))) ∧
  -- LANT_WAKE_PIN: the clock runs on, then wake source 1 fires
  (∀ (s : State) (secs : Nat),
    exec (.lantWakePin secs) s = .next (s.after (
     wakeFire (runSecs s.m.fresh secs) 1))) ∧
  -- RTC_ALARM ahead of the clock: the clock stands at the alarm, which fires
  (∀ (s : State),
    s.m.rtc < alarmAt s.m →
    exec (.rtcAlarm) s = .next (s.after (
     rtcLoad s.m.fresh (alarmAt s.m.fresh) true))) ∧
  -- SUPPLY_WAKE with the core rails off: wake source 3 fires
  (∀ (s : State) (secs : Nat),
    (runSecs s.m.fresh secs).flag R.LANT.STATUS.PWREN_CORE = false →
    exec (.supplyWake secs) s = .next (s.after (
     wakeFire (runSecs s.m.fresh secs) 3))) ∧
  -- OFF_DELAY_EXPIRY in M0: the power outputs follow CORE_OFF and DRAM_OFF
  (∀ (s : State),
    s.m.mode = 0 →
    s.m.lant.power = 1 →
    exec (.offDelayExpiry) s = .next (s.after (
     pwren { s.m.fresh with lant := { s.m.lant with power := 2 } } (!s.m.flag R.LANT.PWR_CTRL.CORE_OFF) (!(s.m.flag R.LANT.PWR_CTRL.DRAM_OFF && s.m.dv D.hibernate_dram == 0))))) ∧
  -- SUPPLY_VALID while waiting for the supplies: the wait ends
  (∀ (s : State),
    s.m.lant.power = 3 →
    exec (.supplyValid) s = .next (s.after (
     { s.m.fresh with lant := { s.m.lant with power := 0 } }))) ∧
  -- WAKE_TIMEOUT while waiting: outputs off, FAILS counts, WAKE_TIMEOUT
  (∀ (s : State),
    s.m.lant.power = 3 →
    exec (.wakeTimeout) s = .next (s.after (
     (lantCode ((pwren { s.m.fresh with lant := { s.m.lant with power := 4 } } false false).addSat R.LANT.WAKE.FAILS 1) WAKE_TIMEOUT).ev E.LANT.WAKE_TIMEOUT))) ∧
  -- WAKE_RETRY: outputs on, waiting again
  (∀ (s : State),
    s.m.lant.power = 4 →
    exec (.wakeRetry) s = .next (s.after (
     pwren { s.m.fresh with lant := { s.m.lant with power := 3 } } true true))) ∧
  -- LABEL_UPDATE accepted with image, table and mode in order: the drive begins, answer DICT_OK
  (∀ (s : State) (kind : Nat),
    s.Runs →
    kind ≤ 2 →
    labelMode s.m.mode = true →
    s.m.flag R.LANT.LABEL_CTRL.ENABLE = true →
    s.m.lant.run = none →
    s.m.lant.recover = false →
    s.m.lant.targetOk = true →
    imageValid s.m s.m.lant.target = true →
    tableValid (waveTable s.m (bandOf s.m (labelTemp s.m))) = true →
    exec (.labelUpdate kind) s = .next (s.after (
     (labelBegin s.m.fresh (if s.m.flag R.LANT.LABEL_STATUS.FORCE_FULL then 2 else kind) s.m.lant.target false).emit (.dict DICT_OK [])))) ∧
  -- LABEL_RECOVERY in M4 or M5 with no valid target: image 0 by full update
  (∀ (s : State),
    s.Runs →
    s.m.lant.recover = true →
    s.m.mode = 4 ∨ s.m.mode = 5 →
    s.m.lant.run = none →
    s.m.flag R.LANT.LABEL_CTRL.ENABLE = true →
    s.m.lant.targetOk = false →
    exec (.labelRecovery) s = .next (s.after (
     labelBegin s.m.fresh 3 (imageOf s.m.fresh 0) true))) ∧
  -- LABEL_WAVEFORM_START with the driver ready: state 2, the start goes out
  (∀ (s : State) (r : LRun),
    s.m.lant.run = some r →
    r.ok = true →
    s.m.lant.leave = false →
    s.m.rd R.LANT.LABEL_STATUS.STATE = 1 →
    s.m.flag R.LANT.LABEL_CTRL.ENABLE = true →
    exec (.labelWaveformStart) s = .next (s.after (
     (s.m.fresh.wr R.LANT.LABEL_STATUS.STATE 2).emit (.label 1 [])))) ∧
  -- LABEL_FRAME: one phase's drive goes out and PHASE shows it
  (∀ (s : State) (r : LRun),
    s.m.lant.run = some r →
    s.m.lant.leave = false →
    s.m.lant.stop = false →
    labelDrives s.m = true →
    r.sent = false →
    s.m.mode = 1 →
    exec (.labelFrame) s = .next (s.after (
     { (s.m.fresh.emit (.label 0x10 ((r.phase + r.half * r.phases) :: r.band :: r.frame :: driveData s.m.fresh r))).wr R.LANT.LABEL_STATUS.PHASE (r.phase + r.half * r.phases) with lant := { s.m.lant with run := some { r.next with slip := r.slip } } }))) ∧
  -- LABEL_WAVEFORM_END: the run is finished
  (∀ (s : State) (r : LRun),
    s.m.lant.run = some r →
    labelDrives s.m = true →
    r.sent = true →
    s.m.lant.leave = false →
    s.m.lant.stop = false →
    exec (.labelWaveformEnd) s = .next (s.after (
     labelFinish s.m.fresh r))) ∧
  -- LABEL_TEMP_MEASURE from the panel sensor: TEMP, TEMP_FAULT 0
  (∀ (s : State) (t : Int),
    s.m.lant.run = none →
    s.m.dv D.label_temp_source = 0 →
    exec (.labelTempMeasure t false) s = .next (s.after (
     (s.m.fresh.wr R.LANT.LABEL_STATUS.TEMP_FAULT 0).wr R.LANT.LABEL_TEMP.TEMP (uNat 16 (clampI t (-32768) 32767))))) ∧
  -- LABEL_DRAIN while a run goes on: ENABLE 0, draining
  (∀ (s : State) (r : LRun),
    s.Runs →
    s.m.lant.run = some r →
    r.ok = true →
    exec (.labelDrain false) s = .next (s.after (
     (s.m.fresh.wr R.LANT.LABEL_CTRL.ENABLE 0).wr R.LANT.LABEL_STATUS.STATE 3))) ∧
  -- LABEL_FORCE_STOP before the last phase: ENABLE 0, FORCE_FULL 1, stopping
  (∀ (s : State) (late : Bool) (r : LRun),
    s.Runs →
    s.m.lant.run = some r →
    labelDrives s.m = true →
    r.sent = false →
    exec (.labelForceStop late) s = .next (s.after (
     { ((s.m.fresh.wr R.LANT.LABEL_CTRL.ENABLE 0).wr R.LANT.LABEL_STATUS.FORCE_FULL 1).wr R.LANT.LABEL_STATUS.STATE 3 with lant := { s.m.lant with stop := true } }))) ∧
  -- GLOW_LOAD_DONE in M5 to M9: the 2 MiB glow buffer is the DRAM copy
  (∀ (s : State),
    s.Runs →
    s.m.lant.load = true →
    5 ≤ s.m.mode →
    s.m.mode ≤ 9 →
    exec (.glowLoadDone) s = .next (s.after (
     { s.m.fresh with lant := { s.m.lant with load := false, copy := some ((s.mem.filter (fun e => decide (glowBase s.m.fresh ≤ e.1) && decide (e.1 < glowBase s.m.fresh + 0x200000))).map (fun e => (e.1 - glowBase s.m.fresh, e.2))) } })))

/-- O23. Mode and supply commands. -/
def Obligations.ModeCommands : Prop :=
  -- MODE_REQUEST from M5 for M4: due at a tick, MODE_PENDING, SEQ counts
  (∀ (s : State) (p : Principal) (entry : Nat),
    s.Runs →
    s.m.rd R.SYS.MODE_STATUS.CURRENT = 5 →
    s.m.rd R.SYS.MODE_STATUS.IN_TRANSITION = 0 →
    entry < 24 →
    exec (.modeRequest p 4 entry) s = .next (s.after (
     (schedule (((s.m.fresh.add R.SYS.MODE_RESULT.SEQ 1).wr R.SYS.MODE_REQ.MODE 4).wr R.SYS.MODE_REQ.ENTRY entry) ⟨4, entry, CAUSE_REQUEST, true, tickWait s.m.fresh⟩).wr R.SYS.MODE_RESULT.STATUS MODE_PENDING))) ∧
  -- from M4 for M5: the immediate transition starts, MODE_PENDING
  (∀ (s : State) (p : Principal) (entry : Nat),
    s.Runs →
    s.m.rd R.SYS.MODE_STATUS.CURRENT = 4 →
    s.m.rd R.SYS.MODE_STATUS.IN_TRANSITION = 0 →
    s.m.mc.due = none →
    entry < 24 →
    exec (.modeRequest p 5 entry) s = .next (s.after (
     startImm ((((s.m.fresh.add R.SYS.MODE_RESULT.SEQ 1).wr R.SYS.MODE_REQ.MODE 5).wr R.SYS.MODE_REQ.ENTRY entry).wr R.SYS.MODE_RESULT.STATUS MODE_PENDING) 5 entry CAUSE_REQUEST true))) ∧
  -- from M4 for M9: MODE_BAD_TRANSITION
  (∀ (s : State) (p : Principal) (entry : Nat),
    s.Runs →
    s.m.rd R.SYS.MODE_STATUS.CURRENT = 4 →
    s.m.rd R.SYS.MODE_STATUS.IN_TRANSITION = 0 →
    entry < 24 →
    exec (.modeRequest p 9 entry) s = .next (s.after (
     answerMode (((s.m.fresh.add R.SYS.MODE_RESULT.SEQ 1).wr R.SYS.MODE_REQ.MODE 9).wr R.SYS.MODE_REQ.ENTRY entry) MODE_BAD_TRANSITION))) ∧
  -- MODE_TRANSITION_COMPLETE without training: the target mode is in force, MODE_DONE
  (∀ (s : State) (t : Imm),
    s.Runs →
    s.m.mc.imm = some t →
    t.train = false →
    t.target ≠ 0 →
    t.target ≠ 3 →
    t.start ≠ 3 →
    exec (.modeTransitionComplete) s = .next (s.afterW (
     hostRelease s.m.fresh (endImm s.m.fresh t t.target MODE_DONE)) (
     []))) ∧
  -- into M0: CORE goes off
  (∀ (s : State) (t : Imm),
    s.Runs →
    s.m.mc.imm = some t →
    t.train = false →
    t.target = 0 →
    exec (.modeTransitionComplete) s = .next (s.afterW (
     intoM0 s.m.fresh t) (
     []))) ∧
  -- THERMAL_AUTO_RESUME with every condition of R48 met: M4 to M5 starts
  (∀ (s : State) (q e : Nat),
    s.Runs →
    s.m.mc.left = some (q, e) →
    s.m.mode = 4 →
    s.m.rd R.SYS.MODE_STATUS.CAUSE = CAUSE_TRIP →
    s.m.mc.imm = none →
    s.m.dv D.thermal_auto_resume = 1 →
    sInt 16 (s.m.rd R.THRM.STATUS.MAX_TEMP) < 2000 →
    (s.m.mc.trips.filter (fun t => decide (s.m.rtc < t + 3600))).length < 3 →
    exec (.thermalAutoResume) s = .next (s.after (
     startImm s.m.fresh 5 e CAUSE_RESUME false))) ∧
  -- DATAPATH_FAILURE in M5 to M9: ledger entry, frame abort, forced M4
  (∀ (s : State),
    s.Runs →
    5 ≤ s.m.mode →
    s.m.mode ≤ 9 →
    exec (.datapathFailure) s = .next (s.after (
     forceImm (frameAbort (sumpSystem s.m.fresh 493 0 0 true) ABORT_DATAPATH) 4 CAUSE_DATAPATH))) ∧
  -- PFW_N_FALL: as pfwFall of the block state
  (∀ (s : State),
    s.m.mc.off = false →
    s.m.mc.pfwLow = false →
    exec .pfwNFall s = .next (s.afterW (pfwFall s.m.fresh).m (pfwFall s.m.fresh).wr)) ∧
  -- PFW_N_RISE: the hold ends, grants resume at the next tick
  (∀ (s : State),
    s.m.mc.off = false →
    s.m.mc.pfwLow = true →
    exec (.pfwNRise) s = .next (s.after (
     vaultRise { s.m.fresh with mc := { s.m.mc with pfwLow := false, grantHold := true } }))) ∧
  -- CORE_RESET_RELEASE with the supplies valid: boot starts
  (∀ (s : State),
    s.m.mc.off = true →
    s.m.lant.power = 0 →
    exec (.coreResetRelease) s = .next (s.after (
     (bootStart s.fuse s.m.fresh).emits s.m.fresh.out))) ∧
  -- BROWNOUT: CORE is held, cause 2, transitions forgotten, DRAM not kept
  (∀ (s : State),
    s.m.mc.off = false →
    exec (.brownout) s = .next (s.after (
     { s.m.fresh with mc := { s.m.mc with off := true, rstCause := 2, imm := none, due := none }, dr := { s.m.dr with kept := false } }))) ∧
  -- TEST_RESET: nothing but the outputs changes
  (∀ (s : State),
    exec (.testReset) s = .next (s.after (
     s.m.fresh))) ∧
  -- END_OF_BOOT with firmware present and no quarantine: M4 is entered with the directory counted
  (∀ (s : State),
    s.Runs →
    s.m.mode = 3 →
    s.m.mc.imm = none →
    s.m.flag R.SEC.STATE.FW_PRESENT = true →
    s.m.lant.quar = none →
    s.m.dv D.vcp_autorestore = 0 →
    exec (.endOfBoot) s = .next (s.afterW (
     beginImm (s.m.fresh.wr R.DICT.WIN_DIR_COUNT.COUNT (directory s.m.fresh).length) ⟨4, 0, CAUSE_BOOT, 3, false, false, false⟩) (
     []))) ∧
  -- LANT_POWER_ON: registers at reset, CORE held, both power outputs on, DRAM empty, image slots kept
  (∀ (s : State),
    ∃ m, exec .lantPowerOn s = .next { s with m := m, mem := [] } ∧ m.regs = [] ∧ m.mc.off = true ∧
     m.out = [.pin PIN_PWREN_CORE 1, .pin PIN_PWREN_DRAM 1] ∧ m.sec.slots = s.m.sec.slots)

/-- O24. Register commands. -/
def Obligations.RegisterCommands : Prop :=
  -- REGISTER_WRITE of an RW field with another value: it takes it
  (∀ (s : State) (word : Nat),
    s.Runs →
    word < 2 ^ 32 →
    s.m.rd R.GAL.TAP_STRIDE.STRIDE ≠ word →
    exec (.registerWrite .bed 0x1007810 word) s = .next (s.after (
     dmaRefresh (s.m.fresh.wr R.GAL.TAP_STRIDE.STRIDE word)))) ∧
  -- COMMIT_LOGIC_WRITE before the deadline: held for the coming tick
  (∀ (s : State) (word : Nat),
    s.Runs →
    word < 2 ^ 32 →
    s.m.rdNew R.SCAN.FLAT_B.VALUE ≠ word →
    s.m.mc.deadline = false →
    exec (.commitLogicWrite .bed 0x1400068 word) s = .next (s.after (
     { s.m.fresh with held1 := SMap.ins s.m.held1 (R.SCAN.FLAT_B.VALUE.key 0 0) word }))) ∧
  -- at or after it: held for the following tick and reported
  (∀ (s : State) (word : Nat),
    s.Runs →
    word < 2 ^ 32 →
    s.m.rdNew R.SCAN.FLAT_B.VALUE ≠ word →
    s.m.mc.deadline = true →
    SMap.look s.m.held2 (R.SCAN.FLAT_B.VALUE.key 0 0) = none →
    exec (.commitLogicWrite .bed 0x1400068 word) s = .next (s.after (
     deferNote { s.m.fresh with held2 := SMap.ins s.m.held2 (R.SCAN.FLAT_B.VALUE.key 0 0) word }))) ∧
  -- LO_REGISTER_READ of TICK_COUNT_LO: the low word goes out, the high word is latched
  (∀ (s : State) (adv : Nat),
    s.Runs →
    exec (.loRegisterRead .bed 0x100 adv) s = .next (s.after (
     ({ s.m.fresh with latch := SMap.ins s.m.latch 0x104 (regWord s.m.fresh 0x104) }).emit (.read (regWord s.m.fresh 0x100))))) ∧
  -- READ_CLEAR_REGISTER of GOV_SLACK: the value goes out, the field returns to 0xFFFF, no other register changes
  (∀ (s : State),
    s.Runs →
    ∃ m, exec (.readClearRegister .bed 0x800030) s = .next (s.after m) ∧
     m.rd R.HEL.GOV_SLACK.MIN_SLACK_NS = 0xFFFF ∧
     m.out = [.read (regWord s.m 0x800030)] ∧
     s.m.SameBut m [R.HEL.GOV_SLACK.MIN_SLACK_NS.key 0 0])

/-- O25. Dictionary commands at the internal ports. -/
def Obligations.DictionaryPortCommands : Prop :=
  -- DICT_READ at BED's or FW's port passing every check: the value goes out with its read code
  (∀ (s : State) (p : Principal) (ix sb off : Nat) (data : List Byte),
    s.Runs →
    p = .bed ∨ (p = .fw ∧ s.m.sec.cores = true) →
    gate s.m ⟨p, 1, ix, sb, off, data, true, 0, .port p, 2 ^ 24⟩ (findEntry s.m ix sb) false = none →
    ¬(ix = 0x1101 ∧ sb = 1) →
    (foundValue s.fuse s.m.fresh (findEntry s.m.fresh ix sb)).1.length ≤ 2 ^ 24 →
    exec (.dictRead (.port p ix sb off data)) s = .next (s.after (
     (foundValue s.fuse s.m.fresh (findEntry s.m.fresh ix sb)).2.emit (.dict (readCode s.m.fresh (findEntry s.m.fresh ix sb)) (foundValue s.fuse s.m.fresh (findEntry s.m.fresh ix sb)).1)))) ∧
  -- DICT_WRITE passing every check: writeEntry's state, answer DICT_OK
  (∀ (s : State) (p : Principal) (ix sb off : Nat) (data : List Byte) (e : DEntry),
    s.Runs →
    p = .bed ∨ (p = .fw ∧ s.m.sec.cores = true) →
    ix ≠ 0x1101 →
    findEntry s.m ix sb = .entry e →
    gate s.m ⟨p, 2, ix, sb, off, data, true, 0, .port p, 2 ^ 24⟩ (.entry e) true = none →
    (writeEntry s.fuse s.m.fresh p e data).1 = DICT_OK →
    exec (.dictWrite (.port p ix sb off data)) s = .next (s.after (
     (writeEntry s.fuse s.m.fresh p e data).2.emit (.dict DICT_OK [])))) ∧
  -- PSK_WRITE of 0xB200:01 to :04 by BED: the key is taken, DICT_OK
  (∀ (s : State) (sb off : Nat) (data : List Byte) (e : DEntry),
    s.Runs →
    1 ≤ sb →
    sb ≤ 4 →
    findEntry s.m 0xB200 sb = .entry e →
    gate s.m ⟨.bed, 2, 0xB200, sb, off, data, true, 0, .port .bed, 2 ^ 24⟩ (.entry e) true = none →
    (writeEntry s.fuse s.m.fresh .bed e data).1 = DICT_OK →
    exec (.pskWrite (.port .bed 0xB200 sb off data)) s = .next (s.after (
     (writeEntry s.fuse s.m.fresh .bed e data).2.emit (.dict DICT_OK [])))) ∧
  -- READ_BLOCK at an offset inside the value: the bytes from it, at most as many as asked
  (∀ (s : State) (p : Principal) (ix sb off : Nat) (data : List Byte),
    s.Runs →
    p = .bed ∨ (p = .fw ∧ s.m.sec.cores = true) →
    gate s.m ⟨p, 3, ix, sb, off, data, true, 0, .port p, 2 ^ 24⟩ (findEntry s.m ix sb) false = none →
    data.length = 2 →
    fieldLE data 0 2 ≤ 2 ^ 24 →
    off % 4 = 0 →
    off < (foundValue s.fuse s.m.fresh (findEntry s.m.fresh ix sb)).1.length →
    exec (.readBlock (.port p ix sb off data)) s = .next (s.after (
     (foundValue s.fuse s.m.fresh (findEntry s.m.fresh ix sb)).2.emit (.dict (readCode s.m.fresh (findEntry s.m.fresh ix sb)) (slice (foundValue s.fuse s.m.fresh (findEntry s.m.fresh ix sb)).1 off (Nat.min (fieldLE data 0 2) ((foundValue s.fuse s.m.fresh (findEntry s.m.fresh ix sb)).1.length - off))))))) ∧
  -- WRITE_BLOCK of a whole value at offset 0: written, DICT_OK
  (∀ (s : State) (p : Principal) (ix sb : Nat) (data : List Byte) (e : DEntry),
    s.Runs →
    p = .bed ∨ (p = .fw ∧ s.m.sec.cores = true) →
    ix ≠ 0x1101 →
    findEntry s.m ix sb = .entry e →
    gate s.m ⟨p, 4, ix, sb, 0, data, true, 0, .port p, 2 ^ 24⟩ (.entry e) true = none →
    e.ty ≠ .table →
    data.length = e.sz →
    data.length ≤ 16777216 →
    (writeEntry s.fuse s.m.fresh p e data).1 = DICT_OK →
    exec (.writeBlock (.port p ix sb 0 data)) s = .next (s.after (
     (writeEntry s.fuse s.m.fresh p e data).2.emit (.dict DICT_OK [])))) ∧
  -- STORE of a selection: its class P entries the principal may write are handed to the Vault
  (∀ (s : State) (p : Principal) (ix sb off : Nat) (data : List Byte) (es : List DEntry),
    s.Runs →
    p = .bed ∨ (p = .fw ∧ s.m.sec.cores = true) →
    selectEntries s.m ix sb = .inr es →
    selectionShut s.m ⟨p, 5, ix, sb, off, data, true, 0, .port p, 2 ^ 24⟩ = false →
    fwServes s.m = true →
    s.m.dic.store = none →
    exec (.store (.port p ix sb off data)) s = .next (s.after (
     storeCheck (storeFeed { s.m.fresh with dic := { s.m.dic with store := some ⟨joinL ((es.filter (fun e => e.cls == .p && mayWrite e p)).map (fun e => storeRecords e (forceValue s.fuse s.m.fresh e) .store)), 0, .port p⟩ } })))) ∧
  -- RESTORE_DEFAULT of one entry with a default: it takes the default, DICT_OK
  (∀ (s : State) (p : Principal) (ix sb off : Nat) (data : List Byte) (e : DEntry),
    s.Runs →
    p = .bed ∨ (p = .fw ∧ s.m.sec.cores = true) →
    selectEntries s.m ix sb = .inr [e] →
    selectionShut s.m ⟨p, 6, ix, sb, off, data, true, 0, .port p, 2 ^ 24⟩ = false →
    fwServes s.m = true →
    e.cls ≠ .f →
    e.dflt = true →
    mayWrite e p = true →
    writeShut s.m p e = false →
    (writeEntry s.fuse s.m.fresh p e (defaultOf s.fuse s.m.fresh e)).1 ≤ 2 →
    exec (.restoreDefault (.port p ix sb off data)) s = .next (s.after (
     (writeEntry s.fuse s.m.fresh p e (defaultOf s.fuse s.m.fresh e)).2.emit (.dict DICT_OK []))))

/-- O26. Dictionary commands over IDP. -/
def Obligations.DictionaryNetworkCommands : Prop :=
  -- SUBSCRIBE in a session of an entry that may be read: a slot is taken, the reply goes back
  (∀ (s : State) (v6 : Bool) (a pt : Nat) (hdr pay : List Byte) (ss : Sess) (e : DEntry) (n : Nat),
    s.Runs →
    IdpHead hdr pay 7 →
    idpRuns s.m.fresh v6 = true →
    sessOf s.m.fresh (fieldLE hdr 12 2) = some ss →
    fieldLE hdr 12 2 ≠ 0 →
    ss.take (fieldLE hdr 2 2) = .fresh →
    fieldLE hdr 2 2 ≠ 0xFFFF →
    findEntry (s.m.fresh.inSess (fieldLE hdr 12 2) (fieldLE hdr 2 2)) (fieldLE hdr 6 2) (fieldLE hdr 8 1) = .entry e →
    gate (s.m.fresh.inSess (fieldLE hdr 12 2) (fieldLE hdr 2 2)) (idpReq v6 a pt hdr pay true) (.entry e) false = none →
    e.ty ≠ .table →
    pay.length = 6 →
    1 ≤ fieldLE pay 2 2 ∧ fieldLE pay 2 2 ≤ 3600 →
    (foundValue s.fuse (s.m.fresh.inSess (fieldLE hdr 12 2) (fieldLE hdr 2 2)) (.entry e)).1.length ≤ 1008 →
    subSlot (s.m.fresh.inSess (fieldLE hdr 12 2) (fieldLE hdr 2 2)) (.udp v6 a (if fieldLE pay 4 2 = 0 then pt else fieldLE pay 4 2)) (fieldLE hdr 6 2) (fieldLE hdr 8 1) = (none, some n) →
    exec (.subscribe (.idp v6 a pt (hdr ++ pay ++ slice (Config.hmac256 ss.key (splice hdr 9 [0] ++ pay)) 0 16))) s = .next (s.after (
     (setSub (s.m.fresh.inSess (fieldLE hdr 12 2) (fieldLE hdr 2 2)) n (some ⟨.udp v6 a (if fieldLE pay 4 2 = 0 then pt else fieldLE pay 4 2), fieldLE hdr 6 2, fieldLE hdr 8 1, fieldLE pay 0 2, 0, (foundValue s.fuse (s.m.fresh.inSess (fieldLE hdr 12 2) (fieldLE hdr 2 2)) (.entry e)).1, 0⟩)).answer (.udp v6 a pt hdr) (some ss.key) (Machine.Rep.of DICT_OK)))) ∧
  -- SESSION_CLOSE naming its own session: the session goes, the reply goes back
  (∀ (s : State) (v6 : Bool) (a pt : Nat) (hdr pay : List Byte) (ss : Sess),
    s.Runs →
    IdpHead hdr pay 2 →
    idpRuns s.m.fresh v6 = true →
    sessOf s.m.fresh (fieldLE hdr 12 2) = some ss →
    fieldLE hdr 12 2 ≠ 0 →
    ss.take (fieldLE hdr 2 2) = .fresh →
    fieldLE hdr 2 2 ≠ 0xFFFF →
    fieldLE hdr 6 2 = 0x1101 →
    fieldLE hdr 8 1 = 3 →
    gate (s.m.fresh.inSess (fieldLE hdr 12 2) (fieldLE hdr 2 2)) (idpReq v6 a pt hdr pay true) (findEntry (s.m.fresh.inSess (fieldLE hdr 12 2) (fieldLE hdr 2 2)) 0x1101 3) true = none →
    pay.length = 2 →
    fieldLE pay 0 2 = fieldLE hdr 12 2 →
    exec (.sessionClose (.idp v6 a pt (hdr ++ pay ++ slice (Config.hmac256 ss.key (splice hdr 9 [0] ++ pay)) 0 16))) s = .next (s.after (
     (sessDrop (s.m.fresh.inSess (fieldLE hdr 12 2) (fieldLE hdr 2 2)) (fieldLE hdr 12 2)).answer (.udp v6 a pt hdr) (some ss.key) (Machine.Rep.of DICT_OK)))) ∧
  -- SESSION_CHALLENGE_READ: a fresh nonce is held and sent
  (∀ (s : State) (v6 : Bool) (a pt : Nat) (hdr : List Byte),
    s.Runs →
    IdpHead hdr [] 1 →
    idpRuns s.m.fresh v6 = true →
    fieldLE hdr 12 2 = 0 →
    fieldLE hdr 6 2 = 0x1101 →
    fieldLE hdr 8 1 = 1 →
    gate (idpCount s.m.fresh D.idp_rx) (idpReq v6 a pt hdr [] false) (findEntry (idpCount s.m.fresh D.idp_rx) 0x1101 1) false = none →
    exec (.sessionChallengeRead (.idp v6 a pt hdr)) s = .next (s.after (
     (sessChallenge (idpCount s.m.fresh D.idp_rx)).2.answer (.udp v6 a pt hdr) none (sessChallenge (idpCount s.m.fresh D.idp_rx)).1))) ∧
  -- SESSION_OPEN whose proof is right for the key slot: the session opens, the reply goes back
  (∀ (s : State) (v6 : Bool) (a pt : Nat) (hdr : List Byte) (k : Nat) (dev cli : List Byte),
    s.Runs →
    IdpHead hdr (toLE 1 k ++ [0, 0, 0] ++ dev ++ cli ++ slice (Config.hmac256 (Config.hmac256 (pskOf s.m.fresh k) ([0x49, 0x44, 0x50, 0x53] ++ dev ++ cli)) ([0x4F, 0x50, 0x45, 0x4E] ++ dev ++ cli)) 0 16) 2 →
    idpRuns s.m.fresh v6 = true →
    fieldLE hdr 12 2 = 0 →
    fieldLE hdr 6 2 = 0x1101 →
    fieldLE hdr 8 1 = 2 →
    gate (idpCount s.m.fresh D.idp_rx) (idpReq v6 a pt hdr (toLE 1 k ++ [0, 0, 0] ++ dev ++ cli ++ slice (Config.hmac256 (Config.hmac256 (pskOf s.m.fresh k) ([0x49, 0x44, 0x50, 0x53] ++ dev ++ cli)) ([0x4F, 0x50, 0x45, 0x4E] ++ dev ++ cli)) 0 16) false) (findEntry (idpCount s.m.fresh D.idp_rx) 0x1101 2) true = none →
    k < 4 →
    dev.length = 16 →
    cli.length = 16 →
    s.m.fresh.dic.nonces.any (fun n => n.1 == dev && decide (s.m.fresh.rtc < n.2 + 10)) = true →
    fromLE (pskOf s.m.fresh k) ≠ 0 →
    s.m.fresh.dic.sess.length < 8 →
    exec (.sessionOpen (.idp v6 a pt (hdr ++ (toLE 1 k ++ [0, 0, 0] ++ dev ++ cli ++ slice (Config.hmac256 (Config.hmac256 (pskOf s.m.fresh k) ([0x49, 0x44, 0x50, 0x53] ++ dev ++ cli)) ([0x4F, 0x50, 0x45, 0x4E] ++ dev ++ cli)) 0 16)))) s = .next (s.after (
     Mach.answer { (sessNumber { (idpCount s.m.fresh D.idp_rx) with dic := { s.m.dic with nonces := s.m.dic.nonces.filter (fun n => n.1 != dev) } }).2 with dic := { (sessNumber { (idpCount s.m.fresh D.idp_rx) with dic := { s.m.dic with nonces := s.m.dic.nonces.filter (fun n => n.1 != dev) } }).2.dic with sess := (sessNumber { (idpCount s.m.fresh D.idp_rx) with dic := { s.m.dic with nonces := s.m.dic.nonces.filter (fun n => n.1 != dev) } }).2.dic.sess ++ [⟨(sessNumber { (idpCount s.m.fresh D.idp_rx) with dic := { s.m.dic with nonces := s.m.dic.nonces.filter (fun n => n.1 != dev) } }).1, k, (Config.hmac256 (pskOf s.m.fresh k) ([0x49, 0x44, 0x50, 0x53] ++ dev ++ cli)), none, [], [], none⟩] } } (.udp v6 a pt hdr) none ⟨DICT_OK, toLE 2 (sessNumber { (idpCount s.m.fresh D.idp_rx) with dic := { s.m.dic with nonces := s.m.dic.nonces.filter (fun n => n.1 != dev) } }).1⟩))) ∧
  -- IDP_V1_REQUEST reading with idp_v1_enable 1: a version-1 reply goes back
  (∀ (s : State) (v6 : Bool) (a pt : Nat) (b : List Byte),
    s.Runs →
    idpRuns s.m.fresh v6 = true →
    fieldLE b 0 1 = 1 →
    fieldLE b 1 1 = 1 →
    12 ≤ b.length →
    b.length = 12 + fieldLE b 8 2 →
    fieldLE b 10 2 = 0 →
    (idpCount s.m.fresh D.idp_rx).dv D.idp_v1_enable = 1 →
    gate (idpCount s.m.fresh D.idp_rx) ⟨.net, 1, fieldLE b 4 2, fieldLE b 6 1, 0, [], false, 0, .udp v6 a pt (slice b 0 12), 1024⟩ (findEntry (idpCount s.m.fresh D.idp_rx) (fieldLE b 4 2) (fieldLE b 6 1)) false = none →
    ¬(fieldLE b 4 2 = 0x1101 ∧ fieldLE b 6 1 = 1) →
    (foundValue s.fuse (idpCount s.m.fresh D.idp_rx) (findEntry (idpCount s.m.fresh D.idp_rx) (fieldLE b 4 2) (fieldLE b 6 1))).1.length ≤ 1024 →
    exec (.idpV1Request (.idp v6 a pt b)) s = .next (s.after (
     (foundValue s.fuse (idpCount s.m.fresh D.idp_rx) (findEntry (idpCount s.m.fresh D.idp_rx) (fieldLE b 4 2) (fieldLE b 6 1))).2.answer (.udp v6 a pt (slice b 0 12)) none ⟨readCode (idpCount s.m.fresh D.idp_rx) (findEntry (idpCount s.m.fresh D.idp_rx) (fieldLE b 4 2) (fieldLE b 6 1)), (foundValue s.fuse (idpCount s.m.fresh D.idp_rx) (findEntry (idpCount s.m.fresh D.idp_rx) (fieldLE b 4 2) (fieldLE b 6 1))).1⟩)))

/-- O27. Dictionary times that run out, dictionary traffic over Passage, and SPARE_SWAP. -/
def Obligations.DictionaryServiceCommands : Prop :=
  -- SESSION_IDLE_TIMEOUT: that session is closed, the others stay
  (∀ (s : State) (num : Nat),
    s.Runs →
    exec (.sessionIdleTimeout num) s = .next (s.after (
     { s.m.fresh with dic := { s.m.dic with sess := s.m.dic.sess.filter (fun s => s.num != num) } }))) ∧
  -- BLOCK_STAGE_TIMEOUT of a session: what it staged is dropped
  (∀ (s : State) (n : Nat),
    s.Runs →
    exec (.blockStageTimeout true n) s = .next (s.after (
     { s.m.fresh with dic := { s.m.dic with sess := s.m.dic.sess.map (fun s => if s.num == n then { s with stage := none } else s) } }))) ∧
  -- of a BAR2 slot: what it staged is dropped
  (∀ (s : State) (n : Nat),
    s.Runs →
    exec (.blockStageTimeout false n) s = .next (s.after (
     { s.m.fresh with dic := { s.m.dic with slots := modAt s.m.dic.slots n (fun d => { d with stage := none }) } }))) ∧
  -- SUBSCRIPTION_LEASE_EXPIRY: the slot is free
  (∀ (s : State) (n : Nat),
    s.Runs →
    exec (.subscriptionLeaseExpiry n) s = .next (s.after (
     { s.m.fresh with dic := { s.m.dic with subs := setAt s.m.dic.subs n none } }))) ∧
  -- REMOTE_REQUEST_TIMEOUT of a waiting tag: DICT_NODE_TIMEOUT goes back, the tag is free
  (∀ (s : State) (tag : Nat) (r : Remote),
    s.Runs →
    s.m.dic.remote.find? (fun r => r.tag == tag) = some r →
    exec (.remoteRequestTimeout tag) s = .next (s.after (
     Mach.answer { s.m.fresh with dic := { s.m.dic with remote := s.m.dic.remote.filter (fun q => q.tag != tag) } } r.org (originKey s.m.fresh r.org) (Machine.Rep.of DICT_NODE_TIMEOUT)))) ∧
  -- DICT_REQ of a neighbour, a write addressed here: served as NET's request, the reply returns to its source
  (∀ (s : State) (n : Nat) (p : Packet),
    s.Runs →
    n < 4 →
    linkUp s.m n = true →
    s.m.flag R.PASS.LINK_STATUS.MISWIRED n = false →
    p.lseq = (linkRec s.m n).rxSeq →
    forMe s.m p = true →
    p.mcast = false →
    s.m.mode ≠ 0 →
    s.m.mode ≠ 3 →
    24 ≤ p.data.length →
    fieldLE p.data 8 1 = 2 →
    exec (.dictReq n true p) s = .next (s.after (
     serveHere s.fuse (s.m.fresh.took n p) ⟨.net, fieldLE (slice p.data 8 16) 1 1, fieldLE (slice p.data 8 16) 6 2, fieldLE (slice p.data 8 16) 8 1, 1024 * fieldLE (slice p.data 8 16) 14 2, slice p.data 24 (fieldLE p.data 18 2), bit (fieldLE p.data 0 1) 0, 0, .fabric (fieldLE p.data 4 2) (fieldLE p.data 6 2) (slice p.data 8 16), 1024⟩ none))) ∧
  -- DICT_REPLY for a waiting tag: it goes back to the requester, the tag is free
  (∀ (s : State) (n : Nat) (p : Packet) (r : Remote),
    s.Runs →
    n < 4 →
    linkUp s.m n = true →
    s.m.flag R.PASS.LINK_STATUS.MISWIRED n = false →
    p.lseq = (linkRec s.m n).rxSeq →
    forMe s.m p = true →
    p.mcast = false →
    s.m.dic.remote.find? (fun r => r.tag == fieldLE p.data 6 2) = some r →
    64 ≤ fieldLE p.data 6 2 →
    exec (.dictReply n true p) s = .next (s.after (
     sendReply { s.m.fresh.took n p with dic := { s.m.dic with remote := s.m.dic.remote.filter (fun q => q.tag != fieldLE p.data 6 2) } } r.org (originKey s.m.fresh r.org) (fieldLE p.data 12 2 % 4096) ⟨fieldLE p.data 17 1, slice p.data 24 (fieldLE p.data 18 2)⟩ 0))) ∧
  -- NOTIFY_RELAY for a remote subscription: the notification goes out, its count rises
  (∀ (s : State) (n : Nat) (p : Packet) (q : Sub) (v6 : Bool) (a pt node : Nat),
    s.Runs →
    n < 4 →
    linkUp s.m n = true →
    s.m.flag R.PASS.LINK_STATUS.MISWIRED n = false →
    p.lseq = (linkRec s.m n).rxSeq →
    forMe s.m p = true →
    p.mcast = false →
    s.m.dic.subs.getD (fieldLE p.data 0 2) none = some q →
    q.to_ = .remote v6 a pt node →
    exec (.notifyRelay n true p) s = .next (s.after (
     (setSub (s.m.fresh.took n p) (fieldLE p.data 0 2) (some { q with count := q.count + 1 })).emit (.udp v6 a pt (notifyBytes q node (p.data.drop 2)))))) ∧
  -- SPARE_SWAP accepted: DICT_PENDING
  (∀ (s : State) (p : Principal) (kind unit : Nat) (e : DEntry),
    s.Runs →
    p = .bed ∨ (p = .fw ∧ s.m.sec.cores = true) →
    findEntry s.m 0xB020 1 = .entry e →
    gate s.m ⟨p, 2, 0xB020, 1, 0, toLE 2 (kind % 256 * 256 + unit % 256), true, 0, .port p, 2 ^ 24⟩ (.entry e) true = none →
    (writeEntry s.fuse s.m.fresh p e (toLE 2 (kind % 256 * 256 + unit % 256))).1 = DICT_PENDING →
    exec (.spareSwap p kind unit) s = .next (s.after (
     (writeEntry s.fuse s.m.fresh p e (toLE 2 (kind % 256 * 256 + unit % 256))).2.emit (.dict DICT_PENDING []))))

/-- O28. Passage fabric commands. -/
def Obligations.FabricCommands : Prop :=
  -- HELLO of the right port: the neighbour is noted
  (∀ (s : State) (n : Nat) (p : Packet),
    s.Runs →
    n < 4 →
    linkUp s.m n = true →
    p.lseq = (linkRec s.m n).rxSeq →
    fieldLE p.data 16 1 = (n + 2) % 4 →
    fieldLE p.data 17 1 < 3 →
    exec (.hello n true p) s = .next (s.after (
     heardLeader { (linkMod (((s.m.fresh.took n p).wr R.PASS.LINK_STATUS.MISWIRED 0 n).wr R.PASS.LINK_STATUS.NEIGHBOUR (fieldLE p.data 18 2 % 4096) n) n (fun l => { l with hello := true })) with fab := { (linkMod (((s.m.fresh.took n p).wr R.PASS.LINK_STATUS.MISWIRED 0 n).wr R.PASS.LINK_STATUS.NEIGHBOUR (fieldLE p.data 18 2 % 4096) n) n (fun l => { l with hello := true })).fab with epochMax := Nat.max s.m.fab.epochMax (fieldLE p.data 22 2) } } (hDie p.data 24) false))) ∧
  -- HELLO of a wrong port: MISWIRED, LINK_MISWIRED
  (∀ (s : State) (n : Nat) (p : Packet),
    s.Runs →
    n < 4 →
    linkUp s.m n = true →
    p.lseq = (linkRec s.m n).rxSeq →
    fieldLE p.data 16 1 ≠ (n + 2) % 4 →
    s.m.flag R.PASS.LINK_STATUS.MISWIRED n = false →
    exec (.hello n true p) s = .next (s.after (
     passCode ((s.m.fresh.took n p).wr R.PASS.LINK_STATUS.MISWIRED 1 n) LINK_MISWIRED))) ∧
  -- HELLO_SEND: one HELLO on each up link
  (∀ (s : State),
    s.Runs →
    exec (.helloSend) s = .next (s.after (
     s.m.fresh.each ((List.range 4).filter (linkUp s.m.fresh)) (fun m n => linkPush m n ⟨2, 0x01, false, 0, (fabAddr m).getD 0xFFF, 0, 255, false, helloData m n⟩)))) ∧
  -- HELLO_TIMEOUT: the link counts as down for routing
  (∀ (s : State) (n : Nat),
    s.Runs →
    exec (.helloTimeout n) s = .next (s.after (
     linkMod s.m.fresh n (fun l => { l with hello := false })))) ∧
  -- ELECT with a lower die_id while electing: it is the candidate and is passed on
  (∀ (s : State) (n : Nat) (p : Packet) (c : Nat),
    s.Runs →
    n < 4 →
    linkUp s.m n = true →
    p.lseq = (linkRec s.m n).rxSeq →
    s.m.flag R.PASS.LINK_STATUS.MISWIRED n = false →
    fabState s.m = FS_ELECTING →
    s.m.fab.cand = some c →
    hDie p.data 0 ≠ 0 →
    hDie p.data 0 < c →
    exec (.elect n true p) s = .next (s.after (
     sendElect { s.m.fresh.took n p with fab := { (s.m.fresh.took n p).fab with epochMax := Nat.max s.m.fab.epochMax (fieldLE p.data 16 2), cand := some (hDie p.data 0) } }))) ∧
  -- ELECTION_SETTLED on another node: ASSIGNING under it
  (∀ (s : State) (c : Nat),
    s.Runs →
    s.m.fab.cand = some c →
    fabState s.m = FS_ELECTING →
    c ≠ dieNum s.m.fresh →
    exec (.electionSettled) s = .next (s.after (
     timeEval { ((leaderTakes s.m.fresh c).wr R.PASS.STATUS.STATE FS_ASSIGNING) with fab := { ((leaderTakes s.m.fresh c).wr R.PASS.STATUS.STATE FS_ASSIGNING).fab with rel := none } }))) ∧
  -- LEADER_CONTACT_LOST of a joined node that does not lead: a new election
  (∀ (s : State),
    s.Runs →
    fabState s.m = FS_JOINED →
    s.m.flag R.PASS.STATUS.IS_LEADER = false →
    exec (.leaderContactLost) s = .next (s.after (
     timeEval (startElection s.m.fresh)))) ∧
  -- COORD_REPORT at the leader: recorded, an offset is assigned
  (∀ (s : State) (n : Nat) (p : Packet),
    s.Runs →
    n < 4 →
    linkUp s.m n = true →
    p.lseq = (linkRec s.m n).rxSeq →
    s.m.flag R.PASS.LINK_STATUS.MISWIRED n = false →
    s.m.flag R.PASS.STATUS.IS_LEADER = true →
    exec (.coordReport n true p) s = .next (s.after (
     timeEval (assignOffset { (s.m.fresh.took n p) with fab := { (s.m.fresh.took n p).fab with reports := (hDie p.data 0, fieldLES p.data 16 1, fieldLES p.data 17 1, fieldLE p.data 18 2) :: (s.m.fresh.took n p).fab.reports.filter (fun q => q.1 != hDie p.data 0) } })))) ∧
  -- elsewhere: on toward the leader, one hop less
  (∀ (s : State) (n : Nat) (p : Packet),
    s.Runs →
    n < 4 →
    linkUp s.m n = true →
    p.lseq = (linkRec s.m n).rxSeq →
    s.m.flag R.PASS.LINK_STATUS.MISWIRED n = false →
    s.m.flag R.PASS.STATUS.IS_LEADER = false →
    1 < p.hops →
    exec (.coordReport n true p) s = .next (s.after (
     routeReport (s.m.fresh.took n p) { p with hops := p.hops - 1 }))) ∧
  -- COORD_OFFSET multicast to a node with a relative place: it takes its address and passes it on
  (∀ (s : State) (n : Nat) (p : Packet) (u v : Int),
    s.Runs →
    n < 4 →
    linkUp s.m n = true →
    s.m.flag R.PASS.LINK_STATUS.MISWIRED n = false →
    p.lseq = (linkRec s.m n).rxSeq →
    p.mcast = true →
    fabAddr s.m = none →
    s.m.flag R.PASS.STATUS.IS_LEADER = false →
    s.m.fab.rel = some (u, v) →
    1 < p.hops →
    exec (.coordOffset n true p) s = .next (s.after (
     timeEval (mcastOn (takeAddress (s.m.fresh.took n p) (u + fieldLES p.data 0 1) (v + fieldLES p.data 1 1) ((fieldLES p.data 1 1).toNat * 64 + (fieldLES p.data 0 1).toNat) (fieldLE p.data 2 1) (fieldLE p.data 3 1) (fieldLE p.data 4 8) (fieldLE p.data 12 2)) { p with hops := p.hops - 1 })))) ∧
  -- LINK_STATE at the leader: the map takes it and is due to be sent
  (∀ (s : State) (n : Nat) (p : Packet),
    s.Runs →
    n < 4 →
    linkUp s.m n = true →
    s.m.flag R.PASS.LINK_STATUS.MISWIRED n = false →
    p.lseq = (linkRec s.m n).rxSeq →
    forMe s.m p = true →
    p.mcast = false →
    s.m.flag R.PASS.STATUS.IS_LEADER = true →
    exec (.linkState n true p) s = .next (s.after (
     { (s.m.fresh.took n p) with fab := { (s.m.fresh.took n p).fab with map := SMap.put 0 s.m.fab.map (fieldLE p.data 0 2 % 4096) (fieldLE p.data 2 1), mapDirty := true } }))) ∧
  -- LINK_STATE_MULTICAST of a changed map: the whole map goes to the mesh
  (∀ (s : State),
    s.Runs →
    s.m.flag R.PASS.STATUS.IS_LEADER = true →
    s.m.fab.mapDirty = true →
    exec (.linkStateMulticast) s = .next (s.after (
     fabSend { s.m.fresh with fab := { s.m.fab with mapDirty := false } } 2 0x05 true (wholeMesh s.m.fresh) ((List.range 4096).map (fun a => BitVec.ofNat 8 (SMap.get 0 s.m.fab.map a)))))) ∧
  -- LINK_ACK up to the next packet: acknowledged packets go, credits return within their bounds, waiting packets flow
  (∀ (s : State) (n next : Nat) (credits : List Nat),
    s.Runs →
    n < 4 →
    linkUp s.m n = true →
    next = (linkRec s.m n).txSeq →
    exec (.linkAck n true next false credits) s = .next (s.after (
     linkFlush (linkMod (linkMod s.m.fresh n (fun l => { l with unacked := (linkRec s.m.fresh n).unacked.dropWhile (fun p => p.lseq != next) })) n (fun l => { l with credits := (List.range 6).map (fun i => Nat.min (l.credits.getD i 0 + credits.getD i 0) (fullCredits.getD i 0)) })) n))) ∧
  -- LINK_RESEND_TIMEOUT: unacknowledged packets are sent again
  (∀ (s : State) (n : Nat),
    s.Runs →
    n < 4 →
    linkUp s.m n = true →
    exec (.linkResendTimeout n) s = .next (s.after (
     linkResend s.m.fresh n))) ∧
  -- PACKET_LENGTH_TIMEOUT: LINK_RETRIES counts, a resend is asked for
  (∀ (s : State) (n : Nat),
    s.Runs →
    n < 4 →
    linkUp s.m n = true →
    exec (.packetLengthTimeout n) s = .next (s.after (
     sendAck (hev (s.m.fresh.add R.PASS.LINK_RETRIES.COUNT 1) 160) n true []))) ∧
  -- LINK_MASK: the partner's mask is held
  (∀ (s : State) (n mask : Nat),
    s.Runs →
    exec (.linkMask n true mask) s = .next (s.after (
     linkMod s.m.fresh n (fun l => { l with partner := mask % 16 })))) ∧
  -- TIME_UNIT outside JOINED: noted and passed on with its delay and a free residence
  (∀ (s : State) (n seq hops stamp adv : Nat),
    s.Runs →
    n < 4 →
    linkUsable s.m n = true →
    fabState (timeOn ((unitNote (advance s.m.fresh adv) n seq hops (stamp + (linkRec (advance s.m.fresh adv) n).delay)).draw (2 ^ 32)).2 (((unitNote (advance s.m.fresh adv) n seq hops (stamp + (linkRec (advance s.m.fresh adv) n).delay)).draw (2 ^ 32)).2.rd R.PASS.LEADER.TIME_ADDR) seq (hops + 1) ((stamp + (linkRec (advance s.m.fresh adv) n).delay) + ((unitNote (advance s.m.fresh adv) n seq hops (stamp + (linkRec (advance s.m.fresh adv) n).delay)).draw (2 ^ 32)).1)) ≠ FS_JOINED →
    exec (.timeUnit n true seq hops stamp adv) s = .next (s.after (
     (timeOn ((unitNote (advance s.m.fresh adv) n seq hops (stamp + (linkRec (advance s.m.fresh adv) n).delay)).draw (2 ^ 32)).2 (((unitNote (advance s.m.fresh adv) n seq hops (stamp + (linkRec (advance s.m.fresh adv) n).delay)).draw (2 ^ 32)).2.rd R.PASS.LEADER.TIME_ADDR) seq (hops + 1) ((stamp + (linkRec (advance s.m.fresh adv) n).delay) + ((unitNote (advance s.m.fresh adv) n seq hops (stamp + (linkRec (advance s.m.fresh adv) n).delay)).draw (2 ^ 32)).1))))) ∧
  -- TIME_UNIT_SEND by the time source: the next time unit goes out
  (∀ (s : State) (adv a : Nat),
    s.Runs →
    fabAddr s.m = some a →
    s.m.flag R.PASS.STATUS.IS_TIME_SOURCE = true →
    exec (.timeUnitSend adv) s = .next (s.after (
     timeOn { advance s.m.fresh adv with fab := { (advance s.m.fresh adv).fab with timeSeq := ((advance s.m.fresh adv).fab.timeSeq + 1) % 256 } } a (((advance s.m.fresh adv).fab.timeSeq + 1) % 256) 0 (uNat 64 (advance s.m.fresh adv).tim.now)))) ∧
  -- LINK_DELAY_MEASURE: half the round trip less the residence, a free half step
  (∀ (s : State) (n round residence : Nat),
    s.Runs →
    n < 4 →
    linkUp s.m n = true →
    exec (.linkDelayMeasure n round residence) s = .next (s.after (
     linkMod (s.m.fresh.divFree ((round : Int) - residence) 2).2 n (fun l => { l with delay := (s.m.fresh.divFree ((round : Int) - residence) 2).1.toNat })))) ∧
  -- FABRIC_MERGE under the lower leader: FABRIC_MERGED
  (∀ (s : State) (c : Nat),
    s.Runs →
    s.m.fab.merge = some c →
    leaderNum s.m ≤ c →
    exec (.fabricMerge) s = .next (s.after (
     timeEval ((passCode { s.m.fresh with fab := { s.m.fab with merge := none } } FABRIC_MERGED).ev E.PASS.MERGED))))

/-- O29. Vein and lane commands. -/
def Obligations.LaneCommands : Prop :=
  -- LANE_LOST of a serving lane not masked, below its bucket's threshold: counted, reported, training asked for its quad
  (∀ (s : State) (n : Nat),
    s.Runs →
    n < 48 →
    laneServ s.m n = true →
    inMask s.m n = false →
    (bucketAdd (hev ((veinEv (laneCode (setLane (laneMod (s.m.fresh.lwr n R.VEIN.LANE_STATUS.REV_LOCK 0) n (fun l => { l with rejoin := true, tap := none, leave := false, target := laneGen (s.m.fresh.lwr n R.VEIN.LANE_STATUS.REV_LOCK 0) n })) n L_LOST) n LANE_LOCK_LOST) n E.VEIN.LANE_LOST).add R.VEIN.LANE_LOSSES.COUNT 1) 128) 4 n 1 LANE_LOCK_LOST 0).1 = false →
    exec (.laneLost n) s = .next (s.after (
     askQuad (laneMod (bucketAdd (hev ((veinEv (laneCode (setLane (laneMod (s.m.fresh.lwr n R.VEIN.LANE_STATUS.REV_LOCK 0) n (fun l => { l with rejoin := true, tap := none, leave := false, target := laneGen (s.m.fresh.lwr n R.VEIN.LANE_STATUS.REV_LOCK 0) n })) n L_LOST) n LANE_LOCK_LOST) n E.VEIN.LANE_LOST).add R.VEIN.LANE_LOSSES.COUNT 1) 128) 4 n 1 LANE_LOCK_LOST 0).2 n (fun l => { l with wait := true, required := false })) n))) ∧
  -- LANE_REVERSE_SILENCE with the receiver powered: the same
  (∀ (s : State) (n : Nat),
    s.Runs →
    n < 48 →
    laneServ s.m n = true →
    inMask s.m n = false →
    (bucketAdd (hev ((veinEv (laneCode (setLane (laneMod (s.m.fresh.lwr n R.VEIN.LANE_STATUS.REV_LOCK 0) n (fun l => { l with rejoin := true, tap := none, leave := false, target := laneGen (s.m.fresh.lwr n R.VEIN.LANE_STATUS.REV_LOCK 0) n })) n L_LOST) n LANE_LOCK_LOST) n E.VEIN.LANE_LOST).add R.VEIN.LANE_LOSSES.COUNT 1) 128) 4 n 1 LANE_LOCK_LOST 0).1 = false →
    s.m.lrd n R.VEIN.LANE_CTRL.RX_PWR = 0 →
    exec (.laneReverseSilence n) s = .next (s.after (
     askQuad (laneMod (bucketAdd (hev ((veinEv (laneCode (setLane (laneMod (s.m.fresh.lwr n R.VEIN.LANE_STATUS.REV_LOCK 0) n (fun l => { l with rejoin := true, tap := none, leave := false, target := laneGen (s.m.fresh.lwr n R.VEIN.LANE_STATUS.REV_LOCK 0) n })) n L_LOST) n LANE_LOCK_LOST) n E.VEIN.LANE_LOST).add R.VEIN.LANE_LOSSES.COUNT 1) 128) 4 n 1 LANE_LOCK_LOST 0).2 n (fun l => { l with wait := true, required := false })) n))) ∧
  -- LANE_NO_SIGNAL while equalising: BLIND, LANE_NO_SIGNAL
  (∀ (s : State) (n : Nat),
    s.Runs →
    n < 48 →
    laneState s.m n = L_EQ →
    s.m.lrd n R.VEIN.LANE_CTRL.RX_PWR = 0 →
    exec (.laneNoSignal n) s = .next (s.after (
     quadDone (laneCode (enterBlind ((laneMod s.m.fresh n (fun l => { l with wait := false, rejoin := true, ended := false, attempts := 0 })).lwr n R.VEIN.LANE_STATUS.REV_LOCK 0) n) n LANE_NO_SIGNAL) (n / 4)))) ∧
  -- BC_STATUS with a right CRC: FWD_LOCK of the quad's lanes follows, a powered lane without lock is lost
  (∀ (s : State) (n locks shown tick subst : Nat),
    s.Runs →
    n < 48 →
    exec (.bcStatus n true locks shown tick subst) s = .next (s.after (
     s.m.fresh.each (quadLanes (n / 4)) (fun m k => if bit locks (k % 4) = false ∧ (m.lwr k R.VEIN.LANE_STATUS.FWD_LOCK (b2n (bit locks (k % 4)))).lrd k R.VEIN.LANE_CTRL.TX_PWR = 0 then laneLost (m.lwr k R.VEIN.LANE_STATUS.FWD_LOCK (b2n (bit locks (k % 4)))) k else m.lwr k R.VEIN.LANE_STATUS.FWD_LOCK (b2n (bit locks (k % 4))))))) ∧
  -- BC_LOCK_LOST: the lanes named lose FWD_LOCK and are lost
  (∀ (s : State) (n lanes : Nat),
    s.Runs →
    n < 48 →
    exec (.bcLockLost n true lanes) s = .next (s.after (
     s.m.fresh.each ((quadLanes (n / 4)).filter (fun k => bit lanes (k % 4))) (fun m k => laneLost (m.lwr k R.VEIN.LANE_STATUS.FWD_LOCK 0) k)))) ∧
  -- BC_TAP_REQ for a preset while equalising: the taps are set and acknowledged
  (∀ (s : State) (n preOp postOp pst : Nat),
    s.Runs →
    n < 64 →
    pst < 8 →
    tapsOk (preset pst).1 (preset pst).2 = true →
    laneState s.m n = L_EQ →
    s.m.lrd n R.VEIN.LANE_STATUS.PENDING = 0 →
    exec (.bcTapReq n true preOp postOp pst) s = .next (s.after (
     tapAck (setTaps s.m.fresh n (preset pst).1 (preset pst).2) n 0))) ∧
  -- for a step while serving, tap_tracking 1: held for the tick and acknowledged
  (∀ (s : State) (n preOp postOp pst u v : Nat),
    s.Runs →
    n < 64 →
    8 ≤ pst →
    tapStep (curCoef s.m n).pre preOp = some u →
    tapStep (curCoef s.m n).post postOp = some v →
    tapsOk u v = true →
    laneState s.m n ≠ L_EQ →
    laneServ s.m n = true →
    s.m.dv D.tap_tracking = 1 →
    exec (.bcTapReq n true preOp postOp pst) s = .next (s.after (
     tapAck (laneMod s.m.fresh n (fun l => { l with tap := some (u, v), tapTick := true })) n 0))) ∧
  -- BC_EYE after equalising: the forward eye figures
  (∀ (s : State) (n w h : Nat),
    s.Runs →
    n < 64 →
    laneState s.m n ≠ L_EQ →
    exec (.bcEye n true w h) s = .next (s.after (
     ((s.m.fresh.lwr n R.VEIN.LANE_EYE_FWD.VALID 1).lwr n R.VEIN.LANE_EYE_FWD.WIDTH_MUI w).lwr n R.VEIN.LANE_EYE_FWD.HEIGHT_MV h))) ∧
  -- BC_LINE_CRC: counted and reported
  (∀ (s : State) (n y tick : Nat),
    s.Runs →
    n < 48 →
    exec (.bcLineCrc n true y tick) s = .next (s.after (
     (hev (s.m.fresh.add R.VEIN.BC_LINE_CRC.COUNT 1) 131).ev E.VEIN.BC_LINE_CRC))) ∧
  -- TRAINING_SET of kind 2 in CHECK: DESKEW
  (∀ (s : State) (n gen pst : Nat),
    s.Runs →
    n < 64 →
    laneState s.m n = L_CHECK →
    lanePaused s.m n = false →
    exec (.trainingSet n 2 gen pst true) s = .next (s.after (
     setLane (s.m.fresh.emit (.lane n 0x42 [0])) n L_DESKEW))) ∧
  -- LANE_EQ_TIMEOUT while equalising: the attempt failed
  (∀ (s : State) (n : Nat),
    s.Runs →
    n < 64 →
    laneState s.m n = L_EQ →
    lanePaused s.m n = false →
    exec (.laneEqTimeout n) s = .next (s.after (
     attemptFailed s.m.fresh n))) ∧
  -- LANE_TRAINED above both eye limits: READY with its figures
  (∀ (s : State) (n w h ctle : Nat),
    s.Runs →
    n < 48 →
    laneState s.m n = L_CHECK →
    lanePaused s.m n = false →
    s.m.lrd n R.VEIN.LANE_EYE_FWD.VALID = 0 →
    s.m.dv D.eye_width_min ≤ w →
    s.m.dv D.eye_height_min ≤ h →
    (laneRec s.m n).fast = false →
    exec (.laneTrained n false w h ctle) s = .next (s.after (
     (laneReady ((((s.m.fresh.lwr n R.VEIN.LANE_EYE_REV.VALID 1).lwr n R.VEIN.LANE_EYE_REV.WIDTH_MUI w).lwr n R.VEIN.LANE_EYE_REV.HEIGHT_MV h).lwr n R.VEIN.LANE_RXEQ.CTLE ctle) n).lwr n R.VEIN.LANE_STATUS.FWD_LOCK 1))) ∧
  -- LANE_GEN_CHANGE: the latched generation is applied
  (∀ (s : State) (n : Nat),
    s.Runs →
    n < 64 →
    exec (.laneGenChange n) s = .next (s.after (
     applyLatchedGen s.m.fresh n))) ∧
  -- RETRAIN of an active Vein lane: it leaves and rejoins
  (∀ (s : State) (n : Nat),
    s.Runs →
    n < 48 →
    laneState s.m n = L_ACTIVE →
    exec (.retrain n) s = .next (s.after (
     laneMod s.m.fresh n (fun l => { l with leave := true, rejoin := true })))) ∧
  -- LANE_RESTORE of a retired lane: in service and BLIND, LANE_RESTORED
  (∀ (s : State) (n : Nat),
    s.Runs →
    n < 64 →
    laneState s.m n = L_RETIRED →
    exec (.laneRestore n) s = .next (s.after (
     laneCode (enterBlind (laneMod (unitRestored (retireRecord { s.m.fresh with hl := { s.m.hl with retired := SMap.put 0 s.m.hl.retired (bktKey 4 n) 0 } } 4 n 0 UNIT_RESTORED) 4 n) n (fun l => { l with rejoin := true, ended := false, attempts := 0, only := 0 })) n) n LANE_RESTORED))) ∧
  -- LANE_LOOP in M10: LOOP with the count at 0
  (∀ (s : State) (n loop : Nat),
    s.Runs →
    n < 48 →
    1 ≤ loop →
    loop ≤ 2 →
    s.m.mode = 10 →
    laneState s.m n ≠ L_RETIRED →
    exec (.laneLoop n loop) s = .next (s.after (
     setLane ((s.m.fresh.lwr n R.VEIN.LANE_CTRL.LOOP loop).lwr n R.VEIN.LANE_PRBS_ERR.COUNT 0) n L_LOOP)))

/-- O30. PTP and trigger commands. -/
def Obligations.TimeCommands : Prop :=
  -- PTP_SYNC of the best sender in two steps: held for its follow-up
  (∀ (s : State) (num sender seq : Nat) (rx cf : Int) (adv d : Nat),
    s.Runs →
    ptpDomain (advance s.m.fresh adv) num = some d →
    (domRec (advance s.m.fresh adv) d).best = some sender →
    exec (.ptpSync num sender seq rx none cf adv) s = .next (s.after (
     domMod (advance s.m.fresh adv) d (fun r => { r with wait := some (seq, rx - corr (advance s.m.fresh adv) R.TIME.RX_LAT.VALUE, cf + corr (advance s.m.fresh adv) R.TIME.ASYM.VALUE) })))) ∧
  -- in one step: taken whole
  (∀ (s : State) (num sender seq : Nat) (rx t1 cf : Int) (adv d : Nat),
    s.Runs →
    ptpDomain (advance s.m.fresh adv) num = some d →
    (domRec (advance s.m.fresh adv) d).best = some sender →
    exec (.ptpSync num sender seq rx (some t1) cf adv) s = .next (s.after (
     syncWhole (advance s.m.fresh adv) d t1 (rx - corr (advance s.m.fresh adv) R.TIME.RX_LAT.VALUE) (cf + corr (advance s.m.fresh adv) R.TIME.ASYM.VALUE)))) ∧
  -- PTP_FOLLOW_UP of the waiting sequence: the sync times are complete
  (∀ (s : State) (num sender seq : Nat) (t1 cf : Int) (d : Nat) (t2 c : Int),
    s.Runs →
    ptpDomain s.m num = some d →
    (domRec s.m d).wait = some (seq, t2, c) →
    (domRec s.m d).best = some sender →
    exec (.ptpFollowUp num sender seq t1 cf) s = .next (s.after (
     domMod s.m.fresh d (fun r => { r with sync := some (t1, t2, c + cf), wait := none })))) ∧
  -- PTP_DELAY_REQ with a best master: sent with the next sequence and its time held
  (∀ (s : State) (d : Nat) (tx : Int) (adv num : Nat),
    s.Runs →
    d < 2 →
    (if d = 0 then (advance s.m.fresh adv).rd R.TIME.DOMAINS.DOMAIN_A else (advance s.m.fresh adv).rd R.TIME.DOMAINS.DOMAIN_B) = num →
    ptpDomain (advance s.m.fresh adv) num = some d →
    (domRec (advance s.m.fresh adv) d).best.isSome = true →
    exec (.ptpDelayReq d tx adv) s = .next (s.after (
     (domMod (advance s.m.fresh adv) d (fun r => { r with seq := (((domRec (advance s.m.fresh adv) d).seq + 1) % 65536), req := some ((((domRec (advance s.m.fresh adv) d).seq + 1) % 65536), tx + corr (advance s.m.fresh adv) R.TIME.TX_LAT.VALUE) })).emit (.ptp num 1 [(((domRec (advance s.m.fresh adv) d).seq + 1) % 65536), uNat 64 (-(corr (advance s.m.fresh adv) R.TIME.ASYM.VALUE))])))) ∧
  -- PTP_DELAY_RESP of the waiting request: a new offset by R425, halves free
  (∀ (s : State) (num sender seq : Nat) (t4 cf : Int) (adv d : Nat) (t1 t2 t3 c : Int),
    s.Runs →
    ptpDomain (advance s.m.fresh adv) num = some d →
    (domRec (advance s.m.fresh adv) d).req = some (seq, t3) →
    (domRec (advance s.m.fresh adv) d).sync = some (t1, t2, c) →
    (domRec (advance s.m.fresh adv) d).best = some sender →
    exec (.ptpDelayResp num sender seq t4 cf adv) s = .next (s.after (
     newOffset ((domMod (advance s.m.fresh adv) d (fun r => { r with req := none })).divFree ((t2 - t3) + (t4 - t1) - c - cf) 2).2 (d + 1) (-(t2 - t1 - ((domMod (advance s.m.fresh adv) d (fun r => { r with req := none })).divFree ((t2 - t3) + (t4 - t1) - c - cf) 2).1 - c))))) ∧
  -- PTP_SIGNALING request for delay responses: granted, and one asked for
  (∀ (s : State) (num dur d : Nat) (logInt : Int),
    s.Runs →
    ptpDomain s.m num = some d →
    exec (.ptpSignaling num 0 0xB logInt dur) s = .next (s.after (
     (s.m.fresh.emit (.ptp num 2 [1, 0xB, uNat 8 logInt, dur])).emit (.ptp num 3 [255])))) ∧
  -- of a grant: held
  (∀ (s : State) (num typ dur d : Nat) (logInt : Int),
    s.Runs →
    ptpDomain s.m num = some d →
    dur ≠ 0 →
    exec (.ptpSignaling num 1 typ logInt dur) s = .next (s.after (
     domMod s.m.fresh d (fun r => { r with grants := (typ, logInt, dur) :: (domRec s.m.fresh d).grants.filter (fun q => q.1 != typ) })))) ∧
  -- PTP_ANNOUNCE_TIMEOUT of the sync stream: the source is out
  (∀ (s : State) (d : Nat),
    s.Runs →
    d < 2 →
    exec (.ptpAnnounceTimeout d false) s = .next (s.after (
     timeEval (setFlag s.m.fresh (d + 1) false)))) ∧
  -- TIME_UNLOCKED while locked: ACQUIRING, TIME_UNLOCKED
  (∀ (s : State),
    s.Runs →
    timeState s.m = T_LOCKED →
    exec (.timeUnlocked) s = .next (s.after (
     timeEval ((timeCode ((setFlag s.m.fresh (timeSource s.m.fresh) false).wr R.TIME.STATUS.STATE T_ACQUIRING) TIME_UNLOCKED).ev E.TIME.UNLOCKED)))) ∧
  -- PTP_ANNOUNCE that changes the best master: it is taken
  (∀ (s : State) (num : Nat) (data : List Nat) (utc : Int) (d : Nat),
    s.Runs →
    ptpDomain s.m num = some d →
    (bestMaster (⟨data, ((((domRec s.m.fresh d).masters.find? (fun q => q.data.getD 7 0 == data.getD 7 0)).map (·.count)).getD 0 + 1)⟩ :: (domRec s.m.fresh d).masters.filter (fun q => q.data.getD 7 0 != data.getD 7 0))).map (fun q => q.data.getD 7 0) ≠ some (data.getD 7 0) →
    exec (.ptpAnnounce num data utc) s = .next (s.after (
     (setBest (domMod s.m.fresh d (fun r => { r with masters := (⟨data, ((((domRec s.m.fresh d).masters.find? (fun q => q.data.getD 7 0 == data.getD 7 0)).map (·.count)).getD 0 + 1)⟩ :: (domRec s.m.fresh d).masters.filter (fun q => q.data.getD 7 0 != data.getD 7 0)) })) d ((bestMaster (⟨data, ((((domRec s.m.fresh d).masters.find? (fun q => q.data.getD 7 0 == data.getD 7 0)).map (·.count)).getD 0 + 1)⟩ :: (domRec s.m.fresh d).masters.filter (fun q => q.data.getD 7 0 != data.getD 7 0))).map (fun q => q.data.getD 7 0)))))) ∧
  -- TRIGGER_ARM with an instant to come: armed, nothing fired
  (∀ (s : State) (n ctrl lo hi period : Nat),
    s.Runs →
    n < 8 →
    trigLeft ((trigMod (trigWrite s.m.fresh n ctrl lo hi period) n (fun _ => ⟨none, none, 0⟩)).wr R.TIME.TRIG_STATUS.ACTIVE (b2n (trigLeft (trigMod (trigWrite s.m.fresh n ctrl lo hi period) n (fun _ => ⟨none, none, 0⟩)) n)) n) n = true →
    trigTicks ((trigMod (trigWrite s.m.fresh n ctrl lo hi period) n (fun _ => ⟨none, none, 0⟩)).wr R.TIME.TRIG_STATUS.ACTIVE (b2n (trigLeft (trigMod (trigWrite s.m.fresh n ctrl lo hi period) n (fun _ => ⟨none, none, 0⟩)) n)) n) n = false →
    ((trigMod (trigWrite s.m.fresh n ctrl lo hi period) n (fun _ => ⟨none, none, 0⟩)).wr R.TIME.TRIG_STATUS.ACTIVE (b2n (trigLeft (trigMod (trigWrite s.m.fresh n ctrl lo hi period) n (fun _ => ⟨none, none, 0⟩)) n)) n).tim.now ≤ trigStart ((trigMod (trigWrite s.m.fresh n ctrl lo hi period) n (fun _ => ⟨none, none, 0⟩)).wr R.TIME.TRIG_STATUS.ACTIVE (b2n (trigLeft (trigMod (trigWrite s.m.fresh n ctrl lo hi period) n (fun _ => ⟨none, none, 0⟩)) n)) n) n * 65536 →
    exec (.triggerArm n ctrl lo hi period) s = .next (s.after (
     trigMod ((trigMod (trigWrite s.m.fresh n ctrl lo hi period) n (fun _ => ⟨none, none, 0⟩)).wr R.TIME.TRIG_STATUS.ACTIVE (b2n (trigLeft (trigMod (trigWrite s.m.fresh n ctrl lo hi period) n (fun _ => ⟨none, none, 0⟩)) n)) n) n (fun t => { t with next := some (trigStart ((trigMod (trigWrite s.m.fresh n ctrl lo hi period) n (fun _ => ⟨none, none, 0⟩)).wr R.TIME.TRIG_STATUS.ACTIVE (b2n (trigLeft (trigMod (trigWrite s.m.fresh n ctrl lo hi period) n (fun _ => ⟨none, none, 0⟩)) n)) n) n) })))) ∧
  -- TRIGGER_FIRE before the next tick: time stands at the instant and what is due fires
  (∀ (s : State) (u : Int),
    s.Runs →
    trigNext s.m = some u →
    u < nextTick s.m →
    s.m.tim.now < u * 65536 →
    exec (.triggerFire) s = .next (s.after (
     trigDue (runTo s.m.fresh (u * 65536)))))

/-- O31. DRAM commands. -/
def Obligations.DramCommands : Prop :=
  -- DRAM_READ in capacity, channel ready, no poison, no error: the bytes of DRAM go out
  (∀ (s : State) (master addr len : Nat),
    s.Runs →
    inCap s.m addr len = true →
    chanReady s.m addr = true →
    poisoned s.m addr len = none →
    exec (.dramRead master addr len 0) s = .next (s.after (
     ((countAccess s.m.fresh master addr len false).each (lineStarts addr len) dramOpen).emit (.dram master false false (Mem.read s.mem addr len))))) ∧
  -- DRAM_WRITE in capacity, channel ready: the bytes are written at the address, POISON follows the data
  (∀ (s : State) (master addr : Nat) (data : List Byte) (bad : Bool),
    s.Runs →
    inCap s.m addr data.length = true →
    chanReady s.m addr = true →
    exec (.dramWrite master addr data bad) s = .next (s.afterW (
     setPoison ((countAccess s.m.fresh master addr data.length true).each (lineStarts addr data.length) dramOpen) addr data.length bad) (
     [(addr, data)]))) ∧
  -- DRAM_REFRESH: the bank's row is closed
  (∀ (s : State) (ch bank : Nat),
    s.Runs →
    exec (.dramRefresh ch bank) s = .next (s.after (
     bankMod s.m.fresh ch bank (fun b => { b with row := none })))) ∧
  -- REFRESH_WINDOW_END: the activation tables are empty
  (∀ (s : State) (ch : Nat),
    s.Runs →
    exec (.refreshWindowEnd ch) s = .next (s.after (
     chanMod s.m.fresh ch (fun c => { c with banks := c.banks.map (fun b => ({ b with table := [] } : DBank)) })))) ∧
  -- DRAM_TEMP_POLL: REFRESH_RATE, TEMP_HIGH 0
  (∀ (s : State) (ch rate : Nat),
    s.Runs →
    (dramChannels s.m).contains ch = true →
    exec (.dramTempPoll ch rate false) s = .next (s.after (
     (s.m.fresh.wr R.DRAM.CH_STATUS.REFRESH_RATE rate ch).wr R.DRAM.CH_STATUS.TEMP_HIGH 0 ch))) ∧
  -- PAGE_IDLE_CLOSE: the row is closed
  (∀ (s : State) (ch bank : Nat),
    s.Runs →
    exec (.pageIdleClose ch bank) s = .next (s.after (
     bankMod s.m.fresh ch bank (fun b => { b with row := none })))) ∧
  -- DRAM_TRACKING above margin_min: a move of at most 2 either way, the margins
  (∀ (s : State) (ch : Nat) (move : Int) (ca rd wr vref : Nat),
    s.Runs →
    chanState s.m ch = 2 →
    s.m.dv D.margin_min ≤ ca →
    s.m.dv D.margin_min ≤ rd →
    s.m.dv D.margin_min ≤ wr →
    s.m.dv D.margin_min ≤ vref →
    exec (.dramTracking ch move ca rd wr vref) s = .next (s.after (
     (setMargins (chanMod s.m.fresh ch (fun c => { c with dq := c.dq + clampI move (-2) 2 })) ch ca rd wr vref)))) ∧
  -- DRAM_RETRAIN: every selected idle channel queues the set point in force
  (∀ (s : State),
    s.Runs →
    trainMode s.m.mode = true →
    exec (.dramRetrain) s = .next (s.after (
     s.m.fresh.each ((dramChannels s.m.fresh).filter (fun c => bit (s.m.rd R.DRAM.CTRL.CH_MASK) c)) (fun m c => if (chanQueue m c).isEmpty then queueTraining m c [m.rd R.DRAM.STATUS.SP] else m)))) ∧
  -- SETPOINT_REQUEST, every channel trained for it: applied
  (∀ (s : State) (sp : Nat),
    s.Runs →
    (dramChannels (s.m.fresh.wr R.DRAM.CTRL.SETPOINT sp)).any (fun c => chanState (s.m.fresh.wr R.DRAM.CTRL.SETPOINT sp) c == 3) = false →
    dramTraining (s.m.fresh.wr R.DRAM.CTRL.SETPOINT sp) = false →
    sp % 4 ≠ (s.m.fresh.wr R.DRAM.CTRL.SETPOINT sp).rd R.DRAM.STATUS.SP →
    (dramChannels (s.m.fresh.wr R.DRAM.CTRL.SETPOINT sp)).all (fun c => chanTrained (s.m.fresh.wr R.DRAM.CTRL.SETPOINT sp) c (sp % 4)) = true →
    exec (.setpointRequest sp) s = .next (s.after (
     applySetpoint (s.m.fresh.wr R.DRAM.CTRL.SETPOINT sp) (sp % 4)))) ∧
  -- SELF_REFRESH_ENTRY in M1 or M2: every channel in self-refresh
  (∀ (s : State),
    s.Runs →
    s.m.mode = 1 ∨ s.m.mode = 2 →
    s.m.mc.imm = none →
    exec (.selfRefreshEntry) s = .next (s.after (
     dramRefresh (chimRelease { (s.m.fresh.each (dramChannels s.m.fresh) (fun m c => m.wr R.DRAM.CH_STATUS.STATE 3 c)) with dr := { (s.m.fresh.each (dramChannels s.m.fresh) (fun m c => m.wr R.DRAM.CH_STATUS.STATE 3 c)).dr with kept := false } } C_TRAIN walkHolder)))) ∧
  -- SELF_REFRESH_EXIT with success: every channel active
  (∀ (s : State),
    s.Runs →
    (dramChannels s.m).any (fun c => chanState s.m c == 3) = true →
    (dramRefresh (s.m.fresh.each (dramChannels s.m.fresh) (fun m c => m.wr R.DRAM.CH_STATUS.STATE 2 c))).dr.walk = none →
    (dramRefresh (s.m.fresh.each (dramChannels s.m.fresh) (fun m c => m.wr R.DRAM.CH_STATUS.STATE 2 c))).flag R.DRAM.STATUS.PENDING = false →
    exec (.selfRefreshExit true) s = .next (s.after (
     (dramRefresh (s.m.fresh.each (dramChannels s.m.fresh) (fun m c => m.wr R.DRAM.CH_STATUS.STATE 2 c)))))) ∧
  -- REMAP_WALK_DONE with its grant: REMAP_DONE
  (∀ (s : State) (left : Nat),
    s.Runs →
    s.m.dr.walk = some left →
    stillGranted s.m C_TRAIN walkHolder = true →
    (dramRefresh (chimRelease ((dramCode (walkReport { s.m.fresh with dr := { s.m.fresh.dr with walk := none, walkOld := 0 } }) REMAP_DONE).ev E.DRAM.REMAP_DONE) C_TRAIN walkHolder)).dr.second = [] →
    exec (.remapWalkDone) s = .next (s.after (
     (dramRefresh (chimRelease ((dramCode (walkReport { s.m.fresh with dr := { s.m.dr with walk := none, walkOld := 0 } }) REMAP_DONE).ev E.DRAM.REMAP_DONE) C_TRAIN walkHolder))))) ∧
  -- LATCHED_SETPOINT_APPLY while training: the change is under way, every channel trains for it
  (∀ (s : State),
    s.Runs →
    s.m.flag R.DRAM.STATUS.PENDING = true →
    dramTraining s.m = true →
    exec (.latchedSetpointApply) s = .next (s.after (
     Mach.each { ((s.m.fresh.wr R.DRAM.STATUS.PENDING 0).wr R.DRAM.STATUS.PEND_SP 0) with dr := { s.m.dr with change := some (s.m.rd R.DRAM.STATUS.PEND_SP, ((s.m.fresh.wr R.DRAM.STATUS.PENDING 0).wr R.DRAM.STATUS.PEND_SP 0).rd R.DRAM.STATUS.SP) } } (dramChannels { ((s.m.fresh.wr R.DRAM.STATUS.PENDING 0).wr R.DRAM.STATUS.PEND_SP 0) with dr := { s.m.dr with change := some (s.m.rd R.DRAM.STATUS.PEND_SP, ((s.m.fresh.wr R.DRAM.STATUS.PENDING 0).wr R.DRAM.STATUS.PEND_SP 0).rd R.DRAM.STATUS.SP) } }) (fun m c => if chanState m c == 1 then chanMod m c (fun q => { q with queue := [s.m.rd R.DRAM.STATUS.PEND_SP], attempt := 1 }) else if chanTrained m c (s.m.rd R.DRAM.STATUS.PEND_SP) then m else queueTraining m c [s.m.rd R.DRAM.STATUS.PEND_SP])))) ∧
  -- DRAM_TRAINING_DONE above margin_min: TRAINED_SP gains the set point, the next training
  (∀ (s : State) (ch ca rd wr vref sp : Nat) (rest : List Nat),
    s.Runs →
    chanQueue s.m ch = sp :: rest →
    chanState s.m ch = 1 →
    s.m.mode = 3 ∨ stillGranted s.m C_TRAIN (chanHolder ch) = true →
    s.m.dv D.margin_min ≤ ca →
    s.m.dv D.margin_min ≤ rd →
    s.m.dv D.margin_min ≤ wr →
    s.m.dv D.margin_min ≤ vref →
    (nextTraining (dramCode ((setMargins s.m.fresh ch ca rd wr vref).wr R.DRAM.CH_STATUS.TRAINED_SP (setBit ((setMargins s.m.fresh ch ca rd wr vref).rd R.DRAM.CH_STATUS.TRAINED_SP ch) sp) ch) DRAM_TRAINED) ch).dr.change = none →
    bootMainDue (nextTraining (dramCode ((setMargins s.m.fresh ch ca rd wr vref).wr R.DRAM.CH_STATUS.TRAINED_SP (setBit ((setMargins s.m.fresh ch ca rd wr vref).rd R.DRAM.CH_STATUS.TRAINED_SP ch) sp) ch) DRAM_TRAINED) ch) = false →
    exec (.dramTrainingDone ch ca rd wr vref true) s = .next (s.afterW (
     (nextTraining (dramCode ((setMargins s.m.fresh ch ca rd wr vref).wr R.DRAM.CH_STATUS.TRAINED_SP (setBit ((setMargins s.m.fresh ch ca rd wr vref).rd R.DRAM.CH_STATUS.TRAINED_SP ch) sp) ch) DRAM_TRAINED) ch)) (
     [])))

/-- O32. Host interface commands. -/
def Obligations.HostCommands : Prop :=
  -- SQ_DOORBELL inside the queue: SQ_TAIL, descriptors fetched
  (∀ (s : State) (tail : Nat) (descs : List (List Byte)),
    s.Runs →
    tail < s.m.rd R.HOST.SQ_SIZE.SIZE →
    exec (.sqDoorbell tail descs) s = .next (s.after (
     ringFetch descs (s.m.fresh.wr R.HOST.SQ_TAIL.TAIL tail)))) ∧
  -- CQ_HEAD_WRITE inside the queue: CQ_HEAD, waiting completions go
  (∀ (s : State) (head : Nat) (descs : List (List Byte)),
    s.Runs →
    head < s.m.rd R.HOST.CQ_SIZE.SIZE →
    exec (.cqHeadWrite head descs) s = .next (s.after (
     ringFetch descs (ringDrained (cqFlush (s.m.host.wait.length + 1) (s.m.fresh.wr R.HOST.CQ_HEAD.HEAD head)))))) ∧
  -- FRAGMENT_DONE: completed with 0, or SCENE_DROPPED where bytes were dropped
  (∀ (s : State) (seq written dropped : Nat) (descs : List (List Byte)),
    s.Runs →
    s.m.host.frags.isEmpty = false →
    s.m.host.begun = true →
    exec (.fragmentDone seq written dropped descs) s = .next (s.after (
     ringFetch descs (ringComplete (quotaUse s.m.fresh 0 written) (if dropped = 0 then 0 else SCENE_DROPPED) seq written dropped)))) ∧
  -- HOST_READ_FAILED: the frame on the path ends, completed with HOST_READ_FAILED
  (∀ (s : State) (seq written dropped : Nat) (descs : List (List Byte)),
    s.Runs →
    s.m.host.frags.isEmpty = false →
    s.m.host.begun = true →
    exec (.hostReadFailed seq written dropped descs) s = .next (s.after (
     ringFetch descs (ringComplete (pathMod (pathStart ((hev ((quotaUse s.m.fresh 0 written).add R.HOST.SCENE_READ_FAILURES.COUNT 1) 225).ev E.HOST.READ_FAILED) 0) 0 (fun _ => ⟨none, some (none, false)⟩)) HOST_READ_FAILED seq written dropped)))) ∧
  -- RING_DRAIN, ENABLE 1: running
  (∀ (s : State) (descs : List (List Byte)),
    s.Runs →
    exec (.ringDrain true descs) s = .next (s.after (
     ringFetch descs ((s.m.fresh.wr R.HOST.RING_CTRL.ENABLE 1).wr R.HOST.RING_STATUS2.STATE 1)))) ∧
  -- ENABLE 0 while running: draining
  (∀ (s : State) (descs : List (List Byte)),
    s.Runs →
    s.m.rd R.HOST.RING_STATUS2.STATE = 1 →
    exec (.ringDrain false descs) s = .next (s.after (
     ringDrained ((s.m.fresh.wr R.HOST.RING_CTRL.ENABLE 0).wr R.HOST.RING_STATUS2.STATE 2)))) ∧
  -- RING_FORCE_STOP with no frame on the path: emptied, stopped, ABORTED_BY_DISABLE or ABORT_LATE
  (∀ (s : State) (late : Bool),
    s.Runs →
    (pathOf s.m 0).rx = none →
    exec (.ringForceStop late) s = .next (s.after (
     ringCode (((hostMod s.m.fresh (fun h => { h with frags := [], begun := false, wait := [] })).wr R.HOST.RING_CTRL.ENABLE 0).wr R.HOST.RING_STATUS2.STATE 3) (if late then ABORT_LATE else ABORTED_BY_DISABLE)))) ∧
  -- HOST_RESET of the function with no host DMA channel: the block's registers reset, HOST.RESET
  (∀ (s : State),
    s.Runs →
    s.m.mc.off = false →
    (List.range 16).filter (dmaHost s.m) = [] →
    exec (.hostReset false) s = .next (s.afterW (
     (hostBlockReset s.m.fresh).ev E.HOST.RESET) (
     []))) ∧
  -- MSIX_UNMASK of a vector: a pending message goes
  (∀ (s : State) (v : Nat),
    s.Runs →
    v < 64 →
    exec (.msixUnmask v) s = .next (s.after (
     msixPending (s.m.fresh.msixSet (4 * v + 3) (clrBit (s.m.fresh.msixWord (4 * v + 3)) 0)) v))) ∧
  -- of the function: every pending message goes
  (∀ (s : State),
    s.Runs →
    exec (.msixUnmask 64) s = .next (s.after (
     Mach.each { s.m.fresh with msix := { s.m.msix with fmask := false } } (List.range 64) msixPending))) ∧
  -- PCIE_LINK_UP within link_speed_max: DL_UP, SPEED, WIDTH, LINK_SLOW below Gen3 or x8
  (∀ (s : State) (speed width : Nat),
    s.Runs →
    pcieMode s.m.mode = true →
    s.m.host.perst = true →
    speed ≤ s.m.dv D.link_speed_max →
    1 ≤ speed →
    speed ≤ 5 →
    [1, 2, 4, 8, 16].contains width = true →
    exec (.pcieLinkUp speed width) s = .next (s.after (
     (((s.m.fresh.wr R.HOST.LINK.DL_UP 1).wr R.HOST.LINK.SPEED speed).wr R.HOST.LINK.WIDTH width).evIf (decide (speed < 3) || decide (width < 8)) E.HOST.LINK_SLOW))) ∧
  -- PERST_N_RISE in a PCIe mode: link training begins
  (∀ (s : State),
    pcieMode s.m.mode = true →
    s.m.mc.off = false →
    exec (.perstNRise) s = .next (s.after (
     Mach.emit { s.m.fresh with host := { s.m.host with perst := true } } (.start 20 0)))) ∧
  -- BAR4_ACCESS writing in the window, in capacity, allowed: the bytes are written there
  (∀ (s : State) (off len : Nat) (data : List Byte),
    s.Runs →
    s.m.flag R.HOST.LINK.DL_UP = true →
    off + data.length ≤ bar4Bytes s.m →
    data.isEmpty = false →
    inCap s.m (bar4Addr s.m off) data.length = true →
    mayAccess s.m .host (bar4Addr s.m off) data.length true = true →
    chanReady s.m (bar4Addr s.m off) = true →
    exec (.bar4Access off len data) s = .next (s.afterW (
     setPoison ((countAccess s.m.fresh 0x10 (bar4Addr s.m.fresh off) data.length true).each (lineStarts (bar4Addr s.m.fresh off) data.length) dramOpen) (bar4Addr s.m.fresh off) data.length false) (
     [(bar4Addr s.m.fresh off, data)])))

/-- O33. DMA commands. -/
def Obligations.DmaCommands : Prop :=
  -- DMA_START by its owner, idle and enabled: the run begins
  (∀ (s : State) (n : Nat) (p : Principal),
    s.Runs →
    p = dmaPrincipal s.m n →
    n < 16 →
    isRetired s.m 10 n = false →
    (dmaOf s.m n).active = false →
    s.m.flag R.DMA.CH_CTRL.ENABLE n = true →
    exec (.dmaStart n p) s = .next (s.after (
     dmaBegin s.m.fresh n))) ∧
  -- while a run goes on: held
  (∀ (s : State) (n : Nat) (p : Principal),
    s.Runs →
    p = dmaPrincipal s.m n →
    n < 16 →
    isRetired s.m 10 n = false →
    (dmaOf s.m n).active = true →
    s.m.flag R.DMA.CH_STATUS.HELD n = false →
    exec (.dmaStart n p) s = .next (s.after (
     s.m.fresh.wr R.DMA.CH_STATUS.HELD 1 n))) ∧
  -- DMA_RUN_DONE after the last descriptor: DMA_DONE
  (∀ (s : State) (n : Nat),
    s.Runs →
    (dmaOf s.m n).active = true →
    (dmaOf s.m n).last = true →
    exec (.dmaRunDone n) s = .next (s.after (
     dmaEnd s.m.fresh n DMA_DONE))) ∧
  -- DMA_ABORT between descriptors: DMA_ABORTED
  (∀ (s : State) (n : Nat) (p : Principal),
    s.Runs →
    p = dmaPrincipal s.m n →
    (dmaOf s.m n).active = true →
    (dmaOf s.m n).desc = none →
    exec (.dmaAbort n p) s = .next (s.afterW (
     dmaEnd s.m.fresh n DMA_ABORTED) (
     []))) ∧
  -- with no run: LATE
  (∀ (s : State) (n : Nat) (p : Principal),
    s.Runs →
    p = dmaPrincipal s.m n →
    (dmaOf s.m n).active = false →
    exec (.dmaAbort n p) s = .next (s.afterW (
     s.m.fresh.wr R.DMA.CH_STATUS.LATE 1 n) (
     []))) ∧
  -- DMA_FORCE_STOP between descriptors: disabled, ABORTED_BY_DISABLE
  (∀ (s : State) (n : Nat) (p : Principal),
    s.Runs →
    p = dmaPrincipal s.m n →
    (dmaOf s.m n).desc = none →
    exec (.dmaForceStop n p) s = .next (s.afterW (
     dmaEnd ((s.m.fresh.wr R.DMA.CH_CTRL.ENABLE 0 n).wr R.DMA.CH_STATUS.HELD 0 n) n ABORTED_BY_DISABLE) (
     []))) ∧
  -- DMA_DRAIN of a run: draining to its pause point
  (∀ (s : State) (n : Nat) (p : Principal),
    s.Runs →
    p = dmaPrincipal s.m n →
    (dmaOf s.m n).active = true →
    s.m.rd R.DMA.CH_STATUS.STATE n ≠ 4 →
    (dmaOf s.m n).desc.isSome = true ∨ (dmaOf s.m n).last = true →
    exec (.dmaDrain n false p) s = .next (s.after (
     dmaRefresh ((s.m.fresh.wr R.DMA.CH_CTRL.ENABLE 0 n).wr R.DMA.CH_STATUS.STATE 3 n)))) ∧
  -- of a drained run, ENABLE 1: it asks for tokens and goes on
  (∀ (s : State) (n : Nat) (p : Principal),
    s.Runs →
    p = dmaPrincipal s.m n →
    (dmaOf s.m n).active = true →
    s.m.rd R.DMA.CH_STATUS.STATE n = 4 →
    exec (.dmaDrain n true p) s = .next (s.after (
     dmaRefresh (chimRequest ((s.m.fresh.wr R.DMA.CH_CTRL.ENABLE 1 n).wr R.DMA.CH_STATUS.STATE 1 n) C_DMA n (s.m.dv D.dma_tokens))))) ∧
  -- DMA_ACCESS_TIMEOUT the first time: counted into its bucket
  (∀ (s : State) (n addr : Nat),
    s.Runs →
    (dmaOf s.m n).active = true →
    dmaMoves s.m n = true →
    (dmaOf (hev (s.m.fresh.add R.DMA.BUS_TIMEOUTS.COUNT 1) 228) n).tmo = false →
    exec (.dmaAccessTimeout n addr) s = .next (s.afterW (
     (bucketAdd (dmaMod (hev (s.m.fresh.add R.DMA.BUS_TIMEOUTS.COUNT 1) 228) n (fun c => { c with tmo := true })) 10 n 1 BUS_TIMEOUT (addr % 2 ^ 32)).2) (
     []))) ∧
  -- DMA_DESCRIPTOR_DONE: its bytes move, and the channel goes to the next
  (∀ (s : State) (n : Nat) (host data b : List Byte),
    s.Runs →
    (dmaOf s.m n).active = true →
    (dmaOf s.m n).desc = some b →
    dmaMoves s.m n = true →
    bit (dCtrl b) 2 = false →
    bit (dCtrl b) 5 = false →
    (xfers s.m.fresh (dmaPrincipal s.m.fresh n) s.mem (descXfers b data)).1 = none →
    exec (.dmaDescriptorDone n host data) s = .next (s.afterW (
     dmaRefresh (dmaFetch (applyWrites s.mem (devWrites (xfers s.m.fresh (dmaPrincipal s.m.fresh n) s.mem (descXfers b data)).2)) (descDone (snoopBytes ((noteWrites (noteReads s.m.fresh (dmaMaster n) [(dSrc b, dLen b)]) (dmaMaster n) (devWrites (xfers s.m.fresh (dmaPrincipal s.m.fresh n) s.mem (descXfers b data)).2)).emits (hostWrites (xfers s.m.fresh (dmaPrincipal s.m.fresh n) s.mem (descXfers b data)).2)) n (((xfers s.m.fresh (dmaPrincipal s.m.fresh n) s.mem (descXfers b data)).2.map (fun q => q.2.2)).foldr (· ++ ·) []) (descDown b)) n b) n none)) (
     (devWrites (xfers s.m.fresh (dmaPrincipal s.m.fresh n) s.mem (descXfers b data)).2))))

/-- O34. Blit and DEFLATE commands. -/
def Obligations.SideEngineCommands : Prop :=
  -- BLIT_GO with fewer than four jobs and parameters in order: the job is queued under NEXT_JOB
  (∀ (s : State) (p : Principal),
    s.Runs →
    isRetired s.m 11 0 = false →
    (sideOf s.m 0).jobs.length < 4 →
    blitCheck (regBytes s.m 0x02600010 96) = 0 →
    exec (.blitGo p) s = .next (s.after (
     sideNext (sideMod (s.m.fresh.wr (R.BLIT.STATUS.NEXT_JOB.eng 0) (s.m.rd (R.BLIT.STATUS.NEXT_JOB.eng 0) + 1)) 0 (fun q => { q with jobs := q.jobs ++ [⟨s.m.rd (R.BLIT.STATUS.NEXT_JOB.eng 0), p, regBytes s.m.fresh 0x02600010 96⟩] })) 0))) ∧
  -- DEFLATE_GO likewise
  (∀ (s : State) (p : Principal),
    s.Runs →
    isRetired s.m 13 0 = false →
    (sideOf s.m 1).jobs.length < 4 →
    deflCheck (regBytes s.m 0x02800010 36) = 0 →
    exec (.deflateGo p) s = .next (s.after (
     sideNext (sideMod (s.m.fresh.wr (R.BLIT.STATUS.NEXT_JOB.eng 1) (s.m.rd (R.BLIT.STATUS.NEXT_JOB.eng 1) + 1)) 1 (fun q => { q with jobs := q.jobs ++ [⟨s.m.rd (R.BLIT.STATUS.NEXT_JOB.eng 1), p, regBytes s.m.fresh 0x02800010 36⟩] })) 1))) ∧
  -- BLIT_JOB_DONE without a fault on the way: its pixels are written, JOB_DONE
  (∀ (s : State) (j : Job),
    s.Runs →
    runningJob s.m 0 = some j →
    (xfers s.m.fresh j.who s.mem (blitXfers j)).1 = none →
    exec (.blitJobDone) s = .next (s.afterW (
     sideEnd (snoopBytes (noteWrites (noteReads s.m.fresh (sideMaster 0) ((blitXfers j).foldr (fun q acc => q.rd ++ acc) [])) (sideMaster 0) (devWrites (xfers s.m.fresh j.who s.mem (blitXfers j)).2)) 16 (((devWrites (xfers s.m.fresh j.who s.mem (blitXfers j)).2).map (·.2)).foldr (· ++ ·) []) (j.up || j.leftward)) 0 JOB_DONE) (
     (devWrites (xfers s.m.fresh j.who s.mem (blitXfers j)).2)))) ∧
  -- DEFLATE_JOB_DONE of a decompression whose stream is in order: its output is written, JOB_DONE
  (∀ (s : State) (stream : List Byte) (j : Job),
    s.Runs →
    runningJob s.m 1 = some j →
    j.dMode = 1 →
    j.dCheck = false →
    (inflateJob s.mem s.m.fresh j).flt = none →
    (inflateJob s.mem s.m.fresh j).code = 0 →
    exec (.deflateJobDone stream) s = .next (s.afterW (
     sideEnd (resErr ((((snoopBytes (noteWrites (snoopBytes (noteReads s.m.fresh (sideMaster 1) [(j.dSrc, (inflateJob s.mem s.m.fresh j).inp.length)]) 17 (inflateJob s.mem s.m.fresh j).inp false) (sideMaster 1) [(j.dDst, (inflateJob s.mem s.m.fresh j).out)]) 18 (inflateJob s.mem s.m.fresh j).out false).wr R.DEFL.RES_OUT_LEN.LEN (inflateJob s.mem s.m.fresh j).out.length).wr R.DEFL.RES_IN_USED.USED (inflateJob s.mem s.m.fresh j).used).wr R.DEFL.RES_CRC.CRC (crc32 (inflateJob s.mem s.m.fresh j).out)) (decide ((inflateJob s.mem s.m.fresh j).used < j.dSrcLen)) 0) 1 JOB_DONE) (
     [(j.dDst, (inflateJob s.mem s.m.fresh j).out)]))) ∧
  -- ENGINE_ABORT of a job that has not written: JOB_ABORTED
  (∀ (s : State) (e : Nat) (j : Job) (rest : List Job),
    s.Runs →
    e < 2 →
    (sideOf s.m e).jobs = j :: rest →
    (sideOf s.m e).busy = true →
    (sideOf s.m e).begun = false →
    exec (.engineAbort e) s = .next (s.afterW (
     sideEnd s.m.fresh e JOB_ABORTED) (
     []))) ∧
  -- with none running: LATE
  (∀ (s : State) (e : Nat),
    s.Runs →
    e < 2 →
    (sideOf s.m e).busy = false →
    exec (.engineAbort e) s = .next (s.afterW (
     s.m.fresh.wr (R.BLIT.STATUS.LATE.eng e) 1) (
     []))) ∧
  -- ENGINE_FORCE_STOP with no job: disabled, stopped, reported
  (∀ (s : State) (e : Nat),
    s.Runs →
    e < 2 →
    (sideOf s.m e).jobs = [] →
    sideState (s.m.fresh.wr (R.BLIT.CTRL.ENABLE.eng e) 0) e ≠ 4 →
    exec (.engineForceStop e) s = .next (s.afterW (
     (sideSet (s.m.fresh.wr (R.BLIT.CTRL.ENABLE.eng e) 0) e 4).ev (sideEv e E.BLIT.DRAINED E.DEFL.DRAINED)) (
     []))) ∧
  -- ENGINE_FLUSH: waiting jobs end JOB_FLUSHED, a running one stays
  (∀ (s : State) (e : Nat),
    s.Runs →
    e < 2 →
    exec (.engineFlush e) s = .next (s.after (
     (sideMod s.m.fresh e (fun q => { q with jobs := q.jobs.take (if (sideOf s.m.fresh e).busy then 1 else 0) })).each ((sideOf s.m.fresh e).jobs.drop (if (sideOf s.m.fresh e).busy then 1 else 0)) (fun m j => jobFinal m e j.num JOB_FLUSHED)))) ∧
  -- ENGINE_DRAIN of a running job: draining
  (∀ (s : State) (e : Nat),
    s.Runs →
    e < 2 →
    sideState (s.m.fresh.wr (R.BLIT.CTRL.ENABLE.eng e) 0) e ≠ 4 →
    (sideOf s.m e).busy = true →
    exec (.engineDrain e false) s = .next (s.after (
     sideSet (s.m.fresh.wr (R.BLIT.CTRL.ENABLE.eng e) 0) e 3))) ∧
  -- ENGINE_ACCESS_TIMEOUT the first time: counted into its bucket
  (∀ (s : State) (e addr : Nat),
    s.Runs →
    e < 2 →
    (runningJob s.m e).isNone = false →
    (sideOf s.m e).tmo = false →
    exec (.engineAccessTimeout e addr) s = .next (s.afterW (
     (bucketAdd (sideMod s.m.fresh e (fun q => { q with tmo := true })) (11 + 2 * e) 0 1 BUS_TIMEOUT (addr % 2 ^ 32)).2) (
     [])))

/-- O35. CRC commands. -/
def Obligations.CrcCommands : Prop :=
  -- CRC_START of a scan by the enabled unit: the state is loaded and tokens are asked for
  (∀ (s : State) (n : Nat) (p : Principal),
    s.Runs →
    n < 4 →
    isRetired s.m 12 n = false →
    crcActive s.m n = false →
    s.m.flag R.CRC.UNIT_CTRL.FEED n = false →
    crcLen s.m n ≠ 0 →
    s.m.flag R.CRC.UNIT_CTRL.ENABLE n = true →
    engineMode s.m.mode = true →
    exec (.crcStart n p) s = .next (s.after (
     chimRequest ((crcCurSet ((((crcLoad (crcMod s.m.fresh n (fun u => { u with who := p, poly := s.m.rd R.CRC.UNIT_CTRL.POLY n, snoop := false, src := s.m.rd R.CRC.UNIT_CTRL.SNOOP_SRC n, tmo := false })) n (if (crcMod s.m.fresh n (fun u => { u with who := p, poly := s.m.rd R.CRC.UNIT_CTRL.POLY n, snoop := false, src := s.m.rd R.CRC.UNIT_CTRL.SNOOP_SRC n, tmo := false })).flag R.CRC.UNIT_CTRL.INIT n then crcInit (s.m.rd R.CRC.UNIT_CTRL.POLY n) else crcState (crcMod s.m.fresh n (fun u => { u with who := p, poly := s.m.rd R.CRC.UNIT_CTRL.POLY n, snoop := false, src := s.m.rd R.CRC.UNIT_CTRL.SNOOP_SRC n, tmo := false })) n)).wr R.CRC.UNIT_BYTES.BYTES 0 n).wr R.CRC.UNIT_STATUS.REVERSED 0 n).wr R.CRC.UNIT_STATUS.LATE 0 n) n (crcBase ((((crcLoad (crcMod s.m.fresh n (fun u => { u with who := p, poly := s.m.rd R.CRC.UNIT_CTRL.POLY n, snoop := false, src := s.m.rd R.CRC.UNIT_CTRL.SNOOP_SRC n, tmo := false })) n (if (crcMod s.m.fresh n (fun u => { u with who := p, poly := s.m.rd R.CRC.UNIT_CTRL.POLY n, snoop := false, src := s.m.rd R.CRC.UNIT_CTRL.SNOOP_SRC n, tmo := false })).flag R.CRC.UNIT_CTRL.INIT n then crcInit (s.m.rd R.CRC.UNIT_CTRL.POLY n) else crcState (crcMod s.m.fresh n (fun u => { u with who := p, poly := s.m.rd R.CRC.UNIT_CTRL.POLY n, snoop := false, src := s.m.rd R.CRC.UNIT_CTRL.SNOOP_SRC n, tmo := false })) n)).wr R.CRC.UNIT_BYTES.BYTES 0 n).wr R.CRC.UNIT_STATUS.REVERSED 0 n).wr R.CRC.UNIT_STATUS.LATE 0 n) n)).wr R.CRC.UNIT_STATUS.STATE 1 n) C_CRC n ((crcCurSet ((((crcLoad (crcMod s.m.fresh n (fun u => { u with who := p, poly := s.m.rd R.CRC.UNIT_CTRL.POLY n, snoop := false, src := s.m.rd R.CRC.UNIT_CTRL.SNOOP_SRC n, tmo := false })) n (if (crcMod s.m.fresh n (fun u => { u with who := p, poly := s.m.rd R.CRC.UNIT_CTRL.POLY n, snoop := false, src := s.m.rd R.CRC.UNIT_CTRL.SNOOP_SRC n, tmo := false })).flag R.CRC.UNIT_CTRL.INIT n then crcInit (s.m.rd R.CRC.UNIT_CTRL.POLY n) else crcState (crcMod s.m.fresh n (fun u => { u with who := p, poly := s.m.rd R.CRC.UNIT_CTRL.POLY n, snoop := false, src := s.m.rd R.CRC.UNIT_CTRL.SNOOP_SRC n, tmo := false })) n)).wr R.CRC.UNIT_BYTES.BYTES 0 n).wr R.CRC.UNIT_STATUS.REVERSED 0 n).wr R.CRC.UNIT_STATUS.LATE 0 n) n (crcBase ((((crcLoad (crcMod s.m.fresh n (fun u => { u with who := p, poly := s.m.rd R.CRC.UNIT_CTRL.POLY n, snoop := false, src := s.m.rd R.CRC.UNIT_CTRL.SNOOP_SRC n, tmo := false })) n (if (crcMod s.m.fresh n (fun u => { u with who := p, poly := s.m.rd R.CRC.UNIT_CTRL.POLY n, snoop := false, src := s.m.rd R.CRC.UNIT_CTRL.SNOOP_SRC n, tmo := false })).flag R.CRC.UNIT_CTRL.INIT n then crcInit (s.m.rd R.CRC.UNIT_CTRL.POLY n) else crcState (crcMod s.m.fresh n (fun u => { u with who := p, poly := s.m.rd R.CRC.UNIT_CTRL.POLY n, snoop := false, src := s.m.rd R.CRC.UNIT_CTRL.SNOOP_SRC n, tmo := false })) n)).wr R.CRC.UNIT_BYTES.BYTES 0 n).wr R.CRC.UNIT_STATUS.REVERSED 0 n).wr R.CRC.UNIT_STATUS.LATE 0 n) n)).dv D.crc_tokens)))) ∧
  -- of a snoop of source below 19: the state is loaded and the unit snoops
  (∀ (s : State) (n : Nat) (p : Principal),
    s.Runs →
    n < 4 →
    isRetired s.m 12 n = false →
    crcActive s.m n = false →
    s.m.flag R.CRC.UNIT_CTRL.FEED n = true →
    s.m.rd R.CRC.UNIT_CTRL.SNOOP_SRC n < 19 →
    s.m.flag R.CRC.UNIT_CTRL.ENABLE n = true →
    engineMode s.m.mode = true →
    exec (.crcStart n p) s = .next (s.after (
     ((((crcLoad (crcMod s.m.fresh n (fun u => { u with who := p, poly := s.m.rd R.CRC.UNIT_CTRL.POLY n, snoop := true, src := s.m.rd R.CRC.UNIT_CTRL.SNOOP_SRC n, tmo := false })) n (if (crcMod s.m.fresh n (fun u => { u with who := p, poly := s.m.rd R.CRC.UNIT_CTRL.POLY n, snoop := true, src := s.m.rd R.CRC.UNIT_CTRL.SNOOP_SRC n, tmo := false })).flag R.CRC.UNIT_CTRL.INIT n then crcInit (s.m.rd R.CRC.UNIT_CTRL.POLY n) else crcState (crcMod s.m.fresh n (fun u => { u with who := p, poly := s.m.rd R.CRC.UNIT_CTRL.POLY n, snoop := true, src := s.m.rd R.CRC.UNIT_CTRL.SNOOP_SRC n, tmo := false })) n)).wr R.CRC.UNIT_BYTES.BYTES 0 n).wr R.CRC.UNIT_STATUS.REVERSED 0 n).wr R.CRC.UNIT_STATUS.LATE 0 n).wr R.CRC.UNIT_STATUS.STATE 3 n))) ∧
  -- CRC_VALUE_WRITE: the low word with the held high word
  (∀ (s : State) (n lo : Nat),
    s.Runs →
    n < 4 →
    exec (.crcValueWrite n lo) s = .next (s.after (
     crcLoad s.m.fresh n (lo % 2 ^ 32 + 2 ^ 32 * (crcUnit s.m.fresh n).hi)))) ∧
  -- CRC_SCAN_DONE with the rest of the range allowed: the state after its bytes
  (∀ (s : State) (n : Nat),
    s.Runs →
    s.m.rd R.CRC.UNIT_STATUS.STATE n = 2 →
    (crcUnit s.m n).snoop = false →
    (reach s.m.fresh (crcUnit s.m.fresh n).who (crcCur s.m.fresh n) ((crcBase s.m.fresh n + crcLen s.m.fresh n) - crcCur s.m.fresh n) false).2 = none →
    exec (.crcScanDone n) s = .next (s.after (
     crcEnd (crcCurSet (crcTake (noteReads s.m.fresh (crcMaster n) [(crcCur s.m.fresh n, (crcBase s.m.fresh n + crcLen s.m.fresh n) - crcCur s.m.fresh n)]) n (Mem.read s.mem (crcCur s.m.fresh n) ((crcBase s.m.fresh n + crcLen s.m.fresh n) - crcCur s.m.fresh n))) n (crcBase s.m.fresh n + crcLen s.m.fresh n)) n JOB_DONE))) ∧
  -- CRC_SCAN_STOP at a 4 KiB boundary, ENABLE 0 or M11: the state up to it, stopped
  (∀ (s : State) (n upto : Nat),
    s.Runs →
    s.m.rd R.CRC.UNIT_STATUS.STATE n = 2 →
    (crcUnit s.m n).snoop = false →
    (reach s.m.fresh (crcUnit s.m.fresh n).who (crcCur s.m.fresh n) (upto - crcCur s.m.fresh n) false).2 = none →
    s.m.flag R.CRC.UNIT_CTRL.ENABLE n = false ∨ s.m.mode = 11 →
    upto % 4096 = 0 →
    crcCur s.m n ≤ upto →
    upto < crcBase s.m n + crcLen s.m n →
    exec (.crcScanStop n upto) s = .next (s.after (
     chimRelease ((((crcCurSet (crcTake (noteReads s.m.fresh (crcMaster n) [(crcCur s.m.fresh n, upto - crcCur s.m.fresh n)]) n (Mem.read s.mem (crcCur s.m.fresh n) (upto - crcCur s.m.fresh n))) n upto).wr R.CRC.UNIT_STATUS.STATE 4 n).wr R.CRC.UNIT_STATUS.LAST_CODE ENGINE_DRAINED n).ev E.CRC.STOPPED n) C_CRC n)))

/-- O36. Thermal monitor and Chimney commands. -/
def Obligations.ThermalCommands : Prop :=
  -- STEP_UP 5 K below THROTTLE with step_up_auto 1: the entry above is due
  (∀ (s : State),
    s.Runs →
    s.m.dv D.step_up_auto = 1 →
    s.m.th.stepped.isSome = true →
    drivesRays s.m.mode = true →
    sInt 16 (s.m.rd R.THRM.STATUS.MAX_TEMP) < limitOf s.m R.THRM.LIMITS.THROTTLE - 80 →
    s.m.th.stepDue = none →
    exec (.stepUp) s = .next (s.after (
     { s.m.fresh with th := { s.m.th with stepDue := stepUpEntry s.m.fresh } }))) ∧
  -- with step_up_auto 0: nothing
  (∀ (s : State),
    s.Runs →
    s.m.dv D.step_up_auto = 0 →
    exec (.stepUp) s = .next (s.after (
     s.m.fresh))) ∧
  -- TEMP_COMPENSATION: a move of at most 1 either way
  (∀ (s : State) (move : Int),
    s.Runs →
    exec (.tempCompensation move) s = .next (s.after (
     { s.m.fresh with th := { s.m.th with comp := s.m.th.comp + clampI move (-1) 1 } }))) ∧
  -- CHIMNEY_REQUEST of a new holder: it waits in its order and waiting requests are judged
  (∀ (s : State) (cls holder tok : Nat),
    s.Runs →
    cls < 9 →
    s.m.ch.waits.any (fun r => r.cls == cls && r.holder == holder) = false →
    s.m.ch.grants.any (fun g => g.cls == cls && g.holder == holder) = false →
    exec (.chimneyRequest cls holder tok) s = .next (s.after (
     chimRefresh (markTooLarge (judgeWaiting ({ s.m.fresh with ch := { s.m.ch with waits := s.m.ch.waits ++ [⟨cls, holder, tok, s.m.ch.nextArr, 0⟩], nextArr := s.m.ch.nextArr + 1 } }) false))))) ∧
  -- of a holder with a grant: nothing
  (∀ (s : State) (cls holder tok : Nat),
    s.Runs →
    cls < 9 →
    s.m.ch.grants.any (fun g => g.cls == cls && g.holder == holder) = true →
    exec (.chimneyRequest cls holder tok) s = .next (s.after (
     s.m.fresh))) ∧
  -- CHIMNEY_RELEASE: the holder's grant and request go, waiting requests are judged
  (∀ (s : State) (cls holder : Nat),
    s.Runs →
    exec (.chimneyRelease cls holder) s = .next (s.after (
     chimRefresh (judgeWaiting ({ s.m.fresh with ch := { s.m.ch with grants := s.m.ch.grants.filter (fun g => !(g.cls == cls && g.holder == holder)), waits := s.m.ch.waits.filter (fun r => !(r.cls == cls && r.holder == holder)) } }) false)))) ∧
  -- GRANT_IN_FORCE of the oldest grant not in force: it is in force and its holder begins
  (∀ (s : State) (cls holder : Nat) (q : Grant),
    s.Runs →
    s.m.ch.grants.find? (fun g => !g.live && !g.ending) = some q →
    q.cls = cls →
    q.holder = holder →
    exec (.grantInForce cls holder) s = .next (s.after (
     holderBegins s.mem (chimRefresh { s.m.fresh with ch := { s.m.ch with grants := s.m.ch.grants.map (fun h => if h.arr == q.arr then { h with live := true } else h) } }) cls holder))) ∧
  -- PAUSE_POINT_REACHED of an ending grant: the holder waits, its tokens leave
  (∀ (s : State) (cls holder : Nat),
    s.Runs →
    s.m.ch.grants.any (fun g => g.cls == cls && g.holder == holder && g.ending) = true →
    exec (.pausePointReached cls holder) s = .next (s.after (
     chimPaused (holderWaits s.m.fresh cls holder) cls holder)))

/-- O37. Calibration and dose commands. -/
def Obligations.CalibrationCommands : Prop :=
  -- CAL_RUN while enabled: each run of the mask starts
  (∀ (s : State) (mask : Nat),
    s.Runs →
    calEnabled s.m = true →
    exec (.calRun mask) s = .next (s.after (
     s.m.fresh.each (bitList 6 mask) calStart))) ∧
  -- while disabled: they wait
  (∀ (s : State) (mask : Nat),
    s.Runs →
    calEnabled s.m = false →
    exec (.calRun mask) s = .next (s.after (
     { s.m.fresh with cal := { s.m.cal with waiting := (bitList 6 mask).foldl setBit s.m.cal.waiting } }))) ∧
  -- TRACK_INTERVAL while enabled: the runs of track_mask start
  (∀ (s : State),
    s.Runs →
    calEnabled s.m = true →
    exec (.trackInterval) s = .next (s.after (
     s.m.fresh.each (bitList 6 (s.m.dv D.track_mask)) calStart))) ∧
  -- CAL_RUN_DONE of lanes with its grant: the rows' results, the run ends
  (∀ (s : State) (rows : List (List Int)),
    s.Runs →
    calRunning s.m 0 = true →
    calEnabled s.m = true →
    hasGrant s.m 2 0 = true →
    exec (.calRunDone 0 rows) s = .next (s.after (
     calFinish (calLanes s.m.fresh rows) 0))) ∧
  -- of DRAM: likewise
  (∀ (s : State) (rows : List (List Int)),
    s.Runs →
    calRunning s.m 1 = true →
    calEnabled s.m = true →
    hasGrant s.m 2 1 = true →
    exec (.calRunDone 1 rows) s = .next (s.after (
     calFinish (calChannels s.m.fresh rows) 1))) ∧
  -- CAL_PPS_EDGE, the first: counted
  (∀ (s : State) (cycles : Nat),
    s.Runs →
    s.m.cal.edges = 0 →
    exec (.calPpsEdge cycles) s = .next (s.after (
     { s.m.fresh with cal := { s.m.cal with edges := 1, cycles := 0 } }))) ∧
  -- off by more than 1,000 cycles: REF_PPS_MISSING, PPS_OK 0, counted as first
  (∀ (s : State) (cycles : Nat),
    s.Runs →
    s.m.cal.edges ≠ 0 →
    1000 < ((cycles : Int) - 10000000).natAbs →
    exec (.calPpsEdge cycles) s = .next (s.after (
     refSet (calCode { s.m.fresh with cal := { s.m.cal with edges := 1, cycles := 0 } } REF_PPS_MISSING) R.CAL.REF.PPS_OK false))) ∧
  -- a regular one before the sixteenth: counted
  (∀ (s : State) (cycles : Nat),
    s.Runs →
    s.m.cal.edges ≠ 0 →
    s.m.cal.edges < 16 →
    ((cycles : Int) - 10000000).natAbs ≤ 1000 →
    s.m.flag R.CAL.REF.PPS_OK = true →
    exec (.calPpsEdge cycles) s = .next (s.after (
     { s.m.fresh with cal := { s.m.cal with edges := s.m.cal.edges + 1, cycles := s.m.cal.cycles + cycles } }))) ∧
  -- CAL_PPS_MISSING: REF_PPS_MISSING, PPS_OK 0
  (∀ (s : State),
    s.Runs →
    exec (.calPpsMissing) s = .next (s.after (
     refSet (calCode { s.m.fresh with cal := { s.m.cal with edges := 0, cycles := 0 } } REF_PPS_MISSING) R.CAL.REF.PPS_OK false))) ∧
  -- VREF_MEASURE within 1%: VREF_OK 1
  (∀ (s : State) (mv10 : Nat),
    s.Runs →
    ((mv10 : Int) - 12000).natAbs ≤ 120 →
    exec (.vrefMeasure mv10) s = .next (s.after (
     refSet (s.m.fresh.wr R.CAL.REF.VREF_MV10 mv10) R.CAL.REF.VREF_OK true))) ∧
  -- outside: VREF_BAD, VREF_OK 0
  (∀ (s : State) (mv10 : Nat),
    s.Runs →
    120 < ((mv10 : Int) - 12000).natAbs →
    exec (.vrefMeasure mv10) s = .next (s.after (
     refSet (calCode (s.m.fresh.wr R.CAL.REF.VREF_MV10 mv10) VREF_BAD) R.CAL.REF.VREF_OK false))) ∧
  -- CAL_DRAIN, ENABLE 0 with no run: CAL_DRAINED
  (∀ (s : State),
    s.Runs →
    s.m.rd R.CAL.STATUS.STATE = 1 →
    exec (.calDrain false) s = .next (s.after (
     calCode ((s.m.fresh.wr R.CAL.CTRL.ENABLE 0).wr R.CAL.STATUS.STATE 3) CAL_DRAINED))) ∧
  -- ENABLE 1: what waited starts
  (∀ (s : State),
    s.Runs →
    exec (.calDrain true) s = .next (s.after (
     calRun { ((s.m.fresh.wr R.CAL.CTRL.ENABLE 1).wr R.CAL.STATUS.STATE 1) with cal := { s.m.cal with waiting := 0 } } s.m.cal.waiting))) ∧
  -- CAL_FORCE_STOP with no run: stopped
  (∀ (s : State) (late : Nat),
    s.Runs →
    (List.range 6).filter (calRunning s.m) = [] →
    exec (.calForceStop late) s = .next (s.after (
     ((({ s.m.fresh with cal := { s.m.cal with oscGoal := none, sensGoal := List.replicate 48 none } } : Mach).wr R.CAL.CTRL.ENABLE 0).wr R.CAL.STATUS.STATE 3)))) ∧
  -- with one: it finishes as ABORT_LATE or ends ABORTED_BY_DISABLE
  (∀ (s : State) (late k : Nat),
    s.Runs →
    (List.range 6).filter (calRunning s.m) = [k] →
    exec (.calForceStop late) s = .next (s.after (
     ((({ (if bit late k then calCode (calFinish s.m.fresh k) ABORT_LATE else (calCode (calStop s.m.fresh k) ABORTED_BY_DISABLE).ev E.CAL.ABORTED) with cal := { (if bit late k then calCode (calFinish s.m.fresh k) ABORT_LATE else (calCode (calStop s.m.fresh k) ABORTED_BY_DISABLE).ev E.CAL.ABORTED).cal with oscGoal := none, sensGoal := List.replicate 48 none } } : Mach).wr R.CAL.CTRL.ENABLE 0).wr R.CAL.STATUS.STATE 3)))) ∧
  -- DOSE_COMMIT with firmware serving: the next generation's records go to the Vault, the aging map is computed
  (∀ (s : State),
    s.Runs →
    fwServes s.m = true →
    exec (.doseCommit) s = .next (s.after (
     agingCompute (doseFeed ({ s.m.fresh with cal := { s.m.cal with doseGen := (s.m.cal.doseGen + 1) % 2 ^ 24, shown := s.m.cal.dose, dosePend := s.m.cal.dosePend ++ doseRecords s.m.fresh ((s.m.cal.doseGen + 1) % 2 ^ 24) } }))))) ∧
  -- DOSE_RESET with firmware serving: the doses are 0 and committed
  (∀ (s : State),
    s.Runs →
    fwServes s.m = true →
    exec (.doseReset) s = .next (s.after (
     doseCommit { s.m.fresh with cal := { s.m.cal with dose := [] } }))) ∧
  -- without: nothing
  (∀ (s : State),
    s.Runs →
    fwServes s.m = false →
    exec (.doseReset) s = .next (s.after (
     s.m.fresh)))

/-- O38. Images: install, switch, trial, check-in and code-region checks. -/
def Obligations.ImageCommands : Prop :=
  -- IMAGE_INSTALL into the uncommitted slot, accepted: the check of R610 decides whether it runs
  (∀ (s : State) (kind slot addr len : Nat),
    s.Runs →
    kind = K_STAGE2 ∨ kind = K_MAIN →
    secServes (secGo s.m.fresh 1) 1 kind = true →
    slot < 2 →
    slot ≠ (if kind = K_STAGE2 then (secGo s.m.fresh 1).rd R.SEC.STATE.BED_COMMITTED else (secGo s.m.fresh 1).rd R.SEC.STATE.FW_COMMITTED) →
    (if kind = K_STAGE2 then (secGo s.m.fresh 1).flag R.SEC.STATE.TRIAL_BED else (secGo s.m.fresh 1).flag R.SEC.STATE.TRIAL_FW) = false →
    s.m.sec.install = none →
    (if kind = K_STAGE2 then (secGo s.m.fresh 1).sec.bedDue.isSome else (secGo s.m.fresh 1).sec.fwDue.isSome) = false →
    384 + fieldLE (slice (memRead s.mem (secGo s.m.fresh 1) addr (Nat.min len 16777216)).data 0 384) 12 4 ≤ len →
    exec (.imageInstall kind slot addr len) s = .next (s.after (
     match imgCheck s.fuse (secGo s.m.fresh 1) kind (slice (memRead s.mem (secGo s.m.fresh 1) addr (Nat.min len 16777216)).data 0 384) (slice (memRead s.mem (secGo s.m.fresh 1) addr (Nat.min len 16777216)).data 384 (fieldLE (slice (memRead s.mem (secGo s.m.fresh 1) addr (Nat.min len 16777216)).data 0 384) 12 4)) with | some c => secEnd (secGo s.m.fresh 1) c | none => { secPend (secGo s.m.fresh 1) with sec := { (secPend (secGo s.m.fresh 1)).sec with install := some (kind, slot, (slice (memRead s.mem (secGo s.m.fresh 1) addr (Nat.min len 16777216)).data 0 384), (slice (memRead s.mem (secGo s.m.fresh 1) addr (Nat.min len 16777216)).data 384 (fieldLE (slice (memRead s.mem (secGo s.m.fresh 1) addr (Nat.min len 16777216)).data 0 384) 12 4))) } }))) ∧
  -- INSTALL_COMPLETE of a main image: the slot holds it, its code region is written, SEC_DONE
  (∀ (s : State) (slot : Nat) (hdr pay : List Byte),
    s.Runs →
    s.m.sec.install = some (2, slot, hdr, pay) →
    exec (.installComplete true) s = .next (s.afterW (
     secEnd (secVersions { s.m.fresh with sec := { s.m.sec with install := none, slots := setAt s.m.sec.slots (slotIdx 2 slot) ⟨some (hdr, pay), true, fieldLE hdr 6 1, fieldLE hdr 7 1, fieldLE hdr 8 4⟩ } }) SEC_DONE) (
     [(codeBase slot, pay)]))) ∧
  -- of a failed one: the slot is empty, FLASH_FAILED
  (∀ (s : State) (kind slot : Nat) (hdr pay : List Byte),
    s.Runs →
    s.m.sec.install = some (kind, slot, hdr, pay) →
    exec (.installComplete false) s = .next (s.afterW (
     secEnd (secVersions { s.m.fresh with sec := { s.m.sec with install := none, slots := setAt s.m.sec.slots (slotIdx kind slot) ⟨none, false, 0, 0, 0⟩ } }) FLASH_FAILED) (
     []))) ∧
  -- SWITCH of MAIN to a valid slot: due at a tick, calibration drains, QUIESCE
  (∀ (s : State) (slot : Nat),
    s.Runs →
    secServes (secGo s.m.fresh 2) 2 2 = true →
    slot < 2 →
    s.m.sec.install = none →
    s.m.sec.fwDue = none →
    (secGo s.m.fresh 2).mode ≠ 0 →
    (secGo s.m.fresh 2).mode ≠ 3 →
    (secGo s.m.fresh 2).mode ≠ 11 →
    slotPasses s.fuse (secGo s.m.fresh 2) 2 slot = true →
    exec (.switch 2 slot) s = .next (s.after (
     (dueRefresh (secPend (calDrain { (secGo s.m.fresh 2) with sec := { (secGo s.m.fresh 2).sec with fwDue := some ⟨slot, tickWait (secGo s.m.fresh 2)⟩, quiesced := false } } false))).ev E.SEC.QUIESCE))) ∧
  -- of STAGE2: due at a tick, QUIESCE
  (∀ (s : State) (slot : Nat),
    s.Runs →
    secServes (secGo s.m.fresh 2) 2 1 = true →
    slot < 2 →
    s.m.sec.install = none →
    s.m.sec.bedDue = none →
    (secGo s.m.fresh 2).mode ≠ 0 →
    (secGo s.m.fresh 2).mode ≠ 3 →
    (secGo s.m.fresh 2).mode ≠ 11 →
    slotPasses s.fuse (secGo s.m.fresh 2) 1 slot = true →
    exec (.switch 1 slot) s = .next (s.after (
     (dueRefresh (secPend { (secGo s.m.fresh 2) with sec := { (secGo s.m.fresh 2).sec with bedDue := some ⟨slot, tickWait (secGo s.m.fresh 2)⟩ } })).ev E.SEC.QUIESCE))) ∧
  -- CHECKIN after a boot or switch: FW_PRESENT, watchdog at 0
  (∀ (s : State),
    s.Runs →
    s.m.sec.cores = true →
    s.m.sec.await ≠ 0 →
    s.m.sec.await ≠ 2 →
    s.m.rd R.CAL.STATUS.STATE ≠ 3 →
    exec (.checkin) s = .next (s.after (
     { (s.m.fresh.wr R.SEC.STATE.FW_PRESENT 1).wr R.SEC.WDOG.SINCE_KICK_MS 0 with sec := { s.m.sec with await := 0, sinceNs := 0 } }))) ∧
  -- of an image on trial: TRIAL_FW too
  (∀ (s : State),
    s.Runs →
    s.m.sec.cores = true →
    s.m.sec.await = 2 →
    s.m.rd R.CAL.STATUS.STATE ≠ 3 →
    exec (.checkin) s = .next (s.after (
     { ((s.m.fresh.wr R.SEC.STATE.FW_PRESENT 1).wr R.SEC.WDOG.SINCE_KICK_MS 0).wr R.SEC.STATE.TRIAL_FW 1 with sec := { s.m.sec with await := 0, sinceNs := 0 } }))) ∧
  -- CHECKIN_TIMEOUT of an image on trial: reverted
  (∀ (s : State),
    s.Runs →
    s.m.sec.await = 2 →
    exec (.checkinTimeout) s = .next (s.after (
     secRevert s.m.fresh))) ∧
  -- of a restarted image: integrity failure 6
  (∀ (s : State),
    s.Runs →
    s.m.sec.await = 3 →
    exec (.checkinTimeout) s = .next (s.after (
     bootIntegrity { s.m.fresh with sec := { s.m.sec with await := 0, cores := false } } 0x6))) ∧
  -- TRIAL_COMMIT of the main trial: committed, SEC_DONE
  (∀ (s : State),
    s.Runs →
    secServes (secGo s.m.fresh 3) 3 0 = true →
    (secGo s.m.fresh 3).flag R.SEC.STATE.TRIAL_FW = true →
    (secGo s.m.fresh 3).flag R.SEC.STATE.TRIAL_BED = false →
    exec (.trialCommit false) s = .next (s.after (
     secEnd (commitTrial (secGo s.m.fresh 3) s.fuse 2 false) SEC_DONE))) ∧
  -- TRIAL_PERIOD_END of the main trial: committed
  (∀ (s : State) (vdd : Bool),
    s.Runs →
    s.m.flag R.SEC.STATE.TRIAL_FW = true →
    exec (.trialPeriodEnd 2 vdd) s = .next (s.after (
     commitTrial s.m.fresh s.fuse 2 vdd))) ∧
  -- of the stage-2 trial: committed
  (∀ (s : State) (vdd : Bool),
    s.Runs →
    s.m.flag R.SEC.STATE.TRIAL_BED = true →
    exec (.trialPeriodEnd 1 vdd) s = .next (s.after (
     commitTrial s.m.fresh s.fuse 1 vdd))) ∧
  -- CODE_REGION_CHECK that differs: integrity failure 4
  (∀ (s : State) (slot : Nat),
    s.Runs →
    (secSlot s.m 2 slot).img = none →
    slot = s.m.rd R.SEC.STATE.FW_SLOT →
    s.m.sec.cores = true →
    exec (.codeRegionCheck slot true) s = .next (s.after (
     bootIntegrity s.m.fresh 0x4))) ∧
  -- of a known image: failure 4 where the region's hash is not the header's
  (∀ (s : State) (slot : Nat) (differs : Bool) (h p : List Byte),
    s.Runs →
    (secSlot s.m 2 slot).img = some (h, p) →
    slot = s.m.rd R.SEC.STATE.FW_SLOT →
    s.m.sec.cores = true →
    exec (.codeRegionCheck slot differs) s = .next (s.after (
     if Config.sha384 (Mem.read s.mem (codeBase slot) (fieldLE h 12 4)) ≠ slice h 144 48 then bootIntegrity s.m.fresh 0x4 else s.m.fresh)))

/-- O39. Commands that program fuses: rollback, keys and enrolment. -/
def Obligations.FuseCommands : Prop :=
  -- ROLLBACK_ADVANCE of MAIN, no VDD_FUSE: the committed step goes to the mirror
  (∀ (s : State),
    s.Runs →
    secServes (secGo s.m.fresh 4) 4 2 = true →
    exec (.rollbackAdvance 2 false) s = .next (s.after (
     rollAdvance (secGo s.m.fresh 4) 2 (secSlot (secGo s.m.fresh 4) 2 ((secGo s.m.fresh 4).rd R.SEC.STATE.FW_COMMITTED)).step false true))) ∧
  -- of STAGE2 with VDD_FUSE: missing bits are blown, then the same
  (∀ (s : State),
    s.Runs →
    secServes (showFuses (secGo s.m.fresh 4) { s.fuse with rollBed := Nat.max s.fuse.rollBed ((secGo s.m.fresh 4).rd R.SEC.ROLLBACK.BED_MIRROR), rollFw := Nat.max s.fuse.rollFw ((secGo s.m.fresh 4).rd R.SEC.ROLLBACK.FW_MIRROR) }) 4 1 = true →
    exec (.rollbackAdvance 1 true) s = .next { s.after (
     rollAdvance (showFuses (secGo s.m.fresh 4) { s.fuse with rollBed := Nat.max s.fuse.rollBed ((secGo s.m.fresh 4).rd R.SEC.ROLLBACK.BED_MIRROR), rollFw := Nat.max s.fuse.rollFw ((secGo s.m.fresh 4).rd R.SEC.ROLLBACK.FW_MIRROR) }) 1 (secSlot (showFuses (secGo s.m.fresh 4) { s.fuse with rollBed := Nat.max s.fuse.rollBed ((secGo s.m.fresh 4).rd R.SEC.ROLLBACK.BED_MIRROR), rollFw := Nat.max s.fuse.rollFw ((secGo s.m.fresh 4).rd R.SEC.ROLLBACK.FW_MIRROR) }) 1 ((showFuses (secGo s.m.fresh 4) { s.fuse with rollBed := Nat.max s.fuse.rollBed ((secGo s.m.fresh 4).rd R.SEC.ROLLBACK.BED_MIRROR), rollFw := Nat.max s.fuse.rollFw ((secGo s.m.fresh 4).rd R.SEC.ROLLBACK.FW_MIRROR) }).rd R.SEC.STATE.BED_COMMITTED)).step true true) with fuse := { s.fuse with rollBed := Nat.max s.fuse.rollBed ((secGo s.m.fresh 4).rd R.SEC.ROLLBACK.BED_MIRROR), rollFw := Nat.max s.fuse.rollFw ((secGo s.m.fresh 4).rd R.SEC.ROLLBACK.FW_MIRROR) } }) ∧
  -- KEY_ENROL: the proof decides; the lowest empty slot takes the hash, SEC_DONE, or IMG_BAD_SIGNATURE
  (∀ (s : State) (addr n : Nat),
    s.Runs →
    secServes (showFuses (secGo s.m.fresh 5) { s.fuse with rollBed := Nat.max s.fuse.rollBed ((secGo s.m.fresh 5).rd R.SEC.ROLLBACK.BED_MIRROR), rollFw := Nat.max s.fuse.rollFw ((secGo s.m.fresh 5).rd R.SEC.ROLLBACK.FW_MIRROR) }) 5 0 = true →
    s.fuse.slots.findIdx? (·.isNone) = some n →
    s.m.dv D.key_state ≠ 1 →
    s.fuse.locked = false →
    (showFuses (secGo s.m.fresh 5) { s.fuse with rollBed := Nat.max s.fuse.rollBed ((secGo s.m.fresh 5).rd R.SEC.ROLLBACK.BED_MIRROR), rollFw := Nat.max s.fuse.rollFw ((secGo s.m.fresh 5).rd R.SEC.ROLLBACK.FW_MIRROR) }).mode = 4 ∨ (showFuses (secGo s.m.fresh 5) { s.fuse with rollBed := Nat.max s.fuse.rollBed ((secGo s.m.fresh 5).rd R.SEC.ROLLBACK.BED_MIRROR), rollFw := Nat.max s.fuse.rollFw ((secGo s.m.fresh 5).rd R.SEC.ROLLBACK.FW_MIRROR) }).mode = 5 →
    exec (.keyEnrol addr true) s = .next { s.after (
     if Config.ecdsaOk (slice (memRead s.mem (showFuses (secGo s.m.fresh 5) { s.fuse with rollBed := Nat.max s.fuse.rollBed ((secGo s.m.fresh 5).rd R.SEC.ROLLBACK.BED_MIRROR), rollFw := Nat.max s.fuse.rollFw ((secGo s.m.fresh 5).rd R.SEC.ROLLBACK.FW_MIRROR) }) addr 192).data 0 96) (Config.sha384 ([0x55, 0x54, 0x48, 0x4B] ++ (showFuses (secGo s.m.fresh 5) { s.fuse with rollBed := Nat.max s.fuse.rollBed ((secGo s.m.fresh 5).rd R.SEC.ROLLBACK.BED_MIRROR), rollFw := Nat.max s.fuse.rollFw ((secGo s.m.fresh 5).rd R.SEC.ROLLBACK.FW_MIRROR) }).dbytes D.die_id)) (slice (memRead s.mem (showFuses (secGo s.m.fresh 5) { s.fuse with rollBed := Nat.max s.fuse.rollBed ((secGo s.m.fresh 5).rd R.SEC.ROLLBACK.BED_MIRROR), rollFw := Nat.max s.fuse.rollFw ((secGo s.m.fresh 5).rd R.SEC.ROLLBACK.FW_MIRROR) }) addr 192).data 96 96) = true then (secEnd (showFuses (secGo s.m.fresh 5) { s.fuse with rollBed := Nat.max s.fuse.rollBed ((secGo s.m.fresh 5).rd R.SEC.ROLLBACK.BED_MIRROR), rollFw := Nat.max s.fuse.rollFw ((secGo s.m.fresh 5).rd R.SEC.ROLLBACK.FW_MIRROR) }) SEC_DONE).ev E.SEC.KEY else secEnd (showFuses (secGo s.m.fresh 5) { s.fuse with rollBed := Nat.max s.fuse.rollBed ((secGo s.m.fresh 5).rd R.SEC.ROLLBACK.BED_MIRROR), rollFw := Nat.max s.fuse.rollFw ((secGo s.m.fresh 5).rd R.SEC.ROLLBACK.FW_MIRROR) }) IMG_BAD_SIGNATURE) with fuse := if Config.ecdsaOk (slice (memRead s.mem (showFuses (secGo s.m.fresh 5) { s.fuse with rollBed := Nat.max s.fuse.rollBed ((secGo s.m.fresh 5).rd R.SEC.ROLLBACK.BED_MIRROR), rollFw := Nat.max s.fuse.rollFw ((secGo s.m.fresh 5).rd R.SEC.ROLLBACK.FW_MIRROR) }) addr 192).data 0 96) (Config.sha384 ([0x55, 0x54, 0x48, 0x4B] ++ (showFuses (secGo s.m.fresh 5) { s.fuse with rollBed := Nat.max s.fuse.rollBed ((secGo s.m.fresh 5).rd R.SEC.ROLLBACK.BED_MIRROR), rollFw := Nat.max s.fuse.rollFw ((secGo s.m.fresh 5).rd R.SEC.ROLLBACK.FW_MIRROR) }).dbytes D.die_id)) (slice (memRead s.mem (showFuses (secGo s.m.fresh 5) { s.fuse with rollBed := Nat.max s.fuse.rollBed ((secGo s.m.fresh 5).rd R.SEC.ROLLBACK.BED_MIRROR), rollFw := Nat.max s.fuse.rollFw ((secGo s.m.fresh 5).rd R.SEC.ROLLBACK.FW_MIRROR) }) addr 192).data 96 96) = true then { { s.fuse with rollBed := Nat.max s.fuse.rollBed ((secGo s.m.fresh 5).rd R.SEC.ROLLBACK.BED_MIRROR), rollFw := Nat.max s.fuse.rollFw ((secGo s.m.fresh 5).rd R.SEC.ROLLBACK.FW_MIRROR) } with slots := setAt s.fuse.slots n (some (Config.sha384 (slice (memRead s.mem (showFuses (secGo s.m.fresh 5) { s.fuse with rollBed := Nat.max s.fuse.rollBed ((secGo s.m.fresh 5).rd R.SEC.ROLLBACK.BED_MIRROR), rollFw := Nat.max s.fuse.rollFw ((secGo s.m.fresh 5).rd R.SEC.ROLLBACK.FW_MIRROR) }) addr 192).data 0 96))) } else { s.fuse with rollBed := Nat.max s.fuse.rollBed ((secGo s.m.fresh 5).rd R.SEC.ROLLBACK.BED_MIRROR), rollFw := Nat.max s.fuse.rollFw ((secGo s.m.fresh 5).rd R.SEC.ROLLBACK.FW_MIRROR) } }) ∧
  -- KEY_REVOKE that leaves a bootable pair: the bit is fused, SEC_DONE
  (∀ (s : State) (slot : Nat),
    s.Runs →
    secServes (showFuses (secGo s.m.fresh 6) { s.fuse with rollBed := Nat.max s.fuse.rollBed ((secGo s.m.fresh 6).rd R.SEC.ROLLBACK.BED_MIRROR), rollFw := Nat.max s.fuse.rollFw ((secGo s.m.fresh 6).rd R.SEC.ROLLBACK.FW_MIRROR) }) 6 0 = true →
    slot < 6 →
    (slotPasses { { s.fuse with rollBed := Nat.max s.fuse.rollBed ((secGo s.m.fresh 6).rd R.SEC.ROLLBACK.BED_MIRROR), rollFw := Nat.max s.fuse.rollFw ((secGo s.m.fresh 6).rd R.SEC.ROLLBACK.FW_MIRROR) } with revoked := setBit s.fuse.revoked slot } (showFuses (secGo s.m.fresh 6) { s.fuse with rollBed := Nat.max s.fuse.rollBed ((secGo s.m.fresh 6).rd R.SEC.ROLLBACK.BED_MIRROR), rollFw := Nat.max s.fuse.rollFw ((secGo s.m.fresh 6).rd R.SEC.ROLLBACK.FW_MIRROR) }) 2 0 || slotPasses { { s.fuse with rollBed := Nat.max s.fuse.rollBed ((secGo s.m.fresh 6).rd R.SEC.ROLLBACK.BED_MIRROR), rollFw := Nat.max s.fuse.rollFw ((secGo s.m.fresh 6).rd R.SEC.ROLLBACK.FW_MIRROR) } with revoked := setBit s.fuse.revoked slot } (showFuses (secGo s.m.fresh 6) { s.fuse with rollBed := Nat.max s.fuse.rollBed ((secGo s.m.fresh 6).rd R.SEC.ROLLBACK.BED_MIRROR), rollFw := Nat.max s.fuse.rollFw ((secGo s.m.fresh 6).rd R.SEC.ROLLBACK.FW_MIRROR) }) 2 1) = true →
    (slotPasses { { s.fuse with rollBed := Nat.max s.fuse.rollBed ((secGo s.m.fresh 6).rd R.SEC.ROLLBACK.BED_MIRROR), rollFw := Nat.max s.fuse.rollFw ((secGo s.m.fresh 6).rd R.SEC.ROLLBACK.FW_MIRROR) } with revoked := setBit s.fuse.revoked slot } (showFuses (secGo s.m.fresh 6) { s.fuse with rollBed := Nat.max s.fuse.rollBed ((secGo s.m.fresh 6).rd R.SEC.ROLLBACK.BED_MIRROR), rollFw := Nat.max s.fuse.rollFw ((secGo s.m.fresh 6).rd R.SEC.ROLLBACK.FW_MIRROR) }) 1 0 || slotPasses { { s.fuse with rollBed := Nat.max s.fuse.rollBed ((secGo s.m.fresh 6).rd R.SEC.ROLLBACK.BED_MIRROR), rollFw := Nat.max s.fuse.rollFw ((secGo s.m.fresh 6).rd R.SEC.ROLLBACK.FW_MIRROR) } with revoked := setBit s.fuse.revoked slot } (showFuses (secGo s.m.fresh 6) { s.fuse with rollBed := Nat.max s.fuse.rollBed ((secGo s.m.fresh 6).rd R.SEC.ROLLBACK.BED_MIRROR), rollFw := Nat.max s.fuse.rollFw ((secGo s.m.fresh 6).rd R.SEC.ROLLBACK.FW_MIRROR) }) 1 1) = true →
    exec (.keyRevoke slot true) s = .next { s.after (
     (secEnd (showFuses (secGo s.m.fresh 6) { s.fuse with rollBed := Nat.max s.fuse.rollBed ((secGo s.m.fresh 6).rd R.SEC.ROLLBACK.BED_MIRROR), rollFw := Nat.max s.fuse.rollFw ((secGo s.m.fresh 6).rd R.SEC.ROLLBACK.FW_MIRROR) }) SEC_DONE).ev E.SEC.KEY) with fuse := { { s.fuse with rollBed := Nat.max s.fuse.rollBed ((secGo s.m.fresh 6).rd R.SEC.ROLLBACK.BED_MIRROR), rollFw := Nat.max s.fuse.rollFw ((secGo s.m.fresh 6).rd R.SEC.ROLLBACK.FW_MIRROR) } with revoked := setBit s.fuse.revoked slot } }) ∧
  -- ENROL_LOCK: enrolment is fused closed, SEC_DONE
  (∀ (s : State),
    s.Runs →
    secServes (showFuses (secGo s.m.fresh 7) { s.fuse with rollBed := Nat.max s.fuse.rollBed ((secGo s.m.fresh 7).rd R.SEC.ROLLBACK.BED_MIRROR), rollFw := Nat.max s.fuse.rollFw ((secGo s.m.fresh 7).rd R.SEC.ROLLBACK.FW_MIRROR) }) 7 0 = true →
    s.fuse.locked = false →
    exec (.enrolLock true) s = .next { s.after (
     (secEnd (showFuses (secGo s.m.fresh 7) { s.fuse with rollBed := Nat.max s.fuse.rollBed ((secGo s.m.fresh 7).rd R.SEC.ROLLBACK.BED_MIRROR), rollFw := Nat.max s.fuse.rollFw ((secGo s.m.fresh 7).rd R.SEC.ROLLBACK.FW_MIRROR) }) SEC_DONE).ev E.SEC.KEY) with fuse := { { s.fuse with rollBed := Nat.max s.fuse.rollBed ((secGo s.m.fresh 7).rd R.SEC.ROLLBACK.BED_MIRROR), rollFw := Nat.max s.fuse.rollFw ((secGo s.m.fresh 7).rd R.SEC.ROLLBACK.FW_MIRROR) } with locked := true } })

/-- O40. Watchdog, regions, release, handover and Bedrock faults. -/
def Obligations.BedrockCommands : Prop :=
  -- WDOG_KICK: the watchdog at 0
  (∀ (s : State),
    s.Runs →
    s.m.flag R.SEC.STATE.FW_PRESENT = true →
    exec (.wdogKick) s = .next (s.after (
     { s.m.fresh.wr R.SEC.WDOG.SINCE_KICK_MS 0 with sec := { s.m.sec with sinceNs := 0 } }))) ∧
  -- QUIESCED: noted
  (∀ (s : State),
    s.Runs →
    exec (.quiesced) s = .next (s.after (
     { s.m.fresh with sec := { s.m.sec with quiesced := true } }))) ∧
  -- WATCHDOG_EXPIRY on trial: counted, reverted
  (∀ (s : State),
    s.Runs →
    s.m.flag R.SEC.STATE.FW_PRESENT = true →
    (hev s.m.fresh 492).flag R.SEC.STATE.TRIAL_FW = true →
    exec (.watchdogExpiry) s = .next (s.after (
     secRevert (hev s.m.fresh 492)))) ∧
  -- of a committed image: counted, the cores restart it
  (∀ (s : State),
    s.Runs →
    s.m.flag R.SEC.STATE.FW_PRESENT = true →
    (hev s.m.fresh 492).flag R.SEC.STATE.TRIAL_FW = false →
    exec (.watchdogExpiry) s = .next (s.after (
     releaseCores (mapMain (hev s.m.fresh 492) ((hev s.m.fresh 492).rd R.SEC.STATE.FW_COMMITTED)) 3))) ∧
  -- REGION_SET of 3 to 31, BED read and write, apart from 0 to 2: set, SEC_DONE
  (∀ (s : State) (n base pages rights : Nat),
    s.Runs →
    secServes (secGo s.m.fresh 8) 8 0 = true →
    3 ≤ n →
    n < 32 →
    bits rights 1 0 = 3 →
    overlapsFixed (secGo s.m.fresh 8) (base / 4096 * 4096) (pages % 2 ^ 24 * 4096) = false →
    exec (.regionSet n base pages rights) s = .next (s.after (
     secEnd (setRegion (secGo s.m.fresh 8) n base pages rights) SEC_DONE))) ∧
  -- of any other number: SEC_DENIED
  (∀ (s : State) (n base pages rights : Nat),
    s.Runs →
    n < 3 ∨ 32 ≤ n →
    exec (.regionSet n base pages rights) s = .next (s.after (
     secEnd (secGo s.m.fresh 8) SEC_DENIED))) ∧
  -- RELEASE_CHALLENGE_READ: a fresh nonce with die_id is held and shown
  (∀ (s : State),
    s.Runs →
    exec (.releaseChallengeRead) s = .next (s.after (
     ({ (s.m.fresh.drawBytes 16).2.dsetB D.release_challenge ((s.m.fresh.drawBytes 16).1 ++ (s.m.fresh.drawBytes 16).2.dbytes D.die_id) with sec := { ((s.m.fresh.drawBytes 16).2.dsetB D.release_challenge ((s.m.fresh.drawBytes 16).1 ++ (s.m.fresh.drawBytes 16).2.dbytes D.die_id)).sec with nonce := some ((s.m.fresh.drawBytes 16).1 ++ (s.m.fresh.drawBytes 16).2.dbytes D.die_id, ((s.m.fresh.drawBytes 16).2.dsetB D.release_challenge ((s.m.fresh.drawBytes 16).1 ++ (s.m.fresh.drawBytes 16).2.dbytes D.die_id)).rtc) } } : Mach).emit (.dict 0 ((s.m.fresh.drawBytes 16).1 ++ (s.m.fresh.drawBytes 16).2.dbytes D.die_id))))) ∧
  -- RELEASE for M3 in M11: with the proof right within 60 s the transition starts, else RELEASE_BAD
  (∀ (s : State) (target key t : Nat) (sig c hk : List Byte),
    s.Runs →
    ({ (secGo s.m.fresh 9) with sec := { (secGo s.m.fresh 9).sec with nonce := none } } : Mach).mode = 11 →
    s.m.sec.nonce = some (c, t) →
    keyHash s.fuse key = some hk →
    s.m.mc.imm = none →
    target = 3 →
    exec (.release target key sig) s = .next (s.after (
     if (decide ((secGo s.m.fresh 9).rtc < t + 60) && (target == 3 || target == 4) && decide (key < 6) && Config.ecdsaOk (Config.keyOfHash hk) (Config.sha384 ([0x55, 0x54, 0x48, 0x52, BitVec.ofNat 8 target] ++ c)) sig) then startImm (secEnd ({ (secGo s.m.fresh 9) with sec := { (secGo s.m.fresh 9).sec with nonce := none } }) SEC_DONE) target 0 CAUSE_RELEASE false else secEnd ({ (secGo s.m.fresh 9) with sec := { (secGo s.m.fresh 9).sec with nonce := none } }) RELEASE_BAD))) ∧
  -- CHECKOUT accepted: the handover block is kept, SEC_DONE
  (∀ (s : State) (data : List Byte),
    s.Runs →
    secServes (secGo s.m.fresh 0xB) 11 0 = true →
    exec (.checkout data) s = .next (s.after (
     secEnd { (secGo s.m.fresh 0xB) with sec := { (secGo s.m.fresh 0xB).sec with handover := data } } SEC_DONE))) ∧
  -- BEDROCK_SRAM_ERROR: integrity failure 1
  (∀ (s : State),
    s.Runs →
    exec (.bedrockSramError) s = .next (s.after (
     bootIntegrity s.m.fresh 0x1)))

/-- O41. Vault and package commands. -/
def Obligations.VaultCommands : Prop :=
  -- VAULT_REQUEST of a type the principal may write: taken into the registers and handed over, BUSY
  (∀ (s : State) (p : Principal) (typ key addr len : Nat),
    s.Runs →
    s.m.flag R.VAULT.REQ_STATUS.BUSY = false →
    vaultMay p typ = true →
    exec (.vaultRequest p typ key addr len) s = .next (s.after (
     vaultRequest (((((((s.m.fresh.wr R.VAULT.REQ_TYPE.TYPE typ).wr R.VAULT.REQ_KEY.KEY key).wr R.VAULT.REQ_ADDR_LO.ADDR (addr / 16 % 2 ^ 28)).wr R.VAULT.REQ_ADDR_HI.ADDR (addr / 2 ^ 32)).wr R.VAULT.REQ_LEN.LEN len).add R.VAULT.REQ_STATUS.SEQ 1).wr R.VAULT.REQ_STATUS.BUSY 1) ⟨typ, key, .dram (addr / 16 * 16 % 2 ^ 36) (Nat.min len 4064), .reg⟩))) ∧
  -- of another type: VAULT_DENIED
  (∀ (s : State) (p : Principal) (typ key addr len : Nat),
    s.Runs →
    s.m.flag R.VAULT.REQ_STATUS.BUSY = false →
    vaultMay p typ = false →
    exec (.vaultRequest p typ key addr len) s = .next (s.after (
     vaultAnswerReg (vaultCode (((((((s.m.fresh.wr R.VAULT.REQ_TYPE.TYPE typ).wr R.VAULT.REQ_KEY.KEY key).wr R.VAULT.REQ_ADDR_LO.ADDR (addr / 16 % 2 ^ 28)).wr R.VAULT.REQ_ADDR_HI.ADDR (addr / 2 ^ 32)).wr R.VAULT.REQ_LEN.LEN len).add R.VAULT.REQ_STATUS.SEQ 1).wr R.VAULT.REQ_STATUS.BUSY 1) VAULT_DENIED) VAULT_DENIED))) ∧
  -- HOURS_COMMIT: a record of the hours is requested
  (∀ (s : State),
    s.Runs →
    exec (.hoursCommit) s = .next (s.after (
     vaultRequest s.m.fresh ⟨4, 0, .bytes (hoursPayload s.m.fresh), .hours⟩))) ∧
  -- VAULT_RECLAIM with fewer than four free sectors: the oldest sector is reclaimed
  (∀ (s : State),
    s.Runs →
    vaultState s.m = 2 →
    s.m.vlt.tail ≠ s.m.vlt.head →
    s.m.vlt.free < 4 →
    exec (.vaultReclaim) s = .next (s.after (
     reclaimTail s.m.fresh))) ∧
  -- VAULT_COMPACT while ready: the oldest sector is reclaimed
  (∀ (s : State),
    s.Runs →
    vaultState s.m = 2 →
    s.m.vlt.tail ≠ s.m.vlt.head →
    exec (.vaultCompact) s = .next (s.after (
     reclaimTail s.m.fresh))) ∧
  -- while reclaiming: VAULT_FULL
  (∀ (s : State),
    s.Runs →
    vaultState s.m = 3 →
    exec (.vaultCompact) s = .next (s.after (
     vaultCode s.m.fresh VAULT_FULL))) ∧
  -- SECTOR_ERASE_DONE: the sector is erased and counted, the tail moves on
  (∀ (s : State) (n : Nat) (b : Bool),
    s.Runs →
    s.m.vlt.erasing = some (n, b) →
    s.m.vlt.suspended = false →
    exec (.sectorEraseDone true) s = .next (s.after (
     tailNext { s.m.fresh with vlt := { s.m.vlt with sectors := modAt s.m.vlt.sectors n (fun q => { q with ring := s.m.vlt.top.1 + 1, erase := if q.valid then q.erase + 1 else s.m.vlt.top.2 + 1, erasedAt := s.m.rtc % 2 ^ 32, valid := true, erased := true, used := 32, recs := [] }) } }))) ∧
  -- of a first failure: counted and tried again
  (∀ (s : State) (n : Nat),
    s.Runs →
    s.m.vlt.erasing = some (n, false) →
    s.m.vlt.suspended = false →
    exec (.sectorEraseDone false) s = .next (s.after (
     hev (({ s.m.fresh with vlt := { s.m.vlt with erasing := some (n, true) } } : Mach).add R.VAULT.CNT.COUNT 1 3) 323))) ∧
  -- of a second: the sector is retired
  (∀ (s : State) (n : Nat),
    s.Runs →
    s.m.vlt.erasing = some (n, true) →
    s.m.vlt.suspended = false →
    exec (.sectorEraseDone false) s = .next (s.after (
     tailNext (retireSector s.m.fresh n VAULT_SECTOR_RETIRED)))) ∧
  -- VCP_AREA_REFRESH after two years: the stored package is written again
  (∀ (s : State) (d : List Byte) (r : VRec),
    s.Runs →
    s.m.vlt.storedVcp = some d →
    s.m.vlt.latest 0xA 0 = some r →
    s.m.vlt.oscSec + twoYears ≤ s.m.rtc →
    s.m.cal.vcp = none →
    exec (.vcpAreaRefresh) s = .next (s.after (
     vcpWrite s.m.fresh d (fieldLE r.pay 8 4)))) ∧
  -- FLASH_OPERATION_FAILED of one of two devices: DEVICE_LOST, VAULT_SINGLE
  (∀ (s : State) (dev : Nat),
    s.Runs →
    dev < 2 →
    bit s.m.vlt.devOk dev = true →
    (({ s.m.fresh with vlt := { s.m.fresh.vlt with devOk := clrBit s.m.fresh.vlt.devOk dev } } : Mach).ev E.VAULT.DEVICE_LOST).vlt.devOk ≠ 0 →
    exec (.flashOperationFailed dev false) s = .next (s.after (
     storeCheck (vaultRefresh (vaultCode (({ s.m.fresh with vlt := { s.m.vlt with devOk := clrBit s.m.vlt.devOk dev } } : Mach).ev E.VAULT.DEVICE_LOST) VAULT_SINGLE))))) ∧
  -- VAULT_RECORD_COMMIT of the open record: SEQ counts, the record is in the journal, its requester is told
  (∀ (s : State) (r : VReq),
    s.Runs →
    s.m.vlt.opened = some r →
    exec (.vaultRecordCommit) s = .next { s.after (
     vaultRefresh (vaultKick (doseFeed (vaultKick (commitAnswer s.fuse ((vaultCode (hev ({ s.m.fresh.wr R.VAULT.SEQ.SEQ ((s.m.fresh.rd R.VAULT.SEQ.SEQ + 1) % 2 ^ 32) with vlt := { (s.m.fresh.vlt.append ⟨((s.m.fresh.rd R.VAULT.SEQ.SEQ + 1) % 2 ^ 32), r.typ, r.key, (commitPayload s.m.fresh r ((s.m.fresh.rd R.VAULT.SEQ.SEQ + 1) % 2 ^ 32)), false⟩) with opened := none, suspended := false, failRun := (0, 0) } }.add R.VAULT.CNT.COUNT 1 0) 320) VAULT_COMMITTED).ev E.VAULT.COMMITTED) r (commitPayload s.m.fresh r ((s.m.fresh.rd R.VAULT.SEQ.SEQ + 1) % 2 ^ 32))).2)))) with fuse := (commitAnswer s.fuse ((vaultCode (hev ({ s.m.fresh.wr R.VAULT.SEQ.SEQ ((s.m.fresh.rd R.VAULT.SEQ.SEQ + 1) % 2 ^ 32) with vlt := { (s.m.fresh.vlt.append ⟨((s.m.fresh.rd R.VAULT.SEQ.SEQ + 1) % 2 ^ 32), r.typ, r.key, (commitPayload s.m.fresh r ((s.m.fresh.rd R.VAULT.SEQ.SEQ + 1) % 2 ^ 32)), false⟩) with opened := none, suspended := false, failRun := (0, 0) } }.add R.VAULT.CNT.COUNT 1 0) 320) VAULT_COMMITTED).ev E.VAULT.COMMITTED) r (commitPayload s.m.fresh r ((s.m.fresh.rd R.VAULT.SEQ.SEQ + 1) % 2 ^ 32))).1 })

/-- O42. Calibration package commands. -/
def Obligations.PackageCommands : Prop :=
  -- VCP_EXPORT with firmware serving and none under way: the file of the sections in force, or VCP_TOO_LARGE
  (∀ (s : State) (addr cap flags : Nat) (streams : List (List Byte)),
    s.Runs →
    fwServes s.m = true →
    s.m.cal.vcp = none →
    exec (.vcpExport addr cap flags streams) s = .next (s.afterW (
     if cap < (vcpFile ((vcpSections s.fuse s.mem ((s.m.fresh.wr R.CAL.VCP_STATUS.BUSY 1).wr R.CAL.VCP_STATUS.SKIPPED 0) (bit flags 0) streams).2.dbytes D.die_id) ((vcpSections s.fuse s.mem ((s.m.fresh.wr R.CAL.VCP_STATUS.BUSY 1).wr R.CAL.VCP_STATUS.SKIPPED 0) (bit flags 0) streams).2.dbytes D.panel_id) (uNat 64 (floorDiv (vcpSections s.fuse s.mem ((s.m.fresh.wr R.CAL.VCP_STATUS.BUSY 1).wr R.CAL.VCP_STATUS.SKIPPED 0) (bit flags 0) streams).2.tim.now 65536)) (vcpSections s.fuse s.mem ((s.m.fresh.wr R.CAL.VCP_STATUS.BUSY 1).wr R.CAL.VCP_STATUS.SKIPPED 0) (bit flags 0) streams).1).length then vcpEnd (vcpSections s.fuse s.mem ((s.m.fresh.wr R.CAL.VCP_STATUS.BUSY 1).wr R.CAL.VCP_STATUS.SKIPPED 0) (bit flags 0) streams).2 VCP_TOO_LARGE else vcpEnd (devWrite (vcpSections s.fuse s.mem ((s.m.fresh.wr R.CAL.VCP_STATUS.BUSY 1).wr R.CAL.VCP_STATUS.SKIPPED 0) (bit flags 0) streams).2 .fw 1 addr (vcpFile ((vcpSections s.fuse s.mem ((s.m.fresh.wr R.CAL.VCP_STATUS.BUSY 1).wr R.CAL.VCP_STATUS.SKIPPED 0) (bit flags 0) streams).2.dbytes D.die_id) ((vcpSections s.fuse s.mem ((s.m.fresh.wr R.CAL.VCP_STATUS.BUSY 1).wr R.CAL.VCP_STATUS.SKIPPED 0) (bit flags 0) streams).2.dbytes D.panel_id) (uNat 64 (floorDiv (vcpSections s.fuse s.mem ((s.m.fresh.wr R.CAL.VCP_STATUS.BUSY 1).wr R.CAL.VCP_STATUS.SKIPPED 0) (bit flags 0) streams).2.tim.now 65536)) (vcpSections s.fuse s.mem ((s.m.fresh.wr R.CAL.VCP_STATUS.BUSY 1).wr R.CAL.VCP_STATUS.SKIPPED 0) (bit flags 0) streams).1)).2.2 (if (devWrite (vcpSections s.fuse s.mem ((s.m.fresh.wr R.CAL.VCP_STATUS.BUSY 1).wr R.CAL.VCP_STATUS.SKIPPED 0) (bit flags 0) streams).2 .fw 1 addr (vcpFile ((vcpSections s.fuse s.mem ((s.m.fresh.wr R.CAL.VCP_STATUS.BUSY 1).wr R.CAL.VCP_STATUS.SKIPPED 0) (bit flags 0) streams).2.dbytes D.die_id) ((vcpSections s.fuse s.mem ((s.m.fresh.wr R.CAL.VCP_STATUS.BUSY 1).wr R.CAL.VCP_STATUS.SKIPPED 0) (bit flags 0) streams).2.dbytes D.panel_id) (uNat 64 (floorDiv (vcpSections s.fuse s.mem ((s.m.fresh.wr R.CAL.VCP_STATUS.BUSY 1).wr R.CAL.VCP_STATUS.SKIPPED 0) (bit flags 0) streams).2.tim.now 65536)) (vcpSections s.fuse s.mem ((s.m.fresh.wr R.CAL.VCP_STATUS.BUSY 1).wr R.CAL.VCP_STATUS.SKIPPED 0) (bit flags 0) streams).1)).1 then CAL_DONE else VCP_BAD)) (
     if cap < (vcpFile ((vcpSections s.fuse s.mem ((s.m.fresh.wr R.CAL.VCP_STATUS.BUSY 1).wr R.CAL.VCP_STATUS.SKIPPED 0) (bit flags 0) streams).2.dbytes D.die_id) ((vcpSections s.fuse s.mem ((s.m.fresh.wr R.CAL.VCP_STATUS.BUSY 1).wr R.CAL.VCP_STATUS.SKIPPED 0) (bit flags 0) streams).2.dbytes D.panel_id) (uNat 64 (floorDiv (vcpSections s.fuse s.mem ((s.m.fresh.wr R.CAL.VCP_STATUS.BUSY 1).wr R.CAL.VCP_STATUS.SKIPPED 0) (bit flags 0) streams).2.tim.now 65536)) (vcpSections s.fuse s.mem ((s.m.fresh.wr R.CAL.VCP_STATUS.BUSY 1).wr R.CAL.VCP_STATUS.SKIPPED 0) (bit flags 0) streams).1).length then [] else (devWrite (vcpSections s.fuse s.mem ((s.m.fresh.wr R.CAL.VCP_STATUS.BUSY 1).wr R.CAL.VCP_STATUS.SKIPPED 0) (bit flags 0) streams).2 .fw 1 addr (vcpFile ((vcpSections s.fuse s.mem ((s.m.fresh.wr R.CAL.VCP_STATUS.BUSY 1).wr R.CAL.VCP_STATUS.SKIPPED 0) (bit flags 0) streams).2.dbytes D.die_id) ((vcpSections s.fuse s.mem ((s.m.fresh.wr R.CAL.VCP_STATUS.BUSY 1).wr R.CAL.VCP_STATUS.SKIPPED 0) (bit flags 0) streams).2.dbytes D.panel_id) (uNat 64 (floorDiv (vcpSections s.fuse s.mem ((s.m.fresh.wr R.CAL.VCP_STATUS.BUSY 1).wr R.CAL.VCP_STATUS.SKIPPED 0) (bit flags 0) streams).2.tim.now 65536)) (vcpSections s.fuse s.mem ((s.m.fresh.wr R.CAL.VCP_STATUS.BUSY 1).wr R.CAL.VCP_STATUS.SKIPPED 0) (bit flags 0) streams).1)).2.1))) ∧
  -- VCP_STORE of a file in order: it goes to the Vault
  (∀ (s : State) (addr len : Nat) (p : Vcp),
    s.Runs →
    fwServes s.m = true →
    s.m.cal.vcp = none →
    (devRead s.mem ((s.m.fresh.wr R.CAL.VCP_STATUS.BUSY 1).wr R.CAL.VCP_STATUS.SKIPPED 0) .fw 1 addr len).1 = .fine →
    vcpParse (devRead s.mem ((s.m.fresh.wr R.CAL.VCP_STATUS.BUSY 1).wr R.CAL.VCP_STATUS.SKIPPED 0) .fw 1 addr len).2.1 = some p →
    ((devRead s.mem ((s.m.fresh.wr R.CAL.VCP_STATUS.BUSY 1).wr R.CAL.VCP_STATUS.SKIPPED 0) .fw 1 addr len).2.1.take (fieldLE (devRead s.mem ((s.m.fresh.wr R.CAL.VCP_STATUS.BUSY 1).wr R.CAL.VCP_STATUS.SKIPPED 0) .fw 1 addr len).2.1 12 4)).length ≤ vcpMib (devRead s.mem ((s.m.fresh.wr R.CAL.VCP_STATUS.BUSY 1).wr R.CAL.VCP_STATUS.SKIPPED 0) .fw 1 addr len).2.2 * 2 ^ 20 →
    exec (.vcpStore addr len) s = .next (s.afterW (
     vcpWrite { (devRead s.mem ((s.m.fresh.wr R.CAL.VCP_STATUS.BUSY 1).wr R.CAL.VCP_STATUS.SKIPPED 0) .fw 1 addr len).2.2 with cal := { (devRead s.mem ((s.m.fresh.wr R.CAL.VCP_STATUS.BUSY 1).wr R.CAL.VCP_STATUS.SKIPPED 0) .fw 1 addr len).2.2.cal with vcp := some (2, ((devRead s.mem ((s.m.fresh.wr R.CAL.VCP_STATUS.BUSY 1).wr R.CAL.VCP_STATUS.SKIPPED 0) .fw 1 addr len).2.1.take (fieldLE (devRead s.mem ((s.m.fresh.wr R.CAL.VCP_STATUS.BUSY 1).wr R.CAL.VCP_STATUS.SKIPPED 0) .fw 1 addr len).2.1 12 4))) } } ((devRead s.mem ((s.m.fresh.wr R.CAL.VCP_STATUS.BUSY 1).wr R.CAL.VCP_STATUS.SKIPPED 0) .fw 1 addr len).2.1.take (fieldLE (devRead s.mem ((s.m.fresh.wr R.CAL.VCP_STATUS.BUSY 1).wr R.CAL.VCP_STATUS.SKIPPED 0) .fw 1 addr len).2.1 12 4)) (crc32c ((devRead s.mem ((s.m.fresh.wr R.CAL.VCP_STATUS.BUSY 1).wr R.CAL.VCP_STATUS.SKIPPED 0) .fw 1 addr len).2.1.take (fieldLE (devRead s.mem ((s.m.fresh.wr R.CAL.VCP_STATUS.BUSY 1).wr R.CAL.VCP_STATUS.SKIPPED 0) .fw 1 addr len).2.1 12 4)))) (
     []))) ∧
  -- VCP_RESTORE from DRAM of a file in order: every section applied, skipped ones counted
  (∀ (s : State) (addr len source : Nat) (p : Vcp),
    s.Runs →
    fwServes s.m = true →
    s.m.cal.vcp = none →
    source ≠ 1 →
    (devRead s.mem ((s.m.fresh.wr R.CAL.VCP_STATUS.BUSY 1).wr R.CAL.VCP_STATUS.SKIPPED 0) .fw 1 addr len).1 = .fine →
    vcpParse (devRead s.mem ((s.m.fresh.wr R.CAL.VCP_STATUS.BUSY 1).wr R.CAL.VCP_STATUS.SKIPPED 0) .fw 1 addr len).2.1 = some p →
    exec (.vcpRestore addr len source) s = .next (s.afterW (
     vcpEnd ((p.secs.foldl (vcpApply s.fuse p) ⟨s.mem, [], 0, 0, (devRead s.mem ((s.m.fresh.wr R.CAL.VCP_STATUS.BUSY 1).wr R.CAL.VCP_STATUS.SKIPPED 0) .fw 1 addr len).2.2⟩).m.addSat R.CAL.VCP_STATUS.SKIPPED (p.secs.foldl (vcpApply s.fuse p) ⟨s.mem, [], 0, 0, (devRead s.mem ((s.m.fresh.wr R.CAL.VCP_STATUS.BUSY 1).wr R.CAL.VCP_STATUS.SKIPPED 0) .fw 1 addr len).2.2⟩).skip) (if (p.secs.foldl (vcpApply s.fuse p) ⟨s.mem, [], 0, 0, (devRead s.mem ((s.m.fresh.wr R.CAL.VCP_STATUS.BUSY 1).wr R.CAL.VCP_STATUS.SKIPPED 0) .fw 1 addr len).2.2⟩).part = 0 then CAL_DONE else (p.secs.foldl (vcpApply s.fuse p) ⟨s.mem, [], 0, 0, (devRead s.mem ((s.m.fresh.wr R.CAL.VCP_STATUS.BUSY 1).wr R.CAL.VCP_STATUS.SKIPPED 0) .fw 1 addr len).2.2⟩).part)) (
     (p.secs.foldl (vcpApply s.fuse p) ⟨s.mem, [], 0, 0, (devRead s.mem ((s.m.fresh.wr R.CAL.VCP_STATUS.BUSY 1).wr R.CAL.VCP_STATUS.SKIPPED 0) .fw 1 addr len).2.2⟩).wr))) ∧
  -- from the stored file: likewise
  (∀ (s : State) (addr len : Nat) (p : Vcp),
    s.Runs →
    fwServes s.m = true →
    s.m.cal.vcp = none →
    vcpParse (s.m.vlt.storedVcp.getD []) = some p →
    exec (.vcpRestore addr len 1) s = .next (s.afterW (
     vcpEnd ((p.secs.foldl (vcpApply s.fuse p) ⟨s.mem, [], 0, 0, ((s.m.fresh.wr R.CAL.VCP_STATUS.BUSY 1).wr R.CAL.VCP_STATUS.SKIPPED 0)⟩).m.addSat R.CAL.VCP_STATUS.SKIPPED (p.secs.foldl (vcpApply s.fuse p) ⟨s.mem, [], 0, 0, ((s.m.fresh.wr R.CAL.VCP_STATUS.BUSY 1).wr R.CAL.VCP_STATUS.SKIPPED 0)⟩).skip) (if (p.secs.foldl (vcpApply s.fuse p) ⟨s.mem, [], 0, 0, ((s.m.fresh.wr R.CAL.VCP_STATUS.BUSY 1).wr R.CAL.VCP_STATUS.SKIPPED 0)⟩).part = 0 then CAL_DONE else (p.secs.foldl (vcpApply s.fuse p) ⟨s.mem, [], 0, 0, ((s.m.fresh.wr R.CAL.VCP_STATUS.BUSY 1).wr R.CAL.VCP_STATUS.SKIPPED 0)⟩).part)) (
     (p.secs.foldl (vcpApply s.fuse p) ⟨s.mem, [], 0, 0, ((s.m.fresh.wr R.CAL.VCP_STATUS.BUSY 1).wr R.CAL.VCP_STATUS.SKIPPED 0)⟩).wr)))

/-- O43. Scene frames on the HOST path. -/
def Obligations.SceneCommands : Prop :=
  -- MSF_HEADER in order on a selected path with room: the frame is queued, its 64 bytes written at its place
  (∀ (s : State) (b : List Byte) (a : Nat),
    s.Runs →
    (pathOf s.m 0).rx = none →
    pathSelected s.m 0 = true →
    headerCode s.m (slice b 0 64) = 0 →
    s.m.flow.frames.length < 64 →
    queuePlace ({ s.m.fresh with flow := { s.m.fresh.flow with mark := some (fieldLE (slice b 0 64) 8 4) } }) (fieldLE (slice b 0 64) 24 4) = some a →
    exec (.msfHeader b) s = .next (s.afterW (
     queueRefresh (pathMod (setFrames ({ s.m.fresh with flow := { s.m.fresh.flow with mark := some (fieldLE (slice b 0 64) 8 4) } }) (s.m.fresh.flow.frames ++ [newFrame ({ s.m.fresh with flow := { s.m.fresh.flow with mark := some (fieldLE (slice b 0 64) 8 4) } }) 0 a (slice b 0 64)])) 0 (fun _ => ⟨some (fieldLE (slice b 0 64) 8 4), none⟩))) (
     [(a, (slice b 0 64))]))) ∧
  -- MSF_SLAB_ENTRY in order: taken, its 192 bytes written after those before
  (∀ (s : State) (b : List Byte) (f : Frame),
    s.Runs →
    receiving s.m 0 1 = some f →
    slabCode f (slice b 0 192) = 0 →
    tableCode ({ (f.take (slice b 0 192)) with slabs := f.slabs ++ [slabOf f.seq (slice b 0 192)] } : Frame) = 0 →
    (frameOf (queueRefresh (frameMod s.m.fresh f.seq (fun _ => ({ (f.take (slice b 0 192)) with slabs := f.slabs ++ [slabOf f.seq (slice b 0 192)] } : Frame)))) f.seq).isNone = false →
    exec (.msfSlabEntry b) s = .next (s.afterW (
     ingestHead (applyWrites s.mem [(f.addr + f.got, (slice b 0 192))]) (queueRefresh (frameMod s.m.fresh f.seq (fun _ => ({ (f.take (slice b 0 192)) with slabs := f.slabs ++ [slabOf f.seq (slice b 0 192)] } : Frame)))) f.seq) (
     [(f.addr + f.got, (slice b 0 192))]))) ∧
  -- MSF_TILE_INDEX in order: taken, its 16 bytes written
  (∀ (s : State) (b : List Byte) (f : Frame) (sl : MSlab),
    s.Runs →
    receiving s.m 0 2 = some f →
    f.openSlab = some sl →
    tileCode f sl (slice b 0 16) = 0 →
    indexCode (Frame.addTile (f.take (slice b 0 16)) sl.id (tileOf (slice b 0 16))) = 0 →
    (frameOf (queueRefresh (frameMod s.m.fresh f.seq (fun _ => (Frame.addTile (f.take (slice b 0 16)) sl.id (tileOf (slice b 0 16)))))) f.seq).isNone = false →
    exec (.msfTileIndex b) s = .next (s.afterW (
     ingestHead (applyWrites s.mem [(f.addr + f.got, (slice b 0 16))]) (queueRefresh (frameMod s.m.fresh f.seq (fun _ => (Frame.addTile (f.take (slice b 0 16)) sl.id (tileOf (slice b 0 16)))))) f.seq) (
     [(f.addr + f.got, (slice b 0 16))]))) ∧
  -- MSF_TILE_PAYLOAD of the next tile, in order: taken, its bytes written
  (∀ (s : State) (b : List Byte) (f : Frame) (id q : Nat) (t : MTile) (sl : MSlab),
    s.Runs →
    receiving s.m 0 3 = some f →
    f.nextPayload = some (id, q, t) →
    f.slab id = some sl →
    zeros b 0 (t.off - f.got) = true →
    (b.drop (t.off - f.got)).length = t.len →
    payloadCode (b.drop (t.off - f.got)) sl.itv (f.ver != 2) = 0 →
    (frameOf (queueRefresh (frameMod s.m.fresh f.seq (fun _ => (Frame.tileHere (f.take b) id q)))) f.seq).isNone = false →
    exec (.msfTilePayload b) s = .next (s.afterW (
     ingestHead (applyWrites s.mem [(f.addr + f.got, b)]) (queueRefresh (frameMod s.m.fresh f.seq (fun _ => (Frame.tileHere (f.take b) id q)))) f.seq) (
     [(f.addr + f.got, b)]))) ∧
  -- MSF_FRAME_TRAILER with the right CRC and end marker: the frame is COMPLETE, its bytes written
  (∀ (s : State) (b : List Byte) (f : Frame),
    s.Runs →
    receiving s.m 0 4 = some f →
    zeros b 0 (f.bytes - 8 - f.got) = true →
    (b.drop (f.bytes - 8 - f.got)).length = 8 →
    fieldLE (b.drop (f.bytes - 8 - f.got)) 0 4 = Nat.xor (f.take (b.take (f.bytes - 8 - f.got))).crc 0xFFFFFFFF →
    fieldLE (b.drop (f.bytes - 8 - f.got)) 4 4 = 0x4546534D →
    (frameOf (pathMod (queueRefresh (frameMod s.m.fresh f.seq (fun _ => ({ (f.take (b.take (f.bytes - 8 - f.got))) with got := f.bytes, tail := true, st := F_COMPLETE } : Frame)))) f.path (fun _ => ⟨none, none⟩)) f.seq).isNone = false →
    exec (.msfFrameTrailer b) s = .next (s.afterW (
     ingestStep (applyWrites s.mem [(f.addr + f.got, b)]) (ingestHead (applyWrites s.mem [(f.addr + f.got, b)]) (pathMod (queueRefresh (frameMod s.m.fresh f.seq (fun _ => ({ (f.take (b.take (f.bytes - 8 - f.got))) with got := f.bytes, tail := true, st := F_COMPLETE } : Frame)))) f.path (fun _ => ⟨none, none⟩)) f.seq)) (
     [(f.addr + f.got, b)])))

/-- O44. Flowstone commands. -/
def Obligations.FlowstoneCommands : Prop :=
  -- LATE_FRAME_BYTES of a frame dropped as incomplete: counted and reported, the rest still to come
  (∀ (s : State) (path k l : Nat),
    s.Runs →
    (pathOf s.m path).drop = some (some l, false) →
    k ≠ 0 →
    k ≤ l →
    exec (.lateFrameBytes path k) s = .next (s.after (
     pathMod ((hev ((hev (s.m.fresh.add R.FLOW.LATE_BYTES.COUNT k) 4 k).add R.FLOW.LATE_FRAMES.COUNT 1) 5).ev E.FLOW.LATE_DATA) path (fun _ => ⟨none, if l ≤ k then none else some (some (l - k), true)⟩)))) ∧
  -- STALL_TIMEOUT of a frame coming in: FRAME_INCOMPLETE
  (∀ (s : State) (path q : Nat) (f : Frame),
    s.Runs →
    (pathOf s.m path).rx = some q →
    frameOf s.m q = some f →
    f.st = F_RECEIVING →
    exec (.stallTimeout path) s = .next (s.after (
     refuseFrame s.m.fresh f FRAME_INCOMPLETE))) ∧
  -- QUEUE_FLUSH: every frame not current ends FLUSHED, any sequence is accepted next
  (∀ (s : State),
    s.Runs →
    exec (.queueFlush) s = .next (s.after (
     queueSweep { (s.m.fresh.each (s.m.flow.frames.filter (fun f => f.st < F_CURRENT)) (fun m f => refuseFrame m f FLUSHED)) with flow := { (s.m.fresh.each (s.m.flow.frames.filter (fun f => f.st < F_CURRENT)) (fun m f => refuseFrame m f FLUSHED)).flow with mark := none } }))) ∧
  -- TILE_ROW_DEMAND of an absent row: nothing waits
  (∀ (s : State) (k : RowKey) (band req : Nat),
    s.Runs →
    rowAbsent s.m k = true →
    exec (.tileRowDemand k band req) s = .next (s.after (
     s.m.fresh.emit (.start 1 0)))) ∧
  -- of a row not in Grotto: it waits in its order, free lanes are assigned
  (∀ (s : State) (k : RowKey) (band req : Nat) (c : Ctx),
    s.Runs →
    rowAbsent s.m k = false →
    growOf s.m k = none →
    s.m.flow.demands.any (fun d => d.key == k) = false →
    s.m.flow.demands.length < 4096 →
    s.m.rd R.FLOW.STATUS.STATE = 1 →
    ctxOf (needCtx ({ s.m.fresh with flow := { s.m.fresh.flow with demands := s.m.fresh.flow.demands ++ [⟨k, band, req, s.m.fresh.flow.nextArr, none, false⟩], nextArr := s.m.fresh.flow.nextArr + 1 } }) k 0) k = some c →
    exec (.tileRowDemand k band req) s = .next (s.after (
     (assignLanes (demandRefresh (putCtx (needCtx ({ s.m.fresh with flow := { s.m.flow with demands := s.m.flow.demands ++ [⟨k, band, req, s.m.flow.nextArr, none, false⟩], nextArr := s.m.flow.nextArr + 1 } }) k 0) { c with pinned := true, tick := (needCtx ({ s.m.fresh with flow := { s.m.flow with demands := s.m.flow.demands ++ [⟨k, band, req, s.m.flow.nextArr, none, false⟩], nextArr := s.m.flow.nextArr + 1 } }) k 0).tickCount % 65536 }))).emit (.start 1 1)))) ∧
  -- ROW_COMMIT: the lane's decode is judged
  (∀ (s : State) (lane : Nat) (d : Demand),
    s.Runs →
    s.m.flow.demands.find? (fun d => d.lane == some lane) = some d →
    exec (.rowCommit lane) s = .next (s.after (
     laneDecode s.mem s.m.fresh lane d))) ∧
  -- and where its symbols are in order: the row and the context are kept
  (∀ (s : State) (lane slot : Nat) (d : Demand) (f : Frame) (sl : MSlab) (t : MTile) (c : Ctx) (ws : List Nat) (g : SegDec) (m1 : Mach),
    s.Runs →
    s.m.flow.demands.find? (fun d => d.lane == some lane) = some d →
    tileFor s.m d.key = some (f, sl, t) →
    ctxOf s.m d.key = some c →
    f.bad = [] →
    rowToDecode s.m c d.key.row = (d.key.row, false, true) →
    f.ver = 2 →
    (decodeRow (payloadWord s.mem (f.addr + t.off)) ⟨sl.fmt, sl.freq, t.cls, t.dmin, t.dmax⟩ (segStart (payloadWord s.mem (f.addr + t.off)) 4 ((payloadWord s.mem (f.addr + t.off)) (4 * (d.key.row / segRows sl.itv)) + 65536 * (payloadWord s.mem (f.addr + t.off)) (4 * (d.key.row / segRows sl.itv) + 2)) (if (d.key.row / segRows sl.itv) + 1 < 64 / segRows sl.itv then ((payloadWord s.mem (f.addr + t.off)) (4 * ((d.key.row / segRows sl.itv) + 1)) + 65536 * (payloadWord s.mem (f.addr + t.off)) (4 * ((d.key.row / segRows sl.itv) + 1) + 2)) else t.len - 4)) none ((d.key.row + 1) % segRows sl.itv = 0)).toOption = some (ws, g) →
    placeRow s.m.fresh d.key ws = some (slot, m1) →
    exec (.rowCommit lane) s = .next (s.after (
     demandDone (putCtx (setDemands (hev (m1.add R.FLOW.ROWS_DECODED.COUNT 1) 0) ((hev (m1.add R.FLOW.ROWS_DECODED.COUNT 1) 0).flow.demands.map (fun e => if e.arr == d.arr then { e with re := true } else e))) { c with states := g.st, tick := (setDemands (hev (m1.add R.FLOW.ROWS_DECODED.COUNT 1) 0) ((hev (m1.add R.FLOW.ROWS_DECODED.COUNT 1) 0).flow.demands.map (fun e => if e.arr == d.arr then { e with re := true } else e))).tickCount % 65536, pred := slot, next := d.key.row + 1, segEnd := g.fin / 2, pos := g.pos / 2 }) d.key)))

/-- O45. Flowstone background work, drain and lanes. -/
def Obligations.FlowstoneControl : Prop :=
  -- BACKGROUND_SEGMENT_DONE without an error: the bad mark goes
  (∀ (s : State) (q sl t sg : Nat) (l : List (Nat × Nat × Nat × Nat)) (f : Frame) (b : BadSeg),
    s.Runs →
    hasGrant s.m 1 0 = true →
    (lanesFree s.m).isEmpty = false →
    poolQuota s.m 1 ≠ 0 →
    s.m.rd R.FLOW.STATUS.STATE = 1 →
    s.m.flow.bg = (q, sl, t, sg) :: l →
    frameOf ({ s.m.fresh with flow := { s.m.fresh.flow with bg := l } }) q = some f →
    f.bad.find? (fun b => b.slab == sl && b.tile == t && b.seg == sg) = some b →
    b.tried = false →
    checkSegment s.mem ({ s.m.fresh with flow := { s.m.fresh.flow with bg := l } }) ⟨q, sl, t, 0⟩ sg = none →
    exec (.backgroundSegmentDone) s = .next (s.after (
     flowLaneEvent (clearBad ({ s.m.fresh with flow := { s.m.flow with bg := l } }) q sl t sg) b.lane b.code (sl * 2 ^ 24 + t * 2 ^ 6 + b.row)))) ∧
  -- with nothing to check: nothing
  (∀ (s : State),
    s.Runs →
    hasGrant s.m 1 0 = true →
    (lanesFree s.m).isEmpty = false →
    poolQuota s.m 1 ≠ 0 →
    s.m.rd R.FLOW.STATUS.STATE = 1 →
    s.m.flow.bg = [] →
    nextPrecheck s.m = none →
    exec (.backgroundSegmentDone) s = .next (s.after (
     s.m.fresh))) ∧
  -- a precheck that finds one: the row is marked bad
  (∀ (s : State) (q sl t sg row code : Nat) (f : Frame),
    s.Runs →
    hasGrant s.m 1 0 = true →
    (lanesFree s.m).isEmpty = false →
    poolQuota s.m 1 ≠ 0 →
    s.m.rd R.FLOW.STATUS.STATE = 1 →
    s.m.flow.bg = [] →
    nextPrecheck s.m = some (q, sl, t, sg) →
    frameOf (frameMod s.m.fresh q (fun f => { f with checked := f.checked + 1 })) q = some f →
    checkSegment s.mem (frameMod s.m.fresh q (fun f => { f with checked := f.checked + 1 })) ⟨q, sl, t, 0⟩ sg = some (row, code) →
    exec (.backgroundSegmentDone) s = .next (s.after (
     recordBad (frameMod s.m.fresh q (fun f => { f with checked := f.checked + 1 })) f ⟨q, sl, t, row⟩ sg code ((lanesFree s.m.fresh).headD 0)))) ∧
  -- FLOW_DRAIN, ENABLE 1: running, lanes assigned
  (∀ (s : State),
    s.Runs →
    (s.m.fresh.wr R.FLOW.CTRL.ENABLE 1).rd R.FLOW.STATUS.STATE ≠ 0 →
    exec (.flowDrain true) s = .next (s.after (
     assignLanes ((s.m.fresh.wr R.FLOW.CTRL.ENABLE 1).wr R.FLOW.STATUS.STATE 1)))) ∧
  -- ENABLE 0 outside M6 to M9: draining
  (∀ (s : State),
    s.Runs →
    drivesRays s.m.mode = false →
    s.m.mode = 5 ∨ s.m.mode = 10 →
    (s.m.fresh.wr R.FLOW.CTRL.ENABLE 0).rd R.FLOW.STATUS.STATE = 1 →
    exec (.flowDrain false) s = .next (s.after (
     (s.m.fresh.wr R.FLOW.CTRL.ENABLE 0).wr R.FLOW.STATUS.STATE 2))) ∧
  -- in M6 to M9: FLOW_IN_USE
  (∀ (s : State),
    s.Runs →
    drivesRays s.m.mode = true →
    exec (.flowDrain false) s = .next (s.after (
     s.m.fresh.wr R.FLOW.STATUS.LAST_STOP FLOW_IN_USE))) ∧
  -- FLOW_DRAINED with no lane at work: stopped, FLOW_DRAINED
  (∀ (s : State),
    s.Runs →
    s.m.rd R.FLOW.STATUS.STATE = 2 →
    s.m.flow.demands.all (fun d => d.lane.isNone) = true →
    exec (.flowDrained) s = .next (s.after (
     ((s.m.fresh.wr R.FLOW.STATUS.STATE 3).wr R.FLOW.STATUS.LAST_STOP FLOW_DRAINED).ev E.FLOW.DRAINED))) ∧
  -- FLOW_FORCE_STOP in M5 or M10: lanes' rows dropped, ABORTED_BY_DISABLE or ABORT_LATE
  (∀ (s : State) (late : Bool),
    s.Runs →
    drivesRays s.m.mode = false →
    s.m.mode = 5 ∨ s.m.mode = 10 →
    exec (.flowForceStop late) s = .next (s.after (
     ((((demandRefresh (setDemands s.m.fresh (s.m.flow.demands.filter (fun d => d.lane.isNone)))).wr R.FLOW.CTRL.ENABLE 0).wr R.FLOW.STATUS.STATE 3).wr R.FLOW.STATUS.LAST_STOP (if late then ABORT_LATE else ABORTED_BY_DISABLE)).ev E.FLOW.DRAINED))) ∧
  -- FLOW_LANE_ERROR: its row goes to a free lane, its bucket counts
  (∀ (s : State) (lane : Nat),
    s.Runs →
    lane < 26 →
    exec (.flowLaneError lane) s = .next (s.after (
     flowLaneEvent (setDemands s.m.fresh (s.m.flow.demands.map (fun d => if d.lane == some lane then { d with lane := ((lanesFree s.m.fresh).filter (· != lane)).head? } else d))) lane 0 lane))) ∧
  -- CTX_SNAPSHOT of a context held: its 32 bytes
  (∀ (s : State) (q : Nat) (c : Ctx),
    s.Runs →
    s.m.flow.ctxs.find? (fun c => c.num == q % 2 ^ 18) = some c →
    exec (.ctxSnapshot q) s = .next (s.after (
     ((s.m.fresh.wr R.FLOW.CTX_INDEX.INDEX (q % 2 ^ 18)).wr R.FLOW.CTX_INDEX.SNAP_DONE 1).each (List.range 8) (fun m w => m.wr R.FLOW.CTX_DATA.DATA (fieldLE c.bytes (4 * w) 4) w)))) ∧
  -- of none: zeros
  (∀ (s : State) (q : Nat),
    s.Runs →
    s.m.flow.ctxs.find? (fun c => c.num == q % 2 ^ 18) = none →
    exec (.ctxSnapshot q) s = .next (s.after (
     ((s.m.fresh.wr R.FLOW.CTX_INDEX.INDEX (q % 2 ^ 18)).wr R.FLOW.CTX_INDEX.SNAP_DONE 1).each (List.range 8) (fun m w => m.wr R.FLOW.CTX_DATA.DATA (fieldLE (List.replicate 32 (0 : Byte)) (4 * w) 4) w))))

/-- O46. Scene claims and scene frames through Passage. -/
def Obligations.SceneFabricCommands : Prop :=
  -- SCENE_CLAIM at the leader, none granted: granted
  (∀ (s : State) (n : Nat) (p : Packet),
    s.Runs →
    n < 4 →
    linkUp s.m n = true →
    s.m.flag R.PASS.LINK_STATUS.MISWIRED n = false →
    p.lseq = (linkRec s.m n).rxSeq →
    forMe s.m p = true →
    p.mcast = false →
    s.m.flag R.PASS.STATUS.IS_LEADER = true →
    s.m.fab.granted = none →
    exec (.sceneClaim n true p) s = .next (s.after (
     grantClaim (s.m.fresh.took n p) ⟨p.src, fieldLE p.data 4 4, bit (fieldLE p.data 0 1) 0⟩))) ∧
  -- SCENE_GRANT of the claim made: held, frames in hand go
  (∀ (s : State) (n : Nat) (p : Packet),
    s.Runs →
    n < 4 →
    linkUp s.m n = true →
    s.m.flag R.PASS.LINK_STATUS.MISWIRED n = false →
    p.lseq = (linkRec s.m n).rxSeq →
    forMe s.m p = true →
    p.mcast = false →
    s.m.fab.claim = some (fieldLE p.data 4 4) →
    fieldLE p.data 0 1 = 0 →
    exec (.sceneGrant n true p) s = .next (s.after (
     ingestStep s.mem ((s.m.fresh.took n p).wr R.PASS.STATUS.CLAIM_HELD 1)))) ∧
  -- of its revocation: given up
  (∀ (s : State) (n : Nat) (p : Packet),
    s.Runs →
    n < 4 →
    linkUp s.m n = true →
    s.m.flag R.PASS.LINK_STATUS.MISWIRED n = false →
    p.lseq = (linkRec s.m n).rxSeq →
    forMe s.m p = true →
    p.mcast = false →
    s.m.fab.claim = some (fieldLE p.data 4 4) →
    fieldLE p.data 0 1 = 2 →
    exec (.sceneGrant n true p) s = .next (s.after (
     ingestStep s.mem ((passCode ({ (s.m.fresh.took n p).wr R.PASS.STATUS.CLAIM_HELD 0 with fab := { (s.m.fresh.took n p).fab with claim := none, headOut := false, send := (s.m.fresh.took n p).fab.send.filter (· != fieldLE p.data 4 4) } }) CLAIM_REVOKED).ev E.PASS.CLAIM_REVOKED)))) ∧
  -- SCENE_RELEASE by the holder: the next claim is granted
  (∀ (s : State) (n : Nat) (p : Packet) (c : Claim),
    s.Runs →
    n < 4 →
    linkUp s.m n = true →
    s.m.flag R.PASS.LINK_STATUS.MISWIRED n = false →
    p.lseq = (linkRec s.m n).rxSeq →
    forMe s.m p = true →
    p.mcast = false →
    s.m.flag R.PASS.STATUS.IS_LEADER = true →
    s.m.fab.granted = some c →
    c.src = p.src →
    c.seq = fieldLE p.data 4 4 →
    exec (.sceneRelease n true p) s = .next (s.after (
     ingestStep s.mem (nextClaim (s.m.fresh.took n p))))) ∧
  -- SCENE_CLAIM_REVOKE of another node's claim: revoked, the next is granted
  (∀ (s : State) (c : Claim),
    s.Runs →
    s.m.fab.granted = some c →
    fabAddr s.m ≠ some c.src →
    exec (.sceneClaimRevoke) s = .next (s.after (
     ingestStep s.mem (nextClaim (revokeClaim s.m.fresh))))) ∧
  -- SCENE_HEAD of a frame coming in: its bytes are placed, complete pieces written
  (∀ (s : State) (n : Nat) (p : Packet) (f g : Frame),
    s.Runs →
    n < 4 →
    linkUp s.m n = true →
    s.m.flag R.PASS.LINK_STATUS.MISWIRED n = false →
    p.lseq = (linkRec s.m n).rxSeq →
    forMe s.m p = true →
    p.mcast = false →
    frameOf (s.m.fresh.took n p) (fieldLE p.data 0 4) = some f →
    f.path = 1 →
    f.st = F_RECEIVING →
    frameOf (headRun (f.poff / 16 + 1) (frameMod (s.m.fresh.took n p) (fieldLE p.data 0 4) (fun f => { f with head := ((fieldLE p.data 4 4), (p.data.drop (if (fieldLE p.data 4 4) = 0 then 96 else 16))) :: f.head })) (fieldLE p.data 0 4)) (fieldLE p.data 0 4) = some g →
    g.stage < 3 →
    exec (.sceneHead n true p) s = .next (s.afterW (
     fabJudge (headRun (f.poff / 16 + 1) (frameMod (s.m.fresh.took n p) (fieldLE p.data 0 4) (fun f => { f with head := ((fieldLE p.data 4 4), (p.data.drop (if (fieldLE p.data 4 4) = 0 then 96 else 16))) :: f.head })) (fieldLE p.data 0 4)) (fieldLE p.data 0 4)) (
     [(f.addr + (fieldLE p.data 4 4), (p.data.drop (if (fieldLE p.data 4 4) = 0 then 96 else 16)).take (f.poff - (fieldLE p.data 4 4)))]))) ∧
  -- SCENE_PAYLOAD of a tile of its head: written at its place, the tile is here when whole
  (∀ (s : State) (n : Nat) (p : Packet) (f : Frame) (sl : MSlab) (q : Nat) (t : MTile),
    s.Runs →
    n < 4 →
    linkUp s.m n = true →
    s.m.flag R.PASS.LINK_STATUS.MISWIRED n = false →
    p.lseq = (linkRec s.m n).rxSeq →
    forMe s.m p = true →
    p.mcast = false →
    frameOf (s.m.fresh.took n p) (fieldLE p.data 0 4) = some f →
    f.path = 1 →
    f.st = F_RECEIVING →
    f.tileAt (fieldLE p.data 4 4) = some (sl, q, t) →
    t.here = false →
    t.cls ≠ 0 →
    (fieldLE p.data 8 4) + (p.data.drop 16).length ≤ t.len →
    f.parts.contains ((fieldLE p.data 4 4), (fieldLE p.data 8 4), (p.data.drop 16).length) = false →
    sumN (((((fieldLE p.data 4 4), (fieldLE p.data 8 4), (p.data.drop 16).length) :: f.parts).filter (fun z => z.1 == (fieldLE p.data 4 4))).map (fun z => z.2.2)) < t.len →
    needsTile (s.m.fresh.took n p) f.geom sl.pose sl q t = true →
    exec (.scenePayload n true p) s = .next (s.afterW (
     (frameMod (s.m.fresh.took n p) (fieldLE p.data 0 4) (fun g => { g with parts := (((fieldLE p.data 4 4), (fieldLE p.data 8 4), (p.data.drop 16).length) :: f.parts) }))) (
     [(f.addr + t.off + (fieldLE p.data 8 4), (p.data.drop 16))]))) ∧
  -- SCENE_SUPPL likewise
  (∀ (s : State) (n : Nat) (p : Packet) (f : Frame) (sl : MSlab) (q : Nat) (t : MTile),
    s.Runs →
    n < 4 →
    linkUp s.m n = true →
    s.m.flag R.PASS.LINK_STATUS.MISWIRED n = false →
    p.lseq = (linkRec s.m n).rxSeq →
    forMe s.m p = true →
    p.mcast = false →
    frameOf (s.m.fresh.took n p) (fieldLE p.data 0 4) = some f →
    f.tileAt (fieldLE p.data 4 4) = some (sl, q, t) →
    t.here = false →
    t.cls ≠ 0 →
    (fieldLE p.data 8 4) + (p.data.drop 16).length ≤ t.len →
    f.parts.contains ((fieldLE p.data 4 4), (fieldLE p.data 8 4), (p.data.drop 16).length) = false →
    sumN (((((fieldLE p.data 4 4), (fieldLE p.data 8 4), (p.data.drop 16).length) :: f.parts).filter (fun z => z.1 == (fieldLE p.data 4 4))).map (fun z => z.2.2)) < t.len →
    exec (.sceneSuppl n true p) s = .next (s.afterW (
     (frameMod (s.m.fresh.took n p) (fieldLE p.data 0 4) (fun g => { g with parts := (((fieldLE p.data 4 4), (fieldLE p.data 8 4), (p.data.drop 16).length) :: f.parts) }))) (
     [(f.addr + t.off + (fieldLE p.data 8 4), (p.data.drop 16))]))) ∧
  -- SCENE_END with marker and count right: the frame is judged
  (∀ (s : State) (n : Nat) (p : Packet) (f : Frame),
    s.Runs →
    n < 4 →
    linkUp s.m n = true →
    s.m.flag R.PASS.LINK_STATUS.MISWIRED n = false →
    p.lseq = (linkRec s.m n).rxSeq →
    forMe s.m p = true →
    p.mcast = false →
    frameOf (s.m.fresh.took n p) (fieldLE p.data 0 4) = some f →
    f.path = 1 →
    f.st = F_RECEIVING →
    fieldLE p.data 8 4 = 0x4546534D →
    fieldLE p.data 12 4 = f.tcount →
    f.slabs.any (fun q => q.pers != 0) = false →
    exec (.sceneEnd n true p) s = .next (s.afterW (
     fabJudge (frameMod (s.m.fresh.took n p) (fieldLE p.data 0 4) (fun f => { f with tail := true })) (fieldLE p.data 0 4)) (
     [(f.addr + f.bytes - 8, slice (p.data.drop 4) 0 8)])))

/-- O47. Ray rendering commands. -/
def Obligations.RayCommands : Prop :=
  -- BUNDLE_ISSUE by an active engine: its next bundle is traced for its rows, waits or is ready, the place moves on
  (∀ (s : State) (e e1 p : Nat),
    s.Runs →
    (enginesActive s.m).findIdx? (· == e) = some p →
    engineFor s.m e = some e1 →
    helRuns s.m = true →
    (engOf s.m e).line < (tentry s.m.entry).h →
    (bundlesOf s.m e1).length < 256 →
    exec (.bundleIssue e) s = .next (s.after (
     governorActs (missRows (setBundles (setEng s.m.fresh e (nextPlace (enginesActive s.m.fresh).length p (3 * (tentry s.m.entry).w / 64) (engOf s.m.fresh e))) ((setEng s.m.fresh e (nextPlace (enginesActive s.m.fresh).length p (3 * (tentry s.m.entry).w / 64) (engOf s.m.fresh e))).hel.bundles ++ [if (bundleWaits (traceBundle s.mem (setEng s.m.fresh e (nextPlace (enginesActive s.m.fresh).length p (3 * (tentry s.m.entry).w / 64) (engOf s.m.fresh e))) (⟨e1, (engOf s.m.fresh e).line, (engOf s.m.fresh e).n, 1, [], false, 0⟩ : Bundle) [])).isEmpty then (⟨e1, (engOf s.m.fresh e).line, (engOf s.m.fresh e).n, 1, [], false, 0⟩ : Bundle) else { (⟨e1, (engOf s.m.fresh e).line, (engOf s.m.fresh e).n, 1, [], false, 0⟩ : Bundle) with st := 2 }])) (bundleWaits (traceBundle s.mem (setEng s.m.fresh e (nextPlace (enginesActive s.m.fresh).length p (3 * (tentry s.m.entry).w / 64) (engOf s.m.fresh e))) (⟨e1, (engOf s.m.fresh e).line, (engOf s.m.fresh e).n, 1, [], false, 0⟩ : Bundle) []))) e1))) ∧
  -- BUNDLE_DONE at level 0 with every row there: its colours are kept, the band's budget is spent
  (∀ (s : State) (line q : Nat) (cuts : List Cut) (b : Bundle),
    s.Runs →
    s.m.hel.bundles.find? (fun b => b.line == line && b.n == q && b.st != 3) = some b →
    b.lvl = 0 →
    bundleWaits (traceBundle s.mem s.m.fresh b []) = [] →
    (traceBundle s.mem s.m.fresh b []).filter (·.sub) = [] →
    (traceBundle s.mem s.m.fresh b []).filter (·.ended) = [] →
    exec (.bundleDone line q cuts) s = .next (s.after (
     governorActs (spendBand (setBundles s.m.fresh (s.m.hel.bundles.map (fun z => if z.line == line && z.n == q then { b with st := 3, rays := (traceBundle s.mem s.m.fresh b []).map (fun r => (r.c.toNat, r.a.toNat, r.sub)) } else z))) (rayFrame (setBundles s.m.fresh (s.m.hel.bundles.map (fun z => if z.line == line && z.n == q then { b with st := 3, rays := (traceBundle s.mem s.m.fresh b []).map (fun r => (r.c.toNat, r.a.toNat, r.sub)) } else z)))) (line / 64) (sumN ((traceBundle s.mem s.m.fresh b []).map (·.n)))) b.eng))) ∧
  -- GOVERNOR_LEVEL_CHANGE: level 0 from 1,500 ns, 1 from 750 ns, else 2; least slack and greatest level
  (∀ (s : State) (e slack lv : Nat),
    s.Runs →
    e < 34 →
    lv = (if 1500 ≤ slack then 0 else if 750 ≤ slack then 1 else 2) →
    exec (.governorLevelChange e slack) s = .next (s.after (
     governorActs ((((setEng s.m.fresh e { engOf s.m.fresh e with level := lv }).wr R.HEL.GOV_SLACK.MIN_SLACK_NS (Nat.min (satN slack 0xFFFF) ((setEng s.m.fresh e { engOf s.m.fresh e with level := lv }).rd R.HEL.GOV_SLACK.MIN_SLACK_NS)))).wr R.HEL.STATUS.GOV_LEVEL (maxN ((((setEng s.m.fresh e { engOf s.m.fresh e with level := lv }).wr R.HEL.GOV_SLACK.MIN_SLACK_NS (Nat.min (satN slack 0xFFFF) ((setEng s.m.fresh e { engOf s.m.fresh e with level := lv }).rd R.HEL.GOV_SLACK.MIN_SLACK_NS)))).hel.engs.map (·.level)))) e))) ∧
  -- ENGINE_ERROR below the bucket's threshold: its oldest bundle is computed again elsewhere, counted
  (∀ (s : State) (e : Nat) (b : Bundle),
    s.Runs →
    e < 34 →
    oldestOf s.m e = some b →
    (bucketAdd (hev ((moveBundles s.m.fresh (fun z => z.line == b.line && z.n == b.n) (engineAfter s.m.fresh e)).add R.HEL.BUNDLES_RECOMPUTED.COUNT 1) 35) 1 e 1 0 e).1 = false →
    exec (.engineError e) s = .next (s.after (
     (bucketAdd (hev ((moveBundles s.m.fresh (fun z => z.line == b.line && z.n == b.n) (engineAfter s.m.fresh e)).add R.HEL.BUNDLES_RECOMPUTED.COUNT 1) 35) 1 e 1 0 e).2))) ∧
  -- GROTTO_ECC_ERROR corrected: counted and shown
  (∀ (s : State) (bank word : Nat) (sample : Bool),
    s.Runs →
    bank < 68 →
    word < 393216 →
    exec (.grottoEccError bank word false sample) s = .next (s.after (
     hev (((((s.m.fresh.wr R.GROT.ECC_LAST.UNCORR 0).wr R.GROT.ECC_LAST.BANK bank).wr R.GROT.ECC_LAST.WORD word).add R.GROT.ECC_CORR.COUNT 1).ev E.GROT.ECC_CORR) 38))) ∧
  -- uncorrected on a row: counted and shown, the row is dropped, the bank's bucket counts
  (∀ (s : State) (bank word : Nat),
    s.Runs →
    bank < 68 →
    word < 393216 →
    (bucketAdd (dropRows (hev (((((s.m.fresh.wr R.GROT.ECC_LAST.UNCORR 1).wr R.GROT.ECC_LAST.BANK bank).wr R.GROT.ECC_LAST.WORD word).add R.GROT.ECC_UNCORR.COUNT 1).ev E.GROT.ECC_UNCORR) 39) (fun r => r.slot == bank * 6144 + word / 64)) 2 bank wUncorr 0 (bank * 2 ^ 19 + word)).1 = false →
    exec (.grottoEccError bank word true false) s = .next (s.after (
     (bucketAdd (dropRows (hev (((((s.m.fresh.wr R.GROT.ECC_LAST.UNCORR 1).wr R.GROT.ECC_LAST.BANK bank).wr R.GROT.ECC_LAST.WORD word).add R.GROT.ECC_UNCORR.COUNT 1).ev E.GROT.ECC_UNCORR) 39) (fun r => r.slot == bank * 6144 + word / 64)) 2 bank wUncorr 0 (bank * 2 ^ 19 + word)).2))) ∧
  -- HEL_DRAIN, ENABLE 1: running
  (∀ (s : State),
    s.Runs →
    (s.m.fresh.wr R.HEL.CTRL.ENABLE 1).rd R.HEL.STATUS.STATE ≠ 0 →
    exec (.helDrain true) s = .next (s.after (
     (s.m.fresh.wr R.HEL.CTRL.ENABLE 1).wr R.HEL.STATUS.STATE 1))) ∧
  -- ENABLE 0 outside M6 to M9: draining
  (∀ (s : State),
    s.Runs →
    drivesRays s.m.mode = false →
    s.m.mode = 5 ∨ s.m.mode = 10 →
    (s.m.fresh.wr R.HEL.CTRL.ENABLE 0).rd R.HEL.STATUS.STATE = 1 →
    exec (.helDrain false) s = .next (s.after (
     (s.m.fresh.wr R.HEL.CTRL.ENABLE 0).wr R.HEL.STATUS.STATE 2))) ∧
  -- in M6 to M9: HEL_IN_USE
  (∀ (s : State),
    s.Runs →
    drivesRays s.m.mode = true →
    exec (.helDrain false) s = .next (s.after (
     s.m.fresh.wr R.HEL.STATUS.LAST_STOP HEL_IN_USE))) ∧
  -- HEL_DRAINED with every bundle done: stopped, HEL_DRAINED
  (∀ (s : State),
    s.Runs →
    s.m.rd R.HEL.STATUS.STATE = 2 →
    s.m.hel.bundles.all (fun b => b.st == 3) = true →
    exec (.helDrained) s = .next (s.after (
     ((s.m.fresh.wr R.HEL.STATUS.STATE 3).wr R.HEL.STATUS.LAST_STOP HEL_DRAINED).ev E.HEL.DRAINED))) ∧
  -- HEL_FORCE_STOP in M5 or M10: bundles dropped, ABORTED_BY_DISABLE or ABORT_LATE
  (∀ (s : State) (late : Bool),
    s.Runs →
    drivesRays s.m.mode = false →
    s.m.mode = 5 ∨ s.m.mode = 10 →
    exec (.helForceStop late) s = .next (s.after (
     ((((setBundles s.m.fresh []).wr R.HEL.CTRL.ENABLE 0).wr R.HEL.STATUS.STATE 3).wr R.HEL.STATUS.LAST_STOP (if late then ABORT_LATE else ABORTED_BY_DISABLE)).ev E.HEL.DRAINED))) ∧
  -- MAP_VERIFY_START: the base is held, the map is to be verified, or absent at base 0
  (∀ (s : State) (k base : Nat),
    s.Runs →
    k < 3 →
    exec (.mapVerifyStart k base) s = .next (s.after (
     deferNote (setMap (optWrite (optWrite (calAbandon s.m.fresh KIND_OPTICS) (mapRows k).1 (base / 4096)) (mapRows k).2 (base / 2 ^ 32)) k (if mapBase (optWrite (optWrite (calAbandon s.m.fresh KIND_OPTICS) (mapRows k).1 (base / 4096)) (mapRows k).2 (base / 2 ^ 32)) k = 0 then 0 else 1))))) ∧
  -- MAP_VERIFY_DONE: a good map is good; a bad one is reported and its set dropped
  (∀ (s : State) (k : Nat),
    s.Runs →
    k < 3 →
    s.m.hel.maps.getD k 0 = 1 →
    exec (.mapVerifyDone k) s = .next (s.after (
     if mapGood s.mem s.m.fresh (if k = 0 then 0 else 1) (mapBase s.m.fresh k) then setMap s.m.fresh k 2 else (((optCode (setMap (optDrop s.m.fresh) k 3) OPT_MAP_BAD).ev E.HEL.MAP_BAD).wr R.HEL.OPT_STATUS.HELD 0)))) ∧
  -- BAND_WALK_START of a complete frame with a plan slot: it is walked
  (∀ (s : State) (q : Nat) (f : Frame),
    s.Runs →
    frameOf s.m q = some f →
    f.walk = false →
    f.st = F_COMPLETE →
    f.plan = none →
    planSlotFree s.m = true →
    exec (.bandWalkStart q false) s = .next (s.after (
     queueRefresh (frameMod s.m.fresh q (fun f => { f with walk := true, planOpt := false }))))) ∧
  -- BAND_WALK_DONE with a plan within its bounds: the frame has it
  (∀ (s : State) (q : Nat) (plan : List BandPlan) (f : Frame),
    s.Runs →
    frameOf s.m q = some f →
    f.walk = true →
    f.ver ≠ 0x81 →
    planCovers plan (walkBounds s.mem s.m.fresh f f.planOpt) = true →
    exec (.bandWalkDone q plan) s = .next (s.after (
     queueRefresh (frameMod s.m.fresh q (fun g => if g.planOpt then { g with walk := false, plan2 := some plan } else { g with walk := false, plan := some plan }))))) ∧
  -- of a flat stream: it has the flat plan
  (∀ (s : State) (q : Nat) (plan : List BandPlan) (f : Frame),
    s.Runs →
    frameOf s.m q = some f →
    f.walk = true →
    f.ver = 0x81 →
    exec (.bandWalkDone q plan) s = .next (s.after (
     queueRefresh (frameMod s.m.fresh q (fun g => { g with walk := false, plan := some (flatPlan s.m.fresh f) }))))) ∧
  -- FRAME_ADMISSION_CHECK of a complete due frame whose sums pass: ADMITTED
  (∀ (s : State) (q : Nat) (f : Frame) (sl : List MSlab),
    s.Runs →
    frameOf s.m q = some f →
    f.st = F_COMPLETE →
    dueAt f (nextTick s.m) = true →
    launchMode (modeDue s.m).1 = true →
    baseCheck s.m f = .ok sl →
    kindOk f (modeDue s.m).1 = true →
    (admitSums s.m.fresh f (modeDue s.m.fresh).2).1 = 0 →
    exec (.frameAdmissionCheck q) s = .next (s.after (
     queueRefresh (frameMod (admitSums s.m.fresh f (modeDue s.m.fresh).2).2 f.seq (fun g => { g with st := F_ADMITTED, slabs := sl }))))) ∧
  -- of one still coming in: FRAME_INCOMPLETE
  (∀ (s : State) (q : Nat) (f : Frame),
    s.Runs →
    frameOf s.m q = some f →
    f.st = F_RECEIVING →
    dueAt f (nextTick s.m) = true →
    launchMode (modeDue s.m).1 = true →
    exec (.frameAdmissionCheck q) s = .next (s.after (
     refuseFrame s.m.fresh f FRAME_INCOMPLETE))) ∧
  -- BAND_ADVANCE once the band before is done: its rows are released, the next band's demanded and re-checked
  (∀ (s : State) (f : Frame),
    s.Runs →
    rayFrame s.m = some f →
    helRuns s.m = true →
    s.m.hel.band + 1 < (tentry s.m.entry).bands →
    bandDone s.m (s.m.hel.band + 1 - 1) = true →
    exec (.bandAdvance) s = .next (s.after (
     recheck (demandBand ({ (releaseExcept s.m.fresh (match planBand f (s.m.hel.band + 1) with | some p => planRows s.m.fresh p | none => []) (match planBand f (s.m.hel.band + 1 - 1) with | some p => planRows s.m.fresh p | none => [])) with hel := { (releaseExcept s.m.fresh (match planBand f (s.m.hel.band + 1) with | some p => planRows s.m.fresh p | none => []) (match planBand f (s.m.hel.band + 1 - 1) with | some p => planRows s.m.fresh p | none => [])).hel with band := s.m.hel.band + 1 } }) f (s.m.hel.band + 2)) f (s.m.hel.band + 2))))

/-- O48. Gallery, scan-out, Echo and view tap commands. -/
def Obligations.ScanCommands : Prop :=
  -- GAL_COMMIT of a set in order before the deadline: it is pending for the coming tick
  (∀ (s : State) (tok : Nat),
    s.Runs →
    setReason (s.m.fresh.wr R.GAL.COMMIT.TOKEN tok).gal.force (snapshot (s.m.fresh.wr R.GAL.COMMIT.TOKEN tok) (tok % 65536)) (galEntryDue (s.m.fresh.wr R.GAL.COMMIT.TOKEN tok)) (galMibDue (s.m.fresh.wr R.GAL.COMMIT.TOKEN tok)) = 0 →
    s.m.mc.deadline = false →
    s.m.gal.pend = none →
    ((s.m.fresh.wr R.GAL.COMMIT.TOKEN tok).emits ((loadsOf (s.m.fresh.wr R.GAL.COMMIT.TOKEN tok).gal.force (snapshot (s.m.fresh.wr R.GAL.COMMIT.TOKEN tok) (tok % 65536))).map (fun k => Out.start 2 k))).flag R.GAL.COMMIT_STATUS.HELD = false →
    exec (.galCommit tok) s = .next (s.after (
     galRefresh (galResult (({ ((s.m.fresh.wr R.GAL.COMMIT.TOKEN tok).emits ((loadsOf (s.m.fresh.wr R.GAL.COMMIT.TOKEN tok).gal.force (snapshot (s.m.fresh.wr R.GAL.COMMIT.TOKEN tok) (tok % 65536))).map (fun k => Out.start 2 k))) with gal := { ((s.m.fresh.wr R.GAL.COMMIT.TOKEN tok).emits ((loadsOf (s.m.fresh.wr R.GAL.COMMIT.TOKEN tok).gal.force (snapshot (s.m.fresh.wr R.GAL.COMMIT.TOKEN tok) (tok % 65536))).map (fun k => Out.start 2 k))).gal with pend := some { (snapshot (s.m.fresh.wr R.GAL.COMMIT.TOKEN tok) (tok % 65536)) with depth := imagesKept (s.m.fresh.wr R.GAL.COMMIT.TOKEN tok).gal.force (snapshot (s.m.fresh.wr R.GAL.COMMIT.TOKEN tok) (tok % 65536)), load := (loadsOf (s.m.fresh.wr R.GAL.COMMIT.TOKEN tok).gal.force (snapshot (s.m.fresh.wr R.GAL.COMMIT.TOKEN tok) (tok % 65536))) }, defer := ((s.m.fresh.wr R.GAL.COMMIT.TOKEN tok).emits ((loadsOf (s.m.fresh.wr R.GAL.COMMIT.TOKEN tok).gal.force (snapshot (s.m.fresh.wr R.GAL.COMMIT.TOKEN tok) (tok % 65536))).map (fun k => Out.start 2 k))).gal.defer } } : Mach).wr R.GAL.COMMIT_STATUS.HELD 0) GAL_PENDING 0)))) ∧
  -- PL_COMMIT within 4,096 by 1,024 before the deadline: the protected set is pending
  (∀ (s : State) (tok : Nat),
    s.Runs →
    (s.m.fresh.wr R.GAL.PL_COMMIT.TOKEN tok).rd R.GAL.PL_WH.W ≤ 4096 →
    (s.m.fresh.wr R.GAL.PL_COMMIT.TOKEN tok).rd R.GAL.PL_WH.H ≤ 1024 →
    s.m.mc.deadline = false →
    exec (.plCommit tok) s = .next (s.after (
     plRefresh ((({ (s.m.fresh.wr R.GAL.PL_COMMIT.TOKEN tok) with gal := { s.m.gal with plPend := some ⟨tok % 65536, SMap.keep (s.m.fresh.wr R.GAL.PL_COMMIT.TOKEN tok).regs plKey, if (s.m.fresh.wr R.GAL.PL_COMMIT.TOKEN tok).rd R.GAL.PL_CTRL.ENABLE = 1 then Mem.read s.mem ((s.m.fresh.wr R.GAL.PL_COMMIT.TOKEN tok).rd R.GAL.PL_BASE_HI.BASE * 2 ^ 32 + (s.m.fresh.wr R.GAL.PL_COMMIT.TOKEN tok).rd R.GAL.PL_BASE_LO.BASE) (ceilDiv ((s.m.fresh.wr R.GAL.PL_COMMIT.TOKEN tok).rd R.GAL.PL_WH.W) 2 * (s.m.fresh.wr R.GAL.PL_COMMIT.TOKEN tok).rd R.GAL.PL_WH.H) else []⟩ } } : Mach).wr R.GAL.PL_STATUS.RESULT GAL_PENDING).wr R.GAL.PL_STATUS.REASON 0)))) ∧
  -- DEPTH_LOAD_DONE of a load that is due: the pending set has the image
  (∀ (s : State) (layer : Nat) (q : GSnap),
    s.Runs →
    s.m.gal.pend = some q →
    q.load.contains layer = true →
    exec (.depthLoadDone layer) s = .next (s.after (
     { s.m.fresh with gal := { s.m.gal with pend := some (loadInto s.mem q layer) } }))) ∧
  -- SPAN_DEMAND of a raster in M1 or M2: Lantern's span is sent
  (∀ (s : State) (late bad : List Nat),
    s.Runs →
    s.m.scan.frame = 1 →
    s.m.scan.nextY < (tentry (rasterEntry s.m)).h →
    (demandList s.m).isEmpty = false →
    drivesRays s.m.mode = false →
    (s.m.scan.nextK == 0 && s.m.scan.nextQ == 0) = false →
    exec (.spanDemand late bad) s = .next (s.after (
     nextSpan (sendSpan (glowBad s.m.fresh bad) (tentry (rasterEntry s.m.fresh)) ((demandList s.m.fresh).getD s.m.scan.nextK 0) s.m.scan.nextY s.m.scan.nextQ (lanternSpan (glowBad s.m.fresh bad) (64 * ((demandList s.m.fresh).getD s.m.scan.nextK 0 * ((tentry (rasterEntry s.m.fresh)).cols / 64) + s.m.scan.nextQ)) s.m.scan.nextY)) (tentry (rasterEntry s.m.fresh)) (demandList s.m.fresh).length))) ∧
  -- in M6 to M9: the composed span is sent
  (∀ (s : State) (late bad : List Nat),
    s.Runs →
    s.m.scan.frame = 1 →
    s.m.scan.nextY < (tentry (rasterEntry s.m)).h →
    (demandList s.m).isEmpty = false →
    drivesRays s.m.mode = true →
    (s.m.scan.nextK == 0 && s.m.scan.nextQ == 0) = false →
    (raySpan s.mem s.m.fresh (tentry (rasterEntry s.m.fresh)) s.m.fresh.scan.nextY ((demandList s.m.fresh).getD s.m.fresh.scan.nextK 0) s.m.fresh.scan.nextQ).scan.frame = 1 →
    (nextSpan (raySpan s.mem s.m.fresh (tentry (rasterEntry s.m.fresh)) s.m.fresh.scan.nextY ((demandList s.m.fresh).getD s.m.fresh.scan.nextK 0) s.m.fresh.scan.nextQ) (tentry (rasterEntry s.m.fresh)) (demandList s.m.fresh).length).scan.nextY = s.m.fresh.scan.nextY →
    ((rayFrame s.m.fresh).isSome && !((List.range 3).map (fun i => s.m.fresh.hel.bundles.find? (fun b => b.line == s.m.fresh.scan.nextY && b.n == 3 * ((demandList s.m.fresh).getD s.m.fresh.scan.nextK 0 * ((tentry (rasterEntry s.m.fresh)).cols / 64) + s.m.fresh.scan.nextQ) + i && b.st == 3))).all (·.isSome)) = false →
    exec (.spanDemand late bad) s = .next (s.after (
     nextSpan (sendSpan ({ (setBundles s.m.fresh (s.m.hel.bundles.filter (fun b => !(b.line == s.m.scan.nextY && b.n / 3 == ((demandList s.m.fresh).getD s.m.scan.nextK 0 * ((tentry (rasterEntry s.m.fresh)).cols / 64) + s.m.scan.nextQ))))) with gal := { s.m.gal with line := SMap.ins s.m.gal.line ((demandList s.m.fresh).getD s.m.scan.nextK 0 * ((tentry (rasterEntry s.m.fresh)).cols / 64) + s.m.scan.nextQ) (spanOut s.mem s.m.fresh (64 * ((demandList s.m.fresh).getD s.m.scan.nextK 0 * ((tentry (rasterEntry s.m.fresh)).cols / 64) + s.m.scan.nextQ)) s.m.scan.nextY (((List.range 3).map (fun i => s.m.hel.bundles.find? (fun b => b.line == s.m.scan.nextY && b.n == 3 * ((demandList s.m.fresh).getD s.m.scan.nextK 0 * ((tentry (rasterEntry s.m.fresh)).cols / 64) + s.m.scan.nextQ) + i && b.st == 3))).foldr (fun o acc => (match o with | some b => b.rays | none => List.replicate 64 (0, 0, false)) ++ acc) [])) } }) (tentry (rasterEntry s.m.fresh)) ((demandList s.m.fresh).getD s.m.scan.nextK 0) s.m.scan.nextY s.m.scan.nextQ ((spanOut s.mem s.m.fresh (64 * ((demandList s.m.fresh).getD s.m.scan.nextK 0 * ((tentry (rasterEntry s.m.fresh)).cols / 64) + s.m.scan.nextQ)) s.m.scan.nextY (((List.range 3).map (fun i => s.m.hel.bundles.find? (fun b => b.line == s.m.scan.nextY && b.n == 3 * ((demandList s.m.fresh).getD s.m.scan.nextK 0 * ((tentry (rasterEntry s.m.fresh)).cols / 64) + s.m.scan.nextQ) + i && b.st == 3))).foldr (fun o acc => (match o with | some b => b.rays | none => List.replicate 64 (0, 0, false)) ++ acc) [])).map (·.post))) (tentry (rasterEntry s.m.fresh)) (demandList s.m.fresh).length))) ∧
  -- RASTER_BAND_END: ECHO_BAND takes the band's mismatches
  (∀ (s : State),
    s.Runs →
    s.m.scan.frame = 1 →
    64 * (s.m.scan.mismBand + 1) ≤ s.m.scan.nextY →
    exec (.rasterBandEnd) s = .next (s.after (
     { ((s.m.fresh.wr R.SCAN.ECHO_BAND.BAND s.m.scan.mismBand).wr R.SCAN.ECHO_BAND.COUNT (satN s.m.scan.mism 0xFFFF)) with scan := { s.m.scan with mism := 0, mismBand := s.m.scan.mismBand + 1 } }))) ∧
  -- RASTER_FRAME_END: the frame-end goes on every lane in use, dark
  (∀ (s : State),
    s.Runs →
    s.m.scan.frame = 1 →
    (tentry (rasterEntry s.m)).h ≤ s.m.scan.nextY →
    exec (.rasterFrameEnd) s = .next (s.after (
     (({ (s.m.fresh.emits ((demandList s.m.fresh).foldr (fun k acc => (maskLanes s.m.fresh k).map (fun l => Out.lane l 0x11 [s.m.scan.frameTick % 65536, (tentry (rasterEntry s.m.fresh)).h]) ++ acc) [])) with scan := { s.m.scan with frame := 3 }, gal := { s.m.gal with tap := s.m.gal.tap.map (fun c => { c with fin := 1 }) } } : Mach).wr R.SCAN.STATUS.DARK 1).wr R.SYS.TICK_STATUS.IN_BLANK 1))) ∧
  -- ECHO_LINE_CHECK that matches: counted, the line's CRC goes
  (∀ (s : State) (k ln crc : Nat) (e : Nat × Nat × Nat),
    s.Runs →
    s.m.scan.lineCrcs.find? (fun e => e.1 == k && e.2.1 == ln) = some e →
    s.m.scan.spur.contains k = false →
    (e.2.2 == crc % 2 ^ 32) = true →
    exec (.echoLineCheck k ln crc 0) s = .next (s.after (
     { (hev (({ s.m.fresh with scan := { s.m.scan with lineCrcs := s.m.scan.lineCrcs.filter (fun z => !(z.1 == k && z.2.1 == ln)) } } : Mach).add R.SCAN.ECHO_LINES_CHECKED.COUNT 1) 97) with scan := { s.m.scan with lineCrcs := s.m.scan.lineCrcs.filter (fun z => !(z.1 == k && z.2.1 == ln)), spur := s.m.scan.spur.filter (fun z => z != k) } }))) ∧
  -- TAP_CAPTURE_START with the tap not running: nothing
  (∀ (s : State),
    s.Runs →
    s.m.rd R.GAL.TAP_STATUS.STATE ≠ 1 →
    exec (.tapCaptureStart) s = .next (s.after (
     s.m.fresh))) ∧
  -- due and granted: the capture begins
  (∀ (s : State),
    s.Runs →
    s.m.rd R.GAL.TAP_STATUS.STATE = 1 →
    s.m.gal.tap = none →
    s.m.scan.frame = 1 →
    s.m.scan.nextY = 0 →
    s.m.scan.nextQ = 0 →
    s.m.scan.nextK = 0 →
    drivesRays s.m.mode = true →
    s.m.scan.frameTick % tapField s.m R.GAL.TAP_CTRL.DIVIDE = 0 →
    tapField (s.m.fresh.add R.GAL.TAP_STATUS.SEQ 1) R.GAL.TAP_CTRL.MODE = 0 →
    holdsGrant (chimRequest (s.m.fresh.add R.GAL.TAP_STATUS.SEQ 1) C_TAP 0 ((s.m.fresh.add R.GAL.TAP_STATUS.SEQ 1).dv D.tap_tokens)) C_TAP 0 = true →
    exec (.tapCaptureStart) s = .next (s.after (
     { (chimRequest (s.m.fresh.add R.GAL.TAP_STATUS.SEQ 1) C_TAP 0 ((s.m.fresh.add R.GAL.TAP_STATUS.SEQ 1).dv D.tap_tokens)) with gal := { (chimRequest (s.m.fresh.add R.GAL.TAP_STATUS.SEQ 1) C_TAP 0 ((s.m.fresh.add R.GAL.TAP_STATUS.SEQ 1).dv D.tap_tokens)).gal with tap := some ⟨(chimRequest (s.m.fresh.add R.GAL.TAP_STATUS.SEQ 1) C_TAP 0 ((s.m.fresh.add R.GAL.TAP_STATUS.SEQ 1).dv D.tap_tokens)).gal.tapBuf % (tapField (chimRequest (s.m.fresh.add R.GAL.TAP_STATUS.SEQ 1) C_TAP 0 ((s.m.fresh.add R.GAL.TAP_STATUS.SEQ 1).dv D.tap_tokens)) R.GAL.TAP_CTRL.COUNT_M1 + 1), s.m.scan.frameTick, ((currentFrame (chimRequest (s.m.fresh.add R.GAL.TAP_STATUS.SEQ 1) C_TAP 0 ((s.m.fresh.add R.GAL.TAP_STATUS.SEQ 1).dv D.tap_tokens))).map (·.seq)).getD 0, [], 0⟩, tapBuf := ((chimRequest (s.m.fresh.add R.GAL.TAP_STATUS.SEQ 1) C_TAP 0 ((s.m.fresh.add R.GAL.TAP_STATUS.SEQ 1).dv D.tap_tokens)).gal.tapBuf + 1) % (tapField (chimRequest (s.m.fresh.add R.GAL.TAP_STATUS.SEQ 1) C_TAP 0 ((s.m.fresh.add R.GAL.TAP_STATUS.SEQ 1).dv D.tap_tokens)) R.GAL.TAP_CTRL.COUNT_M1 + 1) } }))) ∧
  -- due and not granted: TAP_SKIPPED
  (∀ (s : State),
    s.Runs →
    s.m.rd R.GAL.TAP_STATUS.STATE = 1 →
    s.m.gal.tap = none →
    s.m.scan.frame = 1 →
    s.m.scan.nextY = 0 →
    s.m.scan.nextQ = 0 →
    s.m.scan.nextK = 0 →
    drivesRays s.m.mode = true →
    s.m.scan.frameTick % tapField s.m R.GAL.TAP_CTRL.DIVIDE = 0 →
    tapField (s.m.fresh.add R.GAL.TAP_STATUS.SEQ 1) R.GAL.TAP_CTRL.MODE = 0 →
    holdsGrant (chimRequest (s.m.fresh.add R.GAL.TAP_STATUS.SEQ 1) C_TAP 0 ((s.m.fresh.add R.GAL.TAP_STATUS.SEQ 1).dv D.tap_tokens)) C_TAP 0 = false →
    exec (.tapCaptureStart) s = .next (s.after (
     tapSkip (chimRelease (chimRequest (s.m.fresh.add R.GAL.TAP_STATUS.SEQ 1) C_TAP 0 ((s.m.fresh.add R.GAL.TAP_STATUS.SEQ 1).dv D.tap_tokens)) C_TAP 0)))) ∧
  -- TAP_CAPTURE_DONE: rows and header are written
  (∀ (s : State) (full : Bool) (c : Capture),
    s.Runs →
    s.m.gal.tap = some c →
    c.fin = 1 →
    exec (.tapCaptureDone full) s = .next (s.afterW (
     tapDrained (if full then tapCode (tapEnd s.m.fresh c (!full) false).2 TAP_OVERRUN else (tapEnd s.m.fresh c (!full) false).2)) (
     (tapEnd s.m.fresh c (!full) false).1))) ∧
  -- TAP_DRAIN, ENABLE 1: running
  (∀ (s : State),
    s.Runs →
    exec (.tapDrain true) s = .next (s.after (
     (s.m.fresh.wr R.GAL.TAP_CTRL.ENABLE 1).wr R.GAL.TAP_STATUS.STATE 1))) ∧
  -- ENABLE 0: draining
  (∀ (s : State),
    s.Runs →
    s.m.rd R.GAL.TAP_STATUS.STATE = 1 →
    exec (.tapDrain false) s = .next (s.after (
     tapDrained ((s.m.fresh.wr R.GAL.TAP_CTRL.ENABLE 0).wr R.GAL.TAP_STATUS.STATE 2)))) ∧
  -- TAP_FORCE_STOP with no capture: stopped
  (∀ (s : State) (late : Bool),
    s.Runs →
    s.m.gal.tap = none →
    exec (.tapForceStop late) s = .next (s.afterW (
     (s.m.fresh.wr R.GAL.TAP_CTRL.ENABLE 0).wr R.GAL.TAP_STATUS.STATE 3) (
     []))) ∧
  -- with one: written as far as it came, ABORTED_BY_DISABLE
  (∀ (s : State) (c : Capture),
    s.Runs →
    s.m.gal.tap = some c →
    exec (.tapForceStop false) s = .next (s.afterW (
     ((tapCode (tapEnd s.m.fresh c false (c.fin == 2)).2 ABORTED_BY_DISABLE).wr R.GAL.TAP_CTRL.ENABLE 0).wr R.GAL.TAP_STATUS.STATE 3) (
     (tapEnd s.m.fresh c false (c.fin == 2)).1)))

/-- O49. TICK and COMMIT_DEADLINE. -/
def Obligations.TickCommands : Prop :=
  -- COMMIT_DEADLINE when due, every due frame judged: what waits for the coming tick is fixed, later writes wait for the next
  (∀ (s : State),
    s.Runs →
    s.m.mc.deadline = false →
    (nextTick s.m - 40000) * 65536 ≤ s.m.tim.now →
    unjudged s.m = [] →
    exec (.commitDeadline) s = .next (s.after (
     (({ (galDeadline (optDeadline (blendStep (driveDeadline (lanesDeadline (secDeadline (thermDeadline s.m.fresh))))) (fun f => dueAt f (nextTick (driveDeadline (lanesDeadline (secDeadline (thermDeadline s.m.fresh)))))))) with mc := { (galDeadline (optDeadline (blendStep (driveDeadline (lanesDeadline (secDeadline (thermDeadline s.m.fresh))))) (fun f => dueAt f (nextTick (driveDeadline (lanesDeadline (secDeadline (thermDeadline s.m.fresh)))))))).mc with deadline := true } } : Mach).wr R.SYS.TICK_STATUS.COMMIT_OPEN 0).ev E.SYS.DEADLINE))) ∧
  -- once passed: nothing
  (∀ (s : State),
    s.Runs →
    s.m.mc.deadline = true →
    exec (.commitDeadline) s = .next (s.after (
     s.m.fresh))) ∧
  -- TICK: actions 1 to 5 of R16 in their order
  (∀ (s : State),
    s.Runs →
    exec (.tick) s = .next (
     let t := actTwo s.mem (actOne (tickBefore s.m.fresh (nextTick s.m.fresh)))
     let l := actThree t.e.m (nextTick s.m.fresh)
     let z := tickAfter s.fuse (tickMid l.2.2 t.took t.blank (nextTick s.m.fresh)) t.took l.1 l.2.1 (nextTick s.m.fresh)
     s.afterW z.m (t.e.wr ++ z.wr)))

/-- O50. SENSOR_SAMPLE. For every state and operands that meet the conditions of its clause, conditions on the state and the operands alone,
exec of the command answers the next state the clause gives. SENSOR_SAMPLE: each sensor's reading and state, the greatest, limits, rate of
rise and trip from the sample. -/
def Obligations.SensorCommands : Prop :=
  -- SENSOR_SAMPLE: each sensor's reading and state, the greatest, limits, rate of rise and trip from the sample
  (∀ (s : State) (readings : List Int),
    s.Runs →
    exec (.sensorSample readings) s = .next (
     let dt := if s.m.fresh.flag R.THRM.STATUS.FAST then 1 else 16
     let m1 := s.m.fresh.each (List.range 48) (fun m n => m.wr R.THRM.SENS.TEMP (uNat 16 (readings.getD n 0)) n)
     let m2 := m1.each (List.range 48) (fun m n => judgeSensor m1 m n)
     let vals := (List.range 48).map (sensValue m2)
     let max := (maxI vals).getD 0
     let good := ((List.range 48).filter (fun n => sensState m2 n == 0)).length
     let fast := decide (2000 ≤ max) || (List.range 48).any (fun n => sensState m2 n == 0 && decide (sensTemp m2 n ≤ -480))
     let m3 := (m2.wr R.THRM.STATUS.MAX_TEMP (uNat 16 max)).wr R.THRM.STATUS.HOTTEST ((firstIdx 48 (fun n => vals.getD n 0 == max)).getD 0)
     let m4 := (m3.wr R.THRM.STATUS.FLOOR (b2n (decide (good < 24)))).wr R.THRM.STATUS.FAST (b2n fast)
     let m5 := { m4 with th := { m4.th with hist := (max, dt) :: lastTen 160000 m4.th.hist, sinceStep := m4.th.sinceStep + dt } }
     s.after (throttleTime (thermTrip (thermLevels (thermRise m5 dt) max)) dt)))
end

