-- ==== Sys2Proof/Laws/SMap.lean ====
section
/-!
SUPPORT. Sparse maps: a key reads what was written under it, every other key as before, and writes keep the canonical form.
-/
namespace Sys2Proof.Machine

variable {α : Type}

theorem SMap.look_del_same (m : SMap α) (k : Nat) : SMap.look (SMap.del m k) k = none := by
  induction m with
  | nil => rfl
  | cons e m ih =>
    obtain ⟨a, v⟩ := e
    by_cases h : a = k <;> simp [SMap.del, SMap.look, h, ih]

theorem SMap.look_del_ne (m : SMap α) {k j : Nat} (h : k ≠ j) : SMap.look (SMap.del m k) j = SMap.look m j := by
  induction m with
  | nil => rfl
  | cons e m ih =>
    obtain ⟨a, v⟩ := e
    by_cases hk : a = k
    · subst hk; simp [SMap.del, SMap.look, h, ih]
    · by_cases hj : a = j <;> simp [SMap.del, SMap.look, hk, hj, ih, Ne.symm h]

theorem SMap.look_ins_same (m : SMap α) (k : Nat) (v : α) : SMap.look (SMap.ins m k v) k = some v := by
  induction m with
  | nil => simp [SMap.ins, SMap.look]
  | cons e m ih =>
    obtain ⟨a, w⟩ := e
    unfold SMap.ins
    split
    · simp [SMap.look]
    · split
      · simp [SMap.look]
      · rename_i h1 h2; simp [SMap.look, h2, ih]

theorem SMap.look_ins_ne (m : SMap α) {k j : Nat} (v : α) (h : k ≠ j) : SMap.look (SMap.ins m k v) j = SMap.look m j := by
  induction m with
  | nil => simp [SMap.ins, SMap.look, h]
  | cons e m ih =>
    obtain ⟨a, w⟩ := e
    unfold SMap.ins
    split
    · simp [SMap.look, h]
    · split
      · rename_i h1 h2; subst h2; simp [SMap.look, h]
      · by_cases hj : a = j <;> simp [SMap.look, hj, ih]

@[simp] theorem SMap.get_put_same [DecidableEq α] (d : α) (m : SMap α) (k : Nat) (v : α) :
    SMap.get d (SMap.put d m k v) k = v := by
  unfold SMap.put SMap.get
  split
  · rename_i h; simp [SMap.look_del_same, h]
  · simp [SMap.look_ins_same]

theorem SMap.get_put_ne [DecidableEq α] (d d' : α) (m : SMap α) {k j : Nat} (v : α) (h : k ≠ j) :
    SMap.get d' (SMap.put d m k v) j = SMap.get d' m j := by
  unfold SMap.put SMap.get
  split
  · rw [SMap.look_del_ne m h]
  · rw [SMap.look_ins_ne m v h]

/-! ## The canonical form -/

theorem SMap.rising_weaken (m : SMap α) {a b : Nat} (h : a ≤ b) (hr : SMap.rising b m = true) : SMap.rising a m = true := by
  cases m with
  | nil => rfl
  | cons e m => simp only [SMap.rising, Bool.and_eq_true, decide_eq_true_eq] at hr ⊢; exact ⟨by omega, hr.2⟩

theorem SMap.rising_del (m : SMap α) (k lo : Nat) (h : SMap.rising lo m = true) : SMap.rising lo (SMap.del m k) = true := by
  induction m generalizing lo with
  | nil => rfl
  | cons e m ih =>
    obtain ⟨a, v⟩ := e
    simp only [SMap.rising, Bool.and_eq_true, decide_eq_true_eq] at h
    unfold SMap.del
    split
    · exact ih lo (SMap.rising_weaken m (by omega) h.2)
    · simp only [SMap.rising, Bool.and_eq_true, decide_eq_true_eq]; exact ⟨h.1, ih a h.2⟩

theorem SMap.rising_ins (m : SMap α) (k lo : Nat) (v : α) (hk : lo < k) (h : SMap.rising lo m = true) :
    SMap.rising lo (SMap.ins m k v) = true := by
  induction m generalizing lo with
  | nil => simp [SMap.ins, SMap.rising, hk]
  | cons e m ih =>
    obtain ⟨a, w⟩ := e
    simp only [SMap.rising, Bool.and_eq_true, decide_eq_true_eq] at h
    unfold SMap.ins
    split
    · rename_i h1; simp [SMap.rising, hk, h1, h.2]
    · split
      · rename_i h1 h2; subst h2; simp [SMap.rising, hk, h.2]
      · rename_i h1 h2
        simp only [SMap.rising, Bool.and_eq_true, decide_eq_true_eq]
        exact ⟨h.1, ih a (by omega) h.2⟩

theorem SMap.all_del (m : SMap α) (k : Nat) (p : Nat × α → Bool) (h : m.all p = true) : (SMap.del m k).all p = true := by
  induction m with
  | nil => rfl
  | cons e m ih =>
    obtain ⟨a, v⟩ := e
    simp only [List.all_cons, Bool.and_eq_true] at h
    unfold SMap.del
    split
    · exact ih h.2
    · simp only [List.all_cons, Bool.and_eq_true]; exact ⟨h.1, ih h.2⟩

theorem SMap.all_ins (m : SMap α) (k : Nat) (v : α) (p : Nat × α → Bool) (hv : p (k, v) = true) (h : m.all p = true) :
    (SMap.ins m k v).all p = true := by
  induction m with
  | nil => simp [SMap.ins, hv]
  | cons e m ih =>
    obtain ⟨a, w⟩ := e
    have h' := h
    simp only [List.all_cons, Bool.and_eq_true] at h'
    unfold SMap.ins
    split
    · rw [List.all_cons, hv]; exact h
    · split
      · rw [List.all_cons, hv]; exact h'.2
      · rw [List.all_cons, h'.1]; exact ih h'.2

/-- The rising part of the canonical form, said of any list: every tail rises above its head. -/
def SMap.sorted : SMap α → Bool
  | [] => true
  | (k, _) :: m => SMap.rising k m

theorem SMap.wf_iff [DecidableEq α] (d : α) (m : SMap α) :
    SMap.wf d m = true ↔ SMap.sorted m = true ∧ m.all (fun p => decide (p.2 ≠ d)) = true := by
  unfold SMap.wf SMap.sorted
  cases m <;> simp

theorem SMap.sorted_del (m : SMap α) (k : Nat) (h : SMap.sorted m = true) : SMap.sorted (SMap.del m k) = true := by
  cases m with
  | nil => rfl
  | cons e m =>
    obtain ⟨a, v⟩ := e
    unfold SMap.del
    split
    · have h' := SMap.rising_del m k a h
      revert h'
      cases SMap.del m k with
      | nil => intro _; rfl
      | cons e' m' => intro h'; simp only [SMap.rising, Bool.and_eq_true] at h'; exact h'.2
    · exact SMap.rising_del m k a h

theorem SMap.sorted_ins (m : SMap α) (k : Nat) (v : α) (h : SMap.sorted m = true) : SMap.sorted (SMap.ins m k v) = true := by
  cases m with
  | nil => rfl
  | cons e m =>
    obtain ⟨a, w⟩ := e
    unfold SMap.ins
    split
    · rename_i h1; simp only [SMap.sorted, SMap.rising, Bool.and_eq_true, decide_eq_true_eq]; exact ⟨h1, h⟩
    · split
      · rename_i h1 h2; subst h2; exact h
      · rename_i h1 h2; exact SMap.rising_ins m k a v (by omega) h

theorem SMap.wf_put [DecidableEq α] (d : α) (m : SMap α) (k : Nat) (v : α) (h : SMap.wf d m = true) :
    SMap.wf d (SMap.put d m k v) = true := by
  rw [SMap.wf_iff] at h ⊢
  unfold SMap.put
  split
  · exact ⟨SMap.sorted_del m k h.1, SMap.all_del m k _ h.2⟩
  · rename_i hv; exact ⟨SMap.sorted_ins m k v h.1, SMap.all_ins m k v _ (by simpa using hv) h.2⟩

end Sys2Proof.Machine
end

