-- ==== Sys2Proof/Laws/Mem.lean ====
section
/-!
SUPPORT. The DRAM contents: reading after writing, and that every memory operation keeps the canonical form.
-/
namespace Sys2Proof.Machine

theorem Mem.wf_write (d : Mem) (a : Nat) (l : List Byte) (h : Mem.wf d = true) : Mem.wf (Mem.write d a l) = true := by
  induction l generalizing d a with
  | nil => exact h
  | cons b l ih => exact ih _ _ (SMap.wf_put memDefault d a b h)

theorem Mem.wf_writes (d : Mem) (w : List (Nat × List Byte)) (h : Mem.wf d = true) : Mem.wf (applyWrites d w) = true := by
  unfold applyWrites
  induction w generalizing d with
  | nil => exact h
  | cons e w ih => exact ih _ (Mem.wf_write d e.1 e.2 h)

theorem Mem.wf_nil : Mem.wf [] = true := rfl

/-- A byte outside what a write covers is unchanged. -/
theorem Mem.byte_write_out (d : Mem) (a : Nat) (l : List Byte) (x : Nat) (h : x < a ∨ a + l.length ≤ x) :
    Mem.byte (Mem.write d a l) x = Mem.byte d x := by
  induction l generalizing d a with
  | nil => rfl
  | cons b l ih =>
    simp only [List.length_cons] at h
    rw [Mem.write, ih _ _ (by omega)]
    exact SMap.get_put_ne _ _ _ _ (by omega)

/-- A byte inside what a write covers reads as the byte written there. -/
theorem Mem.byte_write_in (d : Mem) (a : Nat) (l : List Byte) (k : Nat) (h : k < l.length) :
    Mem.byte (Mem.write d a l) (a + k) = l.getD k 0 := by
  induction l generalizing d a k with
  | nil => simp at h
  | cons b l ih =>
    cases k with
    | zero =>
      rw [Mem.write, Nat.add_zero, Mem.byte_write_out _ _ _ _ (Or.inl (by omega))]
      simp [Mem.byte]
    | succ k =>
      have := ih (SMap.put memDefault d a b) (a + 1) k (by simpa using h)
      rw [Mem.write, show a + (k + 1) = a + 1 + k by omega, this]
      simp

/-- Writes that cover none of a byte leave it. -/
theorem Mem.byte_writes_out (d : Mem) (w : List (Nat × List Byte)) (x : Nat) (h : ∀ e ∈ w, x < e.1 ∨ e.1 + e.2.length ≤ x) :
    Mem.byte (applyWrites d w) x = Mem.byte d x := by
  unfold applyWrites
  induction w generalizing d with
  | nil => rfl
  | cons e w ih =>
    rw [List.foldl_cons, ih _ (fun e' he' => h e' (List.mem_cons_of_mem _ he'))]
    exact Mem.byte_write_out _ _ _ _ (h e (List.mem_cons_self))

@[simp] theorem applyWrites_nil (d : Mem) : applyWrites d [] = d := rfl

end Sys2Proof.Machine
end

