-- ==== Sys2Proof/Laws/State.lean ====
section
/-!
SUPPORT. What each named operation leaves alone: one lemma per field of the block state.
-/
namespace Sys2Proof.Machine

/-! Mach.wr -/

@[simp] theorem Mach.wr_held1 (m : Mach) (r : Row) (v i j : Nat) : (m.wr r v i j).held1 = m.held1 := rfl
@[simp] theorem Mach.wr_held2 (m : Mach) (r : Row) (v i j : Nat) : (m.wr r v i j).held2 = m.held2 := rfl
@[simp] theorem Mach.wr_latch (m : Mach) (r : Row) (v i j : Nat) : (m.wr r v i j).latch = m.latch := rfl
@[simp] theorem Mach.wr_dict (m : Mach) (r : Row) (v i j : Nat) : (m.wr r v i j).dict = m.dict := rfl
@[simp] theorem Mach.wr_dict1 (m : Mach) (r : Row) (v i j : Nat) : (m.wr r v i j).dict1 = m.dict1 := rfl
@[simp] theorem Mach.wr_dict2 (m : Mach) (r : Row) (v i j : Nat) : (m.wr r v i j).dict2 = m.dict2 := rfl
@[simp] theorem Mach.wr_out (m : Mach) (r : Row) (v i j : Nat) : (m.wr r v i j).out = m.out := rfl
@[simp] theorem Mach.wr_freeN (m : Mach) (r : Row) (v i j : Nat) : (m.wr r v i j).freeN = m.freeN := rfl
@[simp] theorem Mach.wr_msix (m : Mach) (r : Row) (v i j : Nat) : (m.wr r v i j).msix = m.msix := rfl
@[simp] theorem Mach.wr_mc (m : Mach) (r : Row) (v i j : Nat) : (m.wr r v i j).mc = m.mc := rfl
@[simp] theorem Mach.wr_vlt (m : Mach) (r : Row) (v i j : Nat) : (m.wr r v i j).vlt = m.vlt := rfl
@[simp] theorem Mach.wr_hl (m : Mach) (r : Row) (v i j : Nat) : (m.wr r v i j).hl = m.hl := rfl
@[simp] theorem Mach.wr_ch (m : Mach) (r : Row) (v i j : Nat) : (m.wr r v i j).ch = m.ch := rfl
@[simp] theorem Mach.wr_th (m : Mach) (r : Row) (v i j : Nat) : (m.wr r v i j).th = m.th := rfl
@[simp] theorem Mach.wr_lanes (m : Mach) (r : Row) (v i j : Nat) : (m.wr r v i j).lanes = m.lanes := rfl
@[simp] theorem Mach.wr_scan (m : Mach) (r : Row) (v i j : Nat) : (m.wr r v i j).scan = m.scan := rfl
@[simp] theorem Mach.wr_dr (m : Mach) (r : Row) (v i j : Nat) : (m.wr r v i j).dr = m.dr := rfl
@[simp] theorem Mach.wr_cal (m : Mach) (r : Row) (v i j : Nat) : (m.wr r v i j).cal = m.cal := rfl
@[simp] theorem Mach.wr_sec (m : Mach) (r : Row) (v i j : Nat) : (m.wr r v i j).sec = m.sec := rfl
@[simp] theorem Mach.wr_fab (m : Mach) (r : Row) (v i j : Nat) : (m.wr r v i j).fab = m.fab := rfl
@[simp] theorem Mach.wr_tim (m : Mach) (r : Row) (v i j : Nat) : (m.wr r v i j).tim = m.tim := rfl
@[simp] theorem Mach.wr_flow (m : Mach) (r : Row) (v i j : Nat) : (m.wr r v i j).flow = m.flow := rfl
@[simp] theorem Mach.wr_hel (m : Mach) (r : Row) (v i j : Nat) : (m.wr r v i j).hel = m.hel := rfl
@[simp] theorem Mach.wr_gal (m : Mach) (r : Row) (v i j : Nat) : (m.wr r v i j).gal = m.gal := rfl
@[simp] theorem Mach.wr_lant (m : Mach) (r : Row) (v i j : Nat) : (m.wr r v i j).lant = m.lant := rfl
@[simp] theorem Mach.wr_host (m : Mach) (r : Row) (v i j : Nat) : (m.wr r v i j).host = m.host := rfl
@[simp] theorem Mach.wr_dic (m : Mach) (r : Row) (v i j : Nat) : (m.wr r v i j).dic = m.dic := rfl
@[simp] theorem Mach.wr_dma (m : Mach) (r : Row) (v i j : Nat) : (m.wr r v i j).dma = m.dma := rfl
@[simp] theorem Mach.wr_side (m : Mach) (r : Row) (v i j : Nat) : (m.wr r v i j).side = m.side := rfl
@[simp] theorem Mach.wr_crc (m : Mach) (r : Row) (v i j : Nat) : (m.wr r v i j).crc = m.crc := rfl

/-! Mach.add -/

@[simp] theorem Mach.add_held1 (m : Mach) (r : Row) (n i j : Nat) : (m.add r n i j).held1 = m.held1 := rfl
@[simp] theorem Mach.add_held2 (m : Mach) (r : Row) (n i j : Nat) : (m.add r n i j).held2 = m.held2 := rfl
@[simp] theorem Mach.add_latch (m : Mach) (r : Row) (n i j : Nat) : (m.add r n i j).latch = m.latch := rfl
@[simp] theorem Mach.add_dict (m : Mach) (r : Row) (n i j : Nat) : (m.add r n i j).dict = m.dict := rfl
@[simp] theorem Mach.add_dict1 (m : Mach) (r : Row) (n i j : Nat) : (m.add r n i j).dict1 = m.dict1 := rfl
@[simp] theorem Mach.add_dict2 (m : Mach) (r : Row) (n i j : Nat) : (m.add r n i j).dict2 = m.dict2 := rfl
@[simp] theorem Mach.add_out (m : Mach) (r : Row) (n i j : Nat) : (m.add r n i j).out = m.out := rfl
@[simp] theorem Mach.add_freeN (m : Mach) (r : Row) (n i j : Nat) : (m.add r n i j).freeN = m.freeN := rfl
@[simp] theorem Mach.add_msix (m : Mach) (r : Row) (n i j : Nat) : (m.add r n i j).msix = m.msix := rfl
@[simp] theorem Mach.add_mc (m : Mach) (r : Row) (n i j : Nat) : (m.add r n i j).mc = m.mc := rfl
@[simp] theorem Mach.add_vlt (m : Mach) (r : Row) (n i j : Nat) : (m.add r n i j).vlt = m.vlt := rfl
@[simp] theorem Mach.add_hl (m : Mach) (r : Row) (n i j : Nat) : (m.add r n i j).hl = m.hl := rfl
@[simp] theorem Mach.add_ch (m : Mach) (r : Row) (n i j : Nat) : (m.add r n i j).ch = m.ch := rfl
@[simp] theorem Mach.add_th (m : Mach) (r : Row) (n i j : Nat) : (m.add r n i j).th = m.th := rfl
@[simp] theorem Mach.add_lanes (m : Mach) (r : Row) (n i j : Nat) : (m.add r n i j).lanes = m.lanes := rfl
@[simp] theorem Mach.add_scan (m : Mach) (r : Row) (n i j : Nat) : (m.add r n i j).scan = m.scan := rfl
@[simp] theorem Mach.add_dr (m : Mach) (r : Row) (n i j : Nat) : (m.add r n i j).dr = m.dr := rfl
@[simp] theorem Mach.add_cal (m : Mach) (r : Row) (n i j : Nat) : (m.add r n i j).cal = m.cal := rfl
@[simp] theorem Mach.add_sec (m : Mach) (r : Row) (n i j : Nat) : (m.add r n i j).sec = m.sec := rfl
@[simp] theorem Mach.add_fab (m : Mach) (r : Row) (n i j : Nat) : (m.add r n i j).fab = m.fab := rfl
@[simp] theorem Mach.add_tim (m : Mach) (r : Row) (n i j : Nat) : (m.add r n i j).tim = m.tim := rfl
@[simp] theorem Mach.add_flow (m : Mach) (r : Row) (n i j : Nat) : (m.add r n i j).flow = m.flow := rfl
@[simp] theorem Mach.add_hel (m : Mach) (r : Row) (n i j : Nat) : (m.add r n i j).hel = m.hel := rfl
@[simp] theorem Mach.add_gal (m : Mach) (r : Row) (n i j : Nat) : (m.add r n i j).gal = m.gal := rfl
@[simp] theorem Mach.add_lant (m : Mach) (r : Row) (n i j : Nat) : (m.add r n i j).lant = m.lant := rfl
@[simp] theorem Mach.add_host (m : Mach) (r : Row) (n i j : Nat) : (m.add r n i j).host = m.host := rfl
@[simp] theorem Mach.add_dic (m : Mach) (r : Row) (n i j : Nat) : (m.add r n i j).dic = m.dic := rfl
@[simp] theorem Mach.add_dma (m : Mach) (r : Row) (n i j : Nat) : (m.add r n i j).dma = m.dma := rfl
@[simp] theorem Mach.add_side (m : Mach) (r : Row) (n i j : Nat) : (m.add r n i j).side = m.side := rfl
@[simp] theorem Mach.add_crc (m : Mach) (r : Row) (n i j : Nat) : (m.add r n i j).crc = m.crc := rfl

/-! Mach.addSat -/

@[simp] theorem Mach.addSat_held1 (m : Mach) (r : Row) (n i j : Nat) : (m.addSat r n i j).held1 = m.held1 := rfl
@[simp] theorem Mach.addSat_held2 (m : Mach) (r : Row) (n i j : Nat) : (m.addSat r n i j).held2 = m.held2 := rfl
@[simp] theorem Mach.addSat_latch (m : Mach) (r : Row) (n i j : Nat) : (m.addSat r n i j).latch = m.latch := rfl
@[simp] theorem Mach.addSat_dict (m : Mach) (r : Row) (n i j : Nat) : (m.addSat r n i j).dict = m.dict := rfl
@[simp] theorem Mach.addSat_dict1 (m : Mach) (r : Row) (n i j : Nat) : (m.addSat r n i j).dict1 = m.dict1 := rfl
@[simp] theorem Mach.addSat_dict2 (m : Mach) (r : Row) (n i j : Nat) : (m.addSat r n i j).dict2 = m.dict2 := rfl
@[simp] theorem Mach.addSat_out (m : Mach) (r : Row) (n i j : Nat) : (m.addSat r n i j).out = m.out := rfl
@[simp] theorem Mach.addSat_freeN (m : Mach) (r : Row) (n i j : Nat) : (m.addSat r n i j).freeN = m.freeN := rfl
@[simp] theorem Mach.addSat_msix (m : Mach) (r : Row) (n i j : Nat) : (m.addSat r n i j).msix = m.msix := rfl
@[simp] theorem Mach.addSat_mc (m : Mach) (r : Row) (n i j : Nat) : (m.addSat r n i j).mc = m.mc := rfl
@[simp] theorem Mach.addSat_vlt (m : Mach) (r : Row) (n i j : Nat) : (m.addSat r n i j).vlt = m.vlt := rfl
@[simp] theorem Mach.addSat_hl (m : Mach) (r : Row) (n i j : Nat) : (m.addSat r n i j).hl = m.hl := rfl
@[simp] theorem Mach.addSat_ch (m : Mach) (r : Row) (n i j : Nat) : (m.addSat r n i j).ch = m.ch := rfl
@[simp] theorem Mach.addSat_th (m : Mach) (r : Row) (n i j : Nat) : (m.addSat r n i j).th = m.th := rfl
@[simp] theorem Mach.addSat_lanes (m : Mach) (r : Row) (n i j : Nat) : (m.addSat r n i j).lanes = m.lanes := rfl
@[simp] theorem Mach.addSat_scan (m : Mach) (r : Row) (n i j : Nat) : (m.addSat r n i j).scan = m.scan := rfl
@[simp] theorem Mach.addSat_dr (m : Mach) (r : Row) (n i j : Nat) : (m.addSat r n i j).dr = m.dr := rfl
@[simp] theorem Mach.addSat_cal (m : Mach) (r : Row) (n i j : Nat) : (m.addSat r n i j).cal = m.cal := rfl
@[simp] theorem Mach.addSat_sec (m : Mach) (r : Row) (n i j : Nat) : (m.addSat r n i j).sec = m.sec := rfl
@[simp] theorem Mach.addSat_fab (m : Mach) (r : Row) (n i j : Nat) : (m.addSat r n i j).fab = m.fab := rfl
@[simp] theorem Mach.addSat_tim (m : Mach) (r : Row) (n i j : Nat) : (m.addSat r n i j).tim = m.tim := rfl
@[simp] theorem Mach.addSat_flow (m : Mach) (r : Row) (n i j : Nat) : (m.addSat r n i j).flow = m.flow := rfl
@[simp] theorem Mach.addSat_hel (m : Mach) (r : Row) (n i j : Nat) : (m.addSat r n i j).hel = m.hel := rfl
@[simp] theorem Mach.addSat_gal (m : Mach) (r : Row) (n i j : Nat) : (m.addSat r n i j).gal = m.gal := rfl
@[simp] theorem Mach.addSat_lant (m : Mach) (r : Row) (n i j : Nat) : (m.addSat r n i j).lant = m.lant := rfl
@[simp] theorem Mach.addSat_host (m : Mach) (r : Row) (n i j : Nat) : (m.addSat r n i j).host = m.host := rfl
@[simp] theorem Mach.addSat_dic (m : Mach) (r : Row) (n i j : Nat) : (m.addSat r n i j).dic = m.dic := rfl
@[simp] theorem Mach.addSat_dma (m : Mach) (r : Row) (n i j : Nat) : (m.addSat r n i j).dma = m.dma := rfl
@[simp] theorem Mach.addSat_side (m : Mach) (r : Row) (n i j : Nat) : (m.addSat r n i j).side = m.side := rfl
@[simp] theorem Mach.addSat_crc (m : Mach) (r : Row) (n i j : Nat) : (m.addSat r n i j).crc = m.crc := rfl

/-! Mach.dset -/

@[simp] theorem Mach.dset_regs (m : Mach) (d : DKey) (v : Nat) : (m.dset d v).regs = m.regs := rfl
@[simp] theorem Mach.dset_held1 (m : Mach) (d : DKey) (v : Nat) : (m.dset d v).held1 = m.held1 := rfl
@[simp] theorem Mach.dset_held2 (m : Mach) (d : DKey) (v : Nat) : (m.dset d v).held2 = m.held2 := rfl
@[simp] theorem Mach.dset_latch (m : Mach) (d : DKey) (v : Nat) : (m.dset d v).latch = m.latch := rfl
@[simp] theorem Mach.dset_dict1 (m : Mach) (d : DKey) (v : Nat) : (m.dset d v).dict1 = m.dict1 := rfl
@[simp] theorem Mach.dset_dict2 (m : Mach) (d : DKey) (v : Nat) : (m.dset d v).dict2 = m.dict2 := rfl
@[simp] theorem Mach.dset_out (m : Mach) (d : DKey) (v : Nat) : (m.dset d v).out = m.out := rfl
@[simp] theorem Mach.dset_freeN (m : Mach) (d : DKey) (v : Nat) : (m.dset d v).freeN = m.freeN := rfl
@[simp] theorem Mach.dset_msix (m : Mach) (d : DKey) (v : Nat) : (m.dset d v).msix = m.msix := rfl
@[simp] theorem Mach.dset_mc (m : Mach) (d : DKey) (v : Nat) : (m.dset d v).mc = m.mc := rfl
@[simp] theorem Mach.dset_vlt (m : Mach) (d : DKey) (v : Nat) : (m.dset d v).vlt = m.vlt := rfl
@[simp] theorem Mach.dset_hl (m : Mach) (d : DKey) (v : Nat) : (m.dset d v).hl = m.hl := rfl
@[simp] theorem Mach.dset_ch (m : Mach) (d : DKey) (v : Nat) : (m.dset d v).ch = m.ch := rfl
@[simp] theorem Mach.dset_th (m : Mach) (d : DKey) (v : Nat) : (m.dset d v).th = m.th := rfl
@[simp] theorem Mach.dset_lanes (m : Mach) (d : DKey) (v : Nat) : (m.dset d v).lanes = m.lanes := rfl
@[simp] theorem Mach.dset_scan (m : Mach) (d : DKey) (v : Nat) : (m.dset d v).scan = m.scan := rfl
@[simp] theorem Mach.dset_dr (m : Mach) (d : DKey) (v : Nat) : (m.dset d v).dr = m.dr := rfl
@[simp] theorem Mach.dset_cal (m : Mach) (d : DKey) (v : Nat) : (m.dset d v).cal = m.cal := rfl
@[simp] theorem Mach.dset_sec (m : Mach) (d : DKey) (v : Nat) : (m.dset d v).sec = m.sec := rfl
@[simp] theorem Mach.dset_fab (m : Mach) (d : DKey) (v : Nat) : (m.dset d v).fab = m.fab := rfl
@[simp] theorem Mach.dset_tim (m : Mach) (d : DKey) (v : Nat) : (m.dset d v).tim = m.tim := rfl
@[simp] theorem Mach.dset_flow (m : Mach) (d : DKey) (v : Nat) : (m.dset d v).flow = m.flow := rfl
@[simp] theorem Mach.dset_hel (m : Mach) (d : DKey) (v : Nat) : (m.dset d v).hel = m.hel := rfl
@[simp] theorem Mach.dset_gal (m : Mach) (d : DKey) (v : Nat) : (m.dset d v).gal = m.gal := rfl
@[simp] theorem Mach.dset_lant (m : Mach) (d : DKey) (v : Nat) : (m.dset d v).lant = m.lant := rfl
@[simp] theorem Mach.dset_host (m : Mach) (d : DKey) (v : Nat) : (m.dset d v).host = m.host := rfl
@[simp] theorem Mach.dset_dic (m : Mach) (d : DKey) (v : Nat) : (m.dset d v).dic = m.dic := rfl
@[simp] theorem Mach.dset_dma (m : Mach) (d : DKey) (v : Nat) : (m.dset d v).dma = m.dma := rfl
@[simp] theorem Mach.dset_side (m : Mach) (d : DKey) (v : Nat) : (m.dset d v).side = m.side := rfl
@[simp] theorem Mach.dset_crc (m : Mach) (d : DKey) (v : Nat) : (m.dset d v).crc = m.crc := rfl

/-! Mach.dsetB -/

@[simp] theorem Mach.dsetB_regs (m : Mach) (d : DKey) (v : List Byte) : (m.dsetB d v).regs = m.regs := rfl
@[simp] theorem Mach.dsetB_held1 (m : Mach) (d : DKey) (v : List Byte) : (m.dsetB d v).held1 = m.held1 := rfl
@[simp] theorem Mach.dsetB_held2 (m : Mach) (d : DKey) (v : List Byte) : (m.dsetB d v).held2 = m.held2 := rfl
@[simp] theorem Mach.dsetB_latch (m : Mach) (d : DKey) (v : List Byte) : (m.dsetB d v).latch = m.latch := rfl
@[simp] theorem Mach.dsetB_dict1 (m : Mach) (d : DKey) (v : List Byte) : (m.dsetB d v).dict1 = m.dict1 := rfl
@[simp] theorem Mach.dsetB_dict2 (m : Mach) (d : DKey) (v : List Byte) : (m.dsetB d v).dict2 = m.dict2 := rfl
@[simp] theorem Mach.dsetB_out (m : Mach) (d : DKey) (v : List Byte) : (m.dsetB d v).out = m.out := rfl
@[simp] theorem Mach.dsetB_freeN (m : Mach) (d : DKey) (v : List Byte) : (m.dsetB d v).freeN = m.freeN := rfl
@[simp] theorem Mach.dsetB_msix (m : Mach) (d : DKey) (v : List Byte) : (m.dsetB d v).msix = m.msix := rfl
@[simp] theorem Mach.dsetB_mc (m : Mach) (d : DKey) (v : List Byte) : (m.dsetB d v).mc = m.mc := rfl
@[simp] theorem Mach.dsetB_vlt (m : Mach) (d : DKey) (v : List Byte) : (m.dsetB d v).vlt = m.vlt := rfl
@[simp] theorem Mach.dsetB_hl (m : Mach) (d : DKey) (v : List Byte) : (m.dsetB d v).hl = m.hl := rfl
@[simp] theorem Mach.dsetB_ch (m : Mach) (d : DKey) (v : List Byte) : (m.dsetB d v).ch = m.ch := rfl
@[simp] theorem Mach.dsetB_th (m : Mach) (d : DKey) (v : List Byte) : (m.dsetB d v).th = m.th := rfl
@[simp] theorem Mach.dsetB_lanes (m : Mach) (d : DKey) (v : List Byte) : (m.dsetB d v).lanes = m.lanes := rfl
@[simp] theorem Mach.dsetB_scan (m : Mach) (d : DKey) (v : List Byte) : (m.dsetB d v).scan = m.scan := rfl
@[simp] theorem Mach.dsetB_dr (m : Mach) (d : DKey) (v : List Byte) : (m.dsetB d v).dr = m.dr := rfl
@[simp] theorem Mach.dsetB_cal (m : Mach) (d : DKey) (v : List Byte) : (m.dsetB d v).cal = m.cal := rfl
@[simp] theorem Mach.dsetB_sec (m : Mach) (d : DKey) (v : List Byte) : (m.dsetB d v).sec = m.sec := rfl
@[simp] theorem Mach.dsetB_fab (m : Mach) (d : DKey) (v : List Byte) : (m.dsetB d v).fab = m.fab := rfl
@[simp] theorem Mach.dsetB_tim (m : Mach) (d : DKey) (v : List Byte) : (m.dsetB d v).tim = m.tim := rfl
@[simp] theorem Mach.dsetB_flow (m : Mach) (d : DKey) (v : List Byte) : (m.dsetB d v).flow = m.flow := rfl
@[simp] theorem Mach.dsetB_hel (m : Mach) (d : DKey) (v : List Byte) : (m.dsetB d v).hel = m.hel := rfl
@[simp] theorem Mach.dsetB_gal (m : Mach) (d : DKey) (v : List Byte) : (m.dsetB d v).gal = m.gal := rfl
@[simp] theorem Mach.dsetB_lant (m : Mach) (d : DKey) (v : List Byte) : (m.dsetB d v).lant = m.lant := rfl
@[simp] theorem Mach.dsetB_host (m : Mach) (d : DKey) (v : List Byte) : (m.dsetB d v).host = m.host := rfl
@[simp] theorem Mach.dsetB_dic (m : Mach) (d : DKey) (v : List Byte) : (m.dsetB d v).dic = m.dic := rfl
@[simp] theorem Mach.dsetB_dma (m : Mach) (d : DKey) (v : List Byte) : (m.dsetB d v).dma = m.dma := rfl
@[simp] theorem Mach.dsetB_side (m : Mach) (d : DKey) (v : List Byte) : (m.dsetB d v).side = m.side := rfl
@[simp] theorem Mach.dsetB_crc (m : Mach) (d : DKey) (v : List Byte) : (m.dsetB d v).crc = m.crc := rfl

/-! Mach.dadd -/

@[simp] theorem Mach.dadd_regs (m : Mach) (d : DKey) (n : Nat) : (m.dadd d n).regs = m.regs := rfl
@[simp] theorem Mach.dadd_held1 (m : Mach) (d : DKey) (n : Nat) : (m.dadd d n).held1 = m.held1 := rfl
@[simp] theorem Mach.dadd_held2 (m : Mach) (d : DKey) (n : Nat) : (m.dadd d n).held2 = m.held2 := rfl
@[simp] theorem Mach.dadd_latch (m : Mach) (d : DKey) (n : Nat) : (m.dadd d n).latch = m.latch := rfl
@[simp] theorem Mach.dadd_dict1 (m : Mach) (d : DKey) (n : Nat) : (m.dadd d n).dict1 = m.dict1 := rfl
@[simp] theorem Mach.dadd_dict2 (m : Mach) (d : DKey) (n : Nat) : (m.dadd d n).dict2 = m.dict2 := rfl
@[simp] theorem Mach.dadd_out (m : Mach) (d : DKey) (n : Nat) : (m.dadd d n).out = m.out := rfl
@[simp] theorem Mach.dadd_freeN (m : Mach) (d : DKey) (n : Nat) : (m.dadd d n).freeN = m.freeN := rfl
@[simp] theorem Mach.dadd_msix (m : Mach) (d : DKey) (n : Nat) : (m.dadd d n).msix = m.msix := rfl
@[simp] theorem Mach.dadd_mc (m : Mach) (d : DKey) (n : Nat) : (m.dadd d n).mc = m.mc := rfl
@[simp] theorem Mach.dadd_vlt (m : Mach) (d : DKey) (n : Nat) : (m.dadd d n).vlt = m.vlt := rfl
@[simp] theorem Mach.dadd_hl (m : Mach) (d : DKey) (n : Nat) : (m.dadd d n).hl = m.hl := rfl
@[simp] theorem Mach.dadd_ch (m : Mach) (d : DKey) (n : Nat) : (m.dadd d n).ch = m.ch := rfl
@[simp] theorem Mach.dadd_th (m : Mach) (d : DKey) (n : Nat) : (m.dadd d n).th = m.th := rfl
@[simp] theorem Mach.dadd_lanes (m : Mach) (d : DKey) (n : Nat) : (m.dadd d n).lanes = m.lanes := rfl
@[simp] theorem Mach.dadd_scan (m : Mach) (d : DKey) (n : Nat) : (m.dadd d n).scan = m.scan := rfl
@[simp] theorem Mach.dadd_dr (m : Mach) (d : DKey) (n : Nat) : (m.dadd d n).dr = m.dr := rfl
@[simp] theorem Mach.dadd_cal (m : Mach) (d : DKey) (n : Nat) : (m.dadd d n).cal = m.cal := rfl
@[simp] theorem Mach.dadd_sec (m : Mach) (d : DKey) (n : Nat) : (m.dadd d n).sec = m.sec := rfl
@[simp] theorem Mach.dadd_fab (m : Mach) (d : DKey) (n : Nat) : (m.dadd d n).fab = m.fab := rfl
@[simp] theorem Mach.dadd_tim (m : Mach) (d : DKey) (n : Nat) : (m.dadd d n).tim = m.tim := rfl
@[simp] theorem Mach.dadd_flow (m : Mach) (d : DKey) (n : Nat) : (m.dadd d n).flow = m.flow := rfl
@[simp] theorem Mach.dadd_hel (m : Mach) (d : DKey) (n : Nat) : (m.dadd d n).hel = m.hel := rfl
@[simp] theorem Mach.dadd_gal (m : Mach) (d : DKey) (n : Nat) : (m.dadd d n).gal = m.gal := rfl
@[simp] theorem Mach.dadd_lant (m : Mach) (d : DKey) (n : Nat) : (m.dadd d n).lant = m.lant := rfl
@[simp] theorem Mach.dadd_host (m : Mach) (d : DKey) (n : Nat) : (m.dadd d n).host = m.host := rfl
@[simp] theorem Mach.dadd_dic (m : Mach) (d : DKey) (n : Nat) : (m.dadd d n).dic = m.dic := rfl
@[simp] theorem Mach.dadd_dma (m : Mach) (d : DKey) (n : Nat) : (m.dadd d n).dma = m.dma := rfl
@[simp] theorem Mach.dadd_side (m : Mach) (d : DKey) (n : Nat) : (m.dadd d n).side = m.side := rfl
@[simp] theorem Mach.dadd_crc (m : Mach) (d : DKey) (n : Nat) : (m.dadd d n).crc = m.crc := rfl

/-! Mach.emit -/

@[simp] theorem Mach.emit_regs (m : Mach) (o : Out) : (m.emit o).regs = m.regs := rfl
@[simp] theorem Mach.emit_held1 (m : Mach) (o : Out) : (m.emit o).held1 = m.held1 := rfl
@[simp] theorem Mach.emit_held2 (m : Mach) (o : Out) : (m.emit o).held2 = m.held2 := rfl
@[simp] theorem Mach.emit_latch (m : Mach) (o : Out) : (m.emit o).latch = m.latch := rfl
@[simp] theorem Mach.emit_dict (m : Mach) (o : Out) : (m.emit o).dict = m.dict := rfl
@[simp] theorem Mach.emit_dict1 (m : Mach) (o : Out) : (m.emit o).dict1 = m.dict1 := rfl
@[simp] theorem Mach.emit_dict2 (m : Mach) (o : Out) : (m.emit o).dict2 = m.dict2 := rfl
@[simp] theorem Mach.emit_freeN (m : Mach) (o : Out) : (m.emit o).freeN = m.freeN := rfl
@[simp] theorem Mach.emit_msix (m : Mach) (o : Out) : (m.emit o).msix = m.msix := rfl
@[simp] theorem Mach.emit_mc (m : Mach) (o : Out) : (m.emit o).mc = m.mc := rfl
@[simp] theorem Mach.emit_vlt (m : Mach) (o : Out) : (m.emit o).vlt = m.vlt := rfl
@[simp] theorem Mach.emit_hl (m : Mach) (o : Out) : (m.emit o).hl = m.hl := rfl
@[simp] theorem Mach.emit_ch (m : Mach) (o : Out) : (m.emit o).ch = m.ch := rfl
@[simp] theorem Mach.emit_th (m : Mach) (o : Out) : (m.emit o).th = m.th := rfl
@[simp] theorem Mach.emit_lanes (m : Mach) (o : Out) : (m.emit o).lanes = m.lanes := rfl
@[simp] theorem Mach.emit_scan (m : Mach) (o : Out) : (m.emit o).scan = m.scan := rfl
@[simp] theorem Mach.emit_dr (m : Mach) (o : Out) : (m.emit o).dr = m.dr := rfl
@[simp] theorem Mach.emit_cal (m : Mach) (o : Out) : (m.emit o).cal = m.cal := rfl
@[simp] theorem Mach.emit_sec (m : Mach) (o : Out) : (m.emit o).sec = m.sec := rfl
@[simp] theorem Mach.emit_fab (m : Mach) (o : Out) : (m.emit o).fab = m.fab := rfl
@[simp] theorem Mach.emit_tim (m : Mach) (o : Out) : (m.emit o).tim = m.tim := rfl
@[simp] theorem Mach.emit_flow (m : Mach) (o : Out) : (m.emit o).flow = m.flow := rfl
@[simp] theorem Mach.emit_hel (m : Mach) (o : Out) : (m.emit o).hel = m.hel := rfl
@[simp] theorem Mach.emit_gal (m : Mach) (o : Out) : (m.emit o).gal = m.gal := rfl
@[simp] theorem Mach.emit_lant (m : Mach) (o : Out) : (m.emit o).lant = m.lant := rfl
@[simp] theorem Mach.emit_host (m : Mach) (o : Out) : (m.emit o).host = m.host := rfl
@[simp] theorem Mach.emit_dic (m : Mach) (o : Out) : (m.emit o).dic = m.dic := rfl
@[simp] theorem Mach.emit_dma (m : Mach) (o : Out) : (m.emit o).dma = m.dma := rfl
@[simp] theorem Mach.emit_side (m : Mach) (o : Out) : (m.emit o).side = m.side := rfl
@[simp] theorem Mach.emit_crc (m : Mach) (o : Out) : (m.emit o).crc = m.crc := rfl

/-! Mach.emits -/

@[simp] theorem Mach.emits_regs (m : Mach) (l : List Out) : (m.emits l).regs = m.regs := rfl
@[simp] theorem Mach.emits_held1 (m : Mach) (l : List Out) : (m.emits l).held1 = m.held1 := rfl
@[simp] theorem Mach.emits_held2 (m : Mach) (l : List Out) : (m.emits l).held2 = m.held2 := rfl
@[simp] theorem Mach.emits_latch (m : Mach) (l : List Out) : (m.emits l).latch = m.latch := rfl
@[simp] theorem Mach.emits_dict (m : Mach) (l : List Out) : (m.emits l).dict = m.dict := rfl
@[simp] theorem Mach.emits_dict1 (m : Mach) (l : List Out) : (m.emits l).dict1 = m.dict1 := rfl
@[simp] theorem Mach.emits_dict2 (m : Mach) (l : List Out) : (m.emits l).dict2 = m.dict2 := rfl
@[simp] theorem Mach.emits_freeN (m : Mach) (l : List Out) : (m.emits l).freeN = m.freeN := rfl
@[simp] theorem Mach.emits_msix (m : Mach) (l : List Out) : (m.emits l).msix = m.msix := rfl
@[simp] theorem Mach.emits_mc (m : Mach) (l : List Out) : (m.emits l).mc = m.mc := rfl
@[simp] theorem Mach.emits_vlt (m : Mach) (l : List Out) : (m.emits l).vlt = m.vlt := rfl
@[simp] theorem Mach.emits_hl (m : Mach) (l : List Out) : (m.emits l).hl = m.hl := rfl
@[simp] theorem Mach.emits_ch (m : Mach) (l : List Out) : (m.emits l).ch = m.ch := rfl
@[simp] theorem Mach.emits_th (m : Mach) (l : List Out) : (m.emits l).th = m.th := rfl
@[simp] theorem Mach.emits_lanes (m : Mach) (l : List Out) : (m.emits l).lanes = m.lanes := rfl
@[simp] theorem Mach.emits_scan (m : Mach) (l : List Out) : (m.emits l).scan = m.scan := rfl
@[simp] theorem Mach.emits_dr (m : Mach) (l : List Out) : (m.emits l).dr = m.dr := rfl
@[simp] theorem Mach.emits_cal (m : Mach) (l : List Out) : (m.emits l).cal = m.cal := rfl
@[simp] theorem Mach.emits_sec (m : Mach) (l : List Out) : (m.emits l).sec = m.sec := rfl
@[simp] theorem Mach.emits_fab (m : Mach) (l : List Out) : (m.emits l).fab = m.fab := rfl
@[simp] theorem Mach.emits_tim (m : Mach) (l : List Out) : (m.emits l).tim = m.tim := rfl
@[simp] theorem Mach.emits_flow (m : Mach) (l : List Out) : (m.emits l).flow = m.flow := rfl
@[simp] theorem Mach.emits_hel (m : Mach) (l : List Out) : (m.emits l).hel = m.hel := rfl
@[simp] theorem Mach.emits_gal (m : Mach) (l : List Out) : (m.emits l).gal = m.gal := rfl
@[simp] theorem Mach.emits_lant (m : Mach) (l : List Out) : (m.emits l).lant = m.lant := rfl
@[simp] theorem Mach.emits_host (m : Mach) (l : List Out) : (m.emits l).host = m.host := rfl
@[simp] theorem Mach.emits_dic (m : Mach) (l : List Out) : (m.emits l).dic = m.dic := rfl
@[simp] theorem Mach.emits_dma (m : Mach) (l : List Out) : (m.emits l).dma = m.dma := rfl
@[simp] theorem Mach.emits_side (m : Mach) (l : List Out) : (m.emits l).side = m.side := rfl
@[simp] theorem Mach.emits_crc (m : Mach) (l : List Out) : (m.emits l).crc = m.crc := rfl

/-! Mach.draw -/

@[simp] theorem Mach.draw_regs (m : Mach) (n : Nat) : (m.draw n).2.regs = m.regs := rfl
@[simp] theorem Mach.draw_held1 (m : Mach) (n : Nat) : (m.draw n).2.held1 = m.held1 := rfl
@[simp] theorem Mach.draw_held2 (m : Mach) (n : Nat) : (m.draw n).2.held2 = m.held2 := rfl
@[simp] theorem Mach.draw_latch (m : Mach) (n : Nat) : (m.draw n).2.latch = m.latch := rfl
@[simp] theorem Mach.draw_dict (m : Mach) (n : Nat) : (m.draw n).2.dict = m.dict := rfl
@[simp] theorem Mach.draw_dict1 (m : Mach) (n : Nat) : (m.draw n).2.dict1 = m.dict1 := rfl
@[simp] theorem Mach.draw_dict2 (m : Mach) (n : Nat) : (m.draw n).2.dict2 = m.dict2 := rfl
@[simp] theorem Mach.draw_out (m : Mach) (n : Nat) : (m.draw n).2.out = m.out := rfl
@[simp] theorem Mach.draw_msix (m : Mach) (n : Nat) : (m.draw n).2.msix = m.msix := rfl
@[simp] theorem Mach.draw_mc (m : Mach) (n : Nat) : (m.draw n).2.mc = m.mc := rfl
@[simp] theorem Mach.draw_vlt (m : Mach) (n : Nat) : (m.draw n).2.vlt = m.vlt := rfl
@[simp] theorem Mach.draw_hl (m : Mach) (n : Nat) : (m.draw n).2.hl = m.hl := rfl
@[simp] theorem Mach.draw_ch (m : Mach) (n : Nat) : (m.draw n).2.ch = m.ch := rfl
@[simp] theorem Mach.draw_th (m : Mach) (n : Nat) : (m.draw n).2.th = m.th := rfl
@[simp] theorem Mach.draw_lanes (m : Mach) (n : Nat) : (m.draw n).2.lanes = m.lanes := rfl
@[simp] theorem Mach.draw_scan (m : Mach) (n : Nat) : (m.draw n).2.scan = m.scan := rfl
@[simp] theorem Mach.draw_dr (m : Mach) (n : Nat) : (m.draw n).2.dr = m.dr := rfl
@[simp] theorem Mach.draw_cal (m : Mach) (n : Nat) : (m.draw n).2.cal = m.cal := rfl
@[simp] theorem Mach.draw_sec (m : Mach) (n : Nat) : (m.draw n).2.sec = m.sec := rfl
@[simp] theorem Mach.draw_fab (m : Mach) (n : Nat) : (m.draw n).2.fab = m.fab := rfl
@[simp] theorem Mach.draw_tim (m : Mach) (n : Nat) : (m.draw n).2.tim = m.tim := rfl
@[simp] theorem Mach.draw_flow (m : Mach) (n : Nat) : (m.draw n).2.flow = m.flow := rfl
@[simp] theorem Mach.draw_hel (m : Mach) (n : Nat) : (m.draw n).2.hel = m.hel := rfl
@[simp] theorem Mach.draw_gal (m : Mach) (n : Nat) : (m.draw n).2.gal = m.gal := rfl
@[simp] theorem Mach.draw_lant (m : Mach) (n : Nat) : (m.draw n).2.lant = m.lant := rfl
@[simp] theorem Mach.draw_host (m : Mach) (n : Nat) : (m.draw n).2.host = m.host := rfl
@[simp] theorem Mach.draw_dic (m : Mach) (n : Nat) : (m.draw n).2.dic = m.dic := rfl
@[simp] theorem Mach.draw_dma (m : Mach) (n : Nat) : (m.draw n).2.dma = m.dma := rfl
@[simp] theorem Mach.draw_side (m : Mach) (n : Nat) : (m.draw n).2.side = m.side := rfl
@[simp] theorem Mach.draw_crc (m : Mach) (n : Nat) : (m.draw n).2.crc = m.crc := rfl

/-! Mach.drawBytes -/

@[simp] theorem Mach.drawBytes_regs (m : Mach) (n : Nat) : (m.drawBytes n).2.regs = m.regs := rfl
@[simp] theorem Mach.drawBytes_held1 (m : Mach) (n : Nat) : (m.drawBytes n).2.held1 = m.held1 := rfl
@[simp] theorem Mach.drawBytes_held2 (m : Mach) (n : Nat) : (m.drawBytes n).2.held2 = m.held2 := rfl
@[simp] theorem Mach.drawBytes_latch (m : Mach) (n : Nat) : (m.drawBytes n).2.latch = m.latch := rfl
@[simp] theorem Mach.drawBytes_dict (m : Mach) (n : Nat) : (m.drawBytes n).2.dict = m.dict := rfl
@[simp] theorem Mach.drawBytes_dict1 (m : Mach) (n : Nat) : (m.drawBytes n).2.dict1 = m.dict1 := rfl
@[simp] theorem Mach.drawBytes_dict2 (m : Mach) (n : Nat) : (m.drawBytes n).2.dict2 = m.dict2 := rfl
@[simp] theorem Mach.drawBytes_out (m : Mach) (n : Nat) : (m.drawBytes n).2.out = m.out := rfl
@[simp] theorem Mach.drawBytes_msix (m : Mach) (n : Nat) : (m.drawBytes n).2.msix = m.msix := rfl
@[simp] theorem Mach.drawBytes_mc (m : Mach) (n : Nat) : (m.drawBytes n).2.mc = m.mc := rfl
@[simp] theorem Mach.drawBytes_vlt (m : Mach) (n : Nat) : (m.drawBytes n).2.vlt = m.vlt := rfl
@[simp] theorem Mach.drawBytes_hl (m : Mach) (n : Nat) : (m.drawBytes n).2.hl = m.hl := rfl
@[simp] theorem Mach.drawBytes_ch (m : Mach) (n : Nat) : (m.drawBytes n).2.ch = m.ch := rfl
@[simp] theorem Mach.drawBytes_th (m : Mach) (n : Nat) : (m.drawBytes n).2.th = m.th := rfl
@[simp] theorem Mach.drawBytes_lanes (m : Mach) (n : Nat) : (m.drawBytes n).2.lanes = m.lanes := rfl
@[simp] theorem Mach.drawBytes_scan (m : Mach) (n : Nat) : (m.drawBytes n).2.scan = m.scan := rfl
@[simp] theorem Mach.drawBytes_dr (m : Mach) (n : Nat) : (m.drawBytes n).2.dr = m.dr := rfl
@[simp] theorem Mach.drawBytes_cal (m : Mach) (n : Nat) : (m.drawBytes n).2.cal = m.cal := rfl
@[simp] theorem Mach.drawBytes_sec (m : Mach) (n : Nat) : (m.drawBytes n).2.sec = m.sec := rfl
@[simp] theorem Mach.drawBytes_fab (m : Mach) (n : Nat) : (m.drawBytes n).2.fab = m.fab := rfl
@[simp] theorem Mach.drawBytes_tim (m : Mach) (n : Nat) : (m.drawBytes n).2.tim = m.tim := rfl
@[simp] theorem Mach.drawBytes_flow (m : Mach) (n : Nat) : (m.drawBytes n).2.flow = m.flow := rfl
@[simp] theorem Mach.drawBytes_hel (m : Mach) (n : Nat) : (m.drawBytes n).2.hel = m.hel := rfl
@[simp] theorem Mach.drawBytes_gal (m : Mach) (n : Nat) : (m.drawBytes n).2.gal = m.gal := rfl
@[simp] theorem Mach.drawBytes_lant (m : Mach) (n : Nat) : (m.drawBytes n).2.lant = m.lant := rfl
@[simp] theorem Mach.drawBytes_host (m : Mach) (n : Nat) : (m.drawBytes n).2.host = m.host := rfl
@[simp] theorem Mach.drawBytes_dic (m : Mach) (n : Nat) : (m.drawBytes n).2.dic = m.dic := rfl
@[simp] theorem Mach.drawBytes_dma (m : Mach) (n : Nat) : (m.drawBytes n).2.dma = m.dma := rfl
@[simp] theorem Mach.drawBytes_side (m : Mach) (n : Nat) : (m.drawBytes n).2.side = m.side := rfl
@[simp] theorem Mach.drawBytes_crc (m : Mach) (n : Nat) : (m.drawBytes n).2.crc = m.crc := rfl

/-! Mach.fresh -/

@[simp] theorem Mach.fresh_regs (m : Mach) : (m.fresh).regs = m.regs := rfl
@[simp] theorem Mach.fresh_held1 (m : Mach) : (m.fresh).held1 = m.held1 := rfl
@[simp] theorem Mach.fresh_held2 (m : Mach) : (m.fresh).held2 = m.held2 := rfl
@[simp] theorem Mach.fresh_latch (m : Mach) : (m.fresh).latch = m.latch := rfl
@[simp] theorem Mach.fresh_dict (m : Mach) : (m.fresh).dict = m.dict := rfl
@[simp] theorem Mach.fresh_dict1 (m : Mach) : (m.fresh).dict1 = m.dict1 := rfl
@[simp] theorem Mach.fresh_dict2 (m : Mach) : (m.fresh).dict2 = m.dict2 := rfl
@[simp] theorem Mach.fresh_freeN (m : Mach) : (m.fresh).freeN = m.freeN := rfl
@[simp] theorem Mach.fresh_msix (m : Mach) : (m.fresh).msix = m.msix := rfl
@[simp] theorem Mach.fresh_mc (m : Mach) : (m.fresh).mc = m.mc := rfl
@[simp] theorem Mach.fresh_vlt (m : Mach) : (m.fresh).vlt = m.vlt := rfl
@[simp] theorem Mach.fresh_hl (m : Mach) : (m.fresh).hl = m.hl := rfl
@[simp] theorem Mach.fresh_ch (m : Mach) : (m.fresh).ch = m.ch := rfl
@[simp] theorem Mach.fresh_th (m : Mach) : (m.fresh).th = m.th := rfl
@[simp] theorem Mach.fresh_lanes (m : Mach) : (m.fresh).lanes = m.lanes := rfl
@[simp] theorem Mach.fresh_scan (m : Mach) : (m.fresh).scan = m.scan := rfl
@[simp] theorem Mach.fresh_dr (m : Mach) : (m.fresh).dr = m.dr := rfl
@[simp] theorem Mach.fresh_cal (m : Mach) : (m.fresh).cal = m.cal := rfl
@[simp] theorem Mach.fresh_sec (m : Mach) : (m.fresh).sec = m.sec := rfl
@[simp] theorem Mach.fresh_fab (m : Mach) : (m.fresh).fab = m.fab := rfl
@[simp] theorem Mach.fresh_tim (m : Mach) : (m.fresh).tim = m.tim := rfl
@[simp] theorem Mach.fresh_flow (m : Mach) : (m.fresh).flow = m.flow := rfl
@[simp] theorem Mach.fresh_hel (m : Mach) : (m.fresh).hel = m.hel := rfl
@[simp] theorem Mach.fresh_gal (m : Mach) : (m.fresh).gal = m.gal := rfl
@[simp] theorem Mach.fresh_lant (m : Mach) : (m.fresh).lant = m.lant := rfl
@[simp] theorem Mach.fresh_host (m : Mach) : (m.fresh).host = m.host := rfl
@[simp] theorem Mach.fresh_dic (m : Mach) : (m.fresh).dic = m.dic := rfl
@[simp] theorem Mach.fresh_dma (m : Mach) : (m.fresh).dma = m.dma := rfl
@[simp] theorem Mach.fresh_side (m : Mach) : (m.fresh).side = m.side := rfl
@[simp] theorem Mach.fresh_crc (m : Mach) : (m.fresh).crc = m.crc := rfl

/-! Mach.resetRange -/

@[simp] theorem Mach.resetRange_latch (m : Mach) (lo hi : Nat) : (m.resetRange lo hi).latch = m.latch := rfl
@[simp] theorem Mach.resetRange_dict (m : Mach) (lo hi : Nat) : (m.resetRange lo hi).dict = m.dict := rfl
@[simp] theorem Mach.resetRange_dict1 (m : Mach) (lo hi : Nat) : (m.resetRange lo hi).dict1 = m.dict1 := rfl
@[simp] theorem Mach.resetRange_dict2 (m : Mach) (lo hi : Nat) : (m.resetRange lo hi).dict2 = m.dict2 := rfl
@[simp] theorem Mach.resetRange_out (m : Mach) (lo hi : Nat) : (m.resetRange lo hi).out = m.out := rfl
@[simp] theorem Mach.resetRange_freeN (m : Mach) (lo hi : Nat) : (m.resetRange lo hi).freeN = m.freeN := rfl
@[simp] theorem Mach.resetRange_msix (m : Mach) (lo hi : Nat) : (m.resetRange lo hi).msix = m.msix := rfl
@[simp] theorem Mach.resetRange_mc (m : Mach) (lo hi : Nat) : (m.resetRange lo hi).mc = m.mc := rfl
@[simp] theorem Mach.resetRange_vlt (m : Mach) (lo hi : Nat) : (m.resetRange lo hi).vlt = m.vlt := rfl
@[simp] theorem Mach.resetRange_hl (m : Mach) (lo hi : Nat) : (m.resetRange lo hi).hl = m.hl := rfl
@[simp] theorem Mach.resetRange_ch (m : Mach) (lo hi : Nat) : (m.resetRange lo hi).ch = m.ch := rfl
@[simp] theorem Mach.resetRange_th (m : Mach) (lo hi : Nat) : (m.resetRange lo hi).th = m.th := rfl
@[simp] theorem Mach.resetRange_lanes (m : Mach) (lo hi : Nat) : (m.resetRange lo hi).lanes = m.lanes := rfl
@[simp] theorem Mach.resetRange_scan (m : Mach) (lo hi : Nat) : (m.resetRange lo hi).scan = m.scan := rfl
@[simp] theorem Mach.resetRange_dr (m : Mach) (lo hi : Nat) : (m.resetRange lo hi).dr = m.dr := rfl
@[simp] theorem Mach.resetRange_cal (m : Mach) (lo hi : Nat) : (m.resetRange lo hi).cal = m.cal := rfl
@[simp] theorem Mach.resetRange_sec (m : Mach) (lo hi : Nat) : (m.resetRange lo hi).sec = m.sec := rfl
@[simp] theorem Mach.resetRange_fab (m : Mach) (lo hi : Nat) : (m.resetRange lo hi).fab = m.fab := rfl
@[simp] theorem Mach.resetRange_tim (m : Mach) (lo hi : Nat) : (m.resetRange lo hi).tim = m.tim := rfl
@[simp] theorem Mach.resetRange_flow (m : Mach) (lo hi : Nat) : (m.resetRange lo hi).flow = m.flow := rfl
@[simp] theorem Mach.resetRange_hel (m : Mach) (lo hi : Nat) : (m.resetRange lo hi).hel = m.hel := rfl
@[simp] theorem Mach.resetRange_gal (m : Mach) (lo hi : Nat) : (m.resetRange lo hi).gal = m.gal := rfl
@[simp] theorem Mach.resetRange_lant (m : Mach) (lo hi : Nat) : (m.resetRange lo hi).lant = m.lant := rfl
@[simp] theorem Mach.resetRange_host (m : Mach) (lo hi : Nat) : (m.resetRange lo hi).host = m.host := rfl
@[simp] theorem Mach.resetRange_dic (m : Mach) (lo hi : Nat) : (m.resetRange lo hi).dic = m.dic := rfl
@[simp] theorem Mach.resetRange_dma (m : Mach) (lo hi : Nat) : (m.resetRange lo hi).dma = m.dma := rfl
@[simp] theorem Mach.resetRange_side (m : Mach) (lo hi : Nat) : (m.resetRange lo hi).side = m.side := rfl
@[simp] theorem Mach.resetRange_crc (m : Mach) (lo hi : Nat) : (m.resetRange lo hi).crc = m.crc := rfl

/-! Mach.hold -/

@[simp] theorem Mach.hold_regs (m : Mach) (r : Row) (v i j : Nat) : (m.hold r v i j).regs = m.regs := by unfold Mach.hold; dsimp only; split <;> rfl
@[simp] theorem Mach.hold_latch (m : Mach) (r : Row) (v i j : Nat) : (m.hold r v i j).latch = m.latch := by unfold Mach.hold; dsimp only; split <;> rfl
@[simp] theorem Mach.hold_dict (m : Mach) (r : Row) (v i j : Nat) : (m.hold r v i j).dict = m.dict := by unfold Mach.hold; dsimp only; split <;> rfl
@[simp] theorem Mach.hold_dict1 (m : Mach) (r : Row) (v i j : Nat) : (m.hold r v i j).dict1 = m.dict1 := by unfold Mach.hold; dsimp only; split <;> rfl
@[simp] theorem Mach.hold_dict2 (m : Mach) (r : Row) (v i j : Nat) : (m.hold r v i j).dict2 = m.dict2 := by unfold Mach.hold; dsimp only; split <;> rfl
@[simp] theorem Mach.hold_out (m : Mach) (r : Row) (v i j : Nat) : (m.hold r v i j).out = m.out := by unfold Mach.hold; dsimp only; split <;> rfl
@[simp] theorem Mach.hold_freeN (m : Mach) (r : Row) (v i j : Nat) : (m.hold r v i j).freeN = m.freeN := by unfold Mach.hold; dsimp only; split <;> rfl
@[simp] theorem Mach.hold_msix (m : Mach) (r : Row) (v i j : Nat) : (m.hold r v i j).msix = m.msix := by unfold Mach.hold; dsimp only; split <;> rfl
@[simp] theorem Mach.hold_mc (m : Mach) (r : Row) (v i j : Nat) : (m.hold r v i j).mc = m.mc := by unfold Mach.hold; dsimp only; split <;> rfl
@[simp] theorem Mach.hold_vlt (m : Mach) (r : Row) (v i j : Nat) : (m.hold r v i j).vlt = m.vlt := by unfold Mach.hold; dsimp only; split <;> rfl
@[simp] theorem Mach.hold_hl (m : Mach) (r : Row) (v i j : Nat) : (m.hold r v i j).hl = m.hl := by unfold Mach.hold; dsimp only; split <;> rfl
@[simp] theorem Mach.hold_ch (m : Mach) (r : Row) (v i j : Nat) : (m.hold r v i j).ch = m.ch := by unfold Mach.hold; dsimp only; split <;> rfl
@[simp] theorem Mach.hold_th (m : Mach) (r : Row) (v i j : Nat) : (m.hold r v i j).th = m.th := by unfold Mach.hold; dsimp only; split <;> rfl
@[simp] theorem Mach.hold_lanes (m : Mach) (r : Row) (v i j : Nat) : (m.hold r v i j).lanes = m.lanes := by unfold Mach.hold; dsimp only; split <;> rfl
@[simp] theorem Mach.hold_scan (m : Mach) (r : Row) (v i j : Nat) : (m.hold r v i j).scan = m.scan := by unfold Mach.hold; dsimp only; split <;> rfl
@[simp] theorem Mach.hold_dr (m : Mach) (r : Row) (v i j : Nat) : (m.hold r v i j).dr = m.dr := by unfold Mach.hold; dsimp only; split <;> rfl
@[simp] theorem Mach.hold_cal (m : Mach) (r : Row) (v i j : Nat) : (m.hold r v i j).cal = m.cal := by unfold Mach.hold; dsimp only; split <;> rfl
@[simp] theorem Mach.hold_sec (m : Mach) (r : Row) (v i j : Nat) : (m.hold r v i j).sec = m.sec := by unfold Mach.hold; dsimp only; split <;> rfl
@[simp] theorem Mach.hold_fab (m : Mach) (r : Row) (v i j : Nat) : (m.hold r v i j).fab = m.fab := by unfold Mach.hold; dsimp only; split <;> rfl
@[simp] theorem Mach.hold_tim (m : Mach) (r : Row) (v i j : Nat) : (m.hold r v i j).tim = m.tim := by unfold Mach.hold; dsimp only; split <;> rfl
@[simp] theorem Mach.hold_flow (m : Mach) (r : Row) (v i j : Nat) : (m.hold r v i j).flow = m.flow := by unfold Mach.hold; dsimp only; split <;> rfl
@[simp] theorem Mach.hold_hel (m : Mach) (r : Row) (v i j : Nat) : (m.hold r v i j).hel = m.hel := by unfold Mach.hold; dsimp only; split <;> rfl
@[simp] theorem Mach.hold_gal (m : Mach) (r : Row) (v i j : Nat) : (m.hold r v i j).gal = m.gal := by unfold Mach.hold; dsimp only; split <;> rfl
@[simp] theorem Mach.hold_lant (m : Mach) (r : Row) (v i j : Nat) : (m.hold r v i j).lant = m.lant := by unfold Mach.hold; dsimp only; split <;> rfl
@[simp] theorem Mach.hold_host (m : Mach) (r : Row) (v i j : Nat) : (m.hold r v i j).host = m.host := by unfold Mach.hold; dsimp only; split <;> rfl
@[simp] theorem Mach.hold_dic (m : Mach) (r : Row) (v i j : Nat) : (m.hold r v i j).dic = m.dic := by unfold Mach.hold; dsimp only; split <;> rfl
@[simp] theorem Mach.hold_dma (m : Mach) (r : Row) (v i j : Nat) : (m.hold r v i j).dma = m.dma := by unfold Mach.hold; dsimp only; split <;> rfl
@[simp] theorem Mach.hold_side (m : Mach) (r : Row) (v i j : Nat) : (m.hold r v i j).side = m.side := by unfold Mach.hold; dsimp only; split <;> rfl
@[simp] theorem Mach.hold_crc (m : Mach) (r : Row) (v i j : Nat) : (m.hold r v i j).crc = m.crc := by unfold Mach.hold; dsimp only; split <;> rfl

/-! Mach.raise -/

@[simp] theorem Mach.raise_regs (m : Mach) (v : Nat) : (m.raise v).regs = m.regs := by unfold Mach.raise; split <;> rfl
@[simp] theorem Mach.raise_held1 (m : Mach) (v : Nat) : (m.raise v).held1 = m.held1 := by unfold Mach.raise; split <;> rfl
@[simp] theorem Mach.raise_held2 (m : Mach) (v : Nat) : (m.raise v).held2 = m.held2 := by unfold Mach.raise; split <;> rfl
@[simp] theorem Mach.raise_latch (m : Mach) (v : Nat) : (m.raise v).latch = m.latch := by unfold Mach.raise; split <;> rfl
@[simp] theorem Mach.raise_dict (m : Mach) (v : Nat) : (m.raise v).dict = m.dict := by unfold Mach.raise; split <;> rfl
@[simp] theorem Mach.raise_dict1 (m : Mach) (v : Nat) : (m.raise v).dict1 = m.dict1 := by unfold Mach.raise; split <;> rfl
@[simp] theorem Mach.raise_dict2 (m : Mach) (v : Nat) : (m.raise v).dict2 = m.dict2 := by unfold Mach.raise; split <;> rfl
@[simp] theorem Mach.raise_freeN (m : Mach) (v : Nat) : (m.raise v).freeN = m.freeN := by unfold Mach.raise; split <;> rfl
@[simp] theorem Mach.raise_mc (m : Mach) (v : Nat) : (m.raise v).mc = m.mc := by unfold Mach.raise; split <;> rfl
@[simp] theorem Mach.raise_vlt (m : Mach) (v : Nat) : (m.raise v).vlt = m.vlt := by unfold Mach.raise; split <;> rfl
@[simp] theorem Mach.raise_hl (m : Mach) (v : Nat) : (m.raise v).hl = m.hl := by unfold Mach.raise; split <;> rfl
@[simp] theorem Mach.raise_ch (m : Mach) (v : Nat) : (m.raise v).ch = m.ch := by unfold Mach.raise; split <;> rfl
@[simp] theorem Mach.raise_th (m : Mach) (v : Nat) : (m.raise v).th = m.th := by unfold Mach.raise; split <;> rfl
@[simp] theorem Mach.raise_lanes (m : Mach) (v : Nat) : (m.raise v).lanes = m.lanes := by unfold Mach.raise; split <;> rfl
@[simp] theorem Mach.raise_scan (m : Mach) (v : Nat) : (m.raise v).scan = m.scan := by unfold Mach.raise; split <;> rfl
@[simp] theorem Mach.raise_dr (m : Mach) (v : Nat) : (m.raise v).dr = m.dr := by unfold Mach.raise; split <;> rfl
@[simp] theorem Mach.raise_cal (m : Mach) (v : Nat) : (m.raise v).cal = m.cal := by unfold Mach.raise; split <;> rfl
@[simp] theorem Mach.raise_sec (m : Mach) (v : Nat) : (m.raise v).sec = m.sec := by unfold Mach.raise; split <;> rfl
@[simp] theorem Mach.raise_fab (m : Mach) (v : Nat) : (m.raise v).fab = m.fab := by unfold Mach.raise; split <;> rfl
@[simp] theorem Mach.raise_tim (m : Mach) (v : Nat) : (m.raise v).tim = m.tim := by unfold Mach.raise; split <;> rfl
@[simp] theorem Mach.raise_flow (m : Mach) (v : Nat) : (m.raise v).flow = m.flow := by unfold Mach.raise; split <;> rfl
@[simp] theorem Mach.raise_hel (m : Mach) (v : Nat) : (m.raise v).hel = m.hel := by unfold Mach.raise; split <;> rfl
@[simp] theorem Mach.raise_gal (m : Mach) (v : Nat) : (m.raise v).gal = m.gal := by unfold Mach.raise; split <;> rfl
@[simp] theorem Mach.raise_lant (m : Mach) (v : Nat) : (m.raise v).lant = m.lant := by unfold Mach.raise; split <;> rfl
@[simp] theorem Mach.raise_host (m : Mach) (v : Nat) : (m.raise v).host = m.host := by unfold Mach.raise; split <;> rfl
@[simp] theorem Mach.raise_dic (m : Mach) (v : Nat) : (m.raise v).dic = m.dic := by unfold Mach.raise; split <;> rfl
@[simp] theorem Mach.raise_dma (m : Mach) (v : Nat) : (m.raise v).dma = m.dma := by unfold Mach.raise; split <;> rfl
@[simp] theorem Mach.raise_side (m : Mach) (v : Nat) : (m.raise v).side = m.side := by unfold Mach.raise; split <;> rfl
@[simp] theorem Mach.raise_crc (m : Mach) (v : Nat) : (m.raise v).crc = m.crc := by unfold Mach.raise; split <;> rfl

/-! Mach.ev -/

@[simp] theorem Mach.ev_held1 (m : Mach) (e : Ev) (i : Nat) : (m.ev e i).held1 = m.held1 := by unfold Mach.ev; split <;> first | rfl | (dsimp only; split <;> simp)
@[simp] theorem Mach.ev_held2 (m : Mach) (e : Ev) (i : Nat) : (m.ev e i).held2 = m.held2 := by unfold Mach.ev; split <;> first | rfl | (dsimp only; split <;> simp)
@[simp] theorem Mach.ev_latch (m : Mach) (e : Ev) (i : Nat) : (m.ev e i).latch = m.latch := by unfold Mach.ev; split <;> first | rfl | (dsimp only; split <;> simp)
@[simp] theorem Mach.ev_dict (m : Mach) (e : Ev) (i : Nat) : (m.ev e i).dict = m.dict := by unfold Mach.ev; split <;> first | rfl | (dsimp only; split <;> simp)
@[simp] theorem Mach.ev_dict1 (m : Mach) (e : Ev) (i : Nat) : (m.ev e i).dict1 = m.dict1 := by unfold Mach.ev; split <;> first | rfl | (dsimp only; split <;> simp)
@[simp] theorem Mach.ev_dict2 (m : Mach) (e : Ev) (i : Nat) : (m.ev e i).dict2 = m.dict2 := by unfold Mach.ev; split <;> first | rfl | (dsimp only; split <;> simp)
@[simp] theorem Mach.ev_freeN (m : Mach) (e : Ev) (i : Nat) : (m.ev e i).freeN = m.freeN := by unfold Mach.ev; split <;> first | rfl | (dsimp only; split <;> simp)
@[simp] theorem Mach.ev_mc (m : Mach) (e : Ev) (i : Nat) : (m.ev e i).mc = m.mc := by unfold Mach.ev; split <;> first | rfl | (dsimp only; split <;> simp)
@[simp] theorem Mach.ev_vlt (m : Mach) (e : Ev) (i : Nat) : (m.ev e i).vlt = m.vlt := by unfold Mach.ev; split <;> first | rfl | (dsimp only; split <;> simp)
@[simp] theorem Mach.ev_hl (m : Mach) (e : Ev) (i : Nat) : (m.ev e i).hl = m.hl := by unfold Mach.ev; split <;> first | rfl | (dsimp only; split <;> simp)
@[simp] theorem Mach.ev_ch (m : Mach) (e : Ev) (i : Nat) : (m.ev e i).ch = m.ch := by unfold Mach.ev; split <;> first | rfl | (dsimp only; split <;> simp)
@[simp] theorem Mach.ev_th (m : Mach) (e : Ev) (i : Nat) : (m.ev e i).th = m.th := by unfold Mach.ev; split <;> first | rfl | (dsimp only; split <;> simp)
@[simp] theorem Mach.ev_lanes (m : Mach) (e : Ev) (i : Nat) : (m.ev e i).lanes = m.lanes := by unfold Mach.ev; split <;> first | rfl | (dsimp only; split <;> simp)
@[simp] theorem Mach.ev_scan (m : Mach) (e : Ev) (i : Nat) : (m.ev e i).scan = m.scan := by unfold Mach.ev; split <;> first | rfl | (dsimp only; split <;> simp)
@[simp] theorem Mach.ev_dr (m : Mach) (e : Ev) (i : Nat) : (m.ev e i).dr = m.dr := by unfold Mach.ev; split <;> first | rfl | (dsimp only; split <;> simp)
@[simp] theorem Mach.ev_cal (m : Mach) (e : Ev) (i : Nat) : (m.ev e i).cal = m.cal := by unfold Mach.ev; split <;> first | rfl | (dsimp only; split <;> simp)
@[simp] theorem Mach.ev_sec (m : Mach) (e : Ev) (i : Nat) : (m.ev e i).sec = m.sec := by unfold Mach.ev; split <;> first | rfl | (dsimp only; split <;> simp)
@[simp] theorem Mach.ev_fab (m : Mach) (e : Ev) (i : Nat) : (m.ev e i).fab = m.fab := by unfold Mach.ev; split <;> first | rfl | (dsimp only; split <;> simp)
@[simp] theorem Mach.ev_tim (m : Mach) (e : Ev) (i : Nat) : (m.ev e i).tim = m.tim := by unfold Mach.ev; split <;> first | rfl | (dsimp only; split <;> simp)
@[simp] theorem Mach.ev_flow (m : Mach) (e : Ev) (i : Nat) : (m.ev e i).flow = m.flow := by unfold Mach.ev; split <;> first | rfl | (dsimp only; split <;> simp)
@[simp] theorem Mach.ev_hel (m : Mach) (e : Ev) (i : Nat) : (m.ev e i).hel = m.hel := by unfold Mach.ev; split <;> first | rfl | (dsimp only; split <;> simp)
@[simp] theorem Mach.ev_gal (m : Mach) (e : Ev) (i : Nat) : (m.ev e i).gal = m.gal := by unfold Mach.ev; split <;> first | rfl | (dsimp only; split <;> simp)
@[simp] theorem Mach.ev_lant (m : Mach) (e : Ev) (i : Nat) : (m.ev e i).lant = m.lant := by unfold Mach.ev; split <;> first | rfl | (dsimp only; split <;> simp)
@[simp] theorem Mach.ev_host (m : Mach) (e : Ev) (i : Nat) : (m.ev e i).host = m.host := by unfold Mach.ev; split <;> first | rfl | (dsimp only; split <;> simp)
@[simp] theorem Mach.ev_dic (m : Mach) (e : Ev) (i : Nat) : (m.ev e i).dic = m.dic := by unfold Mach.ev; split <;> first | rfl | (dsimp only; split <;> simp)
@[simp] theorem Mach.ev_dma (m : Mach) (e : Ev) (i : Nat) : (m.ev e i).dma = m.dma := by unfold Mach.ev; split <;> first | rfl | (dsimp only; split <;> simp)
@[simp] theorem Mach.ev_side (m : Mach) (e : Ev) (i : Nat) : (m.ev e i).side = m.side := by unfold Mach.ev; split <;> first | rfl | (dsimp only; split <;> simp)
@[simp] theorem Mach.ev_crc (m : Mach) (e : Ev) (i : Nat) : (m.ev e i).crc = m.crc := by unfold Mach.ev; split <;> first | rfl | (dsimp only; split <;> simp)

/-! Mach.evIf -/

@[simp] theorem Mach.evIf_held1 (m : Mach) (c : Bool) (e : Ev) (i : Nat) : (m.evIf c e i).held1 = m.held1 := by unfold Mach.evIf; split <;> simp
@[simp] theorem Mach.evIf_held2 (m : Mach) (c : Bool) (e : Ev) (i : Nat) : (m.evIf c e i).held2 = m.held2 := by unfold Mach.evIf; split <;> simp
@[simp] theorem Mach.evIf_latch (m : Mach) (c : Bool) (e : Ev) (i : Nat) : (m.evIf c e i).latch = m.latch := by unfold Mach.evIf; split <;> simp
@[simp] theorem Mach.evIf_dict (m : Mach) (c : Bool) (e : Ev) (i : Nat) : (m.evIf c e i).dict = m.dict := by unfold Mach.evIf; split <;> simp
@[simp] theorem Mach.evIf_dict1 (m : Mach) (c : Bool) (e : Ev) (i : Nat) : (m.evIf c e i).dict1 = m.dict1 := by unfold Mach.evIf; split <;> simp
@[simp] theorem Mach.evIf_dict2 (m : Mach) (c : Bool) (e : Ev) (i : Nat) : (m.evIf c e i).dict2 = m.dict2 := by unfold Mach.evIf; split <;> simp
@[simp] theorem Mach.evIf_freeN (m : Mach) (c : Bool) (e : Ev) (i : Nat) : (m.evIf c e i).freeN = m.freeN := by unfold Mach.evIf; split <;> simp
@[simp] theorem Mach.evIf_mc (m : Mach) (c : Bool) (e : Ev) (i : Nat) : (m.evIf c e i).mc = m.mc := by unfold Mach.evIf; split <;> simp
@[simp] theorem Mach.evIf_vlt (m : Mach) (c : Bool) (e : Ev) (i : Nat) : (m.evIf c e i).vlt = m.vlt := by unfold Mach.evIf; split <;> simp
@[simp] theorem Mach.evIf_hl (m : Mach) (c : Bool) (e : Ev) (i : Nat) : (m.evIf c e i).hl = m.hl := by unfold Mach.evIf; split <;> simp
@[simp] theorem Mach.evIf_ch (m : Mach) (c : Bool) (e : Ev) (i : Nat) : (m.evIf c e i).ch = m.ch := by unfold Mach.evIf; split <;> simp
@[simp] theorem Mach.evIf_th (m : Mach) (c : Bool) (e : Ev) (i : Nat) : (m.evIf c e i).th = m.th := by unfold Mach.evIf; split <;> simp
@[simp] theorem Mach.evIf_lanes (m : Mach) (c : Bool) (e : Ev) (i : Nat) : (m.evIf c e i).lanes = m.lanes := by unfold Mach.evIf; split <;> simp
@[simp] theorem Mach.evIf_scan (m : Mach) (c : Bool) (e : Ev) (i : Nat) : (m.evIf c e i).scan = m.scan := by unfold Mach.evIf; split <;> simp
@[simp] theorem Mach.evIf_dr (m : Mach) (c : Bool) (e : Ev) (i : Nat) : (m.evIf c e i).dr = m.dr := by unfold Mach.evIf; split <;> simp
@[simp] theorem Mach.evIf_cal (m : Mach) (c : Bool) (e : Ev) (i : Nat) : (m.evIf c e i).cal = m.cal := by unfold Mach.evIf; split <;> simp
@[simp] theorem Mach.evIf_sec (m : Mach) (c : Bool) (e : Ev) (i : Nat) : (m.evIf c e i).sec = m.sec := by unfold Mach.evIf; split <;> simp
@[simp] theorem Mach.evIf_fab (m : Mach) (c : Bool) (e : Ev) (i : Nat) : (m.evIf c e i).fab = m.fab := by unfold Mach.evIf; split <;> simp
@[simp] theorem Mach.evIf_tim (m : Mach) (c : Bool) (e : Ev) (i : Nat) : (m.evIf c e i).tim = m.tim := by unfold Mach.evIf; split <;> simp
@[simp] theorem Mach.evIf_flow (m : Mach) (c : Bool) (e : Ev) (i : Nat) : (m.evIf c e i).flow = m.flow := by unfold Mach.evIf; split <;> simp
@[simp] theorem Mach.evIf_hel (m : Mach) (c : Bool) (e : Ev) (i : Nat) : (m.evIf c e i).hel = m.hel := by unfold Mach.evIf; split <;> simp
@[simp] theorem Mach.evIf_gal (m : Mach) (c : Bool) (e : Ev) (i : Nat) : (m.evIf c e i).gal = m.gal := by unfold Mach.evIf; split <;> simp
@[simp] theorem Mach.evIf_lant (m : Mach) (c : Bool) (e : Ev) (i : Nat) : (m.evIf c e i).lant = m.lant := by unfold Mach.evIf; split <;> simp
@[simp] theorem Mach.evIf_host (m : Mach) (c : Bool) (e : Ev) (i : Nat) : (m.evIf c e i).host = m.host := by unfold Mach.evIf; split <;> simp
@[simp] theorem Mach.evIf_dic (m : Mach) (c : Bool) (e : Ev) (i : Nat) : (m.evIf c e i).dic = m.dic := by unfold Mach.evIf; split <;> simp
@[simp] theorem Mach.evIf_dma (m : Mach) (c : Bool) (e : Ev) (i : Nat) : (m.evIf c e i).dma = m.dma := by unfold Mach.evIf; split <;> simp
@[simp] theorem Mach.evIf_side (m : Mach) (c : Bool) (e : Ev) (i : Nat) : (m.evIf c e i).side = m.side := by unfold Mach.evIf; split <;> simp
@[simp] theorem Mach.evIf_crc (m : Mach) (c : Bool) (e : Ev) (i : Nat) : (m.evIf c e i).crc = m.crc := by unfold Mach.evIf; split <;> simp

/-! cntAdd -/

@[simp] theorem cntAdd_held1 (m : Mach) (n src k : Nat) : (cntAdd m n src k).held1 = m.held1 := by unfold cntAdd Mach.evIf; split <;> simp only [] <;> (repeat' split) <;> simp
@[simp] theorem cntAdd_held2 (m : Mach) (n src k : Nat) : (cntAdd m n src k).held2 = m.held2 := by unfold cntAdd Mach.evIf; split <;> simp only [] <;> (repeat' split) <;> simp
@[simp] theorem cntAdd_latch (m : Mach) (n src k : Nat) : (cntAdd m n src k).latch = m.latch := by unfold cntAdd Mach.evIf; split <;> simp only [] <;> (repeat' split) <;> simp
@[simp] theorem cntAdd_dict (m : Mach) (n src k : Nat) : (cntAdd m n src k).dict = m.dict := by unfold cntAdd Mach.evIf; split <;> simp only [] <;> (repeat' split) <;> simp
@[simp] theorem cntAdd_dict1 (m : Mach) (n src k : Nat) : (cntAdd m n src k).dict1 = m.dict1 := by unfold cntAdd Mach.evIf; split <;> simp only [] <;> (repeat' split) <;> simp
@[simp] theorem cntAdd_dict2 (m : Mach) (n src k : Nat) : (cntAdd m n src k).dict2 = m.dict2 := by unfold cntAdd Mach.evIf; split <;> simp only [] <;> (repeat' split) <;> simp
@[simp] theorem cntAdd_freeN (m : Mach) (n src k : Nat) : (cntAdd m n src k).freeN = m.freeN := by unfold cntAdd Mach.evIf; split <;> simp only [] <;> (repeat' split) <;> simp
@[simp] theorem cntAdd_mc (m : Mach) (n src k : Nat) : (cntAdd m n src k).mc = m.mc := by unfold cntAdd Mach.evIf; split <;> simp only [] <;> (repeat' split) <;> simp
@[simp] theorem cntAdd_vlt (m : Mach) (n src k : Nat) : (cntAdd m n src k).vlt = m.vlt := by unfold cntAdd Mach.evIf; split <;> simp only [] <;> (repeat' split) <;> simp
@[simp] theorem cntAdd_hl (m : Mach) (n src k : Nat) : (cntAdd m n src k).hl = m.hl := by unfold cntAdd Mach.evIf; split <;> simp only [] <;> (repeat' split) <;> simp
@[simp] theorem cntAdd_ch (m : Mach) (n src k : Nat) : (cntAdd m n src k).ch = m.ch := by unfold cntAdd Mach.evIf; split <;> simp only [] <;> (repeat' split) <;> simp
@[simp] theorem cntAdd_th (m : Mach) (n src k : Nat) : (cntAdd m n src k).th = m.th := by unfold cntAdd Mach.evIf; split <;> simp only [] <;> (repeat' split) <;> simp
@[simp] theorem cntAdd_lanes (m : Mach) (n src k : Nat) : (cntAdd m n src k).lanes = m.lanes := by unfold cntAdd Mach.evIf; split <;> simp only [] <;> (repeat' split) <;> simp
@[simp] theorem cntAdd_scan (m : Mach) (n src k : Nat) : (cntAdd m n src k).scan = m.scan := by unfold cntAdd Mach.evIf; split <;> simp only [] <;> (repeat' split) <;> simp
@[simp] theorem cntAdd_dr (m : Mach) (n src k : Nat) : (cntAdd m n src k).dr = m.dr := by unfold cntAdd Mach.evIf; split <;> simp only [] <;> (repeat' split) <;> simp
@[simp] theorem cntAdd_cal (m : Mach) (n src k : Nat) : (cntAdd m n src k).cal = m.cal := by unfold cntAdd Mach.evIf; split <;> simp only [] <;> (repeat' split) <;> simp
@[simp] theorem cntAdd_sec (m : Mach) (n src k : Nat) : (cntAdd m n src k).sec = m.sec := by unfold cntAdd Mach.evIf; split <;> simp only [] <;> (repeat' split) <;> simp
@[simp] theorem cntAdd_fab (m : Mach) (n src k : Nat) : (cntAdd m n src k).fab = m.fab := by unfold cntAdd Mach.evIf; split <;> simp only [] <;> (repeat' split) <;> simp
@[simp] theorem cntAdd_tim (m : Mach) (n src k : Nat) : (cntAdd m n src k).tim = m.tim := by unfold cntAdd Mach.evIf; split <;> simp only [] <;> (repeat' split) <;> simp
@[simp] theorem cntAdd_flow (m : Mach) (n src k : Nat) : (cntAdd m n src k).flow = m.flow := by unfold cntAdd Mach.evIf; split <;> simp only [] <;> (repeat' split) <;> simp
@[simp] theorem cntAdd_hel (m : Mach) (n src k : Nat) : (cntAdd m n src k).hel = m.hel := by unfold cntAdd Mach.evIf; split <;> simp only [] <;> (repeat' split) <;> simp
@[simp] theorem cntAdd_gal (m : Mach) (n src k : Nat) : (cntAdd m n src k).gal = m.gal := by unfold cntAdd Mach.evIf; split <;> simp only [] <;> (repeat' split) <;> simp
@[simp] theorem cntAdd_lant (m : Mach) (n src k : Nat) : (cntAdd m n src k).lant = m.lant := by unfold cntAdd Mach.evIf; split <;> simp only [] <;> (repeat' split) <;> simp
@[simp] theorem cntAdd_host (m : Mach) (n src k : Nat) : (cntAdd m n src k).host = m.host := by unfold cntAdd Mach.evIf; split <;> simp only [] <;> (repeat' split) <;> simp
@[simp] theorem cntAdd_dic (m : Mach) (n src k : Nat) : (cntAdd m n src k).dic = m.dic := by unfold cntAdd Mach.evIf; split <;> simp only [] <;> (repeat' split) <;> simp
@[simp] theorem cntAdd_dma (m : Mach) (n src k : Nat) : (cntAdd m n src k).dma = m.dma := by unfold cntAdd Mach.evIf; split <;> simp only [] <;> (repeat' split) <;> simp
@[simp] theorem cntAdd_side (m : Mach) (n src k : Nat) : (cntAdd m n src k).side = m.side := by unfold cntAdd Mach.evIf; split <;> simp only [] <;> (repeat' split) <;> simp
@[simp] theorem cntAdd_crc (m : Mach) (n src k : Nat) : (cntAdd m n src k).crc = m.crc := by unfold cntAdd Mach.evIf; split <;> simp only [] <;> (repeat' split) <;> simp

/-- A quantity each pass of a loop keeps is kept by the loop. -/
theorem each_keep {α β : Type} (l : List α) (f : Mach → α → Mach) (m : Mach) (q : Mach → β) (h : ∀ m a, q (f m a) = q m) :
    q (m.each l f) = q m := by
  unfold Mach.each
  induction l generalizing m with
  | nil => rfl
  | cons a l ih => rw [List.foldl_cons, ih, h]

/-! healthCount -/

@[simp] theorem healthCount_held1 (m : Mach) (src k : Nat) : (healthCount m src k).held1 = m.held1 := each_keep _ _ m (fun x => x.held1) (by simp)
@[simp] theorem healthCount_held2 (m : Mach) (src k : Nat) : (healthCount m src k).held2 = m.held2 := each_keep _ _ m (fun x => x.held2) (by simp)
@[simp] theorem healthCount_latch (m : Mach) (src k : Nat) : (healthCount m src k).latch = m.latch := each_keep _ _ m (fun x => x.latch) (by simp)
@[simp] theorem healthCount_dict (m : Mach) (src k : Nat) : (healthCount m src k).dict = m.dict := each_keep _ _ m (fun x => x.dict) (by simp)
@[simp] theorem healthCount_dict1 (m : Mach) (src k : Nat) : (healthCount m src k).dict1 = m.dict1 := each_keep _ _ m (fun x => x.dict1) (by simp)
@[simp] theorem healthCount_dict2 (m : Mach) (src k : Nat) : (healthCount m src k).dict2 = m.dict2 := each_keep _ _ m (fun x => x.dict2) (by simp)
@[simp] theorem healthCount_freeN (m : Mach) (src k : Nat) : (healthCount m src k).freeN = m.freeN := each_keep _ _ m (fun x => x.freeN) (by simp)
@[simp] theorem healthCount_mc (m : Mach) (src k : Nat) : (healthCount m src k).mc = m.mc := each_keep _ _ m (fun x => x.mc) (by simp)
@[simp] theorem healthCount_vlt (m : Mach) (src k : Nat) : (healthCount m src k).vlt = m.vlt := each_keep _ _ m (fun x => x.vlt) (by simp)
@[simp] theorem healthCount_hl (m : Mach) (src k : Nat) : (healthCount m src k).hl = m.hl := each_keep _ _ m (fun x => x.hl) (by simp)
@[simp] theorem healthCount_ch (m : Mach) (src k : Nat) : (healthCount m src k).ch = m.ch := each_keep _ _ m (fun x => x.ch) (by simp)
@[simp] theorem healthCount_th (m : Mach) (src k : Nat) : (healthCount m src k).th = m.th := each_keep _ _ m (fun x => x.th) (by simp)
@[simp] theorem healthCount_lanes (m : Mach) (src k : Nat) : (healthCount m src k).lanes = m.lanes := each_keep _ _ m (fun x => x.lanes) (by simp)
@[simp] theorem healthCount_scan (m : Mach) (src k : Nat) : (healthCount m src k).scan = m.scan := each_keep _ _ m (fun x => x.scan) (by simp)
@[simp] theorem healthCount_dr (m : Mach) (src k : Nat) : (healthCount m src k).dr = m.dr := each_keep _ _ m (fun x => x.dr) (by simp)
@[simp] theorem healthCount_cal (m : Mach) (src k : Nat) : (healthCount m src k).cal = m.cal := each_keep _ _ m (fun x => x.cal) (by simp)
@[simp] theorem healthCount_sec (m : Mach) (src k : Nat) : (healthCount m src k).sec = m.sec := each_keep _ _ m (fun x => x.sec) (by simp)
@[simp] theorem healthCount_fab (m : Mach) (src k : Nat) : (healthCount m src k).fab = m.fab := each_keep _ _ m (fun x => x.fab) (by simp)
@[simp] theorem healthCount_tim (m : Mach) (src k : Nat) : (healthCount m src k).tim = m.tim := each_keep _ _ m (fun x => x.tim) (by simp)
@[simp] theorem healthCount_flow (m : Mach) (src k : Nat) : (healthCount m src k).flow = m.flow := each_keep _ _ m (fun x => x.flow) (by simp)
@[simp] theorem healthCount_hel (m : Mach) (src k : Nat) : (healthCount m src k).hel = m.hel := each_keep _ _ m (fun x => x.hel) (by simp)
@[simp] theorem healthCount_gal (m : Mach) (src k : Nat) : (healthCount m src k).gal = m.gal := each_keep _ _ m (fun x => x.gal) (by simp)
@[simp] theorem healthCount_lant (m : Mach) (src k : Nat) : (healthCount m src k).lant = m.lant := each_keep _ _ m (fun x => x.lant) (by simp)
@[simp] theorem healthCount_host (m : Mach) (src k : Nat) : (healthCount m src k).host = m.host := each_keep _ _ m (fun x => x.host) (by simp)
@[simp] theorem healthCount_dic (m : Mach) (src k : Nat) : (healthCount m src k).dic = m.dic := each_keep _ _ m (fun x => x.dic) (by simp)
@[simp] theorem healthCount_dma (m : Mach) (src k : Nat) : (healthCount m src k).dma = m.dma := each_keep _ _ m (fun x => x.dma) (by simp)
@[simp] theorem healthCount_side (m : Mach) (src k : Nat) : (healthCount m src k).side = m.side := each_keep _ _ m (fun x => x.side) (by simp)
@[simp] theorem healthCount_crc (m : Mach) (src k : Nat) : (healthCount m src k).crc = m.crc := each_keep _ _ m (fun x => x.crc) (by simp)

/-! hev -/

@[simp] theorem hev_held1 (m : Mach) (src k : Nat) : (hev m src k).held1 = m.held1 := by unfold hev; split <;> simp
@[simp] theorem hev_held2 (m : Mach) (src k : Nat) : (hev m src k).held2 = m.held2 := by unfold hev; split <;> simp
@[simp] theorem hev_latch (m : Mach) (src k : Nat) : (hev m src k).latch = m.latch := by unfold hev; split <;> simp
@[simp] theorem hev_dict (m : Mach) (src k : Nat) : (hev m src k).dict = m.dict := by unfold hev; split <;> simp
@[simp] theorem hev_dict1 (m : Mach) (src k : Nat) : (hev m src k).dict1 = m.dict1 := by unfold hev; split <;> simp
@[simp] theorem hev_dict2 (m : Mach) (src k : Nat) : (hev m src k).dict2 = m.dict2 := by unfold hev; split <;> simp
@[simp] theorem hev_freeN (m : Mach) (src k : Nat) : (hev m src k).freeN = m.freeN := by unfold hev; split <;> simp
@[simp] theorem hev_mc (m : Mach) (src k : Nat) : (hev m src k).mc = m.mc := by unfold hev; split <;> simp
@[simp] theorem hev_vlt (m : Mach) (src k : Nat) : (hev m src k).vlt = m.vlt := by unfold hev; split <;> simp
@[simp] theorem hev_ch (m : Mach) (src k : Nat) : (hev m src k).ch = m.ch := by unfold hev; split <;> simp
@[simp] theorem hev_th (m : Mach) (src k : Nat) : (hev m src k).th = m.th := by unfold hev; split <;> simp
@[simp] theorem hev_lanes (m : Mach) (src k : Nat) : (hev m src k).lanes = m.lanes := by unfold hev; split <;> simp
@[simp] theorem hev_scan (m : Mach) (src k : Nat) : (hev m src k).scan = m.scan := by unfold hev; split <;> simp
@[simp] theorem hev_dr (m : Mach) (src k : Nat) : (hev m src k).dr = m.dr := by unfold hev; split <;> simp
@[simp] theorem hev_cal (m : Mach) (src k : Nat) : (hev m src k).cal = m.cal := by unfold hev; split <;> simp
@[simp] theorem hev_sec (m : Mach) (src k : Nat) : (hev m src k).sec = m.sec := by unfold hev; split <;> simp
@[simp] theorem hev_fab (m : Mach) (src k : Nat) : (hev m src k).fab = m.fab := by unfold hev; split <;> simp
@[simp] theorem hev_tim (m : Mach) (src k : Nat) : (hev m src k).tim = m.tim := by unfold hev; split <;> simp
@[simp] theorem hev_flow (m : Mach) (src k : Nat) : (hev m src k).flow = m.flow := by unfold hev; split <;> simp
@[simp] theorem hev_hel (m : Mach) (src k : Nat) : (hev m src k).hel = m.hel := by unfold hev; split <;> simp
@[simp] theorem hev_gal (m : Mach) (src k : Nat) : (hev m src k).gal = m.gal := by unfold hev; split <;> simp
@[simp] theorem hev_lant (m : Mach) (src k : Nat) : (hev m src k).lant = m.lant := by unfold hev; split <;> simp
@[simp] theorem hev_host (m : Mach) (src k : Nat) : (hev m src k).host = m.host := by unfold hev; split <;> simp
@[simp] theorem hev_dic (m : Mach) (src k : Nat) : (hev m src k).dic = m.dic := by unfold hev; split <;> simp
@[simp] theorem hev_dma (m : Mach) (src k : Nat) : (hev m src k).dma = m.dma := by unfold hev; split <;> simp
@[simp] theorem hev_side (m : Mach) (src k : Nat) : (hev m src k).side = m.side := by unfold hev; split <;> simp
@[simp] theorem hev_crc (m : Mach) (src k : Nat) : (hev m src k).crc = m.crc := by unfold hev; split <;> simp

/-! settle -/

@[simp] theorem settle_regs (d : Mem) (m : Mach) : (settle d m).regs = m.regs := by unfold settle; split <;> rfl
@[simp] theorem settle_held1 (d : Mem) (m : Mach) : (settle d m).held1 = m.held1 := by unfold settle; split <;> rfl
@[simp] theorem settle_held2 (d : Mem) (m : Mach) : (settle d m).held2 = m.held2 := by unfold settle; split <;> rfl
@[simp] theorem settle_latch (d : Mem) (m : Mach) : (settle d m).latch = m.latch := by unfold settle; split <;> rfl
@[simp] theorem settle_dict (d : Mem) (m : Mach) : (settle d m).dict = m.dict := by unfold settle; split <;> rfl
@[simp] theorem settle_dict1 (d : Mem) (m : Mach) : (settle d m).dict1 = m.dict1 := by unfold settle; split <;> rfl
@[simp] theorem settle_dict2 (d : Mem) (m : Mach) : (settle d m).dict2 = m.dict2 := by unfold settle; split <;> rfl
@[simp] theorem settle_out (d : Mem) (m : Mach) : (settle d m).out = m.out := by unfold settle; split <;> rfl
@[simp] theorem settle_freeN (d : Mem) (m : Mach) : (settle d m).freeN = m.freeN := by unfold settle; split <;> rfl
@[simp] theorem settle_msix (d : Mem) (m : Mach) : (settle d m).msix = m.msix := by unfold settle; split <;> rfl
@[simp] theorem settle_mc (d : Mem) (m : Mach) : (settle d m).mc = m.mc := by unfold settle; split <;> rfl
@[simp] theorem settle_hl (d : Mem) (m : Mach) : (settle d m).hl = m.hl := by unfold settle; split <;> rfl
@[simp] theorem settle_ch (d : Mem) (m : Mach) : (settle d m).ch = m.ch := by unfold settle; split <;> rfl
@[simp] theorem settle_th (d : Mem) (m : Mach) : (settle d m).th = m.th := by unfold settle; split <;> rfl
@[simp] theorem settle_lanes (d : Mem) (m : Mach) : (settle d m).lanes = m.lanes := by unfold settle; split <;> rfl
@[simp] theorem settle_scan (d : Mem) (m : Mach) : (settle d m).scan = m.scan := by unfold settle; split <;> rfl
@[simp] theorem settle_dr (d : Mem) (m : Mach) : (settle d m).dr = m.dr := by unfold settle; split <;> rfl
@[simp] theorem settle_cal (d : Mem) (m : Mach) : (settle d m).cal = m.cal := by unfold settle; split <;> rfl
@[simp] theorem settle_sec (d : Mem) (m : Mach) : (settle d m).sec = m.sec := by unfold settle; split <;> rfl
@[simp] theorem settle_fab (d : Mem) (m : Mach) : (settle d m).fab = m.fab := by unfold settle; split <;> rfl
@[simp] theorem settle_tim (d : Mem) (m : Mach) : (settle d m).tim = m.tim := by unfold settle; split <;> rfl
@[simp] theorem settle_flow (d : Mem) (m : Mach) : (settle d m).flow = m.flow := by unfold settle; split <;> rfl
@[simp] theorem settle_hel (d : Mem) (m : Mach) : (settle d m).hel = m.hel := by unfold settle; split <;> rfl
@[simp] theorem settle_gal (d : Mem) (m : Mach) : (settle d m).gal = m.gal := by unfold settle; split <;> rfl
@[simp] theorem settle_lant (d : Mem) (m : Mach) : (settle d m).lant = m.lant := by unfold settle; split <;> rfl
@[simp] theorem settle_host (d : Mem) (m : Mach) : (settle d m).host = m.host := by unfold settle; split <;> rfl
@[simp] theorem settle_dic (d : Mem) (m : Mach) : (settle d m).dic = m.dic := by unfold settle; split <;> rfl
@[simp] theorem settle_dma (d : Mem) (m : Mach) : (settle d m).dma = m.dma := by unfold settle; split <;> rfl
@[simp] theorem settle_side (d : Mem) (m : Mach) : (settle d m).side = m.side := by unfold settle; split <;> rfl
@[simp] theorem settle_crc (d : Mem) (m : Mach) : (settle d m).crc = m.crc := by unfold settle; split <;> rfl

/-! deferNote -/

@[simp] theorem deferNote_held1 (m : Mach) : (deferNote m).held1 = m.held1 := by unfold deferNote; split <;> simp
@[simp] theorem deferNote_held2 (m : Mach) : (deferNote m).held2 = m.held2 := by unfold deferNote; split <;> simp
@[simp] theorem deferNote_latch (m : Mach) : (deferNote m).latch = m.latch := by unfold deferNote; split <;> simp
@[simp] theorem deferNote_dict (m : Mach) : (deferNote m).dict = m.dict := by unfold deferNote; split <;> simp
@[simp] theorem deferNote_dict1 (m : Mach) : (deferNote m).dict1 = m.dict1 := by unfold deferNote; split <;> simp
@[simp] theorem deferNote_dict2 (m : Mach) : (deferNote m).dict2 = m.dict2 := by unfold deferNote; split <;> simp
@[simp] theorem deferNote_freeN (m : Mach) : (deferNote m).freeN = m.freeN := by unfold deferNote; split <;> simp
@[simp] theorem deferNote_mc (m : Mach) : (deferNote m).mc = m.mc := by unfold deferNote; split <;> simp
@[simp] theorem deferNote_vlt (m : Mach) : (deferNote m).vlt = m.vlt := by unfold deferNote; split <;> simp
@[simp] theorem deferNote_ch (m : Mach) : (deferNote m).ch = m.ch := by unfold deferNote; split <;> simp
@[simp] theorem deferNote_th (m : Mach) : (deferNote m).th = m.th := by unfold deferNote; split <;> simp
@[simp] theorem deferNote_lanes (m : Mach) : (deferNote m).lanes = m.lanes := by unfold deferNote; split <;> simp
@[simp] theorem deferNote_scan (m : Mach) : (deferNote m).scan = m.scan := by unfold deferNote; split <;> simp
@[simp] theorem deferNote_dr (m : Mach) : (deferNote m).dr = m.dr := by unfold deferNote; split <;> simp
@[simp] theorem deferNote_cal (m : Mach) : (deferNote m).cal = m.cal := by unfold deferNote; split <;> simp
@[simp] theorem deferNote_sec (m : Mach) : (deferNote m).sec = m.sec := by unfold deferNote; split <;> simp
@[simp] theorem deferNote_fab (m : Mach) : (deferNote m).fab = m.fab := by unfold deferNote; split <;> simp
@[simp] theorem deferNote_tim (m : Mach) : (deferNote m).tim = m.tim := by unfold deferNote; split <;> simp
@[simp] theorem deferNote_flow (m : Mach) : (deferNote m).flow = m.flow := by unfold deferNote; split <;> simp
@[simp] theorem deferNote_hel (m : Mach) : (deferNote m).hel = m.hel := by unfold deferNote; split <;> simp
@[simp] theorem deferNote_gal (m : Mach) : (deferNote m).gal = m.gal := by unfold deferNote; split <;> simp
@[simp] theorem deferNote_lant (m : Mach) : (deferNote m).lant = m.lant := by unfold deferNote; split <;> simp
@[simp] theorem deferNote_host (m : Mach) : (deferNote m).host = m.host := by unfold deferNote; split <;> simp
@[simp] theorem deferNote_dic (m : Mach) : (deferNote m).dic = m.dic := by unfold deferNote; split <;> simp
@[simp] theorem deferNote_dma (m : Mach) : (deferNote m).dma = m.dma := by unfold deferNote; split <;> simp
@[simp] theorem deferNote_side (m : Mach) : (deferNote m).side = m.side := by unfold deferNote; split <;> simp
@[simp] theorem deferNote_crc (m : Mach) : (deferNote m).crc = m.crc := by unfold deferNote; split <;> simp

end Sys2Proof.Machine
end

