-- ==== Sys2Proof/Laws/Regs.lean ====
section
/-!
SUPPORT. Registers and dictionary values: what a read gives after each named operation.
-/
namespace Sys2Proof.Machine

/-! ## Register fields -/

@[simp] theorem Mach.rd_wr_same (m : Mach) (r : Row) (v i j : Nat) : (m.wr r v i j).rd r i j = v % 2 ^ r.width := by
  simp [Mach.rd, Mach.wr]

theorem Mach.rd_wr_ne (m : Mach) (r q : Row) (v i j i' j' : Nat) (h : r.key i j ≠ q.key i' j') :
    (m.wr r v i j).rd q i' j' = m.rd q i' j' := by
  simp only [Mach.rd, Mach.wr]
  exact SMap.get_put_ne _ _ _ _ h

theorem Mach.rd_of_regs {a b : Mach} (h : a.regs = b.regs) (r : Row) (i j : Nat) : a.rd r i j = b.rd r i j := by
  simp only [Mach.rd, h]

@[simp] theorem Mach.rd_dset (m : Mach) (d : DKey) (v : Nat) (r : Row) (i j : Nat) : (m.dset d v).rd r i j = m.rd r i j := rfl
@[simp] theorem Mach.rd_dsetB (m : Mach) (d : DKey) (v : List Byte) (r : Row) (i j : Nat) : (m.dsetB d v).rd r i j = m.rd r i j := rfl
@[simp] theorem Mach.rd_dadd (m : Mach) (d : DKey) (v : Nat) (r : Row) (i j : Nat) : (m.dadd d v).rd r i j = m.rd r i j := rfl
@[simp] theorem Mach.rd_emit (m : Mach) (o : Out) (r : Row) (i j : Nat) : (m.emit o).rd r i j = m.rd r i j := rfl
@[simp] theorem Mach.rd_emits (m : Mach) (o : List Out) (r : Row) (i j : Nat) : (m.emits o).rd r i j = m.rd r i j := rfl
@[simp] theorem Mach.rd_draw (m : Mach) (n : Nat) (r : Row) (i j : Nat) : (m.draw n).2.rd r i j = m.rd r i j := rfl
@[simp] theorem Mach.rd_drawBytes (m : Mach) (n : Nat) (r : Row) (i j : Nat) : (m.drawBytes n).2.rd r i j = m.rd r i j := rfl
@[simp] theorem Mach.rd_fresh (m : Mach) (r : Row) (i j : Nat) : m.fresh.rd r i j = m.rd r i j := rfl
@[simp] theorem Mach.rd_settle (d : Mem) (m : Mach) (r : Row) (i j : Nat) : (settle d m).rd r i j = m.rd r i j :=
  Mach.rd_of_regs (settle_regs d m) r i j
@[simp] theorem Mach.rd_hold (m : Mach) (q : Row) (v k l : Nat) (r : Row) (i j : Nat) : (m.hold q v k l).rd r i j = m.rd r i j :=
  Mach.rd_of_regs (Mach.hold_regs m q v k l) r i j
@[simp] theorem Mach.rd_raise (m : Mach) (v : Nat) (r : Row) (i j : Nat) : (m.raise v).rd r i j = m.rd r i j :=
  Mach.rd_of_regs (Mach.raise_regs m v) r i j

/-- The width of a one-bit field. -/
theorem Row.width_one {r : Row} (h : r.hi = r.lo) : r.width = 1 := by simp [Row.width, h]

theorem Mach.rd_ev_ne (m : Mach) (e : Ev) (k : Nat) (r : Row) (i j : Nat) (h : e.bit.key k 0 ≠ r.key i j) :
    (m.ev e k).rd r i j = m.rd r i j := by
  unfold Mach.ev
  split
  · rfl
  · dsimp only
    split
    · rw [Mach.rd_raise]; exact Mach.rd_wr_ne _ _ _ _ _ _ _ _ h
    · exact Mach.rd_wr_ne _ _ _ _ _ _ _ _ h

theorem Mach.rd_evIf_ne (m : Mach) (c : Bool) (e : Ev) (k : Nat) (r : Row) (i j : Nat) (h : e.bit.key k 0 ≠ r.key i j) :
    (m.evIf c e k).rd r i j = m.rd r i j := by
  unfold Mach.evIf
  split
  · exact Mach.rd_ev_ne m e k r i j h
  · rfl

/-- An event leaves its bit set. -/
theorem Mach.rd_ev_same (m : Mach) (e : Ev) (k : Nat) (h : e.bit.width = 1) : (m.ev e k).rd e.bit k = 1 := by
  unfold Mach.ev
  split
  · rename_i hf; simpa [Mach.flag] using hf
  · dsimp only
    split <;> simp [h]

/-- Registers of the health block: the counters and their events. -/
def healthKey (k : Nat) : Bool := keyIn 0x2A00000 0x2B00000 k

theorem healthKey_ev (e : Ev) (h : e = E.HLTH.OVF ∨ e = E.HLTH.THRESH) : healthKey (e.bit.key 0 0) = true := by
  rcases h with rfl | rfl <;> decide

theorem key_ne_of_health {a b : Nat} (ha : healthKey a = true) (hb : healthKey b = false) : a ≠ b := by
  intro h; subst h; simp [ha] at hb

theorem healthKey_value (n : Nat) (h : n < 64) : healthKey (R.HLTH.CNT_VALUE.COUNT.key n 0) = true := by
  rw [healthKey, keyIn, Bool.and_eq_true, decide_eq_true_eq, decide_eq_true_eq]
  simp only [Row.key, R.HLTH.CNT_VALUE.COUNT]
  omega

theorem healthKey_ovf (n : Nat) (h : n < 64) : healthKey (R.HLTH.CNT_CTRL.OVF.key n 0) = true := by
  rw [healthKey, keyIn, Bool.and_eq_true, decide_eq_true_eq, decide_eq_true_eq]
  simp only [Row.key, R.HLTH.CNT_CTRL.OVF]
  omega

theorem rd_cntAdd (m : Mach) (n src k : Nat) (hn : n < 64) (r : Row) (i j : Nat) (h : healthKey (r.key i j) = false) :
    (cntAdd m n src k).rd r i j = m.rd r i j := by
  have h1 := key_ne_of_health (healthKey_value n hn) h
  have h2 := key_ne_of_health (healthKey_ovf n hn) h
  have h3 := key_ne_of_health (healthKey_ev _ (Or.inl rfl)) h
  have h4 := key_ne_of_health (healthKey_ev _ (Or.inr rfl)) h
  unfold cntAdd
  split
  · dsimp only
    rw [Mach.rd_evIf_ne _ _ _ _ _ _ _ h4]
    split
    · rw [Mach.rd_ev_ne _ _ _ _ _ _ h3, Mach.rd_wr_ne _ _ _ _ _ _ _ _ h2, Mach.rd_wr_ne _ _ _ _ _ _ _ _ h1]
    · rw [Mach.rd_wr_ne _ _ _ _ _ _ _ _ h1]
  · rfl

theorem each_rd {α : Type} (l : List α) (f : Mach → α → Mach) (m : Mach) (r : Row) (i j : Nat)
    (h : ∀ m a, a ∈ l → (f m a).rd r i j = m.rd r i j) : (m.each l f).rd r i j = m.rd r i j := by
  unfold Mach.each
  induction l generalizing m with
  | nil => rfl
  | cons a l ih =>
    rw [List.foldl_cons, ih _ (fun m b hb => h m b (List.mem_cons_of_mem _ hb)), h _ _ List.mem_cons_self]

theorem rd_healthCount (m : Mach) (src k : Nat) (r : Row) (i j : Nat) (h : healthKey (r.key i j) = false) :
    (healthCount m src k).rd r i j = m.rd r i j :=
  each_rd _ _ m r i j (fun m n hn => rd_cntAdd m n src k (List.mem_range.mp hn) r i j h)

theorem rd_hev (m : Mach) (src k : Nat) (r : Row) (i j : Nat) (h : healthKey (r.key i j) = false) :
    (hev m src k).rd r i j = m.rd r i j := by
  unfold hev
  split
  · exact rd_healthCount m src k r i j h
  · rfl

/-! ## Dictionary values -/

theorem toLE_length (n v : Nat) : (toLE n v).length = n := by
  induction n generalizing v with
  | zero => rfl
  | succ n ih => simp [toLE, ih]

theorem fromLE_toLE (n v : Nat) : fromLE (toLE n v) = v % 2 ^ (8 * n) := by
  induction n generalizing v with
  | zero => simp [toLE, fromLE, Nat.mod_one]
  | succ n ih =>
    simp only [toLE, fromLE, ih, BitVec.toNat_ofNat]
    rw [show 8 * (n + 1) = 8 + 8 * n by omega, Nat.pow_add]
    have := Nat.mod_mul (x := v) (a := 2 ^ 8) (b := 2 ^ (8 * n))
    simp at this ⊢
    omega

@[simp] theorem Mach.dbytes_dset_same (m : Mach) (d : DKey) (v : Nat) : (m.dset d v).dbytes d = toLE d.sz v := by
  simp [Mach.dbytes, Mach.dset, SMap.look_ins_same]

@[simp] theorem Mach.dv_dset_same (m : Mach) (d : DKey) (v : Nat) : (m.dset d v).dv d = v % 2 ^ (8 * d.sz) := by
  simp [Mach.dv, fromLE_toLE]

theorem Mach.dbytes_dset_ne (m : Mach) (d e : DKey) (v : Nat) (h : d.key ≠ e.key) : (m.dset d v).dbytes e = m.dbytes e := by
  simp [Mach.dbytes, Mach.dset, SMap.look_ins_ne _ _ h]

theorem Mach.dv_dset_ne (m : Mach) (d e : DKey) (v : Nat) (h : d.key ≠ e.key) : (m.dset d v).dv e = m.dv e := by
  simp [Mach.dv, Mach.dbytes_dset_ne m d e v h]

theorem Mach.dv_of_dict {a b : Mach} (h : a.dict = b.dict) (d : DKey) : a.dv d = b.dv d := by
  simp only [Mach.dv, Mach.dbytes, h]

/-! ## Lane registers -/

theorem Row.key_ne_of_stride {r q : Row} (hs : r.s1 = q.s1) (h : r.off * 32 + r.lo ≠ q.off * 32 + q.lo) (i : Nat) :
    r.key i 0 ≠ q.key i 0 := by
  unfold Row.key
  rw [hs]
  intro e
  apply h
  rw [Nat.add_mul, Nat.add_mul, Nat.add_mul, Nat.add_mul] at e
  omega

theorem Mach.lrd_lwr_ne (m : Mach) (n : Nat) (r q : Row) (v : Nat) (hs : r.s1 = q.s1) (h : r.off * 32 + r.lo ≠ q.off * 32 + q.lo)
    (hr : 0x1800000 ≤ r.off) (hq : 0x1800000 ≤ q.off) : (m.lwr n r v).lrd n q = m.lrd n q := by
  refine Mach.rd_wr_ne _ _ _ _ _ _ _ _ (Row.key_ne_of_stride ?_ ?_ _)
  · unfold laneRow; split <;> exact hs
  · unfold laneRow; split
    · exact h
    · simp only; omega

end Sys2Proof.Machine
end

