-- ==== Sys2Proof/Laws/Effect.lean ====
section
/-!
SUPPORT. What the wrappers of Machine/Effect.lean do: everything a command's meaning can do to the whole state.
-/
namespace Sys2Proof.Machine

theorem onLantern_eq (s : State) (f : Mem → Mach → Effect) (h : (f s.mem s.m.fresh).clear = false) :
    onLantern s f = .next (s.afterW (f s.mem s.m.fresh).m (f s.mem s.m.fresh).wr) := by
  unfold onLantern State.afterW
  simp only [h]
  rfl

theorem onW_runs {s : State} (h : s.Runs) (f : Mem → Mach → Effect) : onW s f = onLantern s f := by
  unfold onW; rw [show s.m.mc.off = false from h]; rfl

theorem onW_idle {s : State} (h : s.m.mc.off = true) (f : Mem → Mach → Effect) : onW s f = .next { s with m := s.m.fresh } := by
  unfold onW; rw [h]; rfl

theorem onR_runs {s : State} (h : s.Runs) (f : Mem → Mach → Mach) : onR s f = .next (s.after (f s.mem s.m.fresh)) := by
  unfold onR; rw [onW_runs h]; rfl

theorem onM_runs {s : State} (h : s.Runs) (f : Mach → Mach) : onM s f = .next (s.after (f s.m.fresh)) := by
  unfold onM; rw [onW_runs h]; rfl

theorem onL_eq (s : State) (f : Mach → Mach) : onL s f = .next (s.after (f s.m.fresh)) := rfl

theorem onF_runs {s : State} (h : s.Runs) (f : Mem → Mach → Fuse → Fuse × Effect) :
    onF s f = .next { s with
      m := settle s.mem (f s.mem s.m.fresh s.fuse).2.m
      mem := applyWrites s.mem (f s.mem s.m.fresh s.fuse).2.wr
      fuse := (f s.mem s.m.fresh s.fuse).1 } := by
  unfold onF; rw [show s.m.mc.off = false from h]; rfl

theorem onF_idle {s : State} (h : s.m.mc.off = true) (f : Mem → Mach → Fuse → Fuse × Effect) :
    onF s f = .next { s with m := s.m.fresh } := by
  unfold onF; rw [h]; rfl

/-! ## Whatever the meaning: the parts of the state each wrapper can reach -/

theorem onLantern_cases (s : State) (f : Mem → Mach → Effect) :
    ∃ m d, onLantern s f = .next { s with m := m, mem := d } ∧ (Mem.wf s.mem = true → Mem.wf d = true) := by
  refine ⟨_, _, rfl, fun h => Mem.wf_writes _ _ ?_⟩
  split
  · rfl
  · exact h

theorem onW_cases (s : State) (f : Mem → Mach → Effect) :
    ∃ m d, onW s f = .next { s with m := m, mem := d } ∧ (Mem.wf s.mem = true → Mem.wf d = true) := by
  unfold onW
  split
  · exact ⟨_, s.mem, rfl, id⟩
  · exact onLantern_cases s f

theorem onR_cases (s : State) (f : Mem → Mach → Mach) : ∃ m, onR s f = .next { s with m := m } := by
  unfold onR onW
  split <;> exact ⟨_, rfl⟩

theorem onM_cases (s : State) (f : Mach → Mach) : ∃ m, onM s f = .next { s with m := m } := by
  unfold onM onW
  split <;> exact ⟨_, rfl⟩

theorem onL_cases (s : State) (f : Mach → Mach) : ∃ m, onL s f = .next { s with m := m } := ⟨_, rfl⟩

theorem onF_cases (s : State) (f : Mem → Mach → Fuse → Fuse × Effect) :
    ∃ m d, onF s f = .next { s with m := m, mem := d, fuse := if s.m.mc.off then s.fuse else (f s.mem s.m.fresh s.fuse).1 } ∧
      (Mem.wf s.mem = true → Mem.wf d = true) := by
  unfold onF
  split
  · exact ⟨s.m.fresh, s.mem, rfl, id⟩
  · exact ⟨_, _, rfl, fun h => Mem.wf_writes _ _ h⟩

end Sys2Proof.Machine
end

