-- ==== Sys2Proof/Laws/Frame.lean ====
section
/-!
SUPPORT. Frames: how a list of fields that may have changed grows with each named operation.
-/
namespace Sys2Proof.Machine

variable {a b : Mach} {l : List Nat}

theorem Mach.SameBut.refl (a : Mach) (l : List Nat) : a.SameBut a l := fun _ _ _ _ => rfl

theorem Mach.SameBut.of_regs {c : Mach} (h : a.SameBut b l) (e : c.regs = b.regs) : a.SameBut c l :=
  fun r i j hk => (Mach.rd_of_regs e r i j).trans (h r i j hk)

theorem Mach.SameBut.wr (h : a.SameBut b l) (r : Row) (v i j : Nat) (hr : r.key i j ∈ l) : a.SameBut (b.wr r v i j) l :=
  fun q i' j' hk => (Mach.rd_wr_ne _ _ _ _ _ _ _ _ (fun e => hk (e ▸ hr))).trans (h q i' j' hk)

theorem Mach.SameBut.add (h : a.SameBut b l) (r : Row) (n i j : Nat) (hr : r.key i j ∈ l) : a.SameBut (b.add r n i j) l :=
  h.wr r _ i j hr

theorem Mach.SameBut.addSat (h : a.SameBut b l) (r : Row) (n i j : Nat) (hr : r.key i j ∈ l) : a.SameBut (b.addSat r n i j) l :=
  h.wr r _ i j hr

theorem Mach.SameBut.ev (h : a.SameBut b l) (e : Ev) (k : Nat) (hr : e.bit.key k 0 ∈ l) : a.SameBut (b.ev e k) l :=
  fun q i' j' hk => (Mach.rd_ev_ne _ _ _ _ _ _ (fun e => hk (e ▸ hr))).trans (h q i' j' hk)

theorem Mach.SameBut.evIf (h : a.SameBut b l) (c : Bool) (e : Ev) (k : Nat) (hr : e.bit.key k 0 ∈ l) : a.SameBut (b.evIf c e k) l :=
  fun q i' j' hk => (Mach.rd_evIf_ne _ _ _ _ _ _ _ (fun e => hk (e ▸ hr))).trans (h q i' j' hk)

/-- An event of a block outside CD35 changes no register at once: it waits at its crossing (R739). -/
theorem hev_regs_out (m : Mach) (src k : Nat) (h : sourceInCD35 src = false) : (hev m src k).regs = m.regs := by
  unfold hev; rw [h]; rfl

theorem Mach.SameBut.hev (h : a.SameBut b l) (src k : Nat) (hs : sourceInCD35 src = false) : a.SameBut (hev b src k) l :=
  h.of_regs (hev_regs_out b src k hs)

/-- What every step of a loop keeps, the loop keeps. -/
theorem Mach.SameBut.each {α : Type} (h : a.SameBut b l) (xs : List α) (f : Mach → α → Mach)
    (hf : ∀ m x, x ∈ xs → a.SameBut m l → a.SameBut (f m x) l) : a.SameBut (b.each xs f) l := by
  unfold Mach.each
  induction xs generalizing b with
  | nil => exact h
  | cons x xs ih => exact ih (hf b x List.mem_cons_self h) (fun m y hy => hf m y (List.mem_cons_of_mem _ hy))

end Sys2Proof.Machine
end

