-- ==== Sys2Proof/Laws/Bits.lean ====
section
/-!
SUPPORT. Single bits, and the MSI-X table's words.
-/
namespace Sys2Proof.Machine

/-- A set bit reads 1. -/
theorem bit_setBit (x n : Nat) : bit (setBit x n) n = true := by
  unfold setBit
  split
  · assumption
  · rename_i h
    unfold bit at h ⊢
    rw [Nat.add_div_right _ (Nat.two_pow_pos n)]
    simp at h ⊢; omega

/-- Setting a set bit changes nothing. -/
theorem setBit_of_bit (x n : Nat) (h : bit x n = true) : setBit x n = x := by
  unfold setBit; rw [h]; rfl

/-- A cleared bit reads 0. -/
theorem bit_clrBit (x n : Nat) : bit (clrBit x n) n = false := by
  unfold clrBit
  split
  · rename_i h
    unfold bit at h ⊢
    have h2 : x / 2 ^ n % 2 = 1 := by simpa using h
    have e : (x - 2 ^ n) / 2 ^ n = x / 2 ^ n - 1 := by
      have := Nat.sub_mul_div x (2 ^ n) 1
      simpa using this
    rw [e]
    simp; omega
  · rename_i h
    simpa using h

/-- A word of the MSI-X table reads what was written. -/
theorem msixWord_set (m : Mach) (k v : Nat) : (m.msixSet k v).msixWord k = v := by
  unfold Mach.msixSet Mach.msixWord
  exact SMap.get_put_same _ _ _ _

/-- A write of one word of the MSI-X table leaves the others. -/
theorem msixWord_set_ne (m : Mach) (k v j : Nat) (h : k ≠ j) : (m.msixSet k v).msixWord j = m.msixWord j := by
  unfold Mach.msixSet Mach.msixWord
  exact SMap.get_put_ne _ _ _ _ h

end Sys2Proof.Machine
end

