-- ==== Sys2Proof/Laws/Bytes.lean ====
section
/-!
SUPPORT. What the operations on byte strings do.
-/
namespace Sys2Proof.Machine

@[simp] theorem length_slice (b : Bytes) (o n : Nat) : (slice b o n).length = n := by
  simp [slice] <;> omega

theorem slice_append_left (a b : Bytes) (o n : Nat) (h : o + n ≤ a.length) : slice (a ++ b) o n = slice a o n := by
  unfold slice
  rw [List.drop_append_of_le_length (by omega), List.take_append_of_le_length (by simp; omega)]

theorem slice_append_right (a b : Bytes) (o n : Nat) (h : a.length ≤ o) : slice (a ++ b) o n = slice b (o - a.length) n := by
  unfold slice
  rw [List.drop_append, List.drop_eq_nil_of_le h, List.nil_append]

theorem slice_self (a : Bytes) (n : Nat) (h : n = a.length) : slice a 0 n = a := by
  subst h; simp [slice]

theorem slice_prefix (a b : Bytes) (n : Nat) (h : n = a.length) : slice (a ++ b) 0 n = a := by
  rw [slice_append_left _ _ _ _ (by omega), slice_self _ _ h]

theorem slice_middle (a b c : Bytes) (o n : Nat) (h : o = a.length) (hn : n = b.length) : slice (a ++ b ++ c) o n = b := by
  rw [List.append_assoc, slice_append_right _ _ _ _ (by omega), show o - a.length = 0 by omega, slice_prefix _ _ _ hn]

theorem slice_suffix (a b : Bytes) (o n : Nat) (h : o = a.length) (hn : n = b.length) : slice (a ++ b) o n = b := by
  rw [slice_append_right _ _ _ _ (by omega), show o - a.length = 0 by omega, slice_self _ _ hn]

theorem fieldLE_append_left (a b : Bytes) (o n : Nat) (h : o + n ≤ a.length) : fieldLE (a ++ b) o n = fieldLE a o n := by
  unfold fieldLE; rw [slice_append_left _ _ _ _ h]

theorem slice_getElem (b : Bytes) (o n i : Nat) (h : i < (slice b o n).length) : (slice b o n)[i] = b.getD (o + i) 0 := by
  simp only [length_slice] at h
  simp only [slice, List.getElem_append]
  split
  · next h' =>
    simp only [List.length_take, List.length_drop] at h'
    simp [List.getD_eq_getElem?_getD, List.getElem?_eq_getElem (show o + i < b.length by omega)]
  · next h' =>
    simp only [List.length_take, List.length_drop] at h'
    simp [List.getD_eq_getElem?_getD, List.getElem?_eq_none (show b.length ≤ o + i by omega)]

theorem slice_slice (b : Bytes) (s k o n : Nat) (h : o + n ≤ k) : slice (slice b s k) o n = slice b (s + o) n := by
  apply List.ext_getElem (by simp)
  intro i h1 h2
  have hi : i < n := by simpa using h1
  rw [slice_getElem, slice_getElem, List.getD_eq_getElem?_getD, List.getElem?_eq_getElem (show o + i < (slice b s k).length by simp; omega),
    Option.getD_some, slice_getElem]
  congr 1; omega

theorem fieldLE_slice (b : Bytes) (s k o n : Nat) (h : o + n ≤ k) : fieldLE (slice b s k) o n = fieldLE b (s + o) n := by
  unfold fieldLE; rw [slice_slice _ _ _ _ _ h]

end Sys2Proof.Machine
end

