-- ==== Sys2Proof/Laws/Dict.lean ====
section
/-!
SUPPORT. How requests and packets reach the operation they name: IDP messages in and out of a session (R84-R90), packets of the fabric (R392).
-/
namespace Sys2Proof.Machine

theorem pktArrive_took (m : Mach) (n : Nat) (p : Packet) (hn : n < 4) (hu : linkUp m n = true)
    (hw : m.flag R.PASS.LINK_STATUS.MISWIRED n = false) (hs : p.lseq = (linkRec m n).rxSeq) (hm : forMe m p = true) (hc : p.mcast = false) :
    pktArrive m n true p = (true, m.took n p) := by
  have hm' : forMe (sendAck (linkMod m n (fun l => { l with rxSeq := (l.rxSeq + 1) % 256 })) n false [p.channel, p.units]) p = true := hm
  unfold pktArrive
  simp [Nat.not_le.mpr hn, hu, hw, hs, hm', hc, Mach.took]

theorem pktLocal_took (m : Mach) (n : Nat) (p : Packet) (hn : n < 4) (hu : linkUp m n = true) (hs : p.lseq = (linkRec m n).rxSeq) :
    pktLocal m n true p = (true, m.took n p) := by
  unfold pktLocal
  simp [Nat.not_le.mpr hn, hu, hs, Mach.took]

@[simp] theorem sessOf_idpCount (m : Mach) (d : DKey) (n : Nat) : sessOf (idpCount m d) n = sessOf m n := by
  simp [sessOf, idpCount]

theorem dbytes_idpCount (m : Mach) (c d : DKey) (h : c.key ≠ d.key) : (idpCount m c).dbytes d = m.dbytes d := by
  have e : (idpCount m c).dict = (m.dadd c 1).dict := by simp [idpCount]
  have : (idpCount m c).dbytes d = (m.dadd c 1).dbytes d := by simp only [Mach.dbytes, e]
  rw [this]
  exact Mach.dbytes_dset_ne _ _ _ _ h

theorem sessOf_num {m : Mach} {n : Nat} {s : Sess} (h : sessOf m n = some s) : s.num = n := by
  have := List.find?_some h
  simpa using this

/-- What the parts of a v2 message read as. -/
theorem IdpHead.parts {hdr pay : List Byte} {op : Nat} (h : IdpHead hdr pay op) (rest : List Byte) :
    (hdr ++ pay ++ rest).isEmpty = false ∧ fieldLE (hdr ++ pay ++ rest) 0 1 = 2 ∧ fieldLE (hdr ++ pay ++ rest) 1 1 = op ∧
    fieldLE (hdr ++ pay ++ rest) 2 2 = fieldLE hdr 2 2 ∧ fieldLE (hdr ++ pay ++ rest) 4 2 = fieldLE hdr 4 2 ∧
    fieldLE (hdr ++ pay ++ rest) 6 2 = fieldLE hdr 6 2 ∧ fieldLE (hdr ++ pay ++ rest) 8 1 = fieldLE hdr 8 1 ∧
    fieldLE (hdr ++ pay ++ rest) 10 2 = pay.length ∧ fieldLE (hdr ++ pay ++ rest) 12 2 = fieldLE hdr 12 2 ∧
    slice (hdr ++ pay ++ rest) 0 16 = hdr ∧ slice (hdr ++ pay ++ rest) 16 pay.length = pay ∧
    slice (hdr ++ pay ++ rest) (16 + pay.length) 16 = slice rest 0 16 := by
  obtain ⟨hl, hv, ho, hn, hz, hp⟩ := h
  refine ⟨?_, ?_, ?_, ?_, ?_, ?_, ?_, ?_, ?_, ?_, ?_, ?_⟩
  · cases hdr with
    | nil => simp at hl
    | cons => rfl
  all_goals first
    | (rw [List.append_assoc, fieldLE_append_left _ _ _ _ (by omega)]; done)
    | (rw [List.append_assoc, fieldLE_append_left _ _ _ _ (by omega)]; assumption)
    | (rw [List.append_assoc, slice_prefix _ _ _ hl.symm])
    | (rw [slice_middle _ _ _ _ _ hl.symm rfl])
    | (rw [slice_append_right _ _ _ _ (by simp; omega)]; congr 1; simp; omega)

/-- A v2 request in a session, from its session's client, with a SEQUENCE not used before (R89, R90). -/
theorem idp_session {f : Fuse} {m : Mach} {op v : Nat} {v6 : Bool} {a pt : Nat} {hdr pay : List Byte} {ss : Sess} {tk : Nat × Nat → Bool}
    (h : IdpHead hdr pay op) (hop : op = v ∧ 1 ≤ op ∧ op ≤ 7) (ht : tk (fieldLE hdr 6 2, fieldLE hdr 8 1) = true) (hr : idpRuns m v6 = true)
    (hs0 : sessOf m (fieldLE hdr 12 2) = some ss) (h0 : fieldLE hdr 12 2 ≠ 0)
    (hf : ss.take (fieldLE hdr 2 2) = .fresh) (hlast : fieldLE hdr 2 2 ≠ 0xFFFF) :
    dictCmd v tk (.idp v6 a pt (hdr ++ pay ++ slice (Config.hmac256 ss.key (splice hdr 9 [0] ++ pay)) 0 16)) f m =
      serveHere f (m.inSess (fieldLE hdr 12 2) (fieldLE hdr 2 2)) (idpReq v6 a pt hdr pay true) (some ss.key) := by
  have hnum := sessOf_num hs0
  have hs : sessOf (idpCount m D.idp_rx) (fieldLE hdr 12 2) = some ss := by simpa using hs0
  obtain ⟨rfl, h1, h7⟩ := hop
  obtain ⟨e0, e1, e2, e3, e4, e5, e6, e7, e8, e9, e10, e11⟩ := h.parts (slice (Config.hmac256 ss.key (splice hdr 9 [0] ++ pay)) 0 16)
  have hlen : (hdr ++ pay ++ slice (Config.hmac256 ss.key (splice hdr 9 [0] ++ pay)) 0 16).length = 16 + pay.length + 16 := by
    simp [h.len]; omega
  generalize hb : hdr ++ pay ++ slice (Config.hmac256 ss.key (splice hdr 9 [0] ++ pay)) 0 16 = b at *
  have hs16 : slice (slice (Config.hmac256 ss.key (splice hdr 9 [0] ++ pay)) 0 16) 0 16 = slice (Config.hmac256 ss.key (splice hdr 9 [0] ++ pay)) 0 16 :=
    slice_self _ _ (by simp)
  have hk : reqOp m op (.idp v6 a pt b) = op := by
    simp [reqOp, e0, e1, e2, h1, h7]
  have hen : reqEntry m (.idp v6 a pt b) = (fieldLE hdr 6 2, fieldLE hdr 8 1) := by simp [reqEntry, e5, e6]
  unfold dictCmd
  simp only [hk, hen, ht]
  rw [if_pos (by simp)]
  have hsz : ¬ 1024 < pay.length := by have := h.size.2; omega
  have e8' : ¬ fieldLE b 12 2 = 0 := by rw [e8]; exact h0
  have h8 : ¬ op = 8 := by omega
  have h00 : ¬ (op = 0 ∨ 7 < op) := by omega
  have hmid : slice b 16 (fieldLE b 10 2) = pay := by rw [e7]; exact e10
  simp only [dictRequest, idpArrive, hr, Bool.not_true, Bool.false_eq_true, if_false, e0, e1]
  unfold idpV2
  have hshort : ¬ b.length < 16 := by omega
  simp only [e7, e2, e4, e8, hlen, hsz, h8, h00, h.node.2, h0, hs, e9, if_false]
  have hc : ¬ (16 + pay.length + 16 < 16 ∨ False ∨ 16 + pay.length + 16 ≠ 16 + pay.length + 16 ∨ 0 ≠ 0 ∨ False) := by
    simp
  simp only [hc, if_false]
  unfold inSession
  simp only [e7, e9, e3, e10, e11, hs16, hf, hlast, ne_eq, not_true, if_false, hnum]
  simp [netRequest, h.node.1, idpReq, Mach.inSess, h.opcode]

/-- A v2 request outside a session (R85, R87, R89). -/
theorem idp_plain {f : Fuse} {m : Mach} {op v : Nat} {v6 : Bool} {a pt : Nat} {hdr pay : List Byte} {tk : Nat × Nat → Bool}
    (h : IdpHead hdr pay op) (hop : op = v ∧ 1 ≤ op ∧ op ≤ 7) (ht : tk (fieldLE hdr 6 2, fieldLE hdr 8 1) = true) (hr : idpRuns m v6 = true)
    (h0 : fieldLE hdr 12 2 = 0) :
    dictCmd v tk (.idp v6 a pt (hdr ++ pay)) f m =
      serveHere f (idpCount m D.idp_rx) (idpReq v6 a pt hdr pay false) none := by
  obtain ⟨rfl, h1, h7⟩ := hop
  obtain ⟨e0, e1, e2, e3, e4, e5, e6, e7, e8, e9, e10, e11⟩ := h.parts []
  rw [List.append_nil] at e0 e1 e2 e3 e4 e5 e6 e7 e8 e9 e10 e11
  have hlen : (hdr ++ pay).length = 16 + pay.length := by simp [h.len]
  generalize hb : hdr ++ pay = b at *
  have hk : reqOp m op (.idp v6 a pt b) = op := by simp [reqOp, e0, e1, e2, h1, h7]
  have hen : reqEntry m (.idp v6 a pt b) = (fieldLE hdr 6 2, fieldLE hdr 8 1) := by simp [reqEntry, e5, e6]
  unfold dictCmd
  simp only [hk, hen, ht]
  rw [if_pos (by simp)]
  have hsz : ¬ 1024 < pay.length := by have := h.size.2; omega
  have h8 : ¬ op = 8 := by omega
  have h00 : ¬ (op = 0 ∨ 7 < op) := by omega
  simp only [dictRequest, idpArrive, hr, Bool.not_true, Bool.false_eq_true, if_false, e0, e1]
  unfold idpV2
  simp only [e7, e2, e4, e8, hlen, hsz, h8, h00, h.node.2, h0, e9, e10, if_false]
  have hsm : ¬ 16 + pay.length < 16 := by omega
  simp [netRequest, h.node.1, idpReq, h.opcode, hsm]

end Sys2Proof.Machine
end

