-- ==== Sys2Proof/Laws/Firewall.lean ====
section
/-!
SUPPORT. The firewall: the accesses that pass.
-/
namespace Sys2Proof.Machine

/-- An access that may be made passes the firewall and changes nothing (R618-R620). -/
theorem firewall_of_may (m : Mach) (p : Principal) (master a n : Nat) (w : Bool) (h : mayAccess m p a n w = true) :
    firewall m p master a n w = (true, m) := by
  have : (pagesOf a n).find? (fun x => !regionGrants m p x w) = none := by
    rw [List.find?_eq_none]
    intro x hx
    have := List.all_eq_true.mp h x hx
    simp [this]
  unfold firewall
  rw [this]

end Sys2Proof.Machine
end

