-- ==== Sys2Proof/Laws/Fuse.lean ====
section
/-!
SUPPORT. Fuses only fill: one lemma for each operation that programs a fuse, in the order Fuse.le of Sys2Proof/Safety.lean.
-/
namespace Sys2Proof.Machine

/-- The order on fuses is reflexive. -/
theorem Fuse.le_refl (f : Fuse) : Fuse.le f f := ⟨rfl, fun _ => .inr rfl, fun _ h => h, id, id, Nat.le_refl _, Nat.le_refl _⟩

/-- A key slot kept twice is kept. -/
theorem slotKept_trans {a b c : Option (List Byte)} (h : slotKept a b) (k : slotKept b c) : slotKept a c := by
  rcases h with h | h
  · exact .inl h
  · subst h; exact k

/-- The order on fuses is transitive. -/
theorem Fuse.le_trans {f g h : Fuse} (a : Fuse.le f g) (b : Fuse.le g h) : Fuse.le f h :=
  ⟨b.dieId.trans a.dieId, fun k => slotKept_trans (a.slots k) (b.slots k), fun k x => b.revoked k (a.revoked k x), fun x => b.locked (a.locked x),
   fun x => b.closed (a.closed x), Nat.le_trans a.rollFw b.rollFw, Nat.le_trans a.rollBed b.rollBed⟩

/-- Programming what a committed step still owes takes nothing back (R615). -/
theorem blowMissing_le (m : Mach) (f : Fuse) (vdd : Bool) : Fuse.le f (blowMissing m f vdd).2 := by
  unfold blowMissing
  split
  · exact ⟨rfl, fun _ => .inr rfl, fun _ h => h, id, id, Nat.le_max_left _ _, Nat.le_max_left _ _⟩
  · exact Fuse.le_refl f

/-- Committing a roll record takes nothing back. -/
theorem rollCommitted_le (m : Mach) (f : Fuse) (k st : Nat) : Fuse.le f (rollCommitted m f k st).2 := by
  unfold rollCommitted
  exact blowMissing_le _ _ _

/-- A record's answer takes nothing back. -/
theorem commitAnswer_le (f : Fuse) (m : Mach) (r : VReq) (b : List Byte) : Fuse.le f (commitAnswer f m r b).1 := by
  unfold commitAnswer
  split <;> first | exact Fuse.le_refl f | exact rollCommitted_le _ _ _ _

/-- Committing the record at the front takes nothing back. -/
theorem recordCommit_le (f : Fuse) (m : Mach) : Fuse.le f (recordCommit f m).1 := by
  unfold recordCommit
  split
  · exact Fuse.le_refl f
  · exact commitAnswer_le _ _ _ _

/-- ROLLBACK_ADVANCE takes nothing back (R615). -/
theorem rollbackAdvance_le (m : Mach) (f : Fuse) (k : Nat) (vdd : Bool) : Fuse.le f (rollbackAdvance m f k vdd).1 := by
  unfold rollbackAdvance
  simp only
  split <;> exact blowMissing_le _ _ _

/-- TRIAL_COMMIT takes nothing back. -/
theorem trialCommit_le (m : Mach) (f : Fuse) (vdd : Bool) : Fuse.le f (trialCommit m f vdd).1 := by
  unfold trialCommit
  simp only
  split <;> exact blowMissing_le _ _ _

/-- ENROL_LOCK takes nothing back (R613). -/
theorem enrolLock_le (m : Mach) (f : Fuse) (vdd : Bool) : Fuse.le f (enrolLock m f vdd).1 := by
  unfold enrolLock
  simp only
  have h := blowMissing_le (secGo m 7) f vdd
  repeat (first | exact h | split)
  exact ⟨h.dieId, h.slots, h.revoked, fun _ => rfl, h.closed, h.rollFw, h.rollBed⟩

/-- Setting one bit clears none. -/
theorem testBit_setBit (x n k : Nat) (h : x.testBit k = true) : (setBit x n).testBit k = true := by
  unfold setBit
  split
  · exact h
  · rename_i hb
    have hq : x / 2 ^ n % 2 = 0 := by unfold bit at hb; simp at hb; omega
    obtain ⟨q, hq⟩ : ∃ q, x / 2 ^ n = 2 * q := ⟨x / 2 ^ n / 2, by omega⟩
    have hr : x % 2 ^ n < 2 ^ n := Nat.mod_lt _ (Nat.two_pow_pos n)
    have hx : x = 2 ^ n * (2 * q) + x % 2 ^ n := by rw [← hq]; exact (Nat.div_add_mod x (2 ^ n)).symm
    have hy : x + 2 ^ n = 2 ^ n * (2 * q + 1) + x % 2 ^ n := by rw [Nat.mul_add]; omega
    rw [hy, Nat.two_pow_add_eq_or_of_lt hr, Nat.testBit_or, Nat.testBit_two_pow_mul]
    rw [hx, Nat.two_pow_add_eq_or_of_lt hr, Nat.testBit_or, Nat.testBit_two_pow_mul] at h
    simp only [Bool.or_eq_true, Bool.and_eq_true, decide_eq_true_eq] at h ⊢
    rcases h with ⟨hk, h⟩ | h
    · left; refine ⟨hk, ?_⟩
      cases e : k - n with
      | zero => rw [e] at h; simp at h
      | succ j => rw [e] at h; simpa [Nat.testBit_succ, Nat.mul_add_div] using h
    · right; exact h

/-- KEY_REVOKE takes nothing back (R613). -/
theorem keyRevoke_le (m : Mach) (f : Fuse) (n : Nat) (vdd : Bool) : Fuse.le f (keyRevoke m f n vdd).1 := by
  unfold keyRevoke
  simp only
  have h := blowMissing_le (secGo m 6) f vdd
  repeat (first | exact h | split)
  exact ⟨h.dieId, h.slots, fun k x => testBit_setBit _ _ _ (h.revoked k x), h.locked, h.closed, h.rollFw, h.rollBed⟩

/-- KEY_ENROL fills a free slot and takes nothing back (R613). -/
theorem keyEnrol_le (d : Mem) (m : Mach) (f : Fuse) (a : Nat) (vdd : Bool) : Fuse.le f (keyEnrol d m f a vdd).1 := by
  unfold keyEnrol
  simp only
  have h := blowMissing_le (secGo m 5) f vdd
  split
  · exact h
  · rename_i i hi
    repeat (first | exact h | split)
    refine Fuse.le_trans h ⟨rfl, fun k => ?_, fun _ h => h, id, id, Nat.le_refl _, Nat.le_refl _⟩
    have hn := List.findIdx?_eq_some_iff_getElem.mp hi
    obtain ⟨hl, hp, _⟩ := hn
    show slotKept _ ((setAt _ i _).getD k none)
    by_cases e : i = k
    · subst e; left; rw [List.getD_eq_getElem?_getD, List.getElem?_eq_getElem hl]; simpa using hp
    · right; unfold setAt; rw [List.getD_eq_getElem?_getD, List.getElem?_set_ne e, ← List.getD_eq_getElem?_getD]

end Sys2Proof.Machine
end

