-- ==== Sys2Proof/Laws/Perf.lean ====
section
/-!
SUPPORT. Performance counters: what writing one and carrying out of one can do.
-/
set_option linter.unusedSimpArgs false

namespace Sys2Proof.Machine

/-- Marking an overflow leaves every count. -/
theorem perfValue_ovf (m : Mach) (v n : Nat) (h : n < 32) : perfValue (m.wr R.PERF.OVF.OVF v) n = perfValue m n := by
  unfold perfValue
  rw [Mach.rd_wr_ne, Mach.rd_wr_ne]
  · simp [Row.key, R.PERF.OVF.OVF, R.PERF.CNT_VALUE_LO.VALUE]; omega
  · simp [Row.key, R.PERF.OVF.OVF, R.PERF.CNT_VALUE_HI.VALUE] <;> omega

/-- Raising a vector leaves every count. -/
theorem perfValue_raise (m : Mach) (v n : Nat) : perfValue (m.raise v) n = perfValue m n := by
  have : (m.raise v).regs = m.regs := by unfold Mach.raise; split <;> rfl
  unfold perfValue; rw [Mach.rd_of_regs this, Mach.rd_of_regs this]

/-- A counter reads what was written, modulo 2^48. -/
theorem perfValue_set (m : Mach) (n v : Nat) : perfValue (perfSet m n v) n = v % 2 ^ 48 := by
  unfold perfValue perfSet
  rw [Mach.rd_wr_same, Mach.rd_wr_ne, Mach.rd_wr_same]
  · simp [Row.width, R.PERF.CNT_VALUE_LO.VALUE, R.PERF.CNT_VALUE_HI.VALUE] <;> omega
  · simp [Row.key, R.PERF.CNT_VALUE_LO.VALUE, R.PERF.CNT_VALUE_HI.VALUE] <;> omega

/-- Writing one counter leaves the others. -/
theorem perfValue_set_ne (m : Mach) (n k v : Nat) (h : n ≠ k) : perfValue (perfSet m n v) k = perfValue m k := by
  unfold perfValue perfSet
  rw [Mach.rd_wr_ne, Mach.rd_wr_ne, Mach.rd_wr_ne, Mach.rd_wr_ne] <;>
  (simp [Row.key, R.PERF.CNT_VALUE_LO.VALUE, R.PERF.CNT_VALUE_HI.VALUE]; try omega)

/-- Raising a vector leaves every flag. -/
theorem flag_raise (m : Mach) (v n : Nat) (r : Row) : (m.raise v).flag r n = m.flag r n := by
  have : (m.raise v).regs = m.regs := by unfold Mach.raise; split <;> rfl
  unfold Mach.flag; rw [Mach.rd_of_regs this]

/-- A carry out of counter n leaves the counters up to n. -/
theorem perfCarry_below (fuel : Nat) : ∀ (m : Mach) (n k : Nat), k ≤ n → n < 32 → perfValue (perfCarry m fuel n) k = perfValue m k := by
  induction fuel with
  | zero => intro m n k h _; rfl
  | succ f ih =>
    intro m n k h hn
    unfold perfCarry
    simp only
    have e : ∀ M : Mach, perfValue M k = perfValue m k → ∀ v, 
        perfValue (if n + 1 < 32 ∧ M.flag R.PERF.CNT_CTRL.CHAIN (n + 1) = true ∧ M.flag R.PERF.CNT_CTRL.ENABLE (n + 1) = true then
          (if 2 ^ 48 ≤ v then perfCarry (perfSet M (n + 1) v) f (n + 1) else perfSet M (n + 1) v) else M) k = perfValue m k := by
      intro M hM v
      split
      · split
        · rw [ih _ _ _ (by omega) (by omega), perfValue_set_ne _ _ _ _ (by omega), hM]
        · rw [perfValue_set_ne _ _ _ _ (by omega), hM]
      · exact hM
    apply e
    split
    · rw [perfValue_raise, perfValue_ovf _ _ _ (by omega)]
    · rw [perfValue_ovf _ _ _ (by omega)]

/-- Marking an overflow leaves every flag but its own. -/
theorem flag_ovf (m : Mach) (v n : Nat) (r : Row) (h : R.PERF.OVF.OVF.key 0 0 ≠ r.key n 0) : (m.wr R.PERF.OVF.OVF v).flag r n = m.flag r n := by
  unfold Mach.flag; rw [Mach.rd_wr_ne _ _ _ _ _ _ _ _ h]

end Sys2Proof.Machine
end

