-- ==== Sys2Proof/Laws/Step.lean ====
section
/-!
SUPPORT. What the shapes onM, onR, onL, onW and onF of a command can do: what they answer on a running block, that they leave
DRAM alone where they store nothing, and that they leave everything alone while CORE is off.
-/
namespace Sys2Proof.Machine

/-- A command that works on the block state alone leaves DRAM as it was. -/
theorem onM_mem {s t : State} (f : Mach → Mach) (h : onM s f = .next t) : t.mem = s.mem := by
  obtain ⟨m, e⟩ := onM_cases s f
  rw [e] at h; cases h; rfl

/-- A command that reads DRAM only leaves it as it was. -/
theorem onR_mem {s t : State} (f : Mem → Mach → Mach) (h : onR s f = .next t) : t.mem = s.mem := by
  obtain ⟨m, e⟩ := onR_cases s f
  rw [e] at h; cases h; rfl

/-- A command of the Lantern domain that works on the block state alone leaves DRAM as it was. -/
theorem onL_mem {s t : State} (f : Mach → Mach) (h : onL s f = .next t) : t.mem = s.mem := by
  obtain ⟨m, e⟩ := onL_cases s f
  rw [e] at h; cases h; rfl

/-- A command on block state and fuses that lists no store leaves DRAM as it was. -/
theorem onF_mem {s t : State} (f : Mem → Mach → Fuse → Fuse × Effect) (hw : ∀ d m u, (f d m u).2.wr = [])
    (h : onF s f = .next t) : t.mem = s.mem := by
  unfold onF at h
  split at h
  · cases h; rfl
  · cases h
    show applyWrites s.mem _ = _
    rw [hw]; rfl

/-- What a command on fuses answers where it stores nothing in DRAM. -/
theorem onF_eq {s : State} (h : s.Runs) {f : Mem → Mach → Fuse → Fuse × Effect} {F : Fuse} {M : Mach}
    (e : f s.mem s.m.fresh s.fuse = (F, ⟨M, [], false⟩)) : onF s f = .next { s.after M with fuse := F } := by
  rw [onF_runs h, e]; rfl

/-- What a command on fuses answers where it programs none. -/
theorem onF_same {s : State} (h : s.Runs) {f : Mem → Mach → Fuse → Fuse × Effect} {M : Mach}
    (e : f s.mem s.m.fresh s.fuse = (s.fuse, ⟨M, [], false⟩)) : onF s f = .next (s.after M) := by
  rw [onF_eq h e]; rfl

/-- An effect known in full gives the state after it. -/
theorem afterW_of {s : State} {E : Effect} {A : Mach} {W : List (Nat × List Byte)} {b : Bool} (e : E = ⟨A, W, b⟩) :
    (Host.Outcome.next (s.afterW E.m E.wr) : Host.Outcome State Fault Refusal) = .next (s.afterW A W) := by
  subst e; rfl

/-- While CORE is off a command of the shape onW leaves everything as it was. -/
theorem onW_off {s : State} (h : s.m.mc.off = true) (f : Mem → Mach → Effect) : onW s f = .next { s with m := s.m.fresh } := by
  unfold onW; simp [h]

/-- While CORE is off a command of the shape onF leaves everything as it was. -/
theorem onF_off {s : State} (h : s.m.mc.off = true) (f : Mem → Mach → Fuse → Fuse × Effect) :
    onF s f = .next { s with m := s.m.fresh } := by
  unfold onF; simp [h]

end Sys2Proof.Machine
end

