-- ==== Sys2Proof/WellFormed.lean ====
section
/-!
DEFINITION. When a command is one the hardware can be given: each operand fits the field, lane, link, channel or unit number that
carries it. exec is total and answers ill-formed commands as well; the checks a rule gives are in the meanings, not here.
-/
namespace Sys2Proof

open Sys2Proof.Machine

/-- A value that fits n bits. -/
def u (n x : Nat) : Bool := decide (x < 2 ^ n)

/-- A number below a count of places. -/
def lt (n x : Nat) : Bool := decide (x < n)

/-- A value that fits n bits in two's complement. -/
def sg (n : Nat) (x : Int) : Bool := decide (-(2 ^ (n - 1) : Int) ≤ x) && decide (x < (2 ^ (n - 1) : Int))

/-- A dictionary request: the port's operands, one of the 16 BAR2 slots (R81), or a datagram with its source. -/
def Machine.DReq.wf : DReq → Bool
  | .port _ ix sb off _ => u 16 ix && u 8 sb && u 32 off
  | .slot n _ => lt 16 n
  | .idp v6 a p _ => u (if v6 then 128 else 32) a && u 16 p

/-- A packet's header fields (R390). -/
def Machine.Packet.wf (p : Packet) : Bool :=
  lt 3 p.cls && u 5 p.kind && u 32 p.dest && u 32 p.src && u 8 p.lseq && u 8 p.hops && decide (p.data.length ≤ 4096)

/-- A row key (R144). -/
def Machine.RowKey.wf (k : RowKey) : Bool := u 32 k.src && u 16 k.slab && u 32 k.tile && u 8 k.row

/-- Every operand fits the field that brings it. -/
def Instr.wf : Instr → Bool
  | .tick => true
  | .commitDeadline => true
  | .commitLogicWrite _ off word => u 32 off && u 32 word
  | .registerWrite _ off word => u 32 off && u 32 word
  | .loRegisterRead _ off adv => u 32 off && u 64 adv
  | .readClearRegister _ off => u 32 off
  | .modeRequest _ mode entry => u 4 mode && u 5 entry
  | .modeTransitionComplete => true
  | .thermalAutoResume => true
  | .datapathFailure => true
  | .pfwNFall => true
  | .pfwNRise => true
  | .dictRead q => q.wf
  | .dictWrite q => q.wf
  | .readBlock q => q.wf
  | .writeBlock q => q.wf
  | .store q => q.wf
  | .restoreDefault q => q.wf
  | .subscribe q => q.wf
  | .idpV1Request q => q.wf
  | .sessionChallengeRead q => q.wf
  | .sessionOpen q => q.wf
  | .sessionClose q => q.wf
  | .sessionIdleTimeout num => u 16 num
  | .blockStageTimeout _ n => u 16 n
  | .subscriptionLeaseExpiry n => lt 64 n
  | .remoteRequestTimeout tag => u 16 tag
  | .msfHeader b => b.length == 64
  | .msfSlabEntry b => b.length == 192
  | .msfTileIndex b => b.length == 16
  | .msfTilePayload _ => true
  | .msfFrameTrailer _ => true
  | .lateFrameBytes path n => lt 2 path && u 32 n
  | .frameAdmissionCheck seq => u 32 seq
  | .stallTimeout path => lt 2 path
  | .queueFlush => true
  | .tileRowDemand k band req => k.wf && u 16 band && u 8 req
  | .rowCommit lane => lt 64 lane
  | .backgroundSegmentDone => true
  | .flowDrain _ => true
  | .flowDrained => true
  | .flowForceStop _ => true
  | .flowLaneError lane => lt 64 lane
  | .ctxSnapshot n => u 18 n
  | .bandAdvance => true
  | .bandWalkStart seq _ => u 32 seq
  | .bandWalkDone seq _ => u 32 seq
  | .bundleIssue e => lt 34 e
  | .bundleDone line n cuts => u 16 line && u 16 n && decide (cuts.length ≤ 64)
  | .governorLevelChange e slack => lt 34 e && u 32 slack
  | .engineError e => lt 34 e
  | .grottoEccError bank word _ _ => lt 68 bank && u 19 word
  | .helDrain _ => true
  | .helDrained => true
  | .helForceStop _ => true
  | .mapVerifyStart k base => lt 3 k && u 64 base
  | .mapVerifyDone k => lt 3 k
  | .galCommit tok => u 16 tok
  | .plCommit tok => u 16 tok
  | .depthLoadDone layer => lt 8 layer
  | .spanDemand late bad => late.all (fun k => lt 12 k) && bad.all (fun w => u 32 w)
  | .rasterBandEnd => true
  | .rasterFrameEnd => true
  | .echoLineCheck k y crc flags => lt 12 k && u 16 y && u 32 crc && u 8 flags
  | .tapCaptureStart => true
  | .tapCaptureDone _ => true
  | .tapDrain _ => true
  | .tapForceStop _ => true
  | .bcStatus lane _ locks shown ticks subst => lt 48 lane && u 4 locks && u 2 shown && u 16 ticks && u 16 subst
  | .bcLockLost lane _ lanes => lt 48 lane && u 4 lanes
  | .bcTapReq lane _ preOp postOp pst => lt 64 lane && u 8 preOp && u 8 postOp && u 8 pst
  | .bcEye lane _ width height => lt 64 lane && u 16 width && u 16 height
  | .bcLineCrc lane _ y ticks => lt 48 lane && u 16 y && u 32 ticks
  | .trainingSet lane kind gen pst _ => lt 64 lane && u 2 kind && u 8 gen && u 8 pst
  | .laneLost lane => lt 64 lane
  | .laneReverseSilence lane => lt 64 lane
  | .laneNoSignal lane => lt 64 lane
  | .laneEqTimeout lane => lt 64 lane
  | .laneTrained lane _ width height ctle => lt 64 lane && u 16 width && u 16 height && u 8 ctle
  | .laneGenChange lane => lt 64 lane
  | .retrain lane => lt 64 lane
  | .laneRestore lane => lt 64 lane
  | .laneLoop lane loop => lt 64 lane && u 2 loop
  | .hello n _ p => lt 4 n && p.wf
  | .helloSend => true
  | .helloTimeout n => lt 4 n
  | .elect n _ p => lt 4 n && p.wf
  | .electionSettled => true
  | .leaderContactLost => true
  | .coordReport n _ p => lt 4 n && p.wf
  | .coordOffset n _ p => lt 4 n && p.wf
  | .linkState n _ p => lt 4 n && p.wf
  | .linkStateMulticast => true
  | .dictReq n _ p => lt 4 n && p.wf
  | .dictReply n _ p => lt 4 n && p.wf
  | .notifyRelay n _ p => lt 4 n && p.wf
  | .sceneClaim n _ p => lt 4 n && p.wf
  | .sceneGrant n _ p => lt 4 n && p.wf
  | .sceneRelease n _ p => lt 4 n && p.wf
  | .sceneClaimRevoke => true
  | .sceneHead n _ p => lt 4 n && p.wf
  | .scenePayload n _ p => lt 4 n && p.wf
  | .sceneSuppl n _ p => lt 4 n && p.wf
  | .sceneEnd n _ p => lt 4 n && p.wf
  | .linkAck n _ next _ credits => lt 4 n && u 8 next && credits.length == 6
  | .linkResendTimeout n => lt 4 n
  | .packetLengthTimeout n => lt 4 n
  | .linkMask n _ mask => lt 4 n && u 4 mask
  | .timeUnit n _ seq hops stamp adv => lt 4 n && u 8 seq && u 8 hops && u 64 stamp && u 64 adv
  | .timeUnitSend adv => u 64 adv
  | .linkDelayMeasure n round residence => lt 4 n && u 64 round && u 64 residence
  | .fabricMerge => true
  | .ptpSync num sender seq rx origin cf adv => u 8 num && u 80 sender && u 16 seq && sg 96 rx && (match origin with | none => true | some t => sg 96 t) && sg 64 cf && u 64 adv
  | .ptpFollowUp num sender seq origin cf => u 8 num && u 80 sender && u 16 seq && sg 96 origin && sg 64 cf
  | .ptpDelayResp num sender seq t4 cf adv => u 8 num && u 80 sender && u 16 seq && sg 96 t4 && sg 64 cf && u 64 adv
  | .ptpAnnounce num _ utc => u 8 num && sg 16 utc
  | .ptpSignaling num tlv typ logInt dur => u 8 num && u 2 tlv && u 4 typ && sg 8 logInt && u 32 dur
  | .ptpDelayReq d tx adv => lt 3 d && sg 96 tx && u 64 adv
  | .ptpAnnounceTimeout d _ => lt 3 d
  | .timeUnlocked => true
  | .rtcSecondLoad => true
  | .triggerArm n ctrl lo hi period => lt 8 n && u 32 ctrl && u 32 lo && u 32 hi && u 32 period
  | .triggerFire => true
  | .dramRead master addr len err => u 8 master && u 64 addr && u 32 len && lt 3 err
  | .dramWrite master addr _ _ => u 8 master && u 64 addr
  | .dramRefresh ch bank => lt 8 ch && lt 16 bank
  | .refreshWindowEnd ch => lt 8 ch
  | .dramTempPoll ch rate _ => lt 8 ch && u 8 rate
  | .pageIdleClose ch bank => lt 8 ch && lt 16 bank
  | .dramTracking ch move ca rd wr vref => lt 8 ch && sg 16 move && u 16 ca && u 16 rd && u 16 wr && u 16 vref
  | .dramRetrain => true
  | .dramTrainingDone ch ca rd wr vref _ => lt 8 ch && u 16 ca && u 16 rd && u 16 wr && u 16 vref
  | .setpointRequest sp => u 8 sp
  | .selfRefreshEntry => true
  | .selfRefreshExit _ => true
  | .remapWalkDone => true
  | .sqDoorbell tail _ => u 32 tail
  | .cqHeadWrite head _ => u 32 head
  | .fragmentDone seq written dropped _ => u 32 seq && u 32 written && u 32 dropped
  | .hostReadFailed seq written dropped _ => u 32 seq && u 32 written && u 32 dropped
  | .ringDrain _ _ => true
  | .ringForceStop _ => true
  | .hostReset _ => true
  | .bar4Access off len _ => u 36 off && u 32 len
  | .msixUnmask v => lt 65 v
  | .dmaStart n _ => lt 16 n
  | .dmaDescriptorDone n _ _ => lt 16 n
  | .dmaRunDone n => lt 16 n
  | .dmaAbort n _ => lt 16 n
  | .dmaForceStop n _ => lt 16 n
  | .dmaDrain n _ _ => lt 16 n
  | .dmaAccessTimeout n a => lt 16 n && u 64 a
  | .blitGo _ => true
  | .blitJobDone => true
  | .engineAbort e => lt 2 e
  | .engineForceStop e => lt 2 e
  | .engineFlush e => lt 2 e
  | .engineDrain e _ => lt 2 e
  | .engineAccessTimeout e a => lt 2 e && u 64 a
  | .crcStart n _ => lt 4 n
  | .crcValueWrite n lo => lt 4 n && u 32 lo
  | .crcScanDone n => lt 4 n
  | .crcScanStop n upto => lt 4 n && u 64 upto
  | .deflateGo _ => true
  | .deflateJobDone _ => true
  | .chimneyRequest cls holder tok => lt 9 cls && u 16 holder && u 32 tok
  | .chimneyRelease cls holder => lt 9 cls && u 16 holder
  | .pausePointReached cls holder => lt 9 cls && u 16 holder
  | .grantInForce cls holder => lt 9 cls && u 16 holder
  | .sensorSample readings => readings.length == 48 && readings.all (fun t => sg 16 t)
  | .stepUp => true
  | .tempCompensation move => sg 16 move
  | .calRun mask => u 8 mask
  | .trackInterval => true
  | .calRunDone kind _ => lt 8 kind
  | .calPpsEdge cycles => u 32 cycles
  | .calPpsMissing => true
  | .vrefMeasure mv10 => u 16 mv10
  | .doseCommit => true
  | .doseReset => true
  | .vcpExport addr cap flags _ => u 64 addr && u 32 cap && u 32 flags
  | .vcpStore addr len => u 64 addr && u 32 len
  | .vcpRestore addr len source => u 64 addr && u 32 len && u 8 source
  | .calDrain _ => true
  | .calForceStop late => u 8 late
  | .imageInstall kind slot addr len => u 8 kind && lt 2 slot && u 64 addr && u 32 len
  | .switch kind slot => u 8 kind && lt 2 slot
  | .trialCommit _ => true
  | .trialPeriodEnd kind _ => u 8 kind
  | .rollbackAdvance kind _ => u 8 kind
  | .keyEnrol addr _ => u 64 addr
  | .keyRevoke slot _ => u 8 slot
  | .enrolLock _ => true
  | .regionSet n base pages rights => u 8 n && u 64 base && u 32 pages && u 32 rights
  | .release target key sig => u 8 target && u 8 key && sig.length == 96
  | .releaseChallengeRead => true
  | .pskWrite q => q.wf
  | .checkout data => decide (data.length ≤ 65536)
  | .wdogKick => true
  | .checkin => true
  | .quiesced => true
  | .watchdogExpiry => true
  | .checkinTimeout => true
  | .codeRegionCheck slot _ => lt 2 slot
  | .spareSwap _ kind unit => u 8 kind && u 16 unit
  | .vaultRequest _ typ key addr len => u 8 typ && u 16 key && u 64 addr && u 16 len
  | .vaultRecordCommit => true
  | .vaultReclaim => true
  | .vaultCompact => true
  | .sectorEraseDone _ => true
  | .hoursCommit => true
  | .vcpAreaRefresh => true
  | .coreResetRelease => true
  | .brownout => true
  | .testReset => true
  | .lantWakePin secs => u 64 secs
  | .rtcAlarm => true
  | .supplyWake secs => u 64 secs
  | .offDelayExpiry => true
  | .supplyValid => true
  | .wakeTimeout => true
  | .wakeRetry => true
  | .labelUpdate kind => u 8 kind
  | .labelWaveformStart => true
  | .labelFrame => true
  | .labelWaveformEnd => true
  | .labelRecovery => true
  | .labelTempMeasure t _ => sg 16 t
  | .labelDrain _ => true
  | .labelForceStop _ => true
  | .glowLoadDone => true
  | .bucketLeak kind => u 8 kind
  | .unitRestore kind unit => u 8 kind && u 16 unit
  | .sumpCoalesceClose seq => u 32 seq
  | .persistAllowanceRefill => true
  | .dripStep target _ => lt 3 target
  | .dripPassStart target => lt 3 target
  | .dripDrain _ => true
  | .dripForceStop _ => true
  | .bktSelect kind unit => u 8 kind && u 16 unit
  | .sumpSelect index => u 16 index
  | .perfResetAll => true
  | .counterIncrement _ event amount _ => u 16 event && u 64 amount
  | .lantPowerOn => true
  | .bedrockSramError => true
  | .pcieLinkUp speed width => u 4 speed && u 5 width
  | .perstNRise => true
  | .endOfBoot => true
  | .latchedSetpointApply => true
  | .flashOperationFailed dev _ => lt 2 dev
  | .installComplete _ => true

end Sys2Proof
end

