-- ==== Sys2Proof/Tests/Slice0.lean ====
section
/-!
SUPPORT. The author's own tests: for each clause of each statement a state and operands that meet all its conditions together, the
manual's worked examples, and terms that the well-formedness check takes and refuses.
-/
set_option autoImplicit false
set_option Elab.async false
set_option linter.unusedSimpArgs false
set_option linter.unusedVariables false

namespace Sys2Proof.Machine
open Sys2Proof

/-- The state after reset, with supplies up: commands act. -/
def live : State := { State.reset with m := { Mach.init with mc := { ModeCtl.init with off := false } } }

/-! ## StepRunsFrontCommand -/

theorem witness_stepRuns : ∃ (c : Instr) (s : State) (rest : List Instr), s.pending = c :: rest :=
  ⟨.tick, { live with pending := [.tick, .commitDeadline] }, [.commitDeadline], rfl⟩

/-! ## EmptyQueueIdles -/

theorem witness_emptyQueue : ∃ s : State, s.pending = [] :=
  ⟨live, rfl⟩

/-! ## StepsKeepDramForm -/

theorem witness_dramForm : ∃ s t : State, s.Inv ∧ step s = .next t :=
  ⟨{ live with pending := [.testReset] }, _, rfl, rfl⟩

/-! ## FusesOnlyGrow -/

theorem witness_fusesGrow : ∃ s t : State, step s = .next t :=
  ⟨{ live with pending := [.keyRevoke 1 true] }, _, rfl⟩

/-! ## OtherCommandsKeepFuses -/

theorem witness_keepFuses : ∃ (c : Instr) (s t : State), (writesFuse c = false) ∧ (exec c s = .next t) :=
  ⟨.testReset, live, _, rfl, rfl⟩

/-! ## OtherCommandsKeepDram -/

theorem witness_keepDram : ∃ (c : Instr) (s t : State), (writesDram c = false) ∧ (exec c s = .next t) :=
  ⟨.keyRevoke 1 true, live, _, rfl, rfl⟩

/-! ## DramWriteReach -/

theorem witness_writeOutside : ∃ (s : State) (m : Mach) (w : List (Nat × List Byte)) (a : Nat), ∀ e ∈ w, a < e.1 ∨ e.1 + e.2.length ≤ a :=
  ⟨live, live.m, [(0, [7, 8])], 2, by decide⟩

theorem witness_writeInside : ∃ (s : State) (m : Mach) (w : List (Nat × List Byte)) (a : Nat) (b : List Byte) (k : Nat), k < b.length :=
  ⟨live, live.m, [], 5, [7, 8], 1, by decide⟩

/-! ## CommandsWhileCoreIsOff -/

theorem witness_coreOff : ∃ (c : Instr) (s : State), (alwaysActs c = false) ∧ (s.m.mc.off = true) :=
  ⟨.tick, State.reset, rfl, rfl⟩

/-! ## PixelsConvert -/

theorem witness_pixelComponent : ∃ v k : Nat, k < 3 :=
  ⟨0xFF80407F, 2, by decide⟩

/-! ## VectorMessages -/

theorem witness_vectorOpen : ∃ (m : Mach) (v : Nat), m.msixMasked v = false :=
  ⟨live.m.msixSet 15 0, 3, by decide +kernel⟩

theorem witness_vectorMasked : ∃ (m : Mach) (v : Nat), m.msixMasked v = true :=
  ⟨live.m, 3, by decide +kernel⟩

theorem witness_vectorPending : ∃ (m : Mach) (v : Nat), (m.msixMasked v = true) ∧ (bit m.msix.pba v = true) :=
  ⟨live.m.raise 3, 3, by decide +kernel, by decide +kernel⟩

theorem witness_unmaskPending : ∃ (s : State) (v : Nat), (s.Runs) ∧ (v < 64) ∧ (s.m.msix.fmask = false) ∧ (bit s.m.msix.pba v = true) :=
  ⟨{ live with m := live.m.raise 3 }, 3, by decide +kernel, by decide, by decide +kernel, by decide +kernel⟩

theorem witness_unmaskIdle : ∃ (s : State) (v : Nat), (s.Runs) ∧ (v < 64) ∧ (bit s.m.msix.pba v = false) :=
  ⟨live, 63, by decide +kernel, by decide, by decide +kernel⟩

/-! ## ReservationOfEachMode -/

theorem witness_tokensColumn : ∃ (entry t : Nat), [368, 368, 315, 304, 208, 182, 176, 176, 368, 368, 208, 208, 182, 128, 128, 115, 333, 333, 191, 191, 191, 120, 84, 78][entry]? = some t :=
  ⟨23, 78, by decide⟩

/-! ## ImageChecksInOrder -/

theorem witness_imageHeader : ∃ (kind : Nat) (hdr : List Byte), (kind = 1 ∨ kind = 2) ∧ (hdr.length = 384) :=
  ⟨2, List.replicate 384 0, by decide, by decide +kernel⟩

/-! ## EffectiveCounter -/

theorem witness_oldImage : ∃ (f : Fuse) (m : Mach) (kind : Nat) (hdr pay : List Byte), fieldLE hdr 7 1 < rollCounter m kind :=
  ⟨Fuse.init, live.m.wr R.SEC.ROLLBACK.FW_MIRROR 5, 2, List.replicate 384 0, [], by decide +kernel⟩

/-! ## FirewallDecides -/

theorem witness_noRegion : ∃ (m : Mach) (a : Nat), regionOf m a = none :=
  ⟨live.m, 0x1000, by decide +kernel⟩

theorem witness_someRegion : ∃ (m : Mach) (a n : Nat), regionOf m a = some n :=
  ⟨setRegion live.m 7 0x5000 1 0x80000003, 0x5FFF, 7, by decide +kernel⟩

theorem witness_granted : ∃ (m : Mach) (p : Principal) (a n : Nat) (w : Bool), mayAccess m p a n w = true :=
  ⟨live.m, .host, 0, 8192, true, by decide +kernel⟩

/-! ## SequencesCompareSerially -/

theorem witness_sequences : ∃ s t : Nat, (s < 2 ^ 32) ∧ (t < 2 ^ 32) :=
  ⟨0, 0xFFFFFFFF, by decide, by decide⟩

/-! ## ChainedCountersCarry -/

theorem witness_chained : ∃ (m : Mach) (fuel n : Nat), (n < 31) ∧ (m.flag R.PERF.CNT_CTRL.CHAIN (n + 1) = true) ∧ (m.flag R.PERF.CNT_CTRL.ENABLE (n + 1) = true) ∧ (perfValue m (n + 1) < 2 ^ 48) :=
  ⟨(live.m.wr R.PERF.CNT_CTRL.CHAIN 1 31).wr R.PERF.CNT_CTRL.ENABLE 1 31, 4, 30, by decide, by decide +kernel, by decide +kernel, by decide +kernel⟩

theorem witness_unchained : ∃ (m : Mach) (fuel n : Nat), (n < 31) ∧ (m.flag R.PERF.CNT_CTRL.CHAIN (n + 1) = false) :=
  ⟨live.m, 4, 0, by decide, by decide +kernel⟩

theorem witness_anyCounter : ∃ n : Nat, n < 32 :=
  ⟨31, by decide⟩

/-! ## BandBudget -/

theorem witness_budgetEntry : ∃ n e : Nat, n < 24 :=
  ⟨23, 32, by decide⟩

/-! ## BucketLedgerCounterCommands -/

theorem witness_bktSelect : ∃ (s : State) (kind unit : Nat), (s.Runs) ∧ (kind < 16) ∧ (unit < kindUnits s.m kind) :=
  ⟨live, 1, 3, by decide +kernel, by decide +kernel, by decide +kernel⟩

theorem witness_sumpSelect : ∃ (s : State) (index : Nat), (s.Runs) ∧ (index < 4096) :=
  ⟨live, 7, by decide +kernel, by decide +kernel⟩

theorem witness_sumpCoalesceClose_kept : ∃ (s : State) (seq i : Nat) (e : SumpE), (s.Runs) ∧ (s.m.hl.sump.findIdx? (fun e => e.seq == seq && e.window) = some i) ∧ (s.m.hl.sump[i]? = some e) ∧ (s.m.hl.allowance ≠ 0) :=
  ⟨{ live with m := { live.m with hl := { live.m.hl with sump := [⟨0, 0, 0, 1, 0, 0, 0, 1, 1, 1, 0, 0, true⟩] } } }, 0, 0, ⟨0, 0, 0, 1, 0, 0, 0, 1, 1, 1, 0, 0, true⟩, by decide +kernel, by decide +kernel, by decide +kernel, by decide +kernel⟩

theorem witness_sumpCoalesceClose_dropped : ∃ (s : State) (seq i : Nat) (e : SumpE), (s.Runs) ∧ (s.m.hl.sump.findIdx? (fun e => e.seq == seq && e.window) = some i) ∧ (s.m.hl.sump[i]? = some e) ∧ (s.m.hl.allowance = 0) :=
  ⟨{ live with m := { live.m with hl := { live.m.hl with sump := [⟨0, 0, 0, 1, 0, 0, 0, 1, 1, 1, 0, 0, true⟩], allowance := 0 } } }, 0, 0, ⟨0, 0, 0, 1, 0, 0, 0, 1, 1, 1, 0, 0, true⟩, by decide +kernel, by decide +kernel, by decide +kernel, by decide +kernel⟩

theorem witness_persistAllowanceRefill : ∃ (s : State), (s.Runs) ∧ (s.m.dv D.sump_persist_rate ≠ 0) :=
  ⟨live, by decide +kernel, by decide +kernel⟩

theorem witness_bucketLeak : ∃ (s : State) (kind unit : Nat), (s.Runs) ∧ (unit < kindUnits s.m kind) ∧ (isRetired s.m kind unit = false) ∧ (0 < bktLevel s.m kind unit) :=
  ⟨{ live with m := setLevel live.m 1 3 5 }, 1, 3, by decide +kernel, by decide +kernel, by decide +kernel, by decide +kernel⟩

theorem witness_unitRestore_board : ∃ (s : State) (kind unit : Nat), (s.Runs) ∧ (10 ≤ kind) ∧ (kind ≤ 13) ∧ (isRetired s.m kind unit = true) :=
  ⟨{ live with m := { live.m with hl := { live.m.hl with retired := [(bktKey 11 0, 1)] } } }, 11, 0, by decide +kernel, by decide +kernel, by decide +kernel, by decide +kernel⟩

theorem witness_unitRestore_record : ∃ (s : State) (kind unit : Nat), (s.Runs) ∧ (kind = 1 ∨ kind = 2 ∨ kind = 3 ∨ kind = 6) ∧ (isRetired s.m kind unit = true) :=
  ⟨{ live with m := { live.m with hl := { live.m.hl with retired := [(bktKey 1 0, 1)] } } }, 1, 0, by decide +kernel, by decide +kernel, by decide +kernel⟩

theorem witness_dripPassStart : ∃ (s : State) (target : Nat), (s.Runs) ∧ (target < 3) ∧ ((dripRec s.m target).inPass = false) ∧ (dripRuns s.m target = true) :=
  ⟨{ live with m := ((live.m.wr R.SYS.MODE_STATUS.CURRENT 5).wr R.HLTH.DRIP_STATUS.STATE 1).dset D.drip_targets 7 }, 0, by decide +kernel, by decide +kernel, by decide +kernel, by decide +kernel⟩

theorem witness_dripPassStart_late : ∃ (s : State) (target : Nat), (s.Runs) ∧ (target < 3) ∧ ((dripRec s.m target).inPass = true) :=
  ⟨{ live with m := { live.m with hl := { live.m.hl with drip := [⟨true, false, false, false, false⟩] } } }, 0, by decide +kernel, by decide +kernel, by decide +kernel⟩

theorem witness_dripStep : ∃ (s : State) (target : Nat) (errs : List (Nat × Nat × Nat)), (s.Runs) ∧ (target = 2) ∧ ((dripRec s.m target).inPass = true) ∧ (dripRuns s.m target = true) ∧ (hasGrant s.m C_SCRUB target = true) :=
  ⟨{ live with m := { ((live.m.wr R.SYS.MODE_STATUS.CURRENT 5).wr R.HLTH.DRIP_STATUS.STATE 1).dset D.drip_targets 7 with hl := { live.m.hl with drip := [⟨true, false, false, false, false⟩, ⟨true, false, false, false, false⟩, ⟨true, false, false, false, false⟩] }, ch := { live.m.ch with grants := [⟨C_SCRUB, 2, 4, 0, true, false⟩] } } }, 2, [], by decide +kernel, by decide +kernel, by decide +kernel, by decide +kernel, by decide +kernel⟩

theorem witness_dripDrain : ∃ (s : State), (s.Runs) ∧ (s.m.rd R.HLTH.DRIP_STATUS.STATE = 1) :=
  ⟨{ live with m := live.m.wr R.HLTH.DRIP_STATUS.STATE 1 }, by decide +kernel, by decide +kernel⟩

theorem witness_dripForceStop : ∃ (s : State) (late : Bool), (s.Runs) :=
  ⟨live, true, by decide +kernel⟩

theorem witness_perfResetAll : ∃ (s : State), (s.Runs) :=
  ⟨live, by decide +kernel⟩

theorem witness_counterIncrement_health : ∃ (s : State) (event amount gathered : Nat) (lost : Bool), (s.Runs) ∧ (SMap.get 0 s.m.hl.pulse event = gathered) ∧ (gathered ≠ 0) ∧ (SMap.get 0 s.m.hl.pulseOv event ≠ 1) :=
  ⟨{ live with m := { live.m with hl := { live.m.hl with pulse := [(5, 3)] } } }, 5, 1, 3, false, by decide +kernel, by decide +kernel, by decide +kernel, by decide +kernel⟩

theorem witness_counterIncrement_healthLost : ∃ (s : State) (event amount : Nat) (lost : Bool), (s.Runs) ∧ (SMap.get 0 s.m.hl.pulse event = 0) ∧ (SMap.get 0 s.m.hl.pulseOv event = 1) :=
  ⟨{ live with m := { live.m with hl := { live.m.hl with pulseOv := [(5, 1)] } } }, 5, 1, false, by decide +kernel, by decide +kernel, by decide +kernel⟩

theorem witness_counterIncrement_perf : ∃ (s : State) (event amount : Nat), (s.Runs) :=
  ⟨live, 5, 1, by decide +kernel⟩

/-! ## LanternCommands -/

theorem witness_rtcSecondLoad : ∃ (s : State), (s.Runs) ∧ (timeState s.m = T_LOCKED) :=
  ⟨{ live with m := live.m.wr R.TIME.STATUS.STATE T_LOCKED }, by decide +kernel, by decide +kernel⟩

theorem witness_rtcAlarm : ∃ (s : State), (s.m.rtc < alarmAt s.m) :=
  ⟨{ live with m := live.m.wr R.LANT.ALARM_LO.SEC 5 }, by decide +kernel⟩

theorem witness_supplyWake : ∃ (s : State) (secs : Nat), ((runSecs s.m.fresh secs).flag R.LANT.STATUS.PWREN_CORE = false) :=
  ⟨{ live with m := live.m.wr R.LANT.STATUS.PWREN_CORE 0 }, 0, by decide +kernel⟩

theorem witness_offDelayExpiry : ∃ (s : State), (s.m.mode = 0) ∧ (s.m.lant.power = 1) :=
  ⟨{ live with m := { (live.m.wr R.SYS.MODE_STATUS.CURRENT 0) with lant := { live.m.lant with power := 1 } } }, by decide +kernel, by decide +kernel⟩

theorem witness_supplyValid : ∃ (s : State), (s.m.lant.power = 3) :=
  ⟨live, by decide +kernel⟩

theorem witness_wakeTimeout : ∃ (s : State), (s.m.lant.power = 3) :=
  ⟨live, by decide +kernel⟩

theorem witness_wakeRetry : ∃ (s : State), (s.m.lant.power = 4) :=
  ⟨{ live with m := { live.m with lant := { live.m.lant with power := 4 } } }, by decide +kernel⟩

theorem witness_labelUpdate : ∃ (s : State) (kind : Nat), (s.Runs) ∧ (kind ≤ 2) ∧ (labelMode s.m.mode = true) ∧ (s.m.flag R.LANT.LABEL_CTRL.ENABLE = true) ∧ (s.m.lant.run = none) ∧ (s.m.lant.recover = false) ∧ (s.m.lant.targetOk = true) ∧ (imageValid s.m s.m.lant.target = true) ∧ (tableValid (waveTable s.m (bandOf s.m (labelTemp s.m))) = true) :=
  ⟨{ live with m := { (((live.m.wr R.SYS.MODE_STATUS.CURRENT 5).wr R.LANT.LABEL_CTRL.ENABLE 1).dset D.label_geometry 0x10001) with lant := { live.m.lant with target := [0], targetOk := true } } }, 0, by decide +kernel, by decide +kernel, by decide +kernel, by decide +kernel, by decide +kernel, by decide +kernel, by decide +kernel, by decide +kernel, by decide +kernel⟩

theorem witness_labelRecovery : ∃ (s : State), (s.Runs) ∧ (s.m.lant.recover = true) ∧ (s.m.mode = 4 ∨ s.m.mode = 5) ∧ (s.m.lant.run = none) ∧ (s.m.flag R.LANT.LABEL_CTRL.ENABLE = true) ∧ (s.m.lant.targetOk = false) :=
  ⟨{ live with m := { ((live.m.wr R.SYS.MODE_STATUS.CURRENT 5).wr R.LANT.LABEL_CTRL.ENABLE 1) with lant := { live.m.lant with recover := true } } }, by decide +kernel, by decide +kernel, by decide +kernel, by decide +kernel, by decide +kernel, by decide +kernel⟩

theorem witness_labelWaveformStart : ∃ (s : State) (r : LRun), (s.m.lant.run = some r) ∧ (r.ok = true) ∧ (s.m.lant.leave = false) ∧ (s.m.rd R.LANT.LABEL_STATUS.STATE = 1) ∧ (s.m.flag R.LANT.LABEL_CTRL.ENABLE = true) :=
  ⟨{ live with m := { ((live.m.wr R.LANT.LABEL_STATUS.STATE 1).wr R.LANT.LABEL_CTRL.ENABLE 1) with lant := { live.m.lant with run := some ⟨0, 0, [], [], [], 0, 0, 0, false, true, false, 0⟩ } } }, ⟨0, 0, [], [], [], 0, 0, 0, false, true, false, 0⟩, by decide +kernel, by decide +kernel, by decide +kernel, by decide +kernel, by decide +kernel⟩

theorem witness_labelFrame : ∃ (s : State) (r : LRun), (s.m.lant.run = some r) ∧ (s.m.lant.leave = false) ∧ (s.m.lant.stop = false) ∧ (labelDrives s.m = true) ∧ (r.sent = false) ∧ (s.m.mode = 1) :=
  ⟨{ live with m := { ((live.m.wr R.LANT.LABEL_STATUS.STATE 2).wr R.SYS.MODE_STATUS.CURRENT 1) with lant := { live.m.lant with run := some ⟨0, 0, [], [], [1, 0, 0, 0], 0, 0, 0, false, true, false, 0⟩ } } }, ⟨0, 0, [], [], [1, 0, 0, 0], 0, 0, 0, false, true, false, 0⟩, by decide +kernel, by decide +kernel, by decide +kernel, by decide +kernel, by decide +kernel, by decide +kernel⟩

theorem witness_labelWaveformEnd : ∃ (s : State) (r : LRun), (s.m.lant.run = some r) ∧ (labelDrives s.m = true) ∧ (r.sent = true) ∧ (s.m.lant.leave = false) ∧ (s.m.lant.stop = false) :=
  ⟨{ live with m := { (live.m.wr R.LANT.LABEL_STATUS.STATE 2) with lant := { live.m.lant with run := some ⟨0, 0, [], [], [1, 0, 0, 0], 0, 1, 0, false, true, false, 0⟩ } } }, ⟨0, 0, [], [], [1, 0, 0, 0], 0, 1, 0, false, true, false, 0⟩, by decide +kernel, by decide +kernel, by decide +kernel, by decide +kernel, by decide +kernel⟩

theorem witness_labelTempMeasure : ∃ (s : State) (t : Int), (s.m.lant.run = none) ∧ (s.m.dv D.label_temp_source = 0) :=
  ⟨live, 5, by decide +kernel, by decide +kernel⟩

theorem witness_labelDrain : ∃ (s : State) (r : LRun), (s.Runs) ∧ (s.m.lant.run = some r) ∧ (r.ok = true) :=
  ⟨{ live with m := { live.m with lant := { live.m.lant with run := some ⟨0, 0, [], [], [], 0, 0, 0, false, true, false, 0⟩ } } }, ⟨0, 0, [], [], [], 0, 0, 0, false, true, false, 0⟩, by decide +kernel, by decide +kernel, by decide +kernel⟩

theorem witness_labelForceStop : ∃ (s : State) (late : Bool) (r : LRun), (s.Runs) ∧ (s.m.lant.run = some r) ∧ (labelDrives s.m = true) ∧ (r.sent = false) :=
  ⟨{ live with m := { (live.m.wr R.LANT.LABEL_STATUS.STATE 2) with lant := { live.m.lant with run := some ⟨0, 0, [], [], [1, 0, 0, 0], 0, 0, 0, false, true, false, 0⟩ } } }, false, ⟨0, 0, [], [], [1, 0, 0, 0], 0, 0, 0, false, true, false, 0⟩, by decide +kernel, by decide +kernel, by decide +kernel, by decide +kernel⟩

theorem witness_glowLoadDone : ∃ (s : State), (s.Runs) ∧ (s.m.lant.load = true) ∧ (5 ≤ s.m.mode) ∧ (s.m.mode ≤ 9) :=
  ⟨{ live with m := { (live.m.wr R.SYS.MODE_STATUS.CURRENT 5) with lant := { live.m.lant with load := true } } }, by decide +kernel, by decide +kernel, by decide +kernel, by decide +kernel⟩

/-! ## ModeCommands -/

theorem witness_modeRequest_tick : ∃ (s : State) (p : Principal) (entry : Nat), (s.Runs) ∧ (s.m.rd R.SYS.MODE_STATUS.CURRENT = 5) ∧ (s.m.rd R.SYS.MODE_STATUS.IN_TRANSITION = 0) ∧ (entry < 24) :=
  ⟨{ live with m := ((live.m.wr R.SYS.MODE_STATUS.CURRENT 5).wr R.SYS.MODE_STATUS.IN_TRANSITION 0) }, .fw, 0, by decide +kernel, by decide +kernel, by decide +kernel, by decide +kernel⟩

theorem witness_modeRequest_immediate : ∃ (s : State) (p : Principal) (entry : Nat), (s.Runs) ∧ (s.m.rd R.SYS.MODE_STATUS.CURRENT = 4) ∧ (s.m.rd R.SYS.MODE_STATUS.IN_TRANSITION = 0) ∧ (s.m.mc.due = none) ∧ (entry < 24) :=
  ⟨{ live with m := ((live.m.wr R.SYS.MODE_STATUS.CURRENT 4).wr R.SYS.MODE_STATUS.IN_TRANSITION 0) }, .fw, 0, by decide +kernel, by decide +kernel, by decide +kernel, by decide +kernel, by decide +kernel⟩

theorem witness_modeRequest_refused : ∃ (s : State) (p : Principal) (entry : Nat), (s.Runs) ∧ (s.m.rd R.SYS.MODE_STATUS.CURRENT = 4) ∧ (s.m.rd R.SYS.MODE_STATUS.IN_TRANSITION = 0) ∧ (entry < 24) :=
  ⟨{ live with m := ((live.m.wr R.SYS.MODE_STATUS.CURRENT 4).wr R.SYS.MODE_STATUS.IN_TRANSITION 0) }, .fw, 0, by decide +kernel, by decide +kernel, by decide +kernel, by decide +kernel⟩

theorem witness_modeTransitionComplete : ∃ (s : State) (t : Imm), (s.Runs) ∧ (s.m.mc.imm = some t) ∧ (t.train = false) ∧ (t.target ≠ 0) ∧ (t.target ≠ 3) ∧ (t.start ≠ 3) :=
  ⟨{ live with m := { live.m with mc := { live.m.mc with imm := some ⟨4, 0, 0, 5, true, false, false⟩ } } }, ⟨4, 0, 0, 5, true, false, false⟩, by decide +kernel, by decide +kernel, by decide +kernel, by decide +kernel, by decide +kernel, by decide +kernel⟩

theorem witness_modeTransitionComplete_M0 : ∃ (s : State) (t : Imm), (s.Runs) ∧ (s.m.mc.imm = some t) ∧ (t.train = false) ∧ (t.target = 0) :=
  ⟨{ live with m := { live.m with mc := { live.m.mc with imm := some ⟨0, 0, 0, 5, true, false, false⟩ } } }, ⟨0, 0, 0, 5, true, false, false⟩, by decide +kernel, by decide +kernel, by decide +kernel, by decide +kernel⟩

theorem witness_thermalAutoResume : ∃ (s : State) (q e : Nat), (s.Runs) ∧ (s.m.mc.left = some (q, e)) ∧ (s.m.mode = 4) ∧ (s.m.rd R.SYS.MODE_STATUS.CAUSE = CAUSE_TRIP) ∧ (s.m.mc.imm = none) ∧ (s.m.dv D.thermal_auto_resume = 1) ∧ (sInt 16 (s.m.rd R.THRM.STATUS.MAX_TEMP) < 2000) ∧ ((s.m.mc.trips.filter (fun t => decide (s.m.rtc < t + 3600))).length < 3) :=
  ⟨{ live with m := { ((((live.m.wr R.SYS.MODE_STATUS.CURRENT 4).wr R.SYS.MODE_STATUS.CAUSE CAUSE_TRIP).wr R.THRM.STATUS.MAX_TEMP 100).dset D.thermal_auto_resume 1) with mc := { live.m.mc with left := some (6, 2) } } }, 6, 2, by decide +kernel, by decide +kernel, by decide +kernel, by decide +kernel, by decide +kernel, by decide +kernel, by decide +kernel, by decide +kernel⟩

theorem witness_datapathFailure : ∃ (s : State), (s.Runs) ∧ (5 ≤ s.m.mode) ∧ (s.m.mode ≤ 9) :=
  ⟨{ live with m := (live.m.wr R.SYS.MODE_STATUS.CURRENT 6) }, by decide +kernel, by decide +kernel, by decide +kernel⟩

theorem witness_pfwNFall : ∃ (s : State), (s.m.mc.off = false) ∧ (s.m.mc.pfwLow = false) :=
  ⟨live, by decide +kernel, by decide +kernel⟩

theorem witness_pfwNRise : ∃ (s : State), (s.m.mc.off = false) ∧ (s.m.mc.pfwLow = true) :=
  ⟨{ live with m := { live.m with mc := { live.m.mc with pfwLow := true } } }, by decide +kernel, by decide +kernel⟩

theorem witness_coreResetRelease : ∃ (s : State), (s.m.mc.off = true) ∧ (s.m.lant.power = 0) :=
  ⟨{ State.reset with m := { Mach.init with lant := { Lant.init with power := 0 } } }, by decide +kernel, by decide +kernel⟩

theorem witness_brownout : ∃ (s : State), (s.m.mc.off = false) :=
  ⟨live, by decide +kernel⟩

theorem witness_endOfBoot : ∃ (s : State), (s.Runs) ∧ (s.m.mode = 3) ∧ (s.m.mc.imm = none) ∧ (s.m.flag R.SEC.STATE.FW_PRESENT = true) ∧ (s.m.lant.quar = none) ∧ (s.m.dv D.vcp_autorestore = 0) :=
  ⟨{ live with m := ((live.m.wr R.SYS.MODE_STATUS.CURRENT 3).wr R.SEC.STATE.FW_PRESENT 1).dset D.vcp_autorestore 0 }, by decide +kernel, by decide +kernel, by decide +kernel, by decide +kernel, by decide +kernel, by decide +kernel⟩

/-! ## RegisterCommands -/

theorem witness_registerWrite : ∃ (s : State) (word : Nat), (s.Runs) ∧ (word < 2 ^ 32) ∧ (s.m.rd R.GAL.TAP_STRIDE.STRIDE ≠ word) :=
  ⟨live, 5, by decide +kernel, by decide +kernel, by decide +kernel⟩

theorem witness_commitLogicWrite_before : ∃ (s : State) (word : Nat), (s.Runs) ∧ (word < 2 ^ 32) ∧ (s.m.rdNew R.SCAN.FLAT_B.VALUE ≠ word) ∧ (s.m.mc.deadline = false) :=
  ⟨live, 5, by decide +kernel, by decide +kernel, by decide +kernel, by decide +kernel⟩

theorem witness_commitLogicWrite_after : ∃ (s : State) (word : Nat), (s.Runs) ∧ (word < 2 ^ 32) ∧ (s.m.rdNew R.SCAN.FLAT_B.VALUE ≠ word) ∧ (s.m.mc.deadline = true) ∧ (SMap.look s.m.held2 (R.SCAN.FLAT_B.VALUE.key 0 0) = none) :=
  ⟨{ live with m := { live.m with mc := { live.m.mc with deadline := true } } }, 5, by decide +kernel, by decide +kernel, by decide +kernel, by decide +kernel, by decide +kernel⟩

theorem witness_loRegisterRead : ∃ (s : State) (adv : Nat), (s.Runs) :=
  ⟨live, 0, by decide +kernel⟩

theorem witness_readClearRegister : ∃ (s : State), (s.Runs) :=
  ⟨live, by decide +kernel⟩

/-! ## DictionaryPortCommands -/

theorem witness_dictRead_port : ∃ (s : State) (p : Principal) (ix sb off : Nat) (data : List Byte), (s.Runs) ∧ (p = .bed ∨ (p = .fw ∧ s.m.sec.cores = true)) ∧ (gate s.m ⟨p, 1, ix, sb, off, data, true, 0, .port p, 2 ^ 24⟩ (findEntry s.m ix sb) false = none) ∧ (¬(ix = 0x1101 ∧ sb = 1)) ∧ ((foundValue s.fuse s.m.fresh (findEntry s.m.fresh ix sb)).1.length ≤ 2 ^ 24) :=
  ⟨live, .bed, 0x1000, 0, 0, [], by decide +kernel, by decide +kernel, by decide +kernel, by decide +kernel, by decide +kernel⟩

theorem witness_dictWrite_port : ∃ (s : State) (p : Principal) (ix sb off : Nat) (data : List Byte) (e : DEntry), (s.Runs) ∧ (p = .bed ∨ (p = .fw ∧ s.m.sec.cores = true)) ∧ (ix ≠ 0x1101) ∧ (findEntry s.m ix sb = .entry e) ∧ (gate s.m ⟨p, 2, ix, sb, off, data, true, 0, .port p, 2 ^ 24⟩ (.entry e) true = none) ∧ ((writeEntry s.fuse s.m.fresh p e data).1 = DICT_OK) :=
  ⟨live, .bed, 0xB200, 1, 0, List.replicate 32 0, ⟨0xB200, 0x01, .octets, 32, 0, 0, 0x50, .p, false, false, .own D.net_psk_0, true⟩, by decide +kernel, by decide +kernel, by decide +kernel, by decide +kernel, by decide +kernel, by decide +kernel⟩

theorem witness_pskWrite_port : ∃ (s : State) (sb off : Nat) (data : List Byte) (e : DEntry), (s.Runs) ∧ (1 ≤ sb) ∧ (sb ≤ 4) ∧ (findEntry s.m 0xB200 sb = .entry e) ∧ (gate s.m ⟨.bed, 2, 0xB200, sb, off, data, true, 0, .port .bed, 2 ^ 24⟩ (.entry e) true = none) ∧ ((writeEntry s.fuse s.m.fresh .bed e data).1 = DICT_OK) :=
  ⟨live, 1, 0, List.replicate 32 0, ⟨0xB200, 0x01, .octets, 32, 0, 0, 0x50, .p, false, false, .own D.net_psk_0, true⟩, by decide +kernel, by decide +kernel, by decide +kernel, by decide +kernel, by decide +kernel, by decide +kernel⟩

theorem witness_readBlock_port : ∃ (s : State) (p : Principal) (ix sb off : Nat) (data : List Byte), (s.Runs) ∧ (p = .bed ∨ (p = .fw ∧ s.m.sec.cores = true)) ∧ (gate s.m ⟨p, 3, ix, sb, off, data, true, 0, .port p, 2 ^ 24⟩ (findEntry s.m ix sb) false = none) ∧ (data.length = 2) ∧ (fieldLE data 0 2 ≤ 2 ^ 24) ∧ (off % 4 = 0) ∧ (off < (foundValue s.fuse s.m.fresh (findEntry s.m.fresh ix sb)).1.length) :=
  ⟨live, .bed, 0x1000, 0, 0, [1, 0], by decide +kernel, by decide +kernel, by decide +kernel, by decide +kernel, by decide +kernel, by decide +kernel, by decide +kernel⟩

theorem witness_writeBlock_port : ∃ (s : State) (p : Principal) (ix sb : Nat) (data : List Byte) (e : DEntry), (s.Runs) ∧ (p = .bed ∨ (p = .fw ∧ s.m.sec.cores = true)) ∧ (ix ≠ 0x1101) ∧ (findEntry s.m ix sb = .entry e) ∧ (gate s.m ⟨p, 4, ix, sb, 0, data, true, 0, .port p, 2 ^ 24⟩ (.entry e) true = none) ∧ (e.ty ≠ .table) ∧ (data.length = e.sz) ∧ (data.length ≤ 16777216) ∧ ((writeEntry s.fuse s.m.fresh p e data).1 = DICT_OK) :=
  ⟨live, .bed, 0xB200, 1, List.replicate 32 0, ⟨0xB200, 0x01, .octets, 32, 0, 0, 0x50, .p, false, false, .own D.net_psk_0, true⟩, by decide +kernel, by decide +kernel, by decide +kernel, by decide +kernel, by decide +kernel, by decide +kernel, by decide +kernel, by decide +kernel, by decide +kernel⟩

theorem witness_store_port : ∃ (s : State) (p : Principal) (ix sb off : Nat) (data : List Byte) (es : List DEntry), (s.Runs) ∧ (p = .bed ∨ (p = .fw ∧ s.m.sec.cores = true)) ∧ (selectEntries s.m ix sb = .inr es) ∧ (selectionShut s.m ⟨p, 5, ix, sb, off, data, true, 0, .port p, 2 ^ 24⟩ = false) ∧ (fwServes s.m = true) ∧ (s.m.dic.store = none) :=
  ⟨{ live with m := live.m.wr R.SEC.STATE.FW_PRESENT 1 }, .bed, 0xB200, 1, 0, [], [⟨0xB200, 0x01, .octets, 32, 0, 0, 0x50, .p, false, false, .own D.net_psk_0, true⟩], by decide +kernel, by decide +kernel, by decide +kernel, by decide +kernel, by decide +kernel, by decide +kernel⟩

theorem witness_restoreDefault_port : ∃ (s : State) (p : Principal) (ix sb off : Nat) (data : List Byte) (e : DEntry), (s.Runs) ∧ (p = .bed ∨ (p = .fw ∧ s.m.sec.cores = true)) ∧ (selectEntries s.m ix sb = .inr [e]) ∧ (selectionShut s.m ⟨p, 6, ix, sb, off, data, true, 0, .port p, 2 ^ 24⟩ = false) ∧ (fwServes s.m = true) ∧ (e.cls ≠ .f) ∧ (e.dflt = true) ∧ (mayWrite e p = true) ∧ (writeShut s.m p e = false) ∧ ((writeEntry s.fuse s.m.fresh p e (defaultOf s.fuse s.m.fresh e)).1 ≤ 2) :=
  ⟨{ live with m := live.m.wr R.SEC.STATE.FW_PRESENT 1 }, .bed, 0xB200, 1, 0, [], ⟨0xB200, 0x01, .octets, 32, 0, 0, 0x50, .p, false, false, .own D.net_psk_0, true⟩, by decide +kernel, by decide +kernel, by decide +kernel, by decide +kernel, by decide +kernel, by decide +kernel, by decide +kernel, by decide +kernel, by decide +kernel, by decide +kernel⟩

/-! ## DictionaryNetworkCommands -/

theorem witness_subscribe_new : ∃ (s : State) (v6 : Bool) (a pt : Nat) (hdr pay : List Byte) (ss : Sess) (e : DEntry) (n : Nat), (s.Runs) ∧ (IdpHead hdr pay 7) ∧ (idpRuns s.m.fresh v6 = true) ∧ (sessOf s.m.fresh (fieldLE hdr 12 2) = some ss) ∧ (fieldLE hdr 12 2 ≠ 0) ∧ (ss.take (fieldLE hdr 2 2) = .fresh) ∧ (fieldLE hdr 2 2 ≠ 0xFFFF) ∧ (findEntry (s.m.fresh.inSess (fieldLE hdr 12 2) (fieldLE hdr 2 2)) (fieldLE hdr 6 2) (fieldLE hdr 8 1) = .entry e) ∧ (gate (s.m.fresh.inSess (fieldLE hdr 12 2) (fieldLE hdr 2 2)) (idpReq v6 a pt hdr pay true) (.entry e) false = none) ∧ (e.ty ≠ .table) ∧ (pay.length = 6) ∧ (1 ≤ fieldLE pay 2 2 ∧ fieldLE pay 2 2 ≤ 3600) ∧ ((foundValue s.fuse (s.m.fresh.inSess (fieldLE hdr 12 2) (fieldLE hdr 2 2)) (.entry e)).1.length ≤ 1008) ∧ (subSlot (s.m.fresh.inSess (fieldLE hdr 12 2) (fieldLE hdr 2 2)) (.udp v6 a (if fieldLE pay 4 2 = 0 then pt else fieldLE pay 4 2)) (fieldLE hdr 6 2) (fieldLE hdr 8 1) = (none, some n)) :=
  ⟨{ live with m := { (((live.m.wr R.SYS.MODE_STATUS.CURRENT 4).dset D.idp_enable 1).dset D.ipv4_address 7) with dic := { live.m.dic with sess := [⟨1, 0, [], none, [], [], none⟩] } } }, false, 9, 9, [2, 7, 0, 0, 0, 0x80, 0, 0x10, 1, 0, 6, 0, 1, 0, 0, 0], [1, 0, 1, 0, 0, 0], ⟨1, 0, [], none, [], [], none⟩, ⟨0x1000, 0x01, .str, 16, 0, 0, 0x0F, .f, false, false, .own D.vendor_name, true⟩, 0, by decide +kernel, by exact ⟨rfl, rfl, rfl, by decide, by decide⟩, by decide +kernel, by decide +kernel, by decide +kernel, by decide +kernel, by decide +kernel, by decide +kernel, by decide +kernel, by decide +kernel, by decide +kernel, by decide +kernel, by decide +kernel, by decide +kernel⟩

theorem witness_sessionClose : ∃ (s : State) (v6 : Bool) (a pt : Nat) (hdr pay : List Byte) (ss : Sess), (s.Runs) ∧ (IdpHead hdr pay 2) ∧ (idpRuns s.m.fresh v6 = true) ∧ (sessOf s.m.fresh (fieldLE hdr 12 2) = some ss) ∧ (fieldLE hdr 12 2 ≠ 0) ∧ (ss.take (fieldLE hdr 2 2) = .fresh) ∧ (fieldLE hdr 2 2 ≠ 0xFFFF) ∧ (fieldLE hdr 6 2 = 0x1101) ∧ (fieldLE hdr 8 1 = 3) ∧ (gate (s.m.fresh.inSess (fieldLE hdr 12 2) (fieldLE hdr 2 2)) (idpReq v6 a pt hdr pay true) (findEntry (s.m.fresh.inSess (fieldLE hdr 12 2) (fieldLE hdr 2 2)) 0x1101 3) true = none) ∧ (pay.length = 2) ∧ (fieldLE pay 0 2 = fieldLE hdr 12 2) :=
  ⟨{ live with m := { (((live.m.wr R.SYS.MODE_STATUS.CURRENT 4).dset D.idp_enable 1).dset D.ipv4_address 7) with dic := { live.m.dic with sess := [⟨1, 0, [], none, [], [], none⟩] } } }, false, 9, 9, [2, 2, 0, 0, 0, 0x80, 1, 0x11, 3, 0, 2, 0, 1, 0, 0, 0], [1, 0], ⟨1, 0, [], none, [], [], none⟩, by decide +kernel, by exact ⟨rfl, rfl, rfl, by decide, by decide⟩, by decide +kernel, by decide +kernel, by decide +kernel, by decide +kernel, by decide +kernel, by decide +kernel, by decide +kernel, by decide +kernel, by decide +kernel, by decide +kernel⟩

theorem witness_sessionChallengeRead : ∃ (s : State) (v6 : Bool) (a pt : Nat) (hdr : List Byte), (s.Runs) ∧ (IdpHead hdr [] 1) ∧ (idpRuns s.m.fresh v6 = true) ∧ (fieldLE hdr 12 2 = 0) ∧ (fieldLE hdr 6 2 = 0x1101) ∧ (fieldLE hdr 8 1 = 1) ∧ (gate (idpCount s.m.fresh D.idp_rx) (idpReq v6 a pt hdr [] false) (findEntry (idpCount s.m.fresh D.idp_rx) 0x1101 1) false = none) :=
  ⟨{ live with m := (((live.m.wr R.SYS.MODE_STATUS.CURRENT 4).dset D.idp_enable 1).dset D.ipv4_address 7) }, false, 9, 9, [2, 1, 0, 0, 0, 0x80, 1, 0x11, 1, 0, 0, 0, 0, 0, 0, 0], by decide +kernel, by exact ⟨rfl, rfl, rfl, by decide, by decide⟩, by decide +kernel, by decide +kernel, by decide +kernel, by decide +kernel, by decide +kernel⟩

theorem witness_sessionOpen : ∃ (s : State) (v6 : Bool) (a pt : Nat) (hdr : List Byte) (k : Nat) (dev cli : List Byte), (s.Runs) ∧ (IdpHead hdr (toLE 1 k ++ [0, 0, 0] ++ dev ++ cli ++ slice (Config.hmac256 (Config.hmac256 (pskOf s.m.fresh k) ([0x49, 0x44, 0x50, 0x53] ++ dev ++ cli)) ([0x4F, 0x50, 0x45, 0x4E] ++ dev ++ cli)) 0 16) 2) ∧ (idpRuns s.m.fresh v6 = true) ∧ (fieldLE hdr 12 2 = 0) ∧ (fieldLE hdr 6 2 = 0x1101) ∧ (fieldLE hdr 8 1 = 2) ∧ (gate (idpCount s.m.fresh D.idp_rx) (idpReq v6 a pt hdr (toLE 1 k ++ [0, 0, 0] ++ dev ++ cli ++ slice (Config.hmac256 (Config.hmac256 (pskOf s.m.fresh k) ([0x49, 0x44, 0x50, 0x53] ++ dev ++ cli)) ([0x4F, 0x50, 0x45, 0x4E] ++ dev ++ cli)) 0 16) false) (findEntry (idpCount s.m.fresh D.idp_rx) 0x1101 2) true = none) ∧ (k < 4) ∧ (dev.length = 16) ∧ (cli.length = 16) ∧ (s.m.fresh.dic.nonces.any (fun n => n.1 == dev && decide (s.m.fresh.rtc < n.2 + 10)) = true) ∧ (fromLE (pskOf s.m.fresh k) ≠ 0) ∧ (s.m.fresh.dic.sess.length < 8) :=
  ⟨{ live with m := { ((((live.m.wr R.SYS.MODE_STATUS.CURRENT 4).dset D.idp_enable 1).dset D.ipv4_address 7).dset D.net_psk_0 1) with dic := { live.m.dic with nonces := [(List.replicate 16 5, 0)] } } }, false, 9, 9, [2, 2, 0, 0, 0, 0x80, 1, 0x11, 2, 0, 52, 0, 0, 0, 0, 0], 0, List.replicate 16 5, List.replicate 16 6, by decide +kernel, by exact ⟨rfl, rfl, rfl, by decide, by simp only [List.length_append, length_slice]; decide +kernel⟩, by decide +kernel, by decide +kernel, by decide +kernel, by decide +kernel, by decide +kernel, by decide +kernel, by decide +kernel, by decide +kernel, by decide +kernel, by decide +kernel, by decide +kernel⟩

theorem witness_idpV1Request : ∃ (s : State) (v6 : Bool) (a pt : Nat) (b : List Byte), (s.Runs) ∧ (idpRuns s.m.fresh v6 = true) ∧ (fieldLE b 0 1 = 1) ∧ (fieldLE b 1 1 = 1) ∧ (12 ≤ b.length) ∧ (b.length = 12 + fieldLE b 8 2) ∧ (fieldLE b 10 2 = 0) ∧ ((idpCount s.m.fresh D.idp_rx).dv D.idp_v1_enable = 1) ∧ (gate (idpCount s.m.fresh D.idp_rx) ⟨.net, 1, fieldLE b 4 2, fieldLE b 6 1, 0, [], false, 0, .udp v6 a pt (slice b 0 12), 1024⟩ (findEntry (idpCount s.m.fresh D.idp_rx) (fieldLE b 4 2) (fieldLE b 6 1)) false = none) ∧ (¬(fieldLE b 4 2 = 0x1101 ∧ fieldLE b 6 1 = 1)) ∧ ((foundValue s.fuse (idpCount s.m.fresh D.idp_rx) (findEntry (idpCount s.m.fresh D.idp_rx) (fieldLE b 4 2) (fieldLE b 6 1))).1.length ≤ 1024) :=
  ⟨{ live with m := (((live.m.wr R.SYS.MODE_STATUS.CURRENT 4).dset D.idp_enable 1).dset D.ipv4_address 7).dset D.idp_v1_enable 1 }, false, 9, 9, [1, 1, 0, 0, 0, 0x10, 1, 0, 0, 0, 0, 0], by decide +kernel, by decide +kernel, by decide +kernel, by decide +kernel, by decide +kernel, by decide +kernel, by decide +kernel, by decide +kernel, by decide +kernel, by decide +kernel, by decide +kernel⟩

/-! ## DictionaryServiceCommands -/

theorem witness_sessionIdleTimeout : ∃ (s : State) (num : Nat), (s.Runs) :=
  ⟨live, 1, by decide +kernel⟩

theorem witness_blockStageTimeout_session : ∃ (s : State) (n : Nat), (s.Runs) :=
  ⟨live, 1, by decide +kernel⟩

theorem witness_blockStageTimeout_slot : ∃ (s : State) (n : Nat), (s.Runs) :=
  ⟨live, 1, by decide +kernel⟩

theorem witness_subscriptionLeaseExpiry : ∃ (s : State) (n : Nat), (s.Runs) :=
  ⟨live, 1, by decide +kernel⟩

theorem witness_remoteRequestTimeout : ∃ (s : State) (tag : Nat) (r : Remote), (s.Runs) ∧ (s.m.dic.remote.find? (fun r => r.tag == tag) = some r) :=
  ⟨{ live with m := { live.m with dic := { live.m.dic with remote := [⟨70, .slot 0⟩] } } }, 70, ⟨70, .slot 0⟩, by decide +kernel, by decide +kernel⟩

theorem witness_dictReq : ∃ (s : State) (n : Nat) (p : Packet), (s.Runs) ∧ (n < 4) ∧ (linkUp s.m n = true) ∧ (s.m.flag R.PASS.LINK_STATUS.MISWIRED n = false) ∧ (p.lseq = (linkRec s.m n).rxSeq) ∧ (forMe s.m p = true) ∧ (p.mcast = false) ∧ (s.m.mode ≠ 0) ∧ (s.m.mode ≠ 3) ∧ (24 ≤ p.data.length) ∧ (fieldLE p.data 8 1 = 2) :=
  ⟨{ live with m := (((live.m.wr R.SYS.MODE_STATUS.CURRENT 4).wr R.PASS.LINK_STATUS.UP 1 1)) }, 1, ⟨2, 6, false, 0, 1, 0, 9, false, List.replicate 8 0 ++ [2] ++ List.replicate 15 0⟩, by decide +kernel, by decide +kernel, by decide +kernel, by decide +kernel, by decide +kernel, by decide +kernel, by decide +kernel, by decide +kernel, by decide +kernel, by decide +kernel, by decide +kernel⟩

theorem witness_dictReply : ∃ (s : State) (n : Nat) (p : Packet) (r : Remote), (s.Runs) ∧ (n < 4) ∧ (linkUp s.m n = true) ∧ (s.m.flag R.PASS.LINK_STATUS.MISWIRED n = false) ∧ (p.lseq = (linkRec s.m n).rxSeq) ∧ (forMe s.m p = true) ∧ (p.mcast = false) ∧ (s.m.dic.remote.find? (fun r => r.tag == fieldLE p.data 6 2) = some r) ∧ (64 ≤ fieldLE p.data 6 2) :=
  ⟨{ live with m := { (((live.m.wr R.SYS.MODE_STATUS.CURRENT 4).wr R.PASS.LINK_STATUS.UP 1 1)) with dic := { live.m.dic with remote := [⟨70, .slot 0⟩] } } }, 1, ⟨2, 7, false, 0, 1, 0, 9, false, [0, 0, 0, 0, 0, 0, 70, 0]⟩, ⟨70, .slot 0⟩, by decide +kernel, by decide +kernel, by decide +kernel, by decide +kernel, by decide +kernel, by decide +kernel, by decide +kernel, by decide +kernel, by decide +kernel⟩

theorem witness_notifyRelay : ∃ (s : State) (n : Nat) (p : Packet) (q : Sub) (v6 : Bool) (a pt node : Nat), (s.Runs) ∧ (n < 4) ∧ (linkUp s.m n = true) ∧ (s.m.flag R.PASS.LINK_STATUS.MISWIRED n = false) ∧ (p.lseq = (linkRec s.m n).rxSeq) ∧ (forMe s.m p = true) ∧ (p.mcast = false) ∧ (s.m.dic.subs.getD (fieldLE p.data 0 2) none = some q) ∧ (q.to_ = .remote v6 a pt node) :=
  ⟨{ live with m := { (((live.m.wr R.SYS.MODE_STATUS.CURRENT 4).wr R.PASS.LINK_STATUS.UP 1 1)) with dic := { live.m.dic with subs := [some ⟨.remote false 1 2 3, 0x1000, 1, 1, 0, [], 0⟩] } } }, 1, ⟨2, 8, false, 0, 1, 0, 9, false, [0, 0, 5]⟩, ⟨.remote false 1 2 3, 0x1000, 1, 1, 0, [], 0⟩, false, 1, 2, 3, by decide +kernel, by decide +kernel, by decide +kernel, by decide +kernel, by decide +kernel, by decide +kernel, by decide +kernel, by decide +kernel, by decide +kernel⟩

theorem witness_spareSwap : ∃ (s : State) (p : Principal) (kind unit : Nat) (e : DEntry), (s.Runs) ∧ (p = .bed ∨ (p = .fw ∧ s.m.sec.cores = true)) ∧ (findEntry s.m 0xB020 1 = .entry e) ∧ (gate s.m ⟨p, 2, 0xB020, 1, 0, toLE 2 (kind % 256 * 256 + unit % 256), true, 0, .port p, 2 ^ 24⟩ (.entry e) true = none) ∧ ((writeEntry s.fuse s.m.fresh p e (toLE 2 (kind % 256 * 256 + unit % 256))).1 = DICT_PENDING) :=
  ⟨{ live with m := (live.m.wr R.SYS.MODE_STATUS.CURRENT 5) }, .bed, 1, 3, ⟨0xB020, 0x01, .uint, 2, 0, 65535, 0x70, .v, true, false, .own D.spare_swap, false⟩, by decide +kernel, by decide +kernel, by decide +kernel, by decide +kernel, by decide +kernel⟩

/-! ## FabricCommands -/

theorem witness_hello_wired : ∃ (s : State) (n : Nat) (p : Packet), (s.Runs) ∧ (n < 4) ∧ (linkUp s.m n = true) ∧ (p.lseq = (linkRec s.m n).rxSeq) ∧ (fieldLE p.data 16 1 = (n + 2) % 4) ∧ (fieldLE p.data 17 1 < 3) :=
  ⟨{ live with m := (((live.m.wr R.SYS.MODE_STATUS.CURRENT 4).wr R.PASS.LINK_STATUS.UP 1 1)) }, 1, ⟨2, 1, false, 0, 1, 0, 9, false, List.replicate 16 0 ++ [3, 1, 5, 0, 0, 0, 2, 0]⟩, by decide +kernel, by decide +kernel, by decide +kernel, by decide +kernel, by decide +kernel, by decide +kernel⟩

theorem witness_hello_miswired : ∃ (s : State) (n : Nat) (p : Packet), (s.Runs) ∧ (n < 4) ∧ (linkUp s.m n = true) ∧ (p.lseq = (linkRec s.m n).rxSeq) ∧ (fieldLE p.data 16 1 ≠ (n + 2) % 4) ∧ (s.m.flag R.PASS.LINK_STATUS.MISWIRED n = false) :=
  ⟨{ live with m := (((live.m.wr R.SYS.MODE_STATUS.CURRENT 4).wr R.PASS.LINK_STATUS.UP 1 1)) }, 1, ⟨2, 1, false, 0, 1, 0, 9, false, List.replicate 16 0 ++ [2, 1, 5, 0, 0, 0, 2, 0]⟩, by decide +kernel, by decide +kernel, by decide +kernel, by decide +kernel, by decide +kernel, by decide +kernel⟩

theorem witness_helloSend : ∃ (s : State), (s.Runs) :=
  ⟨live, by decide +kernel⟩

theorem witness_helloTimeout : ∃ (s : State) (n : Nat), (s.Runs) :=
  ⟨live, 1, by decide +kernel⟩

theorem witness_elect_lower : ∃ (s : State) (n : Nat) (p : Packet) (c : Nat), (s.Runs) ∧ (n < 4) ∧ (linkUp s.m n = true) ∧ (p.lseq = (linkRec s.m n).rxSeq) ∧ (s.m.flag R.PASS.LINK_STATUS.MISWIRED n = false) ∧ (fabState s.m = FS_ELECTING) ∧ (s.m.fab.cand = some c) ∧ (hDie p.data 0 ≠ 0) ∧ (hDie p.data 0 < c) :=
  ⟨{ live with m := { ((((live.m.wr R.SYS.MODE_STATUS.CURRENT 4).wr R.PASS.LINK_STATUS.UP 1 1)).wr R.PASS.STATUS.STATE 2) with fab := { live.m.fab with cand := some 9 } } }, 1, ⟨2, 2, false, 0, 1, 0, 9, false, [7, 0]⟩, 9, by decide +kernel, by decide +kernel, by decide +kernel, by decide +kernel, by decide +kernel, by decide +kernel, by decide +kernel, by decide +kernel, by decide +kernel⟩

theorem witness_electionSettled_elsewhere : ∃ (s : State) (c : Nat), (s.Runs) ∧ (s.m.fab.cand = some c) ∧ (fabState s.m = FS_ELECTING) ∧ (c ≠ dieNum s.m.fresh) :=
  ⟨{ live with m := { (live.m.wr R.PASS.STATUS.STATE 2) with fab := { live.m.fab with cand := some 9 } } }, 9, by decide +kernel, by decide +kernel, by decide +kernel, by decide +kernel⟩

theorem witness_leaderContactLost : ∃ (s : State), (s.Runs) ∧ (fabState s.m = FS_JOINED) ∧ (s.m.flag R.PASS.STATUS.IS_LEADER = false) :=
  ⟨{ live with m := live.m.wr R.PASS.STATUS.STATE 4 }, by decide +kernel, by decide +kernel, by decide +kernel⟩

theorem witness_coordReport_leader : ∃ (s : State) (n : Nat) (p : Packet), (s.Runs) ∧ (n < 4) ∧ (linkUp s.m n = true) ∧ (p.lseq = (linkRec s.m n).rxSeq) ∧ (s.m.flag R.PASS.LINK_STATUS.MISWIRED n = false) ∧ (s.m.flag R.PASS.STATUS.IS_LEADER = true) :=
  ⟨{ live with m := ((((live.m.wr R.SYS.MODE_STATUS.CURRENT 4).wr R.PASS.LINK_STATUS.UP 1 1)).wr R.PASS.STATUS.IS_LEADER 1) }, 1, ⟨2, 3, false, 0, 1, 0, 9, false, [7, 0]⟩, by decide +kernel, by decide +kernel, by decide +kernel, by decide +kernel, by decide +kernel, by decide +kernel⟩

theorem witness_coordReport_onward : ∃ (s : State) (n : Nat) (p : Packet), (s.Runs) ∧ (n < 4) ∧ (linkUp s.m n = true) ∧ (p.lseq = (linkRec s.m n).rxSeq) ∧ (s.m.flag R.PASS.LINK_STATUS.MISWIRED n = false) ∧ (s.m.flag R.PASS.STATUS.IS_LEADER = false) ∧ (1 < p.hops) :=
  ⟨{ live with m := (((live.m.wr R.SYS.MODE_STATUS.CURRENT 4).wr R.PASS.LINK_STATUS.UP 1 1)) }, 1, ⟨2, 3, false, 0, 1, 0, 9, false, [7, 0]⟩, by decide +kernel, by decide +kernel, by decide +kernel, by decide +kernel, by decide +kernel, by decide +kernel, by decide +kernel⟩

theorem witness_coordOffset_joins : ∃ (s : State) (n : Nat) (p : Packet) (u v : Int), (s.Runs) ∧ (n < 4) ∧ (linkUp s.m n = true) ∧ (s.m.flag R.PASS.LINK_STATUS.MISWIRED n = false) ∧ (p.lseq = (linkRec s.m n).rxSeq) ∧ (p.mcast = true) ∧ (fabAddr s.m = none) ∧ (s.m.flag R.PASS.STATUS.IS_LEADER = false) ∧ (s.m.fab.rel = some (u, v)) ∧ (1 < p.hops) :=
  ⟨{ live with m := { (((live.m.wr R.SYS.MODE_STATUS.CURRENT 4).wr R.PASS.LINK_STATUS.UP 1 1)) with fab := { live.m.fab with rel := some (0, 1) } } }, 1, ⟨2, 4, true, 0, 1, 0, 9, false, [1, 1, 3, 3, 0, 0, 0, 0, 0, 0, 0, 0, 5, 0]⟩, 0, 1, by decide +kernel, by decide +kernel, by decide +kernel, by decide +kernel, by decide +kernel, by decide +kernel, by decide +kernel, by decide +kernel, by decide +kernel, by decide +kernel⟩

theorem witness_linkState_report : ∃ (s : State) (n : Nat) (p : Packet), (s.Runs) ∧ (n < 4) ∧ (linkUp s.m n = true) ∧ (s.m.flag R.PASS.LINK_STATUS.MISWIRED n = false) ∧ (p.lseq = (linkRec s.m n).rxSeq) ∧ (forMe s.m p = true) ∧ (p.mcast = false) ∧ (s.m.flag R.PASS.STATUS.IS_LEADER = true) :=
  ⟨{ live with m := ((((live.m.wr R.SYS.MODE_STATUS.CURRENT 4).wr R.PASS.LINK_STATUS.UP 1 1)).wr R.PASS.STATUS.IS_LEADER 1) }, 1, ⟨2, 5, false, 0, 1, 0, 9, false, [7, 0, 3]⟩, by decide +kernel, by decide +kernel, by decide +kernel, by decide +kernel, by decide +kernel, by decide +kernel, by decide +kernel, by decide +kernel⟩

theorem witness_linkStateMulticast : ∃ (s : State), (s.Runs) ∧ (s.m.flag R.PASS.STATUS.IS_LEADER = true) ∧ (s.m.fab.mapDirty = true) :=
  ⟨{ live with m := { (live.m.wr R.PASS.STATUS.IS_LEADER 1) with fab := { live.m.fab with mapDirty := true } } }, by decide +kernel, by decide +kernel, by decide +kernel⟩

theorem witness_linkAck : ∃ (s : State) (n next : Nat) (credits : List Nat), (s.Runs) ∧ (n < 4) ∧ (linkUp s.m n = true) ∧ (next = (linkRec s.m n).txSeq) :=
  ⟨{ live with m := (((live.m.wr R.SYS.MODE_STATUS.CURRENT 4).wr R.PASS.LINK_STATUS.UP 1 1)) }, 1, 0, [], by decide +kernel, by decide +kernel, by decide +kernel, by decide +kernel⟩

theorem witness_linkResendTimeout : ∃ (s : State) (n : Nat), (s.Runs) ∧ (n < 4) ∧ (linkUp s.m n = true) :=
  ⟨{ live with m := (((live.m.wr R.SYS.MODE_STATUS.CURRENT 4).wr R.PASS.LINK_STATUS.UP 1 1)) }, 1, by decide +kernel, by decide +kernel, by decide +kernel⟩

theorem witness_packetLengthTimeout : ∃ (s : State) (n : Nat), (s.Runs) ∧ (n < 4) ∧ (linkUp s.m n = true) :=
  ⟨{ live with m := (((live.m.wr R.SYS.MODE_STATUS.CURRENT 4).wr R.PASS.LINK_STATUS.UP 1 1)) }, 1, by decide +kernel, by decide +kernel, by decide +kernel⟩

theorem witness_linkMask : ∃ (s : State) (n mask : Nat), (s.Runs) :=
  ⟨live, 1, 3, by decide +kernel⟩

theorem witness_timeUnit_apart : ∃ (s : State) (n seq hops stamp adv : Nat), (s.Runs) ∧ (n < 4) ∧ (linkUsable s.m n = true) ∧ (fabState (timeOn ((unitNote (advance s.m.fresh adv) n seq hops (stamp + (linkRec (advance s.m.fresh adv) n).delay)).draw (2 ^ 32)).2 (((unitNote (advance s.m.fresh adv) n seq hops (stamp + (linkRec (advance s.m.fresh adv) n).delay)).draw (2 ^ 32)).2.rd R.PASS.LEADER.TIME_ADDR) seq (hops + 1) ((stamp + (linkRec (advance s.m.fresh adv) n).delay) + ((unitNote (advance s.m.fresh adv) n seq hops (stamp + (linkRec (advance s.m.fresh adv) n).delay)).draw (2 ^ 32)).1)) ≠ FS_JOINED) :=
  ⟨{ live with m := linkMod (((live.m.wr R.SYS.MODE_STATUS.CURRENT 4).wr R.PASS.LINK_STATUS.UP 1 1)) 1 (fun l => { l with hello := true }) }, 1, 0, 0, 5, 0, by decide +kernel, by decide +kernel, by decide +kernel, by decide +kernel⟩

theorem witness_timeUnitSend : ∃ (s : State) (adv a : Nat), (s.Runs) ∧ (fabAddr s.m = some a) ∧ (s.m.flag R.PASS.STATUS.IS_TIME_SOURCE = true) :=
  ⟨{ live with m := (live.m.wr R.PASS.STATUS.STATE 4).wr R.PASS.STATUS.IS_TIME_SOURCE 1 }, 0, 4095, by decide +kernel, by decide +kernel, by decide +kernel⟩

theorem witness_linkDelayMeasure : ∃ (s : State) (n round residence : Nat), (s.Runs) ∧ (n < 4) ∧ (linkUp s.m n = true) :=
  ⟨{ live with m := (((live.m.wr R.SYS.MODE_STATUS.CURRENT 4).wr R.PASS.LINK_STATUS.UP 1 1)) }, 1, 9, 3, by decide +kernel, by decide +kernel, by decide +kernel⟩

theorem witness_fabricMerge_lower : ∃ (s : State) (c : Nat), (s.Runs) ∧ (s.m.fab.merge = some c) ∧ (leaderNum s.m ≤ c) :=
  ⟨{ live with m := { live.m with fab := { live.m.fab with merge := some 9 } } }, 9, by decide +kernel, by decide +kernel, by decide +kernel⟩

/-! ## LaneCommands -/

theorem witness_laneLost : ∃ (s : State) (n : Nat), (s.Runs) ∧ (n < 48) ∧ (laneServ s.m n = true) ∧ (inMask s.m n = false) ∧ ((bucketAdd (hev ((veinEv (laneCode (setLane (laneMod (s.m.fresh.lwr n R.VEIN.LANE_STATUS.REV_LOCK 0) n (fun l => { l with rejoin := true, tap := none, leave := false, target := laneGen (s.m.fresh.lwr n R.VEIN.LANE_STATUS.REV_LOCK 0) n })) n L_LOST) n LANE_LOCK_LOST) n E.VEIN.LANE_LOST).add R.VEIN.LANE_LOSSES.COUNT 1) 128) 4 n 1 LANE_LOCK_LOST 0).1 = false) :=
  ⟨{ live with m := (live.m.lwr 5 R.VEIN.LANE_STATUS.STATE L_READY) }, 5, by decide +kernel, by decide +kernel, by decide +kernel, by decide +kernel, by decide +kernel⟩

theorem witness_laneReverseSilence : ∃ (s : State) (n : Nat), (s.Runs) ∧ (n < 48) ∧ (laneServ s.m n = true) ∧ (inMask s.m n = false) ∧ ((bucketAdd (hev ((veinEv (laneCode (setLane (laneMod (s.m.fresh.lwr n R.VEIN.LANE_STATUS.REV_LOCK 0) n (fun l => { l with rejoin := true, tap := none, leave := false, target := laneGen (s.m.fresh.lwr n R.VEIN.LANE_STATUS.REV_LOCK 0) n })) n L_LOST) n LANE_LOCK_LOST) n E.VEIN.LANE_LOST).add R.VEIN.LANE_LOSSES.COUNT 1) 128) 4 n 1 LANE_LOCK_LOST 0).1 = false) ∧ (s.m.lrd n R.VEIN.LANE_CTRL.RX_PWR = 0) :=
  ⟨{ live with m := (live.m.lwr 5 R.VEIN.LANE_STATUS.STATE L_READY).lwr 5 R.VEIN.LANE_CTRL.RX_PWR 0 }, 5, by decide +kernel, by decide +kernel, by decide +kernel, by decide +kernel, by decide +kernel, by decide +kernel⟩

theorem witness_laneNoSignal_training : ∃ (s : State) (n : Nat), (s.Runs) ∧ (n < 48) ∧ (laneState s.m n = L_EQ) ∧ (s.m.lrd n R.VEIN.LANE_CTRL.RX_PWR = 0) :=
  ⟨{ live with m := (live.m.lwr 5 R.VEIN.LANE_STATUS.STATE L_EQ).lwr 5 R.VEIN.LANE_CTRL.RX_PWR 0 }, 5, by decide +kernel, by decide +kernel, by decide +kernel, by decide +kernel⟩

theorem witness_bcStatus : ∃ (s : State) (n locks shown tick subst : Nat), (s.Runs) ∧ (n < 48) :=
  ⟨live, 5, 15, 0, 0, 0, by decide +kernel, by decide +kernel⟩

theorem witness_bcLockLost : ∃ (s : State) (n lanes : Nat), (s.Runs) ∧ (n < 48) :=
  ⟨live, 5, 15, by decide +kernel, by decide +kernel⟩

theorem witness_bcTapReq_preset : ∃ (s : State) (n preOp postOp pst : Nat), (s.Runs) ∧ (n < 64) ∧ (pst < 8) ∧ (tapsOk (preset pst).1 (preset pst).2 = true) ∧ (laneState s.m n = L_EQ) ∧ (s.m.lrd n R.VEIN.LANE_STATUS.PENDING = 0) :=
  ⟨{ live with m := (live.m.lwr 5 R.VEIN.LANE_STATUS.STATE L_EQ) }, 5, 0, 0, 3, by decide +kernel, by decide +kernel, by decide +kernel, by decide +kernel, by decide +kernel, by decide +kernel⟩

theorem witness_bcTapReq_tracking : ∃ (s : State) (n preOp postOp pst u v : Nat), (s.Runs) ∧ (n < 64) ∧ (8 ≤ pst) ∧ (tapStep (curCoef s.m n).pre preOp = some u) ∧ (tapStep (curCoef s.m n).post postOp = some v) ∧ (tapsOk u v = true) ∧ (laneState s.m n ≠ L_EQ) ∧ (laneServ s.m n = true) ∧ (s.m.dv D.tap_tracking = 1) :=
  ⟨{ live with m := (live.m.lwr 5 R.VEIN.LANE_STATUS.STATE L_READY).dset D.tap_tracking 1 }, 5, 0, 0, 8, 0, 6, by decide +kernel, by decide +kernel, by decide +kernel, by decide +kernel, by decide +kernel, by decide +kernel, by decide +kernel, by decide +kernel, by decide +kernel⟩

theorem witness_bcEye : ∃ (s : State) (n w h : Nat), (s.Runs) ∧ (n < 64) ∧ (laneState s.m n ≠ L_EQ) :=
  ⟨live, 5, 1, 1, by decide +kernel, by decide +kernel, by decide +kernel⟩

theorem witness_bcLineCrc : ∃ (s : State) (n y tick : Nat), (s.Runs) ∧ (n < 48) :=
  ⟨live, 5, 0, 0, by decide +kernel, by decide +kernel⟩

theorem witness_trainingSet_align : ∃ (s : State) (n gen pst : Nat), (s.Runs) ∧ (n < 64) ∧ (laneState s.m n = L_CHECK) ∧ (lanePaused s.m n = false) :=
  ⟨{ live with m := laneMod (live.m.lwr 5 R.VEIN.LANE_STATUS.STATE L_CHECK) 5 (fun l => { l with required := true }) }, 5, 1, 0, by decide +kernel, by decide +kernel, by decide +kernel, by decide +kernel⟩

theorem witness_laneEqTimeout : ∃ (s : State) (n : Nat), (s.Runs) ∧ (n < 64) ∧ (laneState s.m n = L_EQ) ∧ (lanePaused s.m n = false) :=
  ⟨{ live with m := laneMod (live.m.lwr 5 R.VEIN.LANE_STATUS.STATE L_EQ) 5 (fun l => { l with required := true }) }, 5, by decide +kernel, by decide +kernel, by decide +kernel, by decide +kernel⟩

theorem witness_laneTrained_pass : ∃ (s : State) (n w h ctle : Nat), (s.Runs) ∧ (n < 48) ∧ (laneState s.m n = L_CHECK) ∧ (lanePaused s.m n = false) ∧ (s.m.lrd n R.VEIN.LANE_EYE_FWD.VALID = 0) ∧ (s.m.dv D.eye_width_min ≤ w) ∧ (s.m.dv D.eye_height_min ≤ h) ∧ ((laneRec s.m n).fast = false) :=
  ⟨{ live with m := laneMod (live.m.lwr 5 R.VEIN.LANE_STATUS.STATE L_CHECK) 5 (fun l => { l with required := true }) }, 5, 1000, 1000, 3, by decide +kernel, by decide +kernel, by decide +kernel, by decide +kernel, by decide +kernel, by decide +kernel, by decide +kernel, by decide +kernel⟩

theorem witness_laneGenChange : ∃ (s : State) (n : Nat), (s.Runs) ∧ (n < 64) :=
  ⟨live, 5, by decide +kernel, by decide +kernel⟩

theorem witness_retrain_active : ∃ (s : State) (n : Nat), (s.Runs) ∧ (n < 48) ∧ (laneState s.m n = L_ACTIVE) :=
  ⟨{ live with m := (live.m.lwr 5 R.VEIN.LANE_STATUS.STATE L_ACTIVE) }, 5, by decide +kernel, by decide +kernel, by decide +kernel⟩

theorem witness_laneRestore : ∃ (s : State) (n : Nat), (s.Runs) ∧ (n < 64) ∧ (laneState s.m n = L_RETIRED) :=
  ⟨{ live with m := (live.m.lwr 5 R.VEIN.LANE_STATUS.STATE L_RETIRED) }, 5, by decide +kernel, by decide +kernel, by decide +kernel⟩

theorem witness_laneLoop_on : ∃ (s : State) (n loop : Nat), (s.Runs) ∧ (n < 48) ∧ (1 ≤ loop) ∧ (loop ≤ 2) ∧ (s.m.mode = 10) ∧ (laneState s.m n ≠ L_RETIRED) :=
  ⟨{ live with m := live.m.wr R.SYS.MODE_STATUS.CURRENT 10 }, 5, 1, by decide +kernel, by decide +kernel, by decide +kernel, by decide +kernel, by decide +kernel, by decide +kernel⟩

/-! ## TimeCommands -/

theorem witness_ptpSync_two : ∃ (s : State) (num sender seq : Nat) (rx cf : Int) (adv d : Nat), (s.Runs) ∧ (ptpDomain (advance s.m.fresh adv) num = some d) ∧ ((domRec (advance s.m.fresh adv) d).best = some sender) :=
  ⟨{ live with m := (domMod ((live.m.wr R.TIME.CTRL.PTP_EN 1).wr R.SYS.MODE_STATUS.CURRENT 4) 0 (fun r => { r with best := some 9, wait := some (3, 4, 5), sync := some (1, 2, 3), req := some (3, 4) })) }, 127, 9, 3, 7, 0, 0, 0, by decide +kernel, by decide +kernel, by decide +kernel⟩

theorem witness_ptpSync_one : ∃ (s : State) (num sender seq : Nat) (rx t1 cf : Int) (adv d : Nat), (s.Runs) ∧ (ptpDomain (advance s.m.fresh adv) num = some d) ∧ ((domRec (advance s.m.fresh adv) d).best = some sender) :=
  ⟨{ live with m := (domMod ((live.m.wr R.TIME.CTRL.PTP_EN 1).wr R.SYS.MODE_STATUS.CURRENT 4) 0 (fun r => { r with best := some 9, wait := some (3, 4, 5), sync := some (1, 2, 3), req := some (3, 4) })) }, 127, 9, 3, 7, 5, 0, 0, 0, by decide +kernel, by decide +kernel, by decide +kernel⟩

theorem witness_ptpFollowUp : ∃ (s : State) (num sender seq : Nat) (t1 cf : Int) (d : Nat) (t2 c : Int), (s.Runs) ∧ (ptpDomain s.m num = some d) ∧ ((domRec s.m d).wait = some (seq, t2, c)) ∧ ((domRec s.m d).best = some sender) :=
  ⟨{ live with m := (domMod ((live.m.wr R.TIME.CTRL.PTP_EN 1).wr R.SYS.MODE_STATUS.CURRENT 4) 0 (fun r => { r with best := some 9, wait := some (3, 4, 5), sync := some (1, 2, 3), req := some (3, 4) })) }, 127, 9, 3, 7, 5, 0, 4, 5, by decide +kernel, by decide +kernel, by decide +kernel, by decide +kernel⟩

theorem witness_ptpDelayReq : ∃ (s : State) (d : Nat) (tx : Int) (adv num : Nat), (s.Runs) ∧ (d < 2) ∧ ((if d = 0 then (advance s.m.fresh adv).rd R.TIME.DOMAINS.DOMAIN_A else (advance s.m.fresh adv).rd R.TIME.DOMAINS.DOMAIN_B) = num) ∧ (ptpDomain (advance s.m.fresh adv) num = some d) ∧ ((domRec (advance s.m.fresh adv) d).best.isSome = true) :=
  ⟨{ live with m := (domMod ((live.m.wr R.TIME.CTRL.PTP_EN 1).wr R.SYS.MODE_STATUS.CURRENT 4) 0 (fun r => { r with best := some 9, wait := some (3, 4, 5), sync := some (1, 2, 3), req := some (3, 4) })) }, 0, 7, 0, 127, by decide +kernel, by decide +kernel, by decide +kernel, by decide +kernel, by decide +kernel⟩

theorem witness_ptpDelayResp : ∃ (s : State) (num sender seq : Nat) (t4 cf : Int) (adv d : Nat) (t1 t2 t3 c : Int), (s.Runs) ∧ (ptpDomain (advance s.m.fresh adv) num = some d) ∧ ((domRec (advance s.m.fresh adv) d).req = some (seq, t3)) ∧ ((domRec (advance s.m.fresh adv) d).sync = some (t1, t2, c)) ∧ ((domRec (advance s.m.fresh adv) d).best = some sender) :=
  ⟨{ live with m := (domMod ((live.m.wr R.TIME.CTRL.PTP_EN 1).wr R.SYS.MODE_STATUS.CURRENT 4) 0 (fun r => { r with best := some 9, wait := some (3, 4, 5), sync := some (1, 2, 3), req := some (3, 4) })) }, 127, 9, 3, 7, 0, 0, 0, 1, 2, 4, 3, by decide +kernel, by decide +kernel, by decide +kernel, by decide +kernel, by decide +kernel⟩

theorem witness_ptpSignaling_request : ∃ (s : State) (num dur d : Nat) (logInt : Int), (s.Runs) ∧ (ptpDomain s.m num = some d) :=
  ⟨{ live with m := (domMod ((live.m.wr R.TIME.CTRL.PTP_EN 1).wr R.SYS.MODE_STATUS.CURRENT 4) 0 (fun r => { r with best := some 9, wait := some (3, 4, 5), sync := some (1, 2, 3), req := some (3, 4) })) }, 127, 0, 0, 5, by decide +kernel, by decide +kernel⟩

theorem witness_ptpSignaling_grant : ∃ (s : State) (num typ dur d : Nat) (logInt : Int), (s.Runs) ∧ (ptpDomain s.m num = some d) ∧ (dur ≠ 0) :=
  ⟨{ live with m := (domMod ((live.m.wr R.TIME.CTRL.PTP_EN 1).wr R.SYS.MODE_STATUS.CURRENT 4) 0 (fun r => { r with best := some 9, wait := some (3, 4, 5), sync := some (1, 2, 3), req := some (3, 4) })) }, 127, 0, 9, 0, 5, by decide +kernel, by decide +kernel, by decide +kernel⟩

theorem witness_ptpAnnounceTimeout_sync : ∃ (s : State) (d : Nat), (s.Runs) ∧ (d < 2) :=
  ⟨live, 0, by decide +kernel, by decide +kernel⟩

theorem witness_timeUnlocked : ∃ (s : State), (s.Runs) ∧ (timeState s.m = T_LOCKED) :=
  ⟨{ live with m := live.m.wr R.TIME.STATUS.STATE T_LOCKED }, by decide +kernel, by decide +kernel⟩

theorem witness_ptpAnnounce : ∃ (s : State) (num : Nat) (data : List Nat) (utc : Int) (d : Nat), (s.Runs) ∧ (ptpDomain s.m num = some d) ∧ ((bestMaster (⟨data, ((((domRec s.m.fresh d).masters.find? (fun q => q.data.getD 7 0 == data.getD 7 0)).map (·.count)).getD 0 + 1)⟩ :: (domRec s.m.fresh d).masters.filter (fun q => q.data.getD 7 0 != data.getD 7 0))).map (fun q => q.data.getD 7 0) ≠ some (data.getD 7 0)) :=
  ⟨{ live with m := (domMod ((live.m.wr R.TIME.CTRL.PTP_EN 1).wr R.SYS.MODE_STATUS.CURRENT 4) 0 (fun r => { r with best := some 9, wait := some (3, 4, 5), sync := some (1, 2, 3), req := some (3, 4) })) }, 127, [1, 1, 1, 1, 1, 1, 1, 8], 37, 0, by decide +kernel, by decide +kernel, by decide +kernel⟩

theorem witness_triggerArm : ∃ (s : State) (n ctrl lo hi period : Nat), (s.Runs) ∧ (n < 8) ∧ (trigLeft ((trigMod (trigWrite s.m.fresh n ctrl lo hi period) n (fun _ => ⟨none, none, 0⟩)).wr R.TIME.TRIG_STATUS.ACTIVE (b2n (trigLeft (trigMod (trigWrite s.m.fresh n ctrl lo hi period) n (fun _ => ⟨none, none, 0⟩)) n)) n) n = true) ∧ (trigTicks ((trigMod (trigWrite s.m.fresh n ctrl lo hi period) n (fun _ => ⟨none, none, 0⟩)).wr R.TIME.TRIG_STATUS.ACTIVE (b2n (trigLeft (trigMod (trigWrite s.m.fresh n ctrl lo hi period) n (fun _ => ⟨none, none, 0⟩)) n)) n) n = false) ∧ (((trigMod (trigWrite s.m.fresh n ctrl lo hi period) n (fun _ => ⟨none, none, 0⟩)).wr R.TIME.TRIG_STATUS.ACTIVE (b2n (trigLeft (trigMod (trigWrite s.m.fresh n ctrl lo hi period) n (fun _ => ⟨none, none, 0⟩)) n)) n).tim.now ≤ trigStart ((trigMod (trigWrite s.m.fresh n ctrl lo hi period) n (fun _ => ⟨none, none, 0⟩)).wr R.TIME.TRIG_STATUS.ACTIVE (b2n (trigLeft (trigMod (trigWrite s.m.fresh n ctrl lo hi period) n (fun _ => ⟨none, none, 0⟩)) n)) n) n * 65536) :=
  ⟨live, 1, 1, 0, 1, 100, by decide +kernel, by decide +kernel, by decide +kernel, by decide +kernel, by decide +kernel⟩

theorem witness_triggerFire : ∃ (s : State) (u : Int), (s.Runs) ∧ (trigNext s.m = some u) ∧ (u < nextTick s.m) ∧ (s.m.tim.now < u * 65536) :=
  ⟨{ live with m := trigMod { live.m with tim := { live.m.tim with now := (nextTick live.m - 5) * 65536 } } 1 (fun t => { t with next := some (nextTick live.m - 1) }) }, nextTick live.m - 1, by decide +kernel, by decide +kernel, by decide +kernel, by decide +kernel⟩

/-! ## DramCommands -/

theorem witness_dramRead : ∃ (s : State) (master addr len : Nat), (s.Runs) ∧ (inCap s.m addr len = true) ∧ (chanReady s.m addr = true) ∧ (poisoned s.m addr len = none) :=
  ⟨{ live with m := (((live.m.wr R.DRAM.STATUS.SERVICEABLE 1).wr R.DRAM.CAPACITY.MIB 4).wr R.DRAM.CH_STATUS.STATE 2 0) }, 1, 64, 32, by decide +kernel, by decide +kernel, by decide +kernel, by decide +kernel⟩

theorem witness_dramWrite : ∃ (s : State) (master addr : Nat) (data : List Byte) (bad : Bool), (s.Runs) ∧ (inCap s.m addr data.length = true) ∧ (chanReady s.m addr = true) :=
  ⟨{ live with m := (((live.m.wr R.DRAM.STATUS.SERVICEABLE 1).wr R.DRAM.CAPACITY.MIB 4).wr R.DRAM.CH_STATUS.STATE 2 0) }, 1, 64, [1, 2], false, by decide +kernel, by decide +kernel, by decide +kernel⟩

theorem witness_dramRefresh : ∃ (s : State) (ch bank : Nat), (s.Runs) :=
  ⟨live, 0, 0, by decide +kernel⟩

theorem witness_refreshWindowEnd : ∃ (s : State) (ch : Nat), (s.Runs) :=
  ⟨live, 0, by decide +kernel⟩

theorem witness_dramTempPoll : ∃ (s : State) (ch rate : Nat), (s.Runs) ∧ ((dramChannels s.m).contains ch = true) :=
  ⟨{ live with m := (((live.m.wr R.DRAM.STATUS.SERVICEABLE 1).wr R.DRAM.CAPACITY.MIB 4).wr R.DRAM.CH_STATUS.STATE 2 0) }, 0, 2, by decide +kernel, by decide +kernel⟩

theorem witness_pageIdleClose : ∃ (s : State) (ch bank : Nat), (s.Runs) :=
  ⟨live, 0, 0, by decide +kernel⟩

theorem witness_dramTracking : ∃ (s : State) (ch : Nat) (move : Int) (ca rd wr vref : Nat), (s.Runs) ∧ (chanState s.m ch = 2) ∧ (s.m.dv D.margin_min ≤ ca) ∧ (s.m.dv D.margin_min ≤ rd) ∧ (s.m.dv D.margin_min ≤ wr) ∧ (s.m.dv D.margin_min ≤ vref) :=
  ⟨{ live with m := (((live.m.wr R.DRAM.STATUS.SERVICEABLE 1).wr R.DRAM.CAPACITY.MIB 4).wr R.DRAM.CH_STATUS.STATE 2 0) }, 0, 1, 100, 100, 100, 100, by decide +kernel, by decide +kernel, by decide +kernel, by decide +kernel, by decide +kernel, by decide +kernel⟩

theorem witness_dramRetrain : ∃ (s : State), (s.Runs) ∧ (trainMode s.m.mode = true) :=
  ⟨{ live with m := (live.m.wr R.SYS.MODE_STATUS.CURRENT 4) }, by decide +kernel, by decide +kernel⟩

theorem witness_setpointRequest : ∃ (s : State) (sp : Nat), (s.Runs) ∧ ((dramChannels (s.m.fresh.wr R.DRAM.CTRL.SETPOINT sp)).any (fun c => chanState (s.m.fresh.wr R.DRAM.CTRL.SETPOINT sp) c == 3) = false) ∧ (dramTraining (s.m.fresh.wr R.DRAM.CTRL.SETPOINT sp) = false) ∧ (sp % 4 ≠ (s.m.fresh.wr R.DRAM.CTRL.SETPOINT sp).rd R.DRAM.STATUS.SP) ∧ ((dramChannels (s.m.fresh.wr R.DRAM.CTRL.SETPOINT sp)).all (fun c => chanTrained (s.m.fresh.wr R.DRAM.CTRL.SETPOINT sp) c (sp % 4)) = true) :=
  ⟨{ live with m := (((live.m.wr R.DRAM.STATUS.SERVICEABLE 1).wr R.DRAM.CAPACITY.MIB 4).wr R.DRAM.CH_STATUS.STATE 2 0).wr R.DRAM.CH_STATUS.TRAINED_SP 15 0 }, 1, by decide +kernel, by decide +kernel, by decide +kernel, by decide +kernel, by decide +kernel⟩

theorem witness_selfRefreshEntry : ∃ (s : State), (s.Runs) ∧ (s.m.mode = 1 ∨ s.m.mode = 2) ∧ (s.m.mc.imm = none) :=
  ⟨{ live with m := (live.m.wr R.SYS.MODE_STATUS.CURRENT 1) }, by decide +kernel, by decide +kernel, by decide +kernel⟩

theorem witness_selfRefreshExit : ∃ (s : State), (s.Runs) ∧ ((dramChannels s.m).any (fun c => chanState s.m c == 3) = true) ∧ ((dramRefresh (s.m.fresh.each (dramChannels s.m.fresh) (fun m c => m.wr R.DRAM.CH_STATUS.STATE 2 c))).dr.walk = none) ∧ ((dramRefresh (s.m.fresh.each (dramChannels s.m.fresh) (fun m c => m.wr R.DRAM.CH_STATUS.STATE 2 c))).flag R.DRAM.STATUS.PENDING = false) :=
  ⟨{ live with m := (((live.m.wr R.DRAM.STATUS.SERVICEABLE 1).wr R.DRAM.CAPACITY.MIB 4).wr R.DRAM.CH_STATUS.STATE 2 0).wr R.DRAM.CH_STATUS.STATE 3 0 }, by decide +kernel, by decide +kernel, by decide +kernel, by decide +kernel⟩

theorem witness_remapWalkDone : ∃ (s : State) (left : Nat), (s.Runs) ∧ (s.m.dr.walk = some left) ∧ (stillGranted s.m C_TRAIN walkHolder = true) ∧ ((dramRefresh (chimRelease ((dramCode (walkReport { s.m.fresh with dr := { s.m.fresh.dr with walk := none, walkOld := 0 } }) REMAP_DONE).ev E.DRAM.REMAP_DONE) C_TRAIN walkHolder)).dr.second = []) :=
  ⟨{ live with m := { (((live.m.wr R.DRAM.STATUS.SERVICEABLE 1).wr R.DRAM.CAPACITY.MIB 4).wr R.DRAM.CH_STATUS.STATE 2 0) with dr := { live.m.dr with walk := some 0 }, ch := { live.m.ch with grants := [⟨C_TRAIN, walkHolder, 1, 1, true, false⟩] } } }, 0, by decide +kernel, by decide +kernel, by decide +kernel, by decide +kernel⟩

theorem witness_latchedSetpointApply : ∃ (s : State), (s.Runs) ∧ (s.m.flag R.DRAM.STATUS.PENDING = true) ∧ (dramTraining s.m = true) :=
  ⟨{ live with m := { (((((live.m.wr R.DRAM.STATUS.SERVICEABLE 1).wr R.DRAM.CAPACITY.MIB 4).wr R.DRAM.CH_STATUS.STATE 2 0).wr R.DRAM.CH_STATUS.STATE 1 0).wr R.DRAM.STATUS.PENDING 1) with dr := { live.m.dr with chans := live.m.dr.chans.map (fun c => { c with queue := [1] }) } } }, by decide +kernel, by decide +kernel, by decide +kernel⟩

theorem witness_dramTrainingDone : ∃ (s : State) (ch ca rd wr vref sp : Nat) (rest : List Nat), (s.Runs) ∧ (chanQueue s.m ch = sp :: rest) ∧ (chanState s.m ch = 1) ∧ (s.m.mode = 3 ∨ stillGranted s.m C_TRAIN (chanHolder ch) = true) ∧ (s.m.dv D.margin_min ≤ ca) ∧ (s.m.dv D.margin_min ≤ rd) ∧ (s.m.dv D.margin_min ≤ wr) ∧ (s.m.dv D.margin_min ≤ vref) ∧ ((nextTraining (dramCode ((setMargins s.m.fresh ch ca rd wr vref).wr R.DRAM.CH_STATUS.TRAINED_SP (setBit ((setMargins s.m.fresh ch ca rd wr vref).rd R.DRAM.CH_STATUS.TRAINED_SP ch) sp) ch) DRAM_TRAINED) ch).dr.change = none) ∧ (bootMainDue (nextTraining (dramCode ((setMargins s.m.fresh ch ca rd wr vref).wr R.DRAM.CH_STATUS.TRAINED_SP (setBit ((setMargins s.m.fresh ch ca rd wr vref).rd R.DRAM.CH_STATUS.TRAINED_SP ch) sp) ch) DRAM_TRAINED) ch) = false) :=
  ⟨{ live with m := { ((((((live.m.wr R.DRAM.STATUS.SERVICEABLE 1).wr R.DRAM.CAPACITY.MIB 4).wr R.DRAM.CH_STATUS.STATE 2 0).wr R.DRAM.CH_STATUS.STATE 1 0).wr R.DRAM.STATUS.SERVICEABLE 3).wr R.SYS.MODE_STATUS.CURRENT 3) with dr := { live.m.dr with chans := live.m.dr.chans.map (fun c => { c with queue := [1] }) } } }, 0, 100, 100, 100, 100, 1, [], by decide +kernel, by decide +kernel, by decide +kernel, by decide +kernel, by decide +kernel, by decide +kernel, by decide +kernel, by decide +kernel, by decide +kernel, by decide +kernel⟩

/-! ## HostCommands -/

theorem witness_sqDoorbell : ∃ (s : State) (tail : Nat) (descs : List (List Byte)), (s.Runs) ∧ (tail < s.m.rd R.HOST.SQ_SIZE.SIZE) :=
  ⟨{ live with m := ((live.m.wr R.HOST.SQ_SIZE.SIZE 8).wr R.HOST.CQ_SIZE.SIZE 8) }, 1, [], by decide +kernel, by decide +kernel⟩

theorem witness_cqHeadWrite : ∃ (s : State) (head : Nat) (descs : List (List Byte)), (s.Runs) ∧ (head < s.m.rd R.HOST.CQ_SIZE.SIZE) :=
  ⟨{ live with m := ((live.m.wr R.HOST.SQ_SIZE.SIZE 8).wr R.HOST.CQ_SIZE.SIZE 8) }, 1, [], by decide +kernel, by decide +kernel⟩

theorem witness_fragmentDone : ∃ (s : State) (seq written dropped : Nat) (descs : List (List Byte)), (s.Runs) ∧ (s.m.host.frags.isEmpty = false) ∧ (s.m.host.begun = true) :=
  ⟨{ live with m := { ((live.m.wr R.HOST.SQ_SIZE.SIZE 8).wr R.HOST.CQ_SIZE.SIZE 8) with host := { live.m.host with frags := [[]], begun := true } } }, 1, 0, 0, [], by decide +kernel, by decide +kernel, by decide +kernel⟩

theorem witness_hostReadFailed : ∃ (s : State) (seq written dropped : Nat) (descs : List (List Byte)), (s.Runs) ∧ (s.m.host.frags.isEmpty = false) ∧ (s.m.host.begun = true) :=
  ⟨{ live with m := { ((live.m.wr R.HOST.SQ_SIZE.SIZE 8).wr R.HOST.CQ_SIZE.SIZE 8) with host := { live.m.host with frags := [[]], begun := true } } }, 1, 0, 0, [], by decide +kernel, by decide +kernel, by decide +kernel⟩

theorem witness_ringDrain_on : ∃ (s : State) (descs : List (List Byte)), (s.Runs) :=
  ⟨live, [], by decide +kernel⟩

theorem witness_ringDrain_off : ∃ (s : State) (descs : List (List Byte)), (s.Runs) ∧ (s.m.rd R.HOST.RING_STATUS2.STATE = 1) :=
  ⟨{ live with m := live.m.wr R.HOST.RING_STATUS2.STATE 1 }, [], by decide +kernel, by decide +kernel⟩

theorem witness_ringForceStop : ∃ (s : State) (late : Bool), (s.Runs) ∧ ((pathOf s.m 0).rx = none) :=
  ⟨live, false, by decide +kernel, by decide +kernel⟩

theorem witness_hostReset_function : ∃ (s : State), (s.Runs) ∧ (s.m.mc.off = false) ∧ ((List.range 16).filter (dmaHost s.m) = []) :=
  ⟨{ live with m := live.m.wr R.DMA.OWNER.HOST 0 }, by decide +kernel, by decide +kernel, by decide +kernel⟩

theorem witness_msixUnmask_vector : ∃ (s : State) (v : Nat), (s.Runs) ∧ (v < 64) :=
  ⟨live, 3, by decide +kernel, by decide +kernel⟩

theorem witness_msixUnmask_function : ∃ (s : State), (s.Runs) :=
  ⟨live, by decide +kernel⟩

theorem witness_pcieLinkUp : ∃ (s : State) (speed width : Nat), (s.Runs) ∧ (pcieMode s.m.mode = true) ∧ (s.m.host.perst = true) ∧ (speed ≤ s.m.dv D.link_speed_max) ∧ (1 ≤ speed) ∧ (speed ≤ 5) ∧ ([1, 2, 4, 8, 16].contains width = true) :=
  ⟨{ live with m := { ((live.m.wr R.SYS.MODE_STATUS.CURRENT 4).dset D.link_speed_max 5) with host := { live.m.host with perst := true } } }, 5, 16, by decide +kernel, by decide +kernel, by decide +kernel, by decide +kernel, by decide +kernel, by decide +kernel, by decide +kernel⟩

theorem witness_perstNRise : ∃ (s : State), (pcieMode s.m.mode = true) ∧ (s.m.mc.off = false) :=
  ⟨{ live with m := (live.m.wr R.SYS.MODE_STATUS.CURRENT 4) }, by decide +kernel, by decide +kernel⟩

theorem witness_bar4Access_write : ∃ (s : State) (off len : Nat) (data : List Byte), (s.Runs) ∧ (s.m.flag R.HOST.LINK.DL_UP = true) ∧ (off + data.length ≤ bar4Bytes s.m) ∧ (data.isEmpty = false) ∧ (inCap s.m (bar4Addr s.m off) data.length = true) ∧ (mayAccess s.m .host (bar4Addr s.m off) data.length true = true) ∧ (chanReady s.m (bar4Addr s.m off) = true) :=
  ⟨{ live with m := (((live.m.wr R.DRAM.STATUS.SERVICEABLE 1).wr R.DRAM.CAPACITY.MIB 4).wr R.DRAM.CH_STATUS.STATE 2 0).wr R.HOST.LINK.DL_UP 1 }, 64, 0, [1], by decide +kernel, by decide +kernel, by decide +kernel, by decide +kernel, by decide +kernel, by decide +kernel, by decide +kernel⟩

/-! ## DmaCommands -/

theorem witness_dmaStart : ∃ (s : State) (n : Nat) (p : Principal), (s.Runs) ∧ (p = dmaPrincipal s.m n) ∧ (n < 16) ∧ (isRetired s.m 10 n = false) ∧ ((dmaOf s.m n).active = false) ∧ (s.m.flag R.DMA.CH_CTRL.ENABLE n = true) :=
  ⟨{ live with m := live.m.wr R.DMA.CH_CTRL.ENABLE 1 3 }, 3, .host, by decide +kernel, by decide +kernel, by decide +kernel, by decide +kernel, by decide +kernel, by decide +kernel⟩

theorem witness_dmaStart_held : ∃ (s : State) (n : Nat) (p : Principal), (s.Runs) ∧ (p = dmaPrincipal s.m n) ∧ (n < 16) ∧ (isRetired s.m 10 n = false) ∧ ((dmaOf s.m n).active = true) ∧ (s.m.flag R.DMA.CH_STATUS.HELD n = false) :=
  ⟨{ live with m := { live.m with dma := live.m.dma.map (fun _ => ⟨true, none, false, 0, false⟩) } }, 3, .host, by decide +kernel, by decide +kernel, by decide +kernel, by decide +kernel, by decide +kernel, by decide +kernel⟩

theorem witness_dmaRunDone : ∃ (s : State) (n : Nat), (s.Runs) ∧ ((dmaOf s.m n).active = true) ∧ ((dmaOf s.m n).last = true) :=
  ⟨{ live with m := { live.m with dma := live.m.dma.map (fun _ => ⟨true, none, true, 0, false⟩) } }, 3, by decide +kernel, by decide +kernel, by decide +kernel⟩

theorem witness_dmaAbort : ∃ (s : State) (n : Nat) (p : Principal), (s.Runs) ∧ (p = dmaPrincipal s.m n) ∧ ((dmaOf s.m n).active = true) ∧ ((dmaOf s.m n).desc = none) :=
  ⟨{ live with m := { live.m with dma := live.m.dma.map (fun _ => ⟨true, none, false, 0, false⟩) } }, 3, .host, by decide +kernel, by decide +kernel, by decide +kernel, by decide +kernel⟩

theorem witness_dmaAbort_late : ∃ (s : State) (n : Nat) (p : Principal), (s.Runs) ∧ (p = dmaPrincipal s.m n) ∧ ((dmaOf s.m n).active = false) :=
  ⟨live, 3, .host, by decide +kernel, by decide +kernel, by decide +kernel⟩

theorem witness_dmaForceStop : ∃ (s : State) (n : Nat) (p : Principal), (s.Runs) ∧ (p = dmaPrincipal s.m n) ∧ ((dmaOf s.m n).desc = none) :=
  ⟨{ live with m := { live.m with dma := live.m.dma.map (fun _ => ⟨true, none, false, 0, false⟩) } }, 3, .host, by decide +kernel, by decide +kernel, by decide +kernel⟩

theorem witness_dmaDrain : ∃ (s : State) (n : Nat) (p : Principal), (s.Runs) ∧ (p = dmaPrincipal s.m n) ∧ ((dmaOf s.m n).active = true) ∧ (s.m.rd R.DMA.CH_STATUS.STATE n ≠ 4) ∧ ((dmaOf s.m n).desc.isSome = true ∨ (dmaOf s.m n).last = true) :=
  ⟨{ live with m := { live.m with dma := live.m.dma.map (fun _ => ⟨true, none, true, 0, false⟩) } }, 3, .host, by decide +kernel, by decide +kernel, by decide +kernel, by decide +kernel, by decide +kernel⟩

theorem witness_dmaDrain_continue : ∃ (s : State) (n : Nat) (p : Principal), (s.Runs) ∧ (p = dmaPrincipal s.m n) ∧ ((dmaOf s.m n).active = true) ∧ (s.m.rd R.DMA.CH_STATUS.STATE n = 4) :=
  ⟨{ live with m := { (live.m.wr R.DMA.CH_STATUS.STATE 4 3) with dma := live.m.dma.map (fun _ => ⟨true, none, false, 0, false⟩) } }, 3, .host, by decide +kernel, by decide +kernel, by decide +kernel, by decide +kernel⟩

theorem witness_dmaAccessTimeout_first : ∃ (s : State) (n addr : Nat), (s.Runs) ∧ ((dmaOf s.m n).active = true) ∧ (dmaMoves s.m n = true) ∧ ((dmaOf (hev (s.m.fresh.add R.DMA.BUS_TIMEOUTS.COUNT 1) 228) n).tmo = false) :=
  ⟨{ live with m := { (live.m.wr R.DMA.CH_STATUS.STATE 2 3) with dma := live.m.dma.map (fun _ => ⟨true, none, false, 0, false⟩) } }, 3, 0, by decide +kernel, by decide +kernel, by decide +kernel, by decide +kernel⟩

theorem witness_dmaDescriptorDone_last : ∃ (s : State) (n : Nat) (host data b : List Byte), (s.Runs) ∧ ((dmaOf s.m n).active = true) ∧ ((dmaOf s.m n).desc = some b) ∧ (dmaMoves s.m n = true) ∧ (bit (dCtrl b) 2 = false) ∧ (bit (dCtrl b) 5 = false) ∧ ((xfers s.m.fresh (dmaPrincipal s.m.fresh n) s.mem (descXfers b data)).1 = none) :=
  ⟨{ live with m := { ((((live.m.wr R.DRAM.STATUS.SERVICEABLE 1).wr R.DRAM.CAPACITY.MIB 4).wr R.DRAM.CH_STATUS.STATE 2 0).wr R.DMA.CH_STATUS.STATE 2 3) with dma := live.m.dma.map (fun _ => ⟨true, some (List.replicate 9 0 ++ [1] ++ List.replicate 6 0 ++ [4] ++ List.replicate 15 0), false, 0, false⟩) } }, 3, [], [], List.replicate 9 0 ++ [1] ++ List.replicate 6 0 ++ [4] ++ List.replicate 15 0, by decide +kernel, by decide +kernel, by decide +kernel, by decide +kernel, by decide +kernel, by decide +kernel, by decide +kernel⟩

/-! ## SideEngineCommands -/

theorem witness_blitGo : ∃ (s : State) (p : Principal), (s.Runs) ∧ (isRetired s.m 11 0 = false) ∧ ((sideOf s.m 0).jobs.length < 4) ∧ (blitCheck (regBytes s.m 0x02600010 96) = 0) :=
  ⟨{ live with m := regLoad live.m 0x02600010 ([1] ++ List.replicate 23 0 ++ [1, 0, 1, 0] ++ List.replicate 8 0 ++ [4, 0, 0, 0] ++ List.replicate 56 0) }, .fw, by decide +kernel, by decide +kernel, by decide +kernel, by decide +kernel⟩

theorem witness_deflateGo : ∃ (s : State) (p : Principal), (s.Runs) ∧ (isRetired s.m 13 0 = false) ∧ ((sideOf s.m 1).jobs.length < 4) ∧ (deflCheck (regBytes s.m 0x02800010 36) = 0) :=
  ⟨{ live with m := regLoad live.m 0x02800010 ([1, 0, 0, 0] ++ List.replicate 8 0 ++ [6, 0, 0, 0] ++ [0, 1, 0, 0] ++ List.replicate 4 0 ++ [16, 0, 0, 0] ++ List.replicate 8 0) }, .fw, by decide +kernel, by decide +kernel, by decide +kernel, by decide +kernel⟩

theorem witness_blitJobDone : ∃ (s : State) (j : Job), (s.Runs) ∧ (runningJob s.m 0 = some j) ∧ ((xfers s.m.fresh j.who s.mem (blitXfers j)).1 = none) :=
  ⟨{ live with m := { (sideSet (((live.m.wr R.DRAM.STATUS.SERVICEABLE 1).wr R.DRAM.CAPACITY.MIB 4).wr R.DRAM.CH_STATUS.STATE 2 0) 0 2) with side := [⟨[⟨0, .fw, ([1] ++ List.replicate 23 0 ++ [1, 0, 1, 0] ++ List.replicate 8 0 ++ [4, 0, 0, 0] ++ List.replicate 56 0)⟩], true, true, false⟩, ⟨[], false, false, false⟩] } }, ⟨0, .fw, ([1] ++ List.replicate 23 0 ++ [1, 0, 1, 0] ++ List.replicate 8 0 ++ [4, 0, 0, 0] ++ List.replicate 56 0)⟩, by decide +kernel, by decide +kernel, by decide +kernel⟩

theorem witness_deflateJobDone : ∃ (s : State) (stream : List Byte) (j : Job), (s.Runs) ∧ (runningJob s.m 1 = some j) ∧ (j.dMode = 1) ∧ (j.dCheck = false) ∧ ((inflateJob s.mem s.m.fresh j).flt = none) ∧ ((inflateJob s.mem s.m.fresh j).code = 0) :=
  ⟨{ live with m := { (sideSet (((live.m.wr R.DRAM.STATUS.SERVICEABLE 1).wr R.DRAM.CAPACITY.MIB 4).wr R.DRAM.CH_STATUS.STATE 2 0) 1 2) with side := [⟨[], false, false, false⟩, ⟨[⟨0, .fw, ([1, 0, 0, 0] ++ List.replicate 8 0 ++ [6, 0, 0, 0] ++ [0, 1, 0, 0] ++ List.replicate 4 0 ++ [16, 0, 0, 0] ++ List.replicate 8 0)⟩], true, true, false⟩] }, mem := [(0, 1), (1, 1), (3, 0xFE), (4, 0xFF), (5, 0x41)] }, [], ⟨0, .fw, ([1, 0, 0, 0] ++ List.replicate 8 0 ++ [6, 0, 0, 0] ++ [0, 1, 0, 0] ++ List.replicate 4 0 ++ [16, 0, 0, 0] ++ List.replicate 8 0)⟩, by decide +kernel, by decide +kernel, by decide +kernel, by decide +kernel, by decide +kernel, by decide +kernel⟩

theorem witness_engineAbort_job : ∃ (s : State) (e : Nat) (j : Job) (rest : List Job), (s.Runs) ∧ (e < 2) ∧ ((sideOf s.m e).jobs = j :: rest) ∧ ((sideOf s.m e).busy = true) ∧ ((sideOf s.m e).begun = false) :=
  ⟨{ live with m := { (sideSet live.m 0 1) with side := [⟨[⟨0, .fw, ([1] ++ List.replicate 23 0 ++ [1, 0, 1, 0] ++ List.replicate 8 0 ++ [4, 0, 0, 0] ++ List.replicate 56 0)⟩], true, false, false⟩, ⟨[], false, false, false⟩] } }, 0, ⟨0, .fw, ([1] ++ List.replicate 23 0 ++ [1, 0, 1, 0] ++ List.replicate 8 0 ++ [4, 0, 0, 0] ++ List.replicate 56 0)⟩, [], by decide +kernel, by decide +kernel, by decide +kernel, by decide +kernel, by decide +kernel⟩

theorem witness_engineAbort_late : ∃ (s : State) (e : Nat), (s.Runs) ∧ (e < 2) ∧ ((sideOf s.m e).busy = false) :=
  ⟨live, 0, by decide +kernel, by decide +kernel, by decide +kernel⟩

theorem witness_engineForceStop_idle : ∃ (s : State) (e : Nat), (s.Runs) ∧ (e < 2) ∧ ((sideOf s.m e).jobs = []) ∧ (sideState (s.m.fresh.wr (R.BLIT.CTRL.ENABLE.eng e) 0) e ≠ 4) :=
  ⟨{ live with m := (live.m.wr (R.BLIT.STATUS.STATE.eng 0) 0) }, 0, by decide +kernel, by decide +kernel, by decide +kernel, by decide +kernel⟩

theorem witness_engineFlush : ∃ (s : State) (e : Nat), (s.Runs) ∧ (e < 2) :=
  ⟨live, 0, by decide +kernel, by decide +kernel⟩

theorem witness_engineDrain_job : ∃ (s : State) (e : Nat), (s.Runs) ∧ (e < 2) ∧ (sideState (s.m.fresh.wr (R.BLIT.CTRL.ENABLE.eng e) 0) e ≠ 4) ∧ ((sideOf s.m e).busy = true) :=
  ⟨{ live with m := { (sideSet live.m 0 2) with side := [⟨[⟨0, .fw, ([1] ++ List.replicate 23 0 ++ [1, 0, 1, 0] ++ List.replicate 8 0 ++ [4, 0, 0, 0] ++ List.replicate 56 0)⟩], true, true, false⟩, ⟨[], false, false, false⟩] } }, 0, by decide +kernel, by decide +kernel, by decide +kernel, by decide +kernel⟩

theorem witness_engineAccessTimeout_first : ∃ (s : State) (e addr : Nat), (s.Runs) ∧ (e < 2) ∧ ((runningJob s.m e).isNone = false) ∧ ((sideOf s.m e).tmo = false) :=
  ⟨{ live with m := { (sideSet live.m 0 2) with side := [⟨[⟨0, .fw, ([1] ++ List.replicate 23 0 ++ [1, 0, 1, 0] ++ List.replicate 8 0 ++ [4, 0, 0, 0] ++ List.replicate 56 0)⟩], true, true, false⟩, ⟨[], false, false, false⟩] } }, 0, 7, by decide +kernel, by decide +kernel, by decide +kernel, by decide +kernel⟩

/-! ## CrcCommands -/

theorem witness_crcStart_scan : ∃ (s : State) (n : Nat) (p : Principal), (s.Runs) ∧ (n < 4) ∧ (isRetired s.m 12 n = false) ∧ (crcActive s.m n = false) ∧ (s.m.flag R.CRC.UNIT_CTRL.FEED n = false) ∧ (crcLen s.m n ≠ 0) ∧ (s.m.flag R.CRC.UNIT_CTRL.ENABLE n = true) ∧ (engineMode s.m.mode = true) :=
  ⟨{ live with m := (((live.m.wr R.SYS.MODE_STATUS.CURRENT 4).wr R.CRC.UNIT_SCAN_LEN_LO.LEN 9 1).wr R.CRC.UNIT_CTRL.ENABLE 1 1).wr R.CRC.UNIT_CTRL.FEED 0 1 }, 1, .fw, by decide +kernel, by decide +kernel, by decide +kernel, by decide +kernel, by decide +kernel, by decide +kernel, by decide +kernel, by decide +kernel⟩

theorem witness_crcStart_snoop : ∃ (s : State) (n : Nat) (p : Principal), (s.Runs) ∧ (n < 4) ∧ (isRetired s.m 12 n = false) ∧ (crcActive s.m n = false) ∧ (s.m.flag R.CRC.UNIT_CTRL.FEED n = true) ∧ (s.m.rd R.CRC.UNIT_CTRL.SNOOP_SRC n < 19) ∧ (s.m.flag R.CRC.UNIT_CTRL.ENABLE n = true) ∧ (engineMode s.m.mode = true) :=
  ⟨{ live with m := ((live.m.wr R.SYS.MODE_STATUS.CURRENT 4).wr R.CRC.UNIT_CTRL.ENABLE 1 1).wr R.CRC.UNIT_CTRL.FEED 1 1 }, 1, .fw, by decide +kernel, by decide +kernel, by decide +kernel, by decide +kernel, by decide +kernel, by decide +kernel, by decide +kernel, by decide +kernel⟩

theorem witness_crcValueWrite : ∃ (s : State) (n lo : Nat), (s.Runs) ∧ (n < 4) :=
  ⟨live, 1, 5, by decide +kernel, by decide +kernel⟩

theorem witness_crcScanDone : ∃ (s : State) (n : Nat), (s.Runs) ∧ (s.m.rd R.CRC.UNIT_STATUS.STATE n = 2) ∧ ((crcUnit s.m n).snoop = false) ∧ ((reach s.m.fresh (crcUnit s.m.fresh n).who (crcCur s.m.fresh n) ((crcBase s.m.fresh n + crcLen s.m.fresh n) - crcCur s.m.fresh n) false).2 = none) :=
  ⟨{ live with m := ((((live.m.wr R.DRAM.STATUS.SERVICEABLE 1).wr R.DRAM.CAPACITY.MIB 4).wr R.DRAM.CH_STATUS.STATE 2 0).wr R.CRC.UNIT_STATUS.STATE 2 1).wr R.CRC.UNIT_SCAN_LEN_LO.LEN 4 1 }, 1, by decide +kernel, by decide +kernel, by decide +kernel, by decide +kernel⟩

theorem witness_crcScanStop : ∃ (s : State) (n upto : Nat), (s.Runs) ∧ (s.m.rd R.CRC.UNIT_STATUS.STATE n = 2) ∧ ((crcUnit s.m n).snoop = false) ∧ ((reach s.m.fresh (crcUnit s.m.fresh n).who (crcCur s.m.fresh n) (upto - crcCur s.m.fresh n) false).2 = none) ∧ (s.m.flag R.CRC.UNIT_CTRL.ENABLE n = false ∨ s.m.mode = 11) ∧ (upto % 4096 = 0) ∧ (crcCur s.m n ≤ upto) ∧ (upto < crcBase s.m n + crcLen s.m n) :=
  ⟨{ live with m := (((((live.m.wr R.DRAM.STATUS.SERVICEABLE 1).wr R.DRAM.CAPACITY.MIB 4).wr R.DRAM.CH_STATUS.STATE 2 0).wr R.CRC.UNIT_STATUS.STATE 2 1).wr R.CRC.UNIT_SCAN_LEN_LO.LEN 4 1).wr R.CRC.UNIT_CTRL.ENABLE 0 1 }, 1, 0, by decide +kernel, by decide +kernel, by decide +kernel, by decide +kernel, by decide +kernel, by decide +kernel, by decide +kernel, by decide +kernel⟩

/-! ## ThermalCommands -/

theorem witness_stepUp : ∃ (s : State), (s.Runs) ∧ (s.m.dv D.step_up_auto = 1) ∧ (s.m.th.stepped.isSome = true) ∧ (drivesRays s.m.mode = true) ∧ (sInt 16 (s.m.rd R.THRM.STATUS.MAX_TEMP) < limitOf s.m R.THRM.LIMITS.THROTTLE - 80) ∧ (s.m.th.stepDue = none) :=
  ⟨{ live with m := { (((live.m.wr R.SYS.MODE_STATUS.CURRENT 6).wr R.THRM.STATUS.MAX_TEMP 0).wr R.THRM.LIMITS.THROTTLE 100).wr R.SYS.MODE_STATUS.CURRENT 6 with th := { live.m.th with stepped := some 0 } } }, by decide +kernel, by decide +kernel, by decide +kernel, by decide +kernel, by decide +kernel, by decide +kernel⟩

theorem witness_stepUp_off : ∃ (s : State), (s.Runs) ∧ (s.m.dv D.step_up_auto = 0) :=
  ⟨{ live with m := live.m.dset D.step_up_auto 0 }, by decide +kernel, by decide +kernel⟩

theorem witness_tempCompensation : ∃ (s : State) (move : Int), (s.Runs) :=
  ⟨live, 5, by decide +kernel⟩

theorem witness_chimneyRequest : ∃ (s : State) (cls holder tok : Nat), (s.Runs) ∧ (cls < 9) ∧ (s.m.ch.waits.any (fun r => r.cls == cls && r.holder == holder) = false) ∧ (s.m.ch.grants.any (fun g => g.cls == cls && g.holder == holder) = false) :=
  ⟨live, 5, 3, 8, by decide +kernel, by decide +kernel, by decide +kernel, by decide +kernel⟩

theorem witness_chimneyRequest_again : ∃ (s : State) (cls holder tok : Nat), (s.Runs) ∧ (cls < 9) ∧ (s.m.ch.grants.any (fun g => g.cls == cls && g.holder == holder) = true) :=
  ⟨{ live with m := { live.m with ch := { live.m.ch with grants := [⟨5, 3, 8, 0, true, false⟩] } } }, 5, 3, 8, by decide +kernel, by decide +kernel, by decide +kernel⟩

theorem witness_chimneyRelease : ∃ (s : State) (cls holder : Nat), (s.Runs) :=
  ⟨live, 5, 3, by decide +kernel⟩

theorem witness_grantInForce : ∃ (s : State) (cls holder : Nat) (q : Grant), (s.Runs) ∧ (s.m.ch.grants.find? (fun g => !g.live && !g.ending) = some q) ∧ (q.cls = cls) ∧ (q.holder = holder) :=
  ⟨{ live with m := { live.m with ch := { live.m.ch with grants := [⟨3, 2, 8, 0, false, false⟩] } } }, 3, 2, ⟨3, 2, 8, 0, false, false⟩, by decide +kernel, by decide +kernel, by decide +kernel, by decide +kernel⟩

theorem witness_pausePointReached : ∃ (s : State) (cls holder : Nat), (s.Runs) ∧ (s.m.ch.grants.any (fun g => g.cls == cls && g.holder == holder && g.ending) = true) :=
  ⟨{ live with m := { live.m with ch := { live.m.ch with grants := [⟨3, 2, 8, 0, true, true⟩] } } }, 3, 2, by decide +kernel, by decide +kernel⟩

/-! ## CalibrationCommands -/

theorem witness_calRun : ∃ (s : State) (mask : Nat), (s.Runs) ∧ (calEnabled s.m = true) :=
  ⟨{ live with m := (live.m.wr R.CAL.CTRL.ENABLE 1).wr R.CAL.STATUS.STATE 1 }, 3, by decide +kernel, by decide +kernel⟩

theorem witness_calRun_waits : ∃ (s : State) (mask : Nat), (s.Runs) ∧ (calEnabled s.m = false) :=
  ⟨{ live with m := live.m.wr R.CAL.CTRL.ENABLE 0 }, 3, by decide +kernel, by decide +kernel⟩

theorem witness_trackInterval : ∃ (s : State), (s.Runs) ∧ (calEnabled s.m = true) :=
  ⟨{ live with m := (live.m.wr R.CAL.CTRL.ENABLE 1).wr R.CAL.STATUS.STATE 1 }, by decide +kernel, by decide +kernel⟩

theorem witness_calRunDone_lane : ∃ (s : State) (rows : List (List Int)), (s.Runs) ∧ (calRunning s.m 0 = true) ∧ (calEnabled s.m = true) ∧ (hasGrant s.m 2 0 = true) :=
  ⟨{ live with m := { ((live.m.wr R.CAL.CTRL.ENABLE 1).wr R.CAL.STATUS.STATE 1).wr R.CAL.STATUS.RUNNING 3 with ch := { live.m.ch with grants := [⟨2, 0, 8, 0, true, false⟩] } } }, [], by decide +kernel, by decide +kernel, by decide +kernel, by decide +kernel⟩

theorem witness_calRunDone_dram : ∃ (s : State) (rows : List (List Int)), (s.Runs) ∧ (calRunning s.m 1 = true) ∧ (calEnabled s.m = true) ∧ (hasGrant s.m 2 1 = true) :=
  ⟨{ live with m := { ((live.m.wr R.CAL.CTRL.ENABLE 1).wr R.CAL.STATUS.STATE 1).wr R.CAL.STATUS.RUNNING 3 with ch := { live.m.ch with grants := [⟨2, 1, 8, 0, true, false⟩] } } }, [], by decide +kernel, by decide +kernel, by decide +kernel, by decide +kernel⟩

theorem witness_calPpsEdge : ∃ (s : State) (cycles : Nat), (s.Runs) ∧ (s.m.cal.edges = 0) :=
  ⟨live, 10000000, by decide +kernel, by decide +kernel⟩

theorem witness_calPpsEdge_irregular : ∃ (s : State) (cycles : Nat), (s.Runs) ∧ (s.m.cal.edges ≠ 0) ∧ (1000 < ((cycles : Int) - 10000000).natAbs) :=
  ⟨{ live with m := { live.m with cal := { live.m.cal with edges := 3 } } }, 9000000, by decide +kernel, by decide +kernel, by decide +kernel⟩

theorem witness_calPpsEdge_regular : ∃ (s : State) (cycles : Nat), (s.Runs) ∧ (s.m.cal.edges ≠ 0) ∧ (s.m.cal.edges < 16) ∧ (((cycles : Int) - 10000000).natAbs ≤ 1000) ∧ (s.m.flag R.CAL.REF.PPS_OK = true) :=
  ⟨{ live with m := { live.m.wr R.CAL.REF.PPS_OK 1 with cal := { live.m.cal with edges := 3 } } }, 10000000, by decide +kernel, by decide +kernel, by decide +kernel, by decide +kernel, by decide +kernel⟩

theorem witness_calPpsMissing : ∃ (s : State), (s.Runs) :=
  ⟨live, by decide +kernel⟩

theorem witness_vrefMeasure_good : ∃ (s : State) (mv10 : Nat), (s.Runs) ∧ (((mv10 : Int) - 12000).natAbs ≤ 120) :=
  ⟨live, 12000, by decide +kernel, by decide +kernel⟩

theorem witness_vrefMeasure_bad : ∃ (s : State) (mv10 : Nat), (s.Runs) ∧ (120 < ((mv10 : Int) - 12000).natAbs) :=
  ⟨live, 12500, by decide +kernel, by decide +kernel⟩

theorem witness_calDrain_off : ∃ (s : State), (s.Runs) ∧ (s.m.rd R.CAL.STATUS.STATE = 1) :=
  ⟨{ live with m := (live.m.wr R.CAL.CTRL.ENABLE 1).wr R.CAL.STATUS.STATE 1 }, by decide +kernel, by decide +kernel⟩

theorem witness_calDrain_on : ∃ (s : State), (s.Runs) :=
  ⟨live, by decide +kernel⟩

theorem witness_calForceStop_idle : ∃ (s : State) (late : Nat), (s.Runs) ∧ ((List.range 6).filter (calRunning s.m) = []) :=
  ⟨live, 0, by decide +kernel, by decide +kernel⟩

theorem witness_calForceStop_one : ∃ (s : State) (late k : Nat), (s.Runs) ∧ ((List.range 6).filter (calRunning s.m) = [k]) :=
  ⟨{ live with m := live.m.wr R.CAL.STATUS.RUNNING 4 }, 0, 2, by decide +kernel, by decide +kernel⟩

theorem witness_doseCommit : ∃ (s : State), (s.Runs) ∧ (fwServes s.m = true) :=
  ⟨{ live with m := live.m.wr R.SEC.STATE.FW_PRESENT 1 }, by decide +kernel, by decide +kernel⟩

theorem witness_doseReset : ∃ (s : State), (s.Runs) ∧ (fwServes s.m = true) :=
  ⟨{ live with m := live.m.wr R.SEC.STATE.FW_PRESENT 1 }, by decide +kernel, by decide +kernel⟩

theorem witness_doseReset_held : ∃ (s : State), (s.Runs) ∧ (fwServes s.m = false) :=
  ⟨live, by decide +kernel, by decide +kernel⟩

/-! ## ImageCommands -/

theorem witness_imageInstall : ∃ (s : State) (kind slot addr len : Nat), (s.Runs) ∧ (kind = K_STAGE2 ∨ kind = K_MAIN) ∧ (secServes (secGo s.m.fresh 1) 1 kind = true) ∧ (slot < 2) ∧ (slot ≠ (if kind = K_STAGE2 then (secGo s.m.fresh 1).rd R.SEC.STATE.BED_COMMITTED else (secGo s.m.fresh 1).rd R.SEC.STATE.FW_COMMITTED)) ∧ ((if kind = K_STAGE2 then (secGo s.m.fresh 1).flag R.SEC.STATE.TRIAL_BED else (secGo s.m.fresh 1).flag R.SEC.STATE.TRIAL_FW) = false) ∧ (s.m.sec.install = none) ∧ ((if kind = K_STAGE2 then (secGo s.m.fresh 1).sec.bedDue.isSome else (secGo s.m.fresh 1).sec.fwDue.isSome) = false) ∧ (384 + fieldLE (slice (memRead s.mem (secGo s.m.fresh 1) addr (Nat.min len 16777216)).data 0 384) 12 4 ≤ len) :=
  ⟨live, 2, 1, 0, 100000, by decide +kernel, by decide +kernel, by decide +kernel, by decide +kernel, by decide +kernel, by decide +kernel, by decide +kernel, by decide +kernel, by decide +kernel⟩

theorem witness_installComplete : ∃ (s : State) (slot : Nat) (hdr pay : List Byte), (s.Runs) ∧ (s.m.sec.install = some (2, slot, hdr, pay)) :=
  ⟨{ live with m := { live.m with sec := { live.m.sec with install := some (2, 1, [], [1]) } } }, 1, [], [1], by decide +kernel, by decide +kernel⟩

theorem witness_installComplete_failed : ∃ (s : State) (kind slot : Nat) (hdr pay : List Byte), (s.Runs) ∧ (s.m.sec.install = some (kind, slot, hdr, pay)) :=
  ⟨{ live with m := { live.m with sec := { live.m.sec with install := some (2, 1, [], [1]) } } }, 2, 1, [], [1], by decide +kernel, by decide +kernel⟩

theorem witness_switch_main : ∃ (s : State) (slot : Nat), (s.Runs) ∧ (secServes (secGo s.m.fresh 2) 2 2 = true) ∧ (slot < 2) ∧ (s.m.sec.install = none) ∧ (s.m.sec.fwDue = none) ∧ ((secGo s.m.fresh 2).mode ≠ 0) ∧ ((secGo s.m.fresh 2).mode ≠ 3) ∧ ((secGo s.m.fresh 2).mode ≠ 11) ∧ (slotPasses s.fuse (secGo s.m.fresh 2) 2 slot = true) :=
  ⟨{ live with m := { (live.m.wr R.SYS.MODE_STATUS.CURRENT 4) with sec := { live.m.sec with slots := List.replicate 4 ⟨none, true, 0, 0, 255⟩ } } }, 1, by decide +kernel, by decide +kernel, by decide +kernel, by decide +kernel, by decide +kernel, by decide +kernel, by decide +kernel, by decide +kernel, by decide +kernel⟩

theorem witness_switch_stage2 : ∃ (s : State) (slot : Nat), (s.Runs) ∧ (secServes (secGo s.m.fresh 2) 2 1 = true) ∧ (slot < 2) ∧ (s.m.sec.install = none) ∧ (s.m.sec.bedDue = none) ∧ ((secGo s.m.fresh 2).mode ≠ 0) ∧ ((secGo s.m.fresh 2).mode ≠ 3) ∧ ((secGo s.m.fresh 2).mode ≠ 11) ∧ (slotPasses s.fuse (secGo s.m.fresh 2) 1 slot = true) :=
  ⟨{ live with m := { (live.m.wr R.SYS.MODE_STATUS.CURRENT 4) with sec := { live.m.sec with slots := List.replicate 4 ⟨none, true, 0, 0, 255⟩ } } }, 1, by decide +kernel, by decide +kernel, by decide +kernel, by decide +kernel, by decide +kernel, by decide +kernel, by decide +kernel, by decide +kernel, by decide +kernel⟩

theorem witness_checkin : ∃ (s : State), (s.Runs) ∧ (s.m.sec.cores = true) ∧ (s.m.sec.await ≠ 0) ∧ (s.m.sec.await ≠ 2) ∧ (s.m.rd R.CAL.STATUS.STATE ≠ 3) :=
  ⟨{ live with m := { live.m with sec := { live.m.sec with await := 1, cores := true } } }, by decide +kernel, by decide +kernel, by decide +kernel, by decide +kernel, by decide +kernel⟩

theorem witness_checkin_trial : ∃ (s : State), (s.Runs) ∧ (s.m.sec.cores = true) ∧ (s.m.sec.await = 2) ∧ (s.m.rd R.CAL.STATUS.STATE ≠ 3) :=
  ⟨{ live with m := { live.m with sec := { live.m.sec with await := 2, cores := true } } }, by decide +kernel, by decide +kernel, by decide +kernel, by decide +kernel⟩

theorem witness_checkinTimeout_trial : ∃ (s : State), (s.Runs) ∧ (s.m.sec.await = 2) :=
  ⟨{ live with m := { live.m with sec := { live.m.sec with await := 2 } } }, by decide +kernel, by decide +kernel⟩

theorem witness_checkinTimeout_restart : ∃ (s : State), (s.Runs) ∧ (s.m.sec.await = 3) :=
  ⟨{ live with m := { live.m with sec := { live.m.sec with await := 3 } } }, by decide +kernel, by decide +kernel⟩

theorem witness_trialCommit : ∃ (s : State), (s.Runs) ∧ (secServes (secGo s.m.fresh 3) 3 0 = true) ∧ ((secGo s.m.fresh 3).flag R.SEC.STATE.TRIAL_FW = true) ∧ ((secGo s.m.fresh 3).flag R.SEC.STATE.TRIAL_BED = false) :=
  ⟨{ live with m := live.m.wr R.SEC.STATE.TRIAL_FW 1 }, by decide +kernel, by decide +kernel, by decide +kernel, by decide +kernel⟩

theorem witness_trialPeriodEnd_main : ∃ (s : State) (vdd : Bool), (s.Runs) ∧ (s.m.flag R.SEC.STATE.TRIAL_FW = true) :=
  ⟨{ live with m := live.m.wr R.SEC.STATE.TRIAL_FW 1 }, true, by decide +kernel, by decide +kernel⟩

theorem witness_trialPeriodEnd_stage2 : ∃ (s : State) (vdd : Bool), (s.Runs) ∧ (s.m.flag R.SEC.STATE.TRIAL_BED = true) :=
  ⟨{ live with m := live.m.wr R.SEC.STATE.TRIAL_BED 1 }, true, by decide +kernel, by decide +kernel⟩

theorem witness_codeRegionCheck_differs : ∃ (s : State) (slot : Nat), (s.Runs) ∧ ((secSlot s.m 2 slot).img = none) ∧ (slot = s.m.rd R.SEC.STATE.FW_SLOT) ∧ (s.m.sec.cores = true) :=
  ⟨{ live with m := { live.m with sec := { live.m.sec with cores := true } } }, 0, by decide +kernel, by decide +kernel, by decide +kernel, by decide +kernel⟩

theorem witness_codeRegionCheck_image : ∃ (s : State) (slot : Nat) (differs : Bool) (h p : List Byte), (s.Runs) ∧ ((secSlot s.m 2 slot).img = some (h, p)) ∧ (slot = s.m.rd R.SEC.STATE.FW_SLOT) ∧ (s.m.sec.cores = true) :=
  ⟨{ live with m := { live.m with sec := { live.m.sec with cores := true, slots := List.replicate 4 ⟨some ([], []), true, 0, 0, 0⟩ } } }, 0, false, [], [], by decide +kernel, by decide +kernel, by decide +kernel, by decide +kernel⟩

/-! ## FuseCommands -/

theorem witness_rollbackAdvance_main : ∃ (s : State), (s.Runs) ∧ (secServes (secGo s.m.fresh 4) 4 2 = true) :=
  ⟨live, by decide +kernel, by decide +kernel⟩

theorem witness_rollbackAdvance_stage2 : ∃ (s : State), (s.Runs) ∧ (secServes (showFuses (secGo s.m.fresh 4) { s.fuse with rollBed := Nat.max s.fuse.rollBed ((secGo s.m.fresh 4).rd R.SEC.ROLLBACK.BED_MIRROR), rollFw := Nat.max s.fuse.rollFw ((secGo s.m.fresh 4).rd R.SEC.ROLLBACK.FW_MIRROR) }) 4 1 = true) :=
  ⟨live, by decide +kernel, by decide +kernel⟩

theorem witness_keyEnrol : ∃ (s : State) (addr n : Nat), (s.Runs) ∧ (secServes (showFuses (secGo s.m.fresh 5) { s.fuse with rollBed := Nat.max s.fuse.rollBed ((secGo s.m.fresh 5).rd R.SEC.ROLLBACK.BED_MIRROR), rollFw := Nat.max s.fuse.rollFw ((secGo s.m.fresh 5).rd R.SEC.ROLLBACK.FW_MIRROR) }) 5 0 = true) ∧ (s.fuse.slots.findIdx? (·.isNone) = some n) ∧ (s.m.dv D.key_state ≠ 1) ∧ (s.fuse.locked = false) ∧ ((showFuses (secGo s.m.fresh 5) { s.fuse with rollBed := Nat.max s.fuse.rollBed ((secGo s.m.fresh 5).rd R.SEC.ROLLBACK.BED_MIRROR), rollFw := Nat.max s.fuse.rollFw ((secGo s.m.fresh 5).rd R.SEC.ROLLBACK.FW_MIRROR) }).mode = 4 ∨ (showFuses (secGo s.m.fresh 5) { s.fuse with rollBed := Nat.max s.fuse.rollBed ((secGo s.m.fresh 5).rd R.SEC.ROLLBACK.BED_MIRROR), rollFw := Nat.max s.fuse.rollFw ((secGo s.m.fresh 5).rd R.SEC.ROLLBACK.FW_MIRROR) }).mode = 5) :=
  ⟨{ { live with m := (live.m.wr R.SYS.MODE_STATUS.CURRENT 4) } with fuse := { live.fuse with slots := [none], locked := false } }, 0, 0, by decide +kernel, by decide +kernel, by decide +kernel, by decide +kernel, by decide +kernel, by decide +kernel⟩

theorem witness_keyRevoke : ∃ (s : State) (slot : Nat), (s.Runs) ∧ (secServes (showFuses (secGo s.m.fresh 6) { s.fuse with rollBed := Nat.max s.fuse.rollBed ((secGo s.m.fresh 6).rd R.SEC.ROLLBACK.BED_MIRROR), rollFw := Nat.max s.fuse.rollFw ((secGo s.m.fresh 6).rd R.SEC.ROLLBACK.FW_MIRROR) }) 6 0 = true) ∧ (slot < 6) ∧ ((slotPasses { { s.fuse with rollBed := Nat.max s.fuse.rollBed ((secGo s.m.fresh 6).rd R.SEC.ROLLBACK.BED_MIRROR), rollFw := Nat.max s.fuse.rollFw ((secGo s.m.fresh 6).rd R.SEC.ROLLBACK.FW_MIRROR) } with revoked := setBit s.fuse.revoked slot } (showFuses (secGo s.m.fresh 6) { s.fuse with rollBed := Nat.max s.fuse.rollBed ((secGo s.m.fresh 6).rd R.SEC.ROLLBACK.BED_MIRROR), rollFw := Nat.max s.fuse.rollFw ((secGo s.m.fresh 6).rd R.SEC.ROLLBACK.FW_MIRROR) }) 2 0 || slotPasses { { s.fuse with rollBed := Nat.max s.fuse.rollBed ((secGo s.m.fresh 6).rd R.SEC.ROLLBACK.BED_MIRROR), rollFw := Nat.max s.fuse.rollFw ((secGo s.m.fresh 6).rd R.SEC.ROLLBACK.FW_MIRROR) } with revoked := setBit s.fuse.revoked slot } (showFuses (secGo s.m.fresh 6) { s.fuse with rollBed := Nat.max s.fuse.rollBed ((secGo s.m.fresh 6).rd R.SEC.ROLLBACK.BED_MIRROR), rollFw := Nat.max s.fuse.rollFw ((secGo s.m.fresh 6).rd R.SEC.ROLLBACK.FW_MIRROR) }) 2 1) = true) ∧ ((slotPasses { { s.fuse with rollBed := Nat.max s.fuse.rollBed ((secGo s.m.fresh 6).rd R.SEC.ROLLBACK.BED_MIRROR), rollFw := Nat.max s.fuse.rollFw ((secGo s.m.fresh 6).rd R.SEC.ROLLBACK.FW_MIRROR) } with revoked := setBit s.fuse.revoked slot } (showFuses (secGo s.m.fresh 6) { s.fuse with rollBed := Nat.max s.fuse.rollBed ((secGo s.m.fresh 6).rd R.SEC.ROLLBACK.BED_MIRROR), rollFw := Nat.max s.fuse.rollFw ((secGo s.m.fresh 6).rd R.SEC.ROLLBACK.FW_MIRROR) }) 1 0 || slotPasses { { s.fuse with rollBed := Nat.max s.fuse.rollBed ((secGo s.m.fresh 6).rd R.SEC.ROLLBACK.BED_MIRROR), rollFw := Nat.max s.fuse.rollFw ((secGo s.m.fresh 6).rd R.SEC.ROLLBACK.FW_MIRROR) } with revoked := setBit s.fuse.revoked slot } (showFuses (secGo s.m.fresh 6) { s.fuse with rollBed := Nat.max s.fuse.rollBed ((secGo s.m.fresh 6).rd R.SEC.ROLLBACK.BED_MIRROR), rollFw := Nat.max s.fuse.rollFw ((secGo s.m.fresh 6).rd R.SEC.ROLLBACK.FW_MIRROR) }) 1 1) = true) :=
  ⟨live, 5, by decide +kernel, by decide +kernel, by decide +kernel, by decide +kernel, by decide +kernel⟩

theorem witness_enrolLock : ∃ (s : State), (s.Runs) ∧ (secServes (showFuses (secGo s.m.fresh 7) { s.fuse with rollBed := Nat.max s.fuse.rollBed ((secGo s.m.fresh 7).rd R.SEC.ROLLBACK.BED_MIRROR), rollFw := Nat.max s.fuse.rollFw ((secGo s.m.fresh 7).rd R.SEC.ROLLBACK.FW_MIRROR) }) 7 0 = true) ∧ (s.fuse.locked = false) :=
  ⟨{ live with fuse := { live.fuse with locked := false } }, by decide +kernel, by decide +kernel, by decide +kernel⟩

/-! ## BedrockCommands -/

theorem witness_wdogKick : ∃ (s : State), (s.Runs) ∧ (s.m.flag R.SEC.STATE.FW_PRESENT = true) :=
  ⟨{ live with m := live.m.wr R.SEC.STATE.FW_PRESENT 1 }, by decide +kernel, by decide +kernel⟩

theorem witness_quiesced : ∃ (s : State), (s.Runs) :=
  ⟨live, by decide +kernel⟩

theorem witness_watchdogExpiry_trial : ∃ (s : State), (s.Runs) ∧ (s.m.flag R.SEC.STATE.FW_PRESENT = true) ∧ ((hev s.m.fresh 492).flag R.SEC.STATE.TRIAL_FW = true) :=
  ⟨{ live with m := live.m.wr R.SEC.STATE.FW_PRESENT 1 |>.wr R.SEC.STATE.TRIAL_FW 1 }, by decide +kernel, by decide +kernel, by decide +kernel⟩

theorem witness_watchdogExpiry_restart : ∃ (s : State), (s.Runs) ∧ (s.m.flag R.SEC.STATE.FW_PRESENT = true) ∧ ((hev s.m.fresh 492).flag R.SEC.STATE.TRIAL_FW = false) :=
  ⟨{ live with m := live.m.wr R.SEC.STATE.FW_PRESENT 1 }, by decide +kernel, by decide +kernel, by decide +kernel⟩

theorem witness_regionSet : ∃ (s : State) (n base pages rights : Nat), (s.Runs) ∧ (secServes (secGo s.m.fresh 8) 8 0 = true) ∧ (3 ≤ n) ∧ (n < 32) ∧ (bits rights 1 0 = 3) ∧ (overlapsFixed (secGo s.m.fresh 8) (base / 4096 * 4096) (pages % 2 ^ 24 * 4096) = false) :=
  ⟨live, 5, 0x3000000, 16, 0x80000003, by decide +kernel, by decide +kernel, by decide +kernel, by decide +kernel, by decide +kernel, by decide +kernel⟩

theorem witness_regionSet_denied : ∃ (s : State) (n base pages rights : Nat), (s.Runs) ∧ (n < 3 ∨ 32 ≤ n) :=
  ⟨live, 2, 0, 0, 0, by decide +kernel, by decide +kernel⟩

theorem witness_releaseChallengeRead : ∃ (s : State), (s.Runs) :=
  ⟨live, by decide +kernel⟩

theorem witness_release : ∃ (s : State) (target key t : Nat) (sig c hk : List Byte), (s.Runs) ∧ (({ (secGo s.m.fresh 9) with sec := { (secGo s.m.fresh 9).sec with nonce := none } } : Mach).mode = 11) ∧ (s.m.sec.nonce = some (c, t)) ∧ (keyHash s.fuse key = some hk) ∧ (s.m.mc.imm = none) ∧ (target = 3) :=
  ⟨{ live with m := { (live.m.wr R.SYS.MODE_STATUS.CURRENT 11) with sec := { live.m.sec with nonce := some ([], 0) } } }, 3, 0, 0, [], [], Config.romKeyHash 0, by decide +kernel, by decide +kernel, by decide +kernel, by rfl, by decide +kernel, by decide +kernel⟩

theorem witness_checkout : ∃ (s : State) (data : List Byte), (s.Runs) ∧ (secServes (secGo s.m.fresh 0xB) 11 0 = true) :=
  ⟨live, [1], by decide +kernel, by decide +kernel⟩

theorem witness_bedrockSramError : ∃ (s : State), (s.Runs) :=
  ⟨live, by decide +kernel⟩

/-! ## VaultCommands -/

theorem witness_vaultRequest : ∃ (s : State) (p : Principal) (typ key addr len : Nat), (s.Runs) ∧ (s.m.flag R.VAULT.REQ_STATUS.BUSY = false) ∧ (vaultMay p typ = true) :=
  ⟨live, .bed, 3, 0, 0, 16, by decide +kernel, by decide +kernel, by decide +kernel⟩

theorem witness_vaultRequest_denied : ∃ (s : State) (p : Principal) (typ key addr len : Nat), (s.Runs) ∧ (s.m.flag R.VAULT.REQ_STATUS.BUSY = false) ∧ (vaultMay p typ = false) :=
  ⟨live, .fw, 3, 0, 0, 16, by decide +kernel, by decide +kernel, by decide +kernel⟩

theorem witness_hoursCommit : ∃ (s : State), (s.Runs) :=
  ⟨live, by decide +kernel⟩

theorem witness_vaultReclaim : ∃ (s : State), (s.Runs) ∧ (vaultState s.m = 2) ∧ (s.m.vlt.tail ≠ s.m.vlt.head) ∧ (s.m.vlt.free < 4) :=
  ⟨{ live with m := { live.m.wr R.VAULT.STATUS.STATE 2 with vlt := { live.m.vlt with head := 3, tail := 1, sectors := [] } } }, by decide +kernel, by decide +kernel, by decide +kernel, by decide +kernel⟩

theorem witness_vaultCompact : ∃ (s : State), (s.Runs) ∧ (vaultState s.m = 2) ∧ (s.m.vlt.tail ≠ s.m.vlt.head) :=
  ⟨{ live with m := { live.m.wr R.VAULT.STATUS.STATE 2 with vlt := { live.m.vlt with head := 3, tail := 1, sectors := [] } } }, by decide +kernel, by decide +kernel, by decide +kernel⟩

theorem witness_vaultCompact_busy : ∃ (s : State), (s.Runs) ∧ (vaultState s.m = 3) :=
  ⟨{ live with m := live.m.wr R.VAULT.STATUS.STATE 3 }, by decide +kernel, by decide +kernel⟩

theorem witness_sectorEraseDone : ∃ (s : State) (n : Nat) (b : Bool), (s.Runs) ∧ (s.m.vlt.erasing = some (n, b)) ∧ (s.m.vlt.suspended = false) :=
  ⟨{ live with m := { live.m with vlt := { live.m.vlt with erasing := some (1, false) } } }, 1, false, by decide +kernel, by decide +kernel, by decide +kernel⟩

theorem witness_sectorEraseDone_again : ∃ (s : State) (n : Nat), (s.Runs) ∧ (s.m.vlt.erasing = some (n, false)) ∧ (s.m.vlt.suspended = false) :=
  ⟨{ live with m := { live.m with vlt := { live.m.vlt with erasing := some (1, false) } } }, 1, by decide +kernel, by decide +kernel, by decide +kernel⟩

theorem witness_sectorEraseDone_retired : ∃ (s : State) (n : Nat), (s.Runs) ∧ (s.m.vlt.erasing = some (n, true)) ∧ (s.m.vlt.suspended = false) :=
  ⟨{ live with m := { live.m with vlt := { live.m.vlt with erasing := some (1, true) } } }, 1, by decide +kernel, by decide +kernel, by decide +kernel⟩

theorem witness_vcpAreaRefresh : ∃ (s : State) (d : List Byte) (r : VRec), (s.Runs) ∧ (s.m.vlt.storedVcp = some d) ∧ (s.m.vlt.latest 0xA 0 = some r) ∧ (s.m.vlt.oscSec + twoYears ≤ s.m.rtc) ∧ (s.m.cal.vcp = none) :=
  ⟨{ live with m := { live.m.wr R.LANT.RTC_SEC_LO.SEC 70000000 with vlt := { live.m.vlt with sectors := [⟨0, 0, 0, true, false, false, 64, [⟨1, 10, 0, [0], false⟩]⟩] } } }, [], ⟨1, 10, 0, [0], false⟩, by decide +kernel, by decide +kernel, by decide +kernel, by decide +kernel, by decide +kernel⟩

theorem witness_flashOperationFailed_single : ∃ (s : State) (dev : Nat), (s.Runs) ∧ (dev < 2) ∧ (bit s.m.vlt.devOk dev = true) ∧ ((({ s.m.fresh with vlt := { s.m.fresh.vlt with devOk := clrBit s.m.fresh.vlt.devOk dev } } : Mach).ev E.VAULT.DEVICE_LOST).vlt.devOk ≠ 0) :=
  ⟨{ live with m := { live.m with vlt := { live.m.vlt with devOk := 3 } } }, 1, by decide +kernel, by decide +kernel, by decide +kernel, by decide +kernel⟩

theorem witness_vaultRecordCommit : ∃ (s : State) (r : VReq), (s.Runs) ∧ (s.m.vlt.opened = some r) :=
  ⟨{ live with m := { live.m with vlt := { live.m.vlt with opened := some ⟨4, 0, .bytes [], .hours⟩ } } }, ⟨4, 0, .bytes [], .hours⟩, by decide +kernel, by decide +kernel⟩

/-! ## PackageCommands -/

theorem witness_vcpExport : ∃ (s : State) (addr cap flags : Nat) (streams : List (List Byte)), (s.Runs) ∧ (fwServes s.m = true) ∧ (s.m.cal.vcp = none) :=
  ⟨{ live with m := live.m.wr R.SEC.STATE.FW_PRESENT 1 }, 0, 1000000000, 0, [], by decide +kernel, by decide +kernel, by decide +kernel⟩

theorem witness_vcpStore : ∃ (s : State) (addr len : Nat) (p : Vcp), (s.Runs) ∧ (fwServes s.m = true) ∧ (s.m.cal.vcp = none) ∧ ((devRead s.mem ((s.m.fresh.wr R.CAL.VCP_STATUS.BUSY 1).wr R.CAL.VCP_STATUS.SKIPPED 0) .fw 1 addr len).1 = .fine) ∧ (vcpParse (devRead s.mem ((s.m.fresh.wr R.CAL.VCP_STATUS.BUSY 1).wr R.CAL.VCP_STATUS.SKIPPED 0) .fw 1 addr len).2.1 = some p) ∧ (((devRead s.mem ((s.m.fresh.wr R.CAL.VCP_STATUS.BUSY 1).wr R.CAL.VCP_STATUS.SKIPPED 0) .fw 1 addr len).2.1.take (fieldLE (devRead s.mem ((s.m.fresh.wr R.CAL.VCP_STATUS.BUSY 1).wr R.CAL.VCP_STATUS.SKIPPED 0) .fw 1 addr len).2.1 12 4)).length ≤ vcpMib (devRead s.mem ((s.m.fresh.wr R.CAL.VCP_STATUS.BUSY 1).wr R.CAL.VCP_STATUS.SKIPPED 0) .fw 1 addr len).2.2 * 2 ^ 20) :=
  ⟨{ live with m := (((live.m.wr R.DRAM.STATUS.SERVICEABLE 1).wr R.DRAM.CAPACITY.MIB 4).wr R.DRAM.CH_STATUS.STATE 2 0).wr R.SEC.STATE.FW_PRESENT 1, mem := applyWrites [] [(0x200000, vcpFile (List.replicate 16 0) (List.replicate 16 0) 0 [])] }, 0x200000, 72, ⟨List.replicate 16 0, List.replicate 16 0, []⟩, by decide +kernel, by decide +kernel, by decide +kernel, by decide +kernel, by decide +kernel, by decide +kernel⟩

theorem witness_vcpRestore_dram : ∃ (s : State) (addr len source : Nat) (p : Vcp), (s.Runs) ∧ (fwServes s.m = true) ∧ (s.m.cal.vcp = none) ∧ (source ≠ 1) ∧ ((devRead s.mem ((s.m.fresh.wr R.CAL.VCP_STATUS.BUSY 1).wr R.CAL.VCP_STATUS.SKIPPED 0) .fw 1 addr len).1 = .fine) ∧ (vcpParse (devRead s.mem ((s.m.fresh.wr R.CAL.VCP_STATUS.BUSY 1).wr R.CAL.VCP_STATUS.SKIPPED 0) .fw 1 addr len).2.1 = some p) :=
  ⟨{ live with m := (((live.m.wr R.DRAM.STATUS.SERVICEABLE 1).wr R.DRAM.CAPACITY.MIB 4).wr R.DRAM.CH_STATUS.STATE 2 0).wr R.SEC.STATE.FW_PRESENT 1, mem := applyWrites [] [(0x200000, vcpFile (List.replicate 16 0) (List.replicate 16 0) 0 [])] }, 0x200000, 72, 0, ⟨List.replicate 16 0, List.replicate 16 0, []⟩, by decide +kernel, by decide +kernel, by decide +kernel, by decide +kernel, by decide +kernel, by decide +kernel⟩

theorem witness_vcpRestore_stored : ∃ (s : State) (addr len : Nat) (p : Vcp), (s.Runs) ∧ (fwServes s.m = true) ∧ (s.m.cal.vcp = none) ∧ (vcpParse (s.m.vlt.storedVcp.getD []) = some p) :=
  ⟨{ live with m := { live.m.wr R.SEC.STATE.FW_PRESENT 1 with vlt := { live.m.vlt with sectors := [⟨0, 0, 0, true, false, false, 64, [⟨1, 10, 0, [0], false⟩]⟩], areaA := ⟨vcpFile (List.replicate 16 0) (List.replicate 16 0) 0 [], true⟩ } } }, 0, 0, ⟨List.replicate 16 0, List.replicate 16 0, []⟩, by decide +kernel, by decide +kernel, by decide +kernel, by decide +kernel⟩

/-! ## SceneCommands -/

theorem witness_msfHeader : ∃ (s : State) (b : List Byte) (a : Nat), (s.Runs) ∧ ((pathOf s.m 0).rx = none) ∧ (pathSelected s.m 0 = true) ∧ (headerCode s.m (slice b 0 64) = 0) ∧ (s.m.flow.frames.length < 64) ∧ (queuePlace ({ s.m.fresh with flow := { s.m.fresh.flow with mark := some (fieldLE (slice b 0 64) 8 4) } }) (fieldLE (slice b 0 64) 24 4) = some a) :=
  ⟨{ live with m := ((live.m.wr R.FLOW.QUEUE_SIZE.SIZE_MIB 64).dset D.scene_source 2) }, [77, 83, 70, 2, 64, 0, 1, 1, 9, 0, 0, 0, 0, 0, 0, 0, 0, 0, 0, 0, 0, 0, 0, 0, 8, 1, 0, 0, 100, 0, 0, 0, 0, 0, 0, 0, 0, 1, 0, 0, 0, 0, 0, 0, 0, 0, 0, 0, 0, 0, 0, 0, 0, 0, 0, 0, 0, 0, 0, 0, 238, 168, 119, 92], 1073741824, by decide +kernel, by decide +kernel, by decide +kernel, by decide +kernel, by decide +kernel, by decide +kernel⟩

theorem witness_msfSlabEntry : ∃ (s : State) (b : List Byte) (f : Frame), (s.Runs) ∧ (receiving s.m 0 1 = some f) ∧ (slabCode f (slice b 0 192) = 0) ∧ (tableCode ({ (f.take (slice b 0 192)) with slabs := f.slabs ++ [slabOf f.seq (slice b 0 192)] } : Frame) = 0) ∧ ((frameOf (queueRefresh (frameMod s.m.fresh f.seq (fun _ => ({ (f.take (slice b 0 192)) with slabs := f.slabs ++ [slabOf f.seq (slice b 0 192)] } : Frame)))) f.seq).isNone = false) :=
  ⟨{ live with m := { live.m with flow := { live.m.flow with frames := [{ seq := 7, ver := 2, flags := 0, base := 0, launch := 0, bytes := 1000, white := 100, tcount := 2, poff := 64, nslab := 2, path := 0, addr := 0x100000, st := 0, got := 64, crc := 0xFFFFFFFF, slabs := [], tail := false, v1cost := 0, legacy := none, due := none, geom := [], head := [], parts := [], bad := [], plan := none, walk := false, planOpt := false, plan2 := none, checked := 0 }], paths := [⟨some 7, none⟩, ⟨none, none⟩] } } }, [0, 1], { seq := 7, ver := 2, flags := 0, base := 0, launch := 0, bytes := 1000, white := 100, tcount := 2, poff := 64, nslab := 2, path := 0, addr := 0x100000, st := 0, got := 64, crc := 0xFFFFFFFF, slabs := [], tail := false, v1cost := 0, legacy := none, due := none, geom := [], head := [], parts := [], bad := [], plan := none, walk := false, planOpt := false, plan2 := none, checked := 0 }, by decide +kernel, by decide +kernel, by decide +kernel, by decide +kernel, by decide +kernel⟩

theorem witness_msfTileIndex : ∃ (s : State) (b : List Byte) (f : Frame) (sl : MSlab), (s.Runs) ∧ (receiving s.m 0 2 = some f) ∧ (f.openSlab = some sl) ∧ (tileCode f sl (slice b 0 16) = 0) ∧ (indexCode (Frame.addTile (f.take (slice b 0 16)) sl.id (tileOf (slice b 0 16))) = 0) ∧ ((frameOf (queueRefresh (frameMod s.m.fresh f.seq (fun _ => (Frame.addTile (f.take (slice b 0 16)) sl.id (tileOf (slice b 0 16)))))) f.seq).isNone = false) :=
  ⟨{ live with m := { live.m with flow := { live.m.flow with frames := [{ seq := 7, ver := 2, flags := 1, base := 0, launch := 0, bytes := 1000, white := 100, tcount := 2, poff := 0, nslab := 1, path := 0, addr := 0x100000, st := 0, got := 64, crc := 0xFFFFFFFF, slabs := [{ id := 0, pers := 0, fmt := 3, itv := 3, w := 1, h := 1, idx := 0, pose := [], freq := [[4096], [4096], [4096], [4096]], src := 7, tiles := [] }], tail := false, v1cost := 0, legacy := none, due := none, geom := [], head := [], parts := [], bad := [], plan := none, walk := false, planOpt := false, plan2 := none, checked := 0 }], paths := [⟨some 7, none⟩, ⟨none, none⟩] } } }, [], { seq := 7, ver := 2, flags := 1, base := 0, launch := 0, bytes := 1000, white := 100, tcount := 2, poff := 0, nslab := 1, path := 0, addr := 0x100000, st := 0, got := 64, crc := 0xFFFFFFFF, slabs := [{ id := 0, pers := 0, fmt := 3, itv := 3, w := 1, h := 1, idx := 0, pose := [], freq := [[4096], [4096], [4096], [4096]], src := 7, tiles := [] }], tail := false, v1cost := 0, legacy := none, due := none, geom := [], head := [], parts := [], bad := [], plan := none, walk := false, planOpt := false, plan2 := none, checked := 0 }, { id := 0, pers := 0, fmt := 3, itv := 3, w := 1, h := 1, idx := 0, pose := [], freq := [[4096], [4096], [4096], [4096]], src := 7, tiles := [] }, by decide +kernel, by decide +kernel, by decide +kernel, by decide +kernel, by decide +kernel, by decide +kernel⟩

theorem witness_msfTilePayload : ∃ (s : State) (b : List Byte) (f : Frame) (id q : Nat) (t : MTile) (sl : MSlab), (s.Runs) ∧ (receiving s.m 0 3 = some f) ∧ (f.nextPayload = some (id, q, t)) ∧ (f.slab id = some sl) ∧ (zeros b 0 (t.off - f.got) = true) ∧ ((b.drop (t.off - f.got)).length = t.len) ∧ (payloadCode (b.drop (t.off - f.got)) sl.itv (f.ver != 2) = 0) ∧ ((frameOf (queueRefresh (frameMod s.m.fresh f.seq (fun _ => (Frame.tileHere (f.take b) id q)))) f.seq).isNone = false) :=
  ⟨{ live with m := { live.m with flow := { live.m.flow with frames := [{ seq := 7, ver := 1, flags := 1, base := 0, launch := 0, bytes := 1000, white := 100, tcount := 1, poff := 64, nslab := 1, path := 0, addr := 0x100000, st := 0, got := 64, crc := 0xFFFFFFFF, slabs := [{ id := 0, pers := 0, fmt := 3, itv := 3, w := 1, h := 1, idx := 0, pose := [], freq := [[4096], [4096], [4096], [4096]], src := 7, tiles := [{ off := 64, len := 12, cls := 3, cost := 0, dmin := 0, dmax := 0, here := false }] }], tail := false, v1cost := 0, legacy := none, due := none, geom := [], head := [], parts := [], bad := [], plan := none, walk := false, planOpt := false, plan2 := none, checked := 0 }], paths := [⟨some 7, none⟩, ⟨none, none⟩] } } }, [4, 0, 0, 0, 0, 0, 1, 0, 0, 0, 1, 0], { seq := 7, ver := 1, flags := 1, base := 0, launch := 0, bytes := 1000, white := 100, tcount := 1, poff := 64, nslab := 1, path := 0, addr := 0x100000, st := 0, got := 64, crc := 0xFFFFFFFF, slabs := [{ id := 0, pers := 0, fmt := 3, itv := 3, w := 1, h := 1, idx := 0, pose := [], freq := [[4096], [4096], [4096], [4096]], src := 7, tiles := [{ off := 64, len := 12, cls := 3, cost := 0, dmin := 0, dmax := 0, here := false }] }], tail := false, v1cost := 0, legacy := none, due := none, geom := [], head := [], parts := [], bad := [], plan := none, walk := false, planOpt := false, plan2 := none, checked := 0 }, 0, 0, { off := 64, len := 12, cls := 3, cost := 0, dmin := 0, dmax := 0, here := false }, { id := 0, pers := 0, fmt := 3, itv := 3, w := 1, h := 1, idx := 0, pose := [], freq := [[4096], [4096], [4096], [4096]], src := 7, tiles := [{ off := 64, len := 12, cls := 3, cost := 0, dmin := 0, dmax := 0, here := false }] }, by decide +kernel, by decide +kernel, by decide +kernel, by decide +kernel, by decide +kernel, by decide +kernel, by decide +kernel, by decide +kernel⟩

theorem witness_msfFrameTrailer : ∃ (s : State) (b : List Byte) (f : Frame), (s.Runs) ∧ (receiving s.m 0 4 = some f) ∧ (zeros b 0 (f.bytes - 8 - f.got) = true) ∧ ((b.drop (f.bytes - 8 - f.got)).length = 8) ∧ (fieldLE (b.drop (f.bytes - 8 - f.got)) 0 4 = Nat.xor (f.take (b.take (f.bytes - 8 - f.got))).crc 0xFFFFFFFF) ∧ (fieldLE (b.drop (f.bytes - 8 - f.got)) 4 4 = 0x4546534D) ∧ ((frameOf (pathMod (queueRefresh (frameMod s.m.fresh f.seq (fun _ => ({ (f.take (b.take (f.bytes - 8 - f.got))) with got := f.bytes, tail := true, st := F_COMPLETE } : Frame)))) f.path (fun _ => ⟨none, none⟩)) f.seq).isNone = false) :=
  ⟨{ live with m := { live.m with flow := { live.m.flow with frames := [{ seq := 7, ver := 2, flags := 1, base := 0, launch := 0, bytes := 72, white := 100, tcount := 0, poff := 64, nslab := 0, path := 0, addr := 0x100000, st := 0, got := 64, crc := 0xFFFFFFFF, slabs := [], tail := false, v1cost := 0, legacy := none, due := none, geom := [], head := [], parts := [], bad := [], plan := none, walk := false, planOpt := false, plan2 := none, checked := 0 }], paths := [⟨some 7, none⟩, ⟨none, none⟩] } } }, [0, 0, 0, 0, 0x4D, 0x53, 0x46, 0x45], { seq := 7, ver := 2, flags := 1, base := 0, launch := 0, bytes := 72, white := 100, tcount := 0, poff := 64, nslab := 0, path := 0, addr := 0x100000, st := 0, got := 64, crc := 0xFFFFFFFF, slabs := [], tail := false, v1cost := 0, legacy := none, due := none, geom := [], head := [], parts := [], bad := [], plan := none, walk := false, planOpt := false, plan2 := none, checked := 0 }, by decide +kernel, by decide +kernel, by decide +kernel, by decide +kernel, by decide +kernel, by decide +kernel, by decide +kernel⟩

/-! ## FlowstoneCommands -/

theorem witness_lateFrameBytes : ∃ (s : State) (path k l : Nat), (s.Runs) ∧ ((pathOf s.m path).drop = some (some l, false)) ∧ (k ≠ 0) ∧ (k ≤ l) :=
  ⟨{ live with m := { live.m with flow := { live.m.flow with paths := [⟨none, some (some 20, false)⟩, ⟨none, none⟩] } } }, 0, 5, 20, by decide +kernel, by decide +kernel, by decide +kernel, by decide +kernel⟩

theorem witness_stallTimeout : ∃ (s : State) (path q : Nat) (f : Frame), (s.Runs) ∧ ((pathOf s.m path).rx = some q) ∧ (frameOf s.m q = some f) ∧ (f.st = F_RECEIVING) :=
  ⟨{ live with m := { live.m with flow := { live.m.flow with frames := [{ seq := 7, ver := 2, flags := 1, base := 0, launch := 0, bytes := 1000, white := 100, tcount := 2, poff := 64, nslab := 2, path := 0, addr := 0x100000, st := 0, got := 64, crc := 0xFFFFFFFF, slabs := [], tail := false, v1cost := 0, legacy := none, due := none, geom := [], head := [], parts := [], bad := [], plan := none, walk := false, planOpt := false, plan2 := none, checked := 0 }], paths := [⟨some 7, none⟩, ⟨none, none⟩] } } }, 0, 7, { seq := 7, ver := 2, flags := 1, base := 0, launch := 0, bytes := 1000, white := 100, tcount := 2, poff := 64, nslab := 2, path := 0, addr := 0x100000, st := 0, got := 64, crc := 0xFFFFFFFF, slabs := [], tail := false, v1cost := 0, legacy := none, due := none, geom := [], head := [], parts := [], bad := [], plan := none, walk := false, planOpt := false, plan2 := none, checked := 0 }, by decide +kernel, by decide +kernel, by decide +kernel, by decide +kernel⟩

theorem witness_queueFlush : ∃ (s : State), (s.Runs) :=
  ⟨live, by decide +kernel⟩

theorem witness_tileRowDemand_absent : ∃ (s : State) (k : RowKey) (band req : Nat), (s.Runs) ∧ (rowAbsent s.m k = true) :=
  ⟨live, (⟨7, 0, 0, 0⟩ : RowKey), 0, 0, by decide +kernel, by decide +kernel⟩

theorem witness_tileRowDemand : ∃ (s : State) (k : RowKey) (band req : Nat) (c : Ctx), (s.Runs) ∧ (rowAbsent s.m k = false) ∧ (growOf s.m k = none) ∧ (s.m.flow.demands.any (fun d => d.key == k) = false) ∧ (s.m.flow.demands.length < 4096) ∧ (s.m.rd R.FLOW.STATUS.STATE = 1) ∧ (ctxOf (needCtx ({ s.m.fresh with flow := { s.m.fresh.flow with demands := s.m.fresh.flow.demands ++ [⟨k, band, req, s.m.fresh.flow.nextArr, none, false⟩], nextArr := s.m.fresh.flow.nextArr + 1 } }) k 0) k = some c) :=
  ⟨{ live with m := ({ ((live.m.wr R.FLOW.STATUS.STATE 1).wr R.FLOW.CTX_QUOTA_SCENE.QUOTA 8) with flow := { live.m.flow with frames := [{ seq := 7, ver := 2, flags := 1, base := 0, launch := 0, bytes := 1000, white := 100, tcount := 1, poff := 64, nslab := 1, path := 0, addr := 0x100000, st := 3, got := 64, crc := 0xFFFFFFFF, slabs := [{ id := 0, pers := 0, fmt := 3, itv := 0, w := 1, h := 1, idx := 0, pose := [], freq := [[4096], [4096], [4096], [4096]], src := 7, tiles := [{ off := 64, len := 24, cls := 3, cost := 0, dmin := 0, dmax := 0, here := true }] }], tail := false, v1cost := 0, legacy := none, due := none, geom := [], head := [], parts := [], bad := [], plan := none, walk := false, planOpt := false, plan2 := none, checked := 0 }] } } : Mach) }, (⟨7, 0, 0, 0⟩ : RowKey), 0, 0, ((ctxOf (needCtx ({ ((live.m.wr R.FLOW.STATUS.STATE 1).wr R.FLOW.CTX_QUOTA_SCENE.QUOTA 8) with flow := { live.m.flow with frames := [{ seq := 7, ver := 2, flags := 1, base := 0, launch := 0, bytes := 1000, white := 100, tcount := 1, poff := 64, nslab := 1, path := 0, addr := 0x100000, st := 3, got := 64, crc := 0xFFFFFFFF, slabs := [{ id := 0, pers := 0, fmt := 3, itv := 0, w := 1, h := 1, idx := 0, pose := [], freq := [[4096], [4096], [4096], [4096]], src := 7, tiles := [{ off := 64, len := 24, cls := 3, cost := 0, dmin := 0, dmax := 0, here := true }] }], tail := false, v1cost := 0, legacy := none, due := none, geom := [], head := [], parts := [], bad := [], plan := none, walk := false, planOpt := false, plan2 := none, checked := 0 }] } } : Mach) (⟨7, 0, 0, 0⟩ : RowKey) 0) (⟨7, 0, 0, 0⟩ : RowKey)).getD ⟨0, 0, 0, 0, [], 0, 0, false, 0, false, 0, 0, 0, 0, 0, 0, 0⟩), by decide +kernel, by decide +kernel, by decide +kernel, by decide +kernel, by decide +kernel, by decide +kernel, by decide +kernel⟩

theorem witness_rowCommit : ∃ (s : State) (lane : Nat) (d : Demand), (s.Runs) ∧ (s.m.flow.demands.find? (fun d => d.lane == some lane) = some d) :=
  ⟨{ live with m := { live.m with flow := { live.m.flow with demands := [⟨(⟨7, 0, 0, 0⟩ : RowKey), 0, 0, 0, some 3, false⟩] } } }, 3, ⟨(⟨7, 0, 0, 0⟩ : RowKey), 0, 0, 0, some 3, false⟩, by decide +kernel, by decide +kernel⟩

theorem witness_rowCommit_decoded : ∃ (s : State) (lane slot : Nat) (d : Demand) (f : Frame) (sl : MSlab) (t : MTile) (c : Ctx) (ws : List Nat) (g : SegDec) (m1 : Mach), (s.Runs) ∧ (s.m.flow.demands.find? (fun d => d.lane == some lane) = some d) ∧ (tileFor s.m d.key = some (f, sl, t)) ∧ (ctxOf s.m d.key = some c) ∧ (f.bad = []) ∧ (rowToDecode s.m c d.key.row = (d.key.row, false, true)) ∧ (f.ver = 2) ∧ ((decodeRow (payloadWord s.mem (f.addr + t.off)) ⟨sl.fmt, sl.freq, t.cls, t.dmin, t.dmax⟩ (segStart (payloadWord s.mem (f.addr + t.off)) 4 ((payloadWord s.mem (f.addr + t.off)) (4 * (d.key.row / segRows sl.itv)) + 65536 * (payloadWord s.mem (f.addr + t.off)) (4 * (d.key.row / segRows sl.itv) + 2)) (if (d.key.row / segRows sl.itv) + 1 < 64 / segRows sl.itv then ((payloadWord s.mem (f.addr + t.off)) (4 * ((d.key.row / segRows sl.itv) + 1)) + 65536 * (payloadWord s.mem (f.addr + t.off)) (4 * ((d.key.row / segRows sl.itv) + 1) + 2)) else t.len - 4)) none ((d.key.row + 1) % segRows sl.itv = 0)).toOption = some (ws, g)) ∧ (placeRow s.m.fresh d.key ws = some (slot, m1)) :=
  ⟨{ live with m := { live.m with flow := { live.m.flow with frames := [{ seq := 7, ver := 2, flags := 1, base := 0, launch := 0, bytes := 1000, white := 100, tcount := 1, poff := 64, nslab := 1, path := 0, addr := 0x100000, st := 3, got := 64, crc := 0xFFFFFFFF, slabs := [{ id := 0, pers := 0, fmt := 3, itv := 0, w := 1, h := 1, idx := 0, pose := [], freq := [[4096], [4096], [4096], [4096]], src := 7, tiles := [{ off := 64, len := 24, cls := 3, cost := 0, dmin := 0, dmax := 0, here := true }] }], tail := false, v1cost := 0, legacy := none, due := none, geom := [], head := [], parts := [], bad := [], plan := none, walk := false, planOpt := false, plan2 := none, checked := 0 }], ctxs := [(⟨0, 7, 0, 0, [0, 0, 0, 0], 0, 0, true, 0, false, 3, 0, 0, 0, 0, 0, 0⟩ : Ctx)], demands := [⟨⟨7, 0, 0, 0⟩, 0, 0, 0, some 3, false⟩] } }, mem := applyWrites [] [(0x100040, [8, 0, 0, 0, 32, 0, 0, 0] ++ (List.replicate 4 [0, 0, 1, 0]).flatten)] }, 3, ((placeRow { { live.m with flow := { live.m.flow with frames := [{ seq := 7, ver := 2, flags := 1, base := 0, launch := 0, bytes := 1000, white := 100, tcount := 1, poff := 64, nslab := 1, path := 0, addr := 0x100000, st := 3, got := 64, crc := 0xFFFFFFFF, slabs := [{ id := 0, pers := 0, fmt := 3, itv := 0, w := 1, h := 1, idx := 0, pose := [], freq := [[4096], [4096], [4096], [4096]], src := 7, tiles := [{ off := 64, len := 24, cls := 3, cost := 0, dmin := 0, dmax := 0, here := true }] }], tail := false, v1cost := 0, legacy := none, due := none, geom := [], head := [], parts := [], bad := [], plan := none, walk := false, planOpt := false, plan2 := none, checked := 0 }], ctxs := [(⟨0, 7, 0, 0, [0, 0, 0, 0], 0, 0, true, 0, false, 3, 0, 0, 0, 0, 0, 0⟩ : Ctx)], demands := [⟨⟨7, 0, 0, 0⟩, 0, 0, 0, some 3, false⟩] } } with out := [] } ⟨7, 0, 0, 0⟩ (List.replicate 64 (texelWord 0 0 0 1023 0 0))).getD (0, live.m)).1, ⟨⟨7, 0, 0, 0⟩, 0, 0, 0, some 3, false⟩, { seq := 7, ver := 2, flags := 1, base := 0, launch := 0, bytes := 1000, white := 100, tcount := 1, poff := 64, nslab := 1, path := 0, addr := 0x100000, st := 3, got := 64, crc := 0xFFFFFFFF, slabs := [{ id := 0, pers := 0, fmt := 3, itv := 0, w := 1, h := 1, idx := 0, pose := [], freq := [[4096], [4096], [4096], [4096]], src := 7, tiles := [{ off := 64, len := 24, cls := 3, cost := 0, dmin := 0, dmax := 0, here := true }] }], tail := false, v1cost := 0, legacy := none, due := none, geom := [], head := [], parts := [], bad := [], plan := none, walk := false, planOpt := false, plan2 := none, checked := 0 }, { id := 0, pers := 0, fmt := 3, itv := 0, w := 1, h := 1, idx := 0, pose := [], freq := [[4096], [4096], [4096], [4096]], src := 7, tiles := [{ off := 64, len := 24, cls := 3, cost := 0, dmin := 0, dmax := 0, here := true }] }, { off := 64, len := 24, cls := 3, cost := 0, dmin := 0, dmax := 0, here := true }, (⟨0, 7, 0, 0, [0, 0, 0, 0], 0, 0, true, 0, false, 3, 0, 0, 0, 0, 0, 0⟩ : Ctx), List.replicate 64 (texelWord 0 0 0 1023 0 0), ⟨[0x10000, 0x10000, 0x10000, 0x10000], 0, 24, 32⟩, ((placeRow { { live.m with flow := { live.m.flow with frames := [{ seq := 7, ver := 2, flags := 1, base := 0, launch := 0, bytes := 1000, white := 100, tcount := 1, poff := 64, nslab := 1, path := 0, addr := 0x100000, st := 3, got := 64, crc := 0xFFFFFFFF, slabs := [{ id := 0, pers := 0, fmt := 3, itv := 0, w := 1, h := 1, idx := 0, pose := [], freq := [[4096], [4096], [4096], [4096]], src := 7, tiles := [{ off := 64, len := 24, cls := 3, cost := 0, dmin := 0, dmax := 0, here := true }] }], tail := false, v1cost := 0, legacy := none, due := none, geom := [], head := [], parts := [], bad := [], plan := none, walk := false, planOpt := false, plan2 := none, checked := 0 }], ctxs := [(⟨0, 7, 0, 0, [0, 0, 0, 0], 0, 0, true, 0, false, 3, 0, 0, 0, 0, 0, 0⟩ : Ctx)], demands := [⟨⟨7, 0, 0, 0⟩, 0, 0, 0, some 3, false⟩] } } with out := [] } ⟨7, 0, 0, 0⟩ (List.replicate 64 (texelWord 0 0 0 1023 0 0))).getD (0, live.m)).2, by decide +kernel, by decide +kernel, by decide +kernel, by decide +kernel, by decide +kernel, by decide +kernel, by decide +kernel, by decide +kernel, by decide +kernel⟩

/-! ## FlowstoneControl -/

theorem witness_backgroundSegmentDone_clean : ∃ (s : State) (q sl t sg : Nat) (l : List (Nat × Nat × Nat × Nat)) (f : Frame) (b : BadSeg), (s.Runs) ∧ (hasGrant s.m 1 0 = true) ∧ ((lanesFree s.m).isEmpty = false) ∧ (poolQuota s.m 1 ≠ 0) ∧ (s.m.rd R.FLOW.STATUS.STATE = 1) ∧ (s.m.flow.bg = (q, sl, t, sg) :: l) ∧ (frameOf ({ s.m.fresh with flow := { s.m.fresh.flow with bg := l } }) q = some f) ∧ (f.bad.find? (fun b => b.slab == sl && b.tile == t && b.seg == sg) = some b) ∧ (b.tried = false) ∧ (checkSegment s.mem ({ s.m.fresh with flow := { s.m.fresh.flow with bg := l } }) ⟨q, sl, t, 0⟩ sg = none) :=
  ⟨{ live with m := { (((live.m.wr R.FLOW.STATUS.STATE 1).wr R.FLOW.LANE_ACTIVE.LANES 3).wr R.FLOW.CTX_QUOTA_AUX.QUOTA 4) with ch := { live.m.ch with grants := [⟨1, 0, 8, 0, true, false⟩] }, flow := { live.m.flow with frames := [{ seq := 7, ver := 2, flags := 1, base := 0, launch := 0, bytes := 1000, white := 100, tcount := 1, poff := 64, nslab := 1, path := 0, addr := 0x100000, st := 3, got := 64, crc := 0xFFFFFFFF, slabs := [{ id := 0, pers := 0, fmt := 3, itv := 0, w := 1, h := 1, idx := 0, pose := [], freq := [[4096], [4096], [4096], [4096]], src := 7, tiles := [{ off := 64, len := 24, cls := 0, cost := 0, dmin := 0, dmax := 0, here := true }] }], tail := false, v1cost := 0, legacy := none, due := none, geom := [], head := [], parts := [], bad := [⟨9, 0, 0, 0, 5, 2, false⟩], plan := none, walk := false, planOpt := false, plan2 := none, checked := 0 }], bg := [(7, 9, 0, 0)] } } }, 7, 9, 0, 0, [], { seq := 7, ver := 2, flags := 1, base := 0, launch := 0, bytes := 1000, white := 100, tcount := 1, poff := 64, nslab := 1, path := 0, addr := 0x100000, st := 3, got := 64, crc := 0xFFFFFFFF, slabs := [{ id := 0, pers := 0, fmt := 3, itv := 0, w := 1, h := 1, idx := 0, pose := [], freq := [[4096], [4096], [4096], [4096]], src := 7, tiles := [{ off := 64, len := 24, cls := 0, cost := 0, dmin := 0, dmax := 0, here := true }] }], tail := false, v1cost := 0, legacy := none, due := none, geom := [], head := [], parts := [], bad := [⟨9, 0, 0, 0, 5, 2, false⟩], plan := none, walk := false, planOpt := false, plan2 := none, checked := 0 }, ⟨9, 0, 0, 0, 5, 2, false⟩, by decide +kernel, by decide +kernel, by decide +kernel, by decide +kernel, by decide +kernel, by decide +kernel, by decide +kernel, by decide +kernel, by decide +kernel, by decide +kernel⟩

theorem witness_backgroundSegmentDone_none : ∃ (s : State), (s.Runs) ∧ (hasGrant s.m 1 0 = true) ∧ ((lanesFree s.m).isEmpty = false) ∧ (poolQuota s.m 1 ≠ 0) ∧ (s.m.rd R.FLOW.STATUS.STATE = 1) ∧ (s.m.flow.bg = []) ∧ (nextPrecheck s.m = none) :=
  ⟨{ live with m := { (((live.m.wr R.FLOW.STATUS.STATE 1).wr R.FLOW.LANE_ACTIVE.LANES 3).wr R.FLOW.CTX_QUOTA_AUX.QUOTA 4) with ch := { live.m.ch with grants := [⟨1, 0, 8, 0, true, false⟩] }, flow := { live.m.flow with frames := [], bg := [] } } }, by decide +kernel, by decide +kernel, by decide +kernel, by decide +kernel, by decide +kernel, by decide +kernel, by decide +kernel⟩

theorem witness_backgroundSegmentDone_precheck : ∃ (s : State) (q sl t sg row code : Nat) (f : Frame), (s.Runs) ∧ (hasGrant s.m 1 0 = true) ∧ ((lanesFree s.m).isEmpty = false) ∧ (poolQuota s.m 1 ≠ 0) ∧ (s.m.rd R.FLOW.STATUS.STATE = 1) ∧ (s.m.flow.bg = []) ∧ (nextPrecheck s.m = some (q, sl, t, sg)) ∧ (frameOf (frameMod s.m.fresh q (fun f => { f with checked := f.checked + 1 })) q = some f) ∧ (checkSegment s.mem (frameMod s.m.fresh q (fun f => { f with checked := f.checked + 1 })) ⟨q, sl, t, 0⟩ sg = some (row, code)) :=
  ⟨{ live with m := { ((((live.m.wr R.FLOW.STATUS.STATE 1).wr R.FLOW.CTRL.BG_EN 1).wr R.FLOW.LANE_ACTIVE.LANES 3).wr R.FLOW.CTX_QUOTA_AUX.QUOTA 4) with ch := { live.m.ch with grants := [⟨1, 0, 8, 0, true, false⟩] }, flow := { live.m.flow with frames := [{ seq := 7, ver := 2, flags := 1, base := 0, launch := 0, bytes := 1000, white := 100, tcount := 1, poff := 64, nslab := 1, path := 0, addr := 0x100000, st := 1, got := 64, crc := 0xFFFFFFFF, slabs := [{ id := 0, pers := 0, fmt := 3, itv := 0, w := 1, h := 1, idx := 0, pose := [], freq := [[4096], [4096], [4096], [4096]], src := 7, tiles := [{ off := 64, len := 24, cls := 3, cost := 0, dmin := 0, dmax := 0, here := true }] }], tail := false, v1cost := 0, legacy := none, due := none, geom := [], head := [], parts := [], bad := [], plan := none, walk := false, planOpt := false, plan2 := none, checked := 0 }], bg := [] } } }, 7, 0, 0, 0, 0, 0x10, { seq := 7, ver := 2, flags := 1, base := 0, launch := 0, bytes := 1000, white := 100, tcount := 1, poff := 64, nslab := 1, path := 0, addr := 0x100000, st := 1, got := 64, crc := 0xFFFFFFFF, slabs := [{ id := 0, pers := 0, fmt := 3, itv := 0, w := 1, h := 1, idx := 0, pose := [], freq := [[4096], [4096], [4096], [4096]], src := 7, tiles := [{ off := 64, len := 24, cls := 3, cost := 0, dmin := 0, dmax := 0, here := true }] }], tail := false, v1cost := 0, legacy := none, due := none, geom := [], head := [], parts := [], bad := [], plan := none, walk := false, planOpt := false, plan2 := none, checked := 1 }, by decide +kernel, by decide +kernel, by decide +kernel, by decide +kernel, by decide +kernel, by decide +kernel, by decide +kernel, by decide +kernel, by decide +kernel⟩

theorem witness_flowDrain_on : ∃ (s : State), (s.Runs) ∧ ((s.m.fresh.wr R.FLOW.CTRL.ENABLE 1).rd R.FLOW.STATUS.STATE ≠ 0) :=
  ⟨{ live with m := live.m.wr R.FLOW.STATUS.STATE 3 }, by decide +kernel, by decide +kernel⟩

theorem witness_flowDrain_off : ∃ (s : State), (s.Runs) ∧ (drivesRays s.m.mode = false) ∧ (s.m.mode = 5 ∨ s.m.mode = 10) ∧ ((s.m.fresh.wr R.FLOW.CTRL.ENABLE 0).rd R.FLOW.STATUS.STATE = 1) :=
  ⟨{ live with m := (live.m.wr R.SYS.MODE_STATUS.CURRENT 5).wr R.FLOW.STATUS.STATE 1 }, by decide +kernel, by decide +kernel, by decide +kernel, by decide +kernel⟩

theorem witness_flowDrain_inUse : ∃ (s : State), (s.Runs) ∧ (drivesRays s.m.mode = true) :=
  ⟨{ live with m := (live.m.wr R.SYS.MODE_STATUS.CURRENT 6) }, by decide +kernel, by decide +kernel⟩

theorem witness_flowDrained : ∃ (s : State), (s.Runs) ∧ (s.m.rd R.FLOW.STATUS.STATE = 2) ∧ (s.m.flow.demands.all (fun d => d.lane.isNone) = true) :=
  ⟨{ live with m := live.m.wr R.FLOW.STATUS.STATE 2 }, by decide +kernel, by decide +kernel, by decide +kernel⟩

theorem witness_flowForceStop : ∃ (s : State) (late : Bool), (s.Runs) ∧ (drivesRays s.m.mode = false) ∧ (s.m.mode = 5 ∨ s.m.mode = 10) :=
  ⟨{ live with m := (live.m.wr R.SYS.MODE_STATUS.CURRENT 5) }, false, by decide +kernel, by decide +kernel, by decide +kernel⟩

theorem witness_flowLaneError : ∃ (s : State) (lane : Nat), (s.Runs) ∧ (lane < 26) :=
  ⟨live, 3, by decide +kernel, by decide +kernel⟩

theorem witness_ctxSnapshot : ∃ (s : State) (q : Nat) (c : Ctx), (s.Runs) ∧ (s.m.flow.ctxs.find? (fun c => c.num == q % 2 ^ 18) = some c) :=
  ⟨{ live with m := { live.m with flow := { live.m.flow with ctxs := [⟨5, 7, 0, 0, [1, 2, 3, 4], 0, 0, true, 0, true, 0, 0, 0, 0, 0, 0, 0⟩] } } }, 5, ⟨5, 7, 0, 0, [1, 2, 3, 4], 0, 0, true, 0, true, 0, 0, 0, 0, 0, 0, 0⟩, by decide +kernel, by decide +kernel⟩

theorem witness_ctxSnapshot_none : ∃ (s : State) (q : Nat), (s.Runs) ∧ (s.m.flow.ctxs.find? (fun c => c.num == q % 2 ^ 18) = none) :=
  ⟨live, 5, by decide +kernel, by decide +kernel⟩

/-! ## SceneFabricCommands -/

theorem witness_sceneClaim_granted : ∃ (s : State) (n : Nat) (p : Packet), (s.Runs) ∧ (n < 4) ∧ (linkUp s.m n = true) ∧ (s.m.flag R.PASS.LINK_STATUS.MISWIRED n = false) ∧ (p.lseq = (linkRec s.m n).rxSeq) ∧ (forMe s.m p = true) ∧ (p.mcast = false) ∧ (s.m.flag R.PASS.STATUS.IS_LEADER = true) ∧ (s.m.fab.granted = none) :=
  ⟨{ live with m := (((live.m.wr R.SYS.MODE_STATUS.CURRENT 4).wr R.PASS.LINK_STATUS.UP 1 1).wr R.PASS.STATUS.IS_LEADER 1) }, 1, ⟨2, 9, false, 0, 1, 0, 9, false, [0, 0, 0, 0, 5, 0, 0, 0]⟩, by decide +kernel, by decide +kernel, by decide +kernel, by decide +kernel, by decide +kernel, by decide +kernel, by decide +kernel, by decide +kernel, by decide +kernel⟩

theorem witness_sceneGrant_now : ∃ (s : State) (n : Nat) (p : Packet), (s.Runs) ∧ (n < 4) ∧ (linkUp s.m n = true) ∧ (s.m.flag R.PASS.LINK_STATUS.MISWIRED n = false) ∧ (p.lseq = (linkRec s.m n).rxSeq) ∧ (forMe s.m p = true) ∧ (p.mcast = false) ∧ (s.m.fab.claim = some (fieldLE p.data 4 4)) ∧ (fieldLE p.data 0 1 = 0) :=
  ⟨{ live with m := { (((live.m.wr R.SYS.MODE_STATUS.CURRENT 4).wr R.PASS.LINK_STATUS.UP 1 1)) with fab := { live.m.fab with claim := some 5 } } }, 1, ⟨2, 10, false, 0, 1, 0, 9, false, [0, 0, 0, 0, 5, 0, 0, 0]⟩, by decide +kernel, by decide +kernel, by decide +kernel, by decide +kernel, by decide +kernel, by decide +kernel, by decide +kernel, by decide +kernel, by decide +kernel⟩

theorem witness_sceneGrant_revoked : ∃ (s : State) (n : Nat) (p : Packet), (s.Runs) ∧ (n < 4) ∧ (linkUp s.m n = true) ∧ (s.m.flag R.PASS.LINK_STATUS.MISWIRED n = false) ∧ (p.lseq = (linkRec s.m n).rxSeq) ∧ (forMe s.m p = true) ∧ (p.mcast = false) ∧ (s.m.fab.claim = some (fieldLE p.data 4 4)) ∧ (fieldLE p.data 0 1 = 2) :=
  ⟨{ live with m := { (((live.m.wr R.SYS.MODE_STATUS.CURRENT 4).wr R.PASS.LINK_STATUS.UP 1 1)) with fab := { live.m.fab with claim := some 5 } } }, 1, ⟨2, 10, false, 0, 1, 0, 9, false, [2, 0, 0, 0, 5, 0, 0, 0]⟩, by decide +kernel, by decide +kernel, by decide +kernel, by decide +kernel, by decide +kernel, by decide +kernel, by decide +kernel, by decide +kernel, by decide +kernel⟩

theorem witness_sceneRelease : ∃ (s : State) (n : Nat) (p : Packet) (c : Claim), (s.Runs) ∧ (n < 4) ∧ (linkUp s.m n = true) ∧ (s.m.flag R.PASS.LINK_STATUS.MISWIRED n = false) ∧ (p.lseq = (linkRec s.m n).rxSeq) ∧ (forMe s.m p = true) ∧ (p.mcast = false) ∧ (s.m.flag R.PASS.STATUS.IS_LEADER = true) ∧ (s.m.fab.granted = some c) ∧ (c.src = p.src) ∧ (c.seq = fieldLE p.data 4 4) :=
  ⟨{ live with m := { (((live.m.wr R.SYS.MODE_STATUS.CURRENT 4).wr R.PASS.LINK_STATUS.UP 1 1).wr R.PASS.STATUS.IS_LEADER 1) with fab := { live.m.fab with granted := some ⟨1, 5, false⟩ } } }, 1, ⟨2, 11, false, 0, 1, 0, 9, false, [0, 0, 0, 0, 5, 0, 0, 0]⟩, ⟨1, 5, false⟩, by decide +kernel, by decide +kernel, by decide +kernel, by decide +kernel, by decide +kernel, by decide +kernel, by decide +kernel, by decide +kernel, by decide +kernel, by decide +kernel, by decide +kernel⟩

theorem witness_sceneClaimRevoke : ∃ (s : State) (c : Claim), (s.Runs) ∧ (s.m.fab.granted = some c) ∧ (fabAddr s.m ≠ some c.src) :=
  ⟨{ live with m := { (((live.m.wr R.SYS.MODE_STATUS.CURRENT 4).wr R.PASS.LINK_STATUS.UP 1 1).wr R.PASS.STATUS.IS_LEADER 1) with fab := { live.m.fab with granted := some ⟨1, 5, false⟩ } } }, ⟨1, 5, false⟩, by decide +kernel, by decide +kernel, by decide +kernel⟩

theorem witness_sceneHead : ∃ (s : State) (n : Nat) (p : Packet) (f g : Frame), (s.Runs) ∧ (n < 4) ∧ (linkUp s.m n = true) ∧ (s.m.flag R.PASS.LINK_STATUS.MISWIRED n = false) ∧ (p.lseq = (linkRec s.m n).rxSeq) ∧ (forMe s.m p = true) ∧ (p.mcast = false) ∧ (frameOf (s.m.fresh.took n p) (fieldLE p.data 0 4) = some f) ∧ (f.path = 1) ∧ (f.st = F_RECEIVING) ∧ (frameOf (headRun (f.poff / 16 + 1) (frameMod (s.m.fresh.took n p) (fieldLE p.data 0 4) (fun f => { f with head := ((fieldLE p.data 4 4), (p.data.drop (if (fieldLE p.data 4 4) = 0 then 96 else 16))) :: f.head })) (fieldLE p.data 0 4)) (fieldLE p.data 0 4) = some g) ∧ (g.stage < 3) :=
  ⟨{ live with m := { (((live.m.wr R.SYS.MODE_STATUS.CURRENT 4).wr R.PASS.LINK_STATUS.UP 1 1)) with flow := { live.m.flow with frames := [{ seq := 7, ver := 2, flags := 1, base := 0, launch := 0, bytes := 1000, white := 100, tcount := 2, poff := 256, nslab := 1, path := 1, addr := 0x100000, st := 0, got := 64, crc := 0xFFFFFFFF, slabs := [], tail := false, v1cost := 0, legacy := none, due := none, geom := [], head := [], parts := [], bad := [], plan := none, walk := false, planOpt := false, plan2 := none, checked := 0 }] } } }, 1, ⟨2, 12, false, 0, 1, 0, 9, false, [7, 0, 0, 0, 64, 0, 0, 0, 1, 2, 3, 4, 5, 6, 7, 8, 9, 10, 11]⟩, { seq := 7, ver := 2, flags := 1, base := 0, launch := 0, bytes := 1000, white := 100, tcount := 2, poff := 256, nslab := 1, path := 1, addr := 0x100000, st := 0, got := 64, crc := 0xFFFFFFFF, slabs := [], tail := false, v1cost := 0, legacy := none, due := none, geom := [], head := [], parts := [], bad := [], plan := none, walk := false, planOpt := false, plan2 := none, checked := 0 }, { seq := 7, ver := 2, flags := 1, base := 0, launch := 0, bytes := 1000, white := 100, tcount := 2, poff := 256, nslab := 1, path := 1, addr := 0x100000, st := 0, got := 64, crc := 0xFFFFFFFF, slabs := [], tail := false, v1cost := 0, legacy := none, due := none, geom := [], head := [(64, [9, 10, 11])], parts := [], bad := [], plan := none, walk := false, planOpt := false, plan2 := none, checked := 0 }, by decide +kernel, by decide +kernel, by decide +kernel, by decide +kernel, by decide +kernel, by decide +kernel, by decide +kernel, by decide +kernel, by decide +kernel, by decide +kernel, by decide +kernel, by decide +kernel⟩

theorem witness_scenePayload : ∃ (s : State) (n : Nat) (p : Packet) (f : Frame) (sl : MSlab) (q : Nat) (t : MTile), (s.Runs) ∧ (n < 4) ∧ (linkUp s.m n = true) ∧ (s.m.flag R.PASS.LINK_STATUS.MISWIRED n = false) ∧ (p.lseq = (linkRec s.m n).rxSeq) ∧ (forMe s.m p = true) ∧ (p.mcast = false) ∧ (frameOf (s.m.fresh.took n p) (fieldLE p.data 0 4) = some f) ∧ (f.path = 1) ∧ (f.st = F_RECEIVING) ∧ (f.tileAt (fieldLE p.data 4 4) = some (sl, q, t)) ∧ (t.here = false) ∧ (t.cls ≠ 0) ∧ ((fieldLE p.data 8 4) + (p.data.drop 16).length ≤ t.len) ∧ (f.parts.contains ((fieldLE p.data 4 4), (fieldLE p.data 8 4), (p.data.drop 16).length) = false) ∧ (sumN (((((fieldLE p.data 4 4), (fieldLE p.data 8 4), (p.data.drop 16).length) :: f.parts).filter (fun z => z.1 == (fieldLE p.data 4 4))).map (fun z => z.2.2)) < t.len) ∧ (needsTile (s.m.fresh.took n p) f.geom sl.pose sl q t = true) :=
  ⟨{ live with m := { ((((live.m.wr R.SYS.MODE_STATUS.CURRENT 4).wr R.PASS.LINK_STATUS.UP 1 1)).wr R.PASS.STATUS.ADDRESS 0) with flow := { live.m.flow with frames := [{ seq := 7, ver := 2, flags := 1, base := 0, launch := 0, bytes := 1000, white := 100, tcount := 2, poff := 64, nslab := 1, path := 1, addr := 0x100000, st := 0, got := 64, crc := 0xFFFFFFFF, slabs := [{ id := 0, pers := 0, fmt := 3, itv := 3, w := 1, h := 1, idx := 0, pose := [], freq := [[4096], [4096], [4096], [4096]], src := 7, tiles := [{ off := 64, len := 24, cls := 3, cost := 0, dmin := 0, dmax := 0, here := false }] }], tail := false, v1cost := 0, legacy := none, due := none, geom := List.replicate 77 0 ++ [1, 0, 0], head := [], parts := [], bad := [], plan := none, walk := false, planOpt := false, plan2 := none, checked := 0 }] } } }, 1, ⟨2, 13, false, 0, 1, 0, 9, false, [7, 0, 0, 0, 0, 0, 0, 0, 8, 0, 0, 0, 0, 0, 0, 0, 1, 2, 3]⟩, { seq := 7, ver := 2, flags := 1, base := 0, launch := 0, bytes := 1000, white := 100, tcount := 2, poff := 64, nslab := 1, path := 1, addr := 0x100000, st := 0, got := 64, crc := 0xFFFFFFFF, slabs := [{ id := 0, pers := 0, fmt := 3, itv := 3, w := 1, h := 1, idx := 0, pose := [], freq := [[4096], [4096], [4096], [4096]], src := 7, tiles := [{ off := 64, len := 24, cls := 3, cost := 0, dmin := 0, dmax := 0, here := false }] }], tail := false, v1cost := 0, legacy := none, due := none, geom := List.replicate 77 0 ++ [1, 0, 0], head := [], parts := [], bad := [], plan := none, walk := false, planOpt := false, plan2 := none, checked := 0 }, { id := 0, pers := 0, fmt := 3, itv := 3, w := 1, h := 1, idx := 0, pose := [], freq := [[4096], [4096], [4096], [4096]], src := 7, tiles := [{ off := 64, len := 24, cls := 3, cost := 0, dmin := 0, dmax := 0, here := false }] }, 0, { off := 64, len := 24, cls := 3, cost := 0, dmin := 0, dmax := 0, here := false }, by decide +kernel, by decide +kernel, by decide +kernel, by decide +kernel, by decide +kernel, by decide +kernel, by decide +kernel, by decide +kernel, by decide +kernel, by decide +kernel, by decide +kernel, by decide +kernel, by decide +kernel, by decide +kernel, by decide +kernel, by decide +kernel, by decide +kernel⟩

theorem witness_sceneSuppl : ∃ (s : State) (n : Nat) (p : Packet) (f : Frame) (sl : MSlab) (q : Nat) (t : MTile), (s.Runs) ∧ (n < 4) ∧ (linkUp s.m n = true) ∧ (s.m.flag R.PASS.LINK_STATUS.MISWIRED n = false) ∧ (p.lseq = (linkRec s.m n).rxSeq) ∧ (forMe s.m p = true) ∧ (p.mcast = false) ∧ (frameOf (s.m.fresh.took n p) (fieldLE p.data 0 4) = some f) ∧ (f.tileAt (fieldLE p.data 4 4) = some (sl, q, t)) ∧ (t.here = false) ∧ (t.cls ≠ 0) ∧ ((fieldLE p.data 8 4) + (p.data.drop 16).length ≤ t.len) ∧ (f.parts.contains ((fieldLE p.data 4 4), (fieldLE p.data 8 4), (p.data.drop 16).length) = false) ∧ (sumN (((((fieldLE p.data 4 4), (fieldLE p.data 8 4), (p.data.drop 16).length) :: f.parts).filter (fun z => z.1 == (fieldLE p.data 4 4))).map (fun z => z.2.2)) < t.len) :=
  ⟨{ live with m := { ((((live.m.wr R.SYS.MODE_STATUS.CURRENT 4).wr R.PASS.LINK_STATUS.UP 1 1)).wr R.PASS.STATUS.ADDRESS 0) with flow := { live.m.flow with frames := [{ seq := 7, ver := 2, flags := 1, base := 0, launch := 0, bytes := 1000, white := 100, tcount := 2, poff := 64, nslab := 1, path := 1, addr := 0x100000, st := 0, got := 64, crc := 0xFFFFFFFF, slabs := [{ id := 0, pers := 0, fmt := 3, itv := 3, w := 1, h := 1, idx := 0, pose := [], freq := [[4096], [4096], [4096], [4096]], src := 7, tiles := [{ off := 64, len := 24, cls := 3, cost := 0, dmin := 0, dmax := 0, here := false }] }], tail := false, v1cost := 0, legacy := none, due := none, geom := [], head := [], parts := [], bad := [], plan := none, walk := false, planOpt := false, plan2 := none, checked := 0 }] } } }, 1, ⟨2, 14, false, 0, 1, 0, 9, false, [7, 0, 0, 0, 0, 0, 0, 0, 8, 0, 0, 0, 0, 0, 0, 0, 1, 2, 3]⟩, { seq := 7, ver := 2, flags := 1, base := 0, launch := 0, bytes := 1000, white := 100, tcount := 2, poff := 64, nslab := 1, path := 1, addr := 0x100000, st := 0, got := 64, crc := 0xFFFFFFFF, slabs := [{ id := 0, pers := 0, fmt := 3, itv := 3, w := 1, h := 1, idx := 0, pose := [], freq := [[4096], [4096], [4096], [4096]], src := 7, tiles := [{ off := 64, len := 24, cls := 3, cost := 0, dmin := 0, dmax := 0, here := false }] }], tail := false, v1cost := 0, legacy := none, due := none, geom := [], head := [], parts := [], bad := [], plan := none, walk := false, planOpt := false, plan2 := none, checked := 0 }, { id := 0, pers := 0, fmt := 3, itv := 3, w := 1, h := 1, idx := 0, pose := [], freq := [[4096], [4096], [4096], [4096]], src := 7, tiles := [{ off := 64, len := 24, cls := 3, cost := 0, dmin := 0, dmax := 0, here := false }] }, 0, { off := 64, len := 24, cls := 3, cost := 0, dmin := 0, dmax := 0, here := false }, by decide +kernel, by decide +kernel, by decide +kernel, by decide +kernel, by decide +kernel, by decide +kernel, by decide +kernel, by decide +kernel, by decide +kernel, by decide +kernel, by decide +kernel, by decide +kernel, by decide +kernel, by decide +kernel⟩

theorem witness_sceneEnd : ∃ (s : State) (n : Nat) (p : Packet) (f : Frame), (s.Runs) ∧ (n < 4) ∧ (linkUp s.m n = true) ∧ (s.m.flag R.PASS.LINK_STATUS.MISWIRED n = false) ∧ (p.lseq = (linkRec s.m n).rxSeq) ∧ (forMe s.m p = true) ∧ (p.mcast = false) ∧ (frameOf (s.m.fresh.took n p) (fieldLE p.data 0 4) = some f) ∧ (f.path = 1) ∧ (f.st = F_RECEIVING) ∧ (fieldLE p.data 8 4 = 0x4546534D) ∧ (fieldLE p.data 12 4 = f.tcount) ∧ (f.slabs.any (fun q => q.pers != 0) = false) :=
  ⟨{ live with m := { (((live.m.wr R.SYS.MODE_STATUS.CURRENT 4).wr R.PASS.LINK_STATUS.UP 1 1)) with flow := { live.m.flow with frames := [{ seq := 7, ver := 2, flags := 1, base := 0, launch := 0, bytes := 1000, white := 100, tcount := 2, poff := 256, nslab := 1, path := 1, addr := 0x100000, st := 0, got := 64, crc := 0xFFFFFFFF, slabs := [], tail := false, v1cost := 0, legacy := none, due := none, geom := [], head := [], parts := [], bad := [], plan := none, walk := false, planOpt := false, plan2 := none, checked := 0 }] } } }, 1, ⟨2, 15, false, 0, 1, 0, 9, false, [7, 0, 0, 0, 1, 2, 3, 4, 0x4D, 0x53, 0x46, 0x45, 2, 0, 0, 0]⟩, { seq := 7, ver := 2, flags := 1, base := 0, launch := 0, bytes := 1000, white := 100, tcount := 2, poff := 256, nslab := 1, path := 1, addr := 0x100000, st := 0, got := 64, crc := 0xFFFFFFFF, slabs := [], tail := false, v1cost := 0, legacy := none, due := none, geom := [], head := [], parts := [], bad := [], plan := none, walk := false, planOpt := false, plan2 := none, checked := 0 }, by decide +kernel, by decide +kernel, by decide +kernel, by decide +kernel, by decide +kernel, by decide +kernel, by decide +kernel, by decide +kernel, by decide +kernel, by decide +kernel, by decide +kernel, by decide +kernel, by decide +kernel⟩

/-! ## RayCommands -/

theorem witness_bundleIssue : ∃ (s : State) (e e1 p : Nat), (s.Runs) ∧ ((enginesActive s.m).findIdx? (· == e) = some p) ∧ (engineFor s.m e = some e1) ∧ (helRuns s.m = true) ∧ ((engOf s.m e).line < (tentry s.m.entry).h) ∧ ((bundlesOf s.m e1).length < 256) :=
  ⟨{ live with m := { (((live.m.wr R.SYS.MODE_STATUS.CURRENT 6).wr R.HEL.STATUS.STATE 1).wr R.HEL.ENGINE_ACTIVE_LO.ENGINES 3) with scan := { live.m.scan with frame := 1 } } }, 1, 1, 1, by decide +kernel, by decide +kernel, by decide +kernel, by decide +kernel, by decide +kernel, by decide +kernel⟩

theorem witness_bundleDone : ∃ (s : State) (line q : Nat) (cuts : List Cut) (b : Bundle), (s.Runs) ∧ (s.m.hel.bundles.find? (fun b => b.line == line && b.n == q && b.st != 3) = some b) ∧ (b.lvl = 0) ∧ (bundleWaits (traceBundle s.mem s.m.fresh b []) = []) ∧ ((traceBundle s.mem s.m.fresh b []).filter (·.sub) = []) ∧ ((traceBundle s.mem s.m.fresh b []).filter (·.ended) = []) :=
  ⟨{ live with m := { (((live.m.wr R.SYS.MODE_STATUS.CURRENT 6).wr R.HEL.STATUS.STATE 1).wr R.HEL.ENGINE_ACTIVE_LO.ENGINES 3) with scan := { live.m.scan with frame := 1 }, hel := { live.m.hel with bundles := [⟨1, 0, 0, 1, [], false, 0⟩] } } }, 0, 0, [], ⟨1, 0, 0, 1, [], false, 0⟩, by decide +kernel, by decide +kernel, by decide +kernel, by decide +kernel, by decide +kernel, by decide +kernel⟩

theorem witness_governorLevelChange : ∃ (s : State) (e slack lv : Nat), (s.Runs) ∧ (e < 34) ∧ (lv = (if 1500 ≤ slack then 0 else if 750 ≤ slack then 1 else 2)) :=
  ⟨live, 3, 1000, 1, by decide +kernel, by decide +kernel, by decide +kernel⟩

theorem witness_engineError : ∃ (s : State) (e : Nat) (b : Bundle), (s.Runs) ∧ (e < 34) ∧ (oldestOf s.m e = some b) ∧ ((bucketAdd (hev ((moveBundles s.m.fresh (fun z => z.line == b.line && z.n == b.n) (engineAfter s.m.fresh e)).add R.HEL.BUNDLES_RECOMPUTED.COUNT 1) 35) 1 e 1 0 e).1 = false) :=
  ⟨{ live with m := { (((live.m.wr R.SYS.MODE_STATUS.CURRENT 6).wr R.HEL.STATUS.STATE 1).wr R.HEL.ENGINE_ACTIVE_LO.ENGINES 3) with scan := { live.m.scan with frame := 1 }, hel := { live.m.hel with bundles := [⟨1, 0, 0, 1, [], false, 0⟩] } } }, 1, ⟨1, 0, 0, 1, [], false, 0⟩, by decide +kernel, by decide +kernel, by decide +kernel, by decide +kernel⟩

theorem witness_grottoEccError_corrected : ∃ (s : State) (bank word : Nat) (sample : Bool), (s.Runs) ∧ (bank < 68) ∧ (word < 393216) :=
  ⟨live, 2, 100, false, by decide +kernel, by decide +kernel, by decide +kernel⟩

theorem witness_grottoEccError_uncorrected : ∃ (s : State) (bank word : Nat), (s.Runs) ∧ (bank < 68) ∧ (word < 393216) ∧ ((bucketAdd (dropRows (hev (((((s.m.fresh.wr R.GROT.ECC_LAST.UNCORR 1).wr R.GROT.ECC_LAST.BANK bank).wr R.GROT.ECC_LAST.WORD word).add R.GROT.ECC_UNCORR.COUNT 1).ev E.GROT.ECC_UNCORR) 39) (fun r => r.slot == bank * 6144 + word / 64)) 2 bank wUncorr 0 (bank * 2 ^ 19 + word)).1 = false) :=
  ⟨live, 2, 100, by decide +kernel, by decide +kernel, by decide +kernel, by decide +kernel⟩

theorem witness_helDrain_on : ∃ (s : State), (s.Runs) ∧ ((s.m.fresh.wr R.HEL.CTRL.ENABLE 1).rd R.HEL.STATUS.STATE ≠ 0) :=
  ⟨{ live with m := live.m.wr R.HEL.STATUS.STATE 3 }, by decide +kernel, by decide +kernel⟩

theorem witness_helDrain_off : ∃ (s : State), (s.Runs) ∧ (drivesRays s.m.mode = false) ∧ (s.m.mode = 5 ∨ s.m.mode = 10) ∧ ((s.m.fresh.wr R.HEL.CTRL.ENABLE 0).rd R.HEL.STATUS.STATE = 1) :=
  ⟨{ live with m := (live.m.wr R.SYS.MODE_STATUS.CURRENT 5).wr R.HEL.STATUS.STATE 1 }, by decide +kernel, by decide +kernel, by decide +kernel, by decide +kernel⟩

theorem witness_helDrain_inUse : ∃ (s : State), (s.Runs) ∧ (drivesRays s.m.mode = true) :=
  ⟨{ live with m := (live.m.wr R.SYS.MODE_STATUS.CURRENT 6) }, by decide +kernel, by decide +kernel⟩

theorem witness_helDrained : ∃ (s : State), (s.Runs) ∧ (s.m.rd R.HEL.STATUS.STATE = 2) ∧ (s.m.hel.bundles.all (fun b => b.st == 3) = true) :=
  ⟨{ live with m := live.m.wr R.HEL.STATUS.STATE 2 }, by decide +kernel, by decide +kernel, by decide +kernel⟩

theorem witness_helForceStop : ∃ (s : State) (late : Bool), (s.Runs) ∧ (drivesRays s.m.mode = false) ∧ (s.m.mode = 5 ∨ s.m.mode = 10) :=
  ⟨{ live with m := (live.m.wr R.SYS.MODE_STATUS.CURRENT 5) }, false, by decide +kernel, by decide +kernel, by decide +kernel⟩

theorem witness_mapVerifyStart : ∃ (s : State) (k base : Nat), (s.Runs) ∧ (k < 3) :=
  ⟨live, 1, 4096, by decide +kernel, by decide +kernel⟩

theorem witness_mapVerifyDone : ∃ (s : State) (k : Nat), (s.Runs) ∧ (k < 3) ∧ (s.m.hel.maps.getD k 0 = 1) :=
  ⟨{ live with m := { live.m with hel := { live.m.hel with maps := [0, 1, 0] } } }, 1, by decide +kernel, by decide +kernel, by decide +kernel⟩

theorem witness_bandWalkStart : ∃ (s : State) (q : Nat) (f : Frame), (s.Runs) ∧ (frameOf s.m q = some f) ∧ (f.walk = false) ∧ (f.st = F_COMPLETE) ∧ (f.plan = none) ∧ (planSlotFree s.m = true) :=
  ⟨{ live with m := ({ ((live.m.wr R.DRAM.CAPACITY.MIB 4096).wr R.GROT.PLAN_SIZE.SIZE_MIB 400) with flow := { live.m.flow with frames := [{ seq := 7, ver := 2, flags := 1, base := 0, launch := 0, bytes := 1000, white := 100, tcount := 0, poff := 64, nslab := 0, path := 0, addr := 0x100000, st := 1, got := 64, crc := 0xFFFFFFFF, slabs := [], tail := false, v1cost := 0, legacy := none, due := none, geom := [], head := [], parts := [], bad := [], plan := none, walk := false, planOpt := false, plan2 := none, checked := 0 }] } } : Mach) }, 7, { seq := 7, ver := 2, flags := 1, base := 0, launch := 0, bytes := 1000, white := 100, tcount := 0, poff := 64, nslab := 0, path := 0, addr := 0x100000, st := 1, got := 64, crc := 0xFFFFFFFF, slabs := [], tail := false, v1cost := 0, legacy := none, due := none, geom := [], head := [], parts := [], bad := [], plan := none, walk := false, planOpt := false, plan2 := none, checked := 0 }, by decide +kernel, by decide +kernel, by decide +kernel, by decide +kernel, by decide +kernel, by decide +kernel⟩

theorem witness_bandWalkDone : ∃ (s : State) (q : Nat) (plan : List BandPlan) (f : Frame), (s.Runs) ∧ (frameOf s.m q = some f) ∧ (f.walk = true) ∧ (f.ver ≠ 0x81) ∧ (planCovers plan (walkBounds s.mem s.m.fresh f f.planOpt) = true) :=
  ⟨{ live with m := ({ ((live.m.wr R.DRAM.CAPACITY.MIB 4096).wr R.GROT.PLAN_SIZE.SIZE_MIB 400) with flow := { live.m.flow with frames := [{ seq := 7, ver := 2, flags := 1, base := 0, launch := 0, bytes := 1000, white := 100, tcount := 0, poff := 64, nslab := 0, path := 0, addr := 0x100000, st := 1, got := 64, crc := 0xFFFFFFFF, slabs := [], tail := false, v1cost := 0, legacy := none, due := none, geom := [], head := [], parts := [], bad := [], plan := none, walk := true, planOpt := false, plan2 := none, checked := 0 }] } } : Mach) }, 7, walkBounds [] (({ ((live.m.wr R.DRAM.CAPACITY.MIB 4096).wr R.GROT.PLAN_SIZE.SIZE_MIB 400) with flow := { live.m.flow with frames := [{ seq := 7, ver := 2, flags := 1, base := 0, launch := 0, bytes := 1000, white := 100, tcount := 0, poff := 64, nslab := 0, path := 0, addr := 0x100000, st := 1, got := 64, crc := 0xFFFFFFFF, slabs := [], tail := false, v1cost := 0, legacy := none, due := none, geom := [], head := [], parts := [], bad := [], plan := none, walk := true, planOpt := false, plan2 := none, checked := 0 }] } } : Mach)) { seq := 7, ver := 2, flags := 1, base := 0, launch := 0, bytes := 1000, white := 100, tcount := 0, poff := 64, nslab := 0, path := 0, addr := 0x100000, st := 1, got := 64, crc := 0xFFFFFFFF, slabs := [], tail := false, v1cost := 0, legacy := none, due := none, geom := [], head := [], parts := [], bad := [], plan := none, walk := true, planOpt := false, plan2 := none, checked := 0 } false, { seq := 7, ver := 2, flags := 1, base := 0, launch := 0, bytes := 1000, white := 100, tcount := 0, poff := 64, nslab := 0, path := 0, addr := 0x100000, st := 1, got := 64, crc := 0xFFFFFFFF, slabs := [], tail := false, v1cost := 0, legacy := none, due := none, geom := [], head := [], parts := [], bad := [], plan := none, walk := true, planOpt := false, plan2 := none, checked := 0 }, by decide +kernel, by decide +kernel, by decide +kernel, by decide +kernel, by decide +kernel⟩

theorem witness_bandWalkDone_flat : ∃ (s : State) (q : Nat) (plan : List BandPlan) (f : Frame), (s.Runs) ∧ (frameOf s.m q = some f) ∧ (f.walk = true) ∧ (f.ver = 0x81) :=
  ⟨{ live with m := ({ ((live.m.wr R.DRAM.CAPACITY.MIB 4096).wr R.GROT.PLAN_SIZE.SIZE_MIB 400) with flow := { live.m.flow with frames := [{ seq := 7, ver := 0x81, flags := 1, base := 0, launch := 0, bytes := 1000, white := 100, tcount := 0, poff := 64, nslab := 0, path := 0, addr := 0x100000, st := 1, got := 64, crc := 0xFFFFFFFF, slabs := [], tail := false, v1cost := 0, legacy := none, due := none, geom := [], head := [], parts := [], bad := [], plan := none, walk := true, planOpt := false, plan2 := none, checked := 0 }] } } : Mach) }, 7, [], { seq := 7, ver := 0x81, flags := 1, base := 0, launch := 0, bytes := 1000, white := 100, tcount := 0, poff := 64, nslab := 0, path := 0, addr := 0x100000, st := 1, got := 64, crc := 0xFFFFFFFF, slabs := [], tail := false, v1cost := 0, legacy := none, due := none, geom := [], head := [], parts := [], bad := [], plan := none, walk := true, planOpt := false, plan2 := none, checked := 0 }, by decide +kernel, by decide +kernel, by decide +kernel, by decide +kernel⟩

theorem witness_frameAdmissionCheck : ∃ (s : State) (q : Nat) (f : Frame) (sl : List MSlab), (s.Runs) ∧ (frameOf s.m q = some f) ∧ (f.st = F_COMPLETE) ∧ (dueAt f (nextTick s.m) = true) ∧ (launchMode (modeDue s.m).1 = true) ∧ (baseCheck s.m f = .ok sl) ∧ (kindOk f (modeDue s.m).1 = true) ∧ ((admitSums s.m.fresh f (modeDue s.m.fresh).2).1 = 0) :=
  ⟨{ live with m := { (live.m.wr R.SYS.MODE_STATUS.CURRENT 6) with flow := { live.m.flow with frames := [{ seq := 7, ver := 2, flags := 1, base := 0, launch := 0, bytes := 1000, white := 100, tcount := 0, poff := 64, nslab := 0, path := 0, addr := 0x100000, st := 1, got := 64, crc := 0xFFFFFFFF, slabs := [], tail := false, v1cost := 0, legacy := none, due := none, geom := [], head := [], parts := [], bad := [], plan := some [⟨[], []⟩], walk := false, planOpt := false, plan2 := none, checked := 0 }] } } }, 7, { seq := 7, ver := 2, flags := 1, base := 0, launch := 0, bytes := 1000, white := 100, tcount := 0, poff := 64, nslab := 0, path := 0, addr := 0x100000, st := 1, got := 64, crc := 0xFFFFFFFF, slabs := [], tail := false, v1cost := 0, legacy := none, due := none, geom := [], head := [], parts := [], bad := [], plan := some [⟨[], []⟩], walk := false, planOpt := false, plan2 := none, checked := 0 }, [], by decide +kernel, by decide +kernel, by decide +kernel, by decide +kernel, by decide +kernel, by rfl, by decide +kernel, by decide +kernel⟩

theorem witness_frameAdmissionCheck_incomplete : ∃ (s : State) (q : Nat) (f : Frame), (s.Runs) ∧ (frameOf s.m q = some f) ∧ (f.st = F_RECEIVING) ∧ (dueAt f (nextTick s.m) = true) ∧ (launchMode (modeDue s.m).1 = true) :=
  ⟨{ live with m := { (live.m.wr R.SYS.MODE_STATUS.CURRENT 6) with flow := { live.m.flow with frames := [{ seq := 7, ver := 2, flags := 1, base := 0, launch := -5, bytes := 1000, white := 100, tcount := 2, poff := 64, nslab := 2, path := 0, addr := 0x100000, st := 0, got := 64, crc := 0xFFFFFFFF, slabs := [], tail := false, v1cost := 0, legacy := none, due := none, geom := [], head := [], parts := [], bad := [], plan := none, walk := false, planOpt := false, plan2 := none, checked := 0 }] } } }, 7, { seq := 7, ver := 2, flags := 1, base := 0, launch := -5, bytes := 1000, white := 100, tcount := 2, poff := 64, nslab := 2, path := 0, addr := 0x100000, st := 0, got := 64, crc := 0xFFFFFFFF, slabs := [], tail := false, v1cost := 0, legacy := none, due := none, geom := [], head := [], parts := [], bad := [], plan := none, walk := false, planOpt := false, plan2 := none, checked := 0 }, by decide +kernel, by decide +kernel, by decide +kernel, by decide +kernel, by decide +kernel⟩

theorem witness_bandAdvance : ∃ (s : State) (f : Frame), (s.Runs) ∧ (rayFrame s.m = some f) ∧ (helRuns s.m = true) ∧ (s.m.hel.band + 1 < (tentry s.m.entry).bands) ∧ (bandDone s.m (s.m.hel.band + 1 - 1) = true) :=
  ⟨{ live with m := { (((live.m.wr R.SYS.MODE_STATUS.CURRENT 6).wr R.HEL.STATUS.STATE 1).wr R.HEL.ENGINE_ACTIVE_LO.ENGINES 3) with scan := { live.m.scan with frame := 1 }, flow := { live.m.flow with frames := [{ seq := 7, ver := 2, flags := 1, base := 0, launch := 0, bytes := 1000, white := 100, tcount := 0, poff := 64, nslab := 0, path := 0, addr := 0x100000, st := 3, got := 64, crc := 0xFFFFFFFF, slabs := [], tail := false, v1cost := 0, legacy := none, due := none, geom := [], head := [], parts := [], bad := [], plan := none, walk := false, planOpt := false, plan2 := none, checked := 0 }] }, hel := { live.m.hel with engs := List.replicate 34 ⟨64, 0, 0⟩ } } }, { seq := 7, ver := 2, flags := 1, base := 0, launch := 0, bytes := 1000, white := 100, tcount := 0, poff := 64, nslab := 0, path := 0, addr := 0x100000, st := 3, got := 64, crc := 0xFFFFFFFF, slabs := [], tail := false, v1cost := 0, legacy := none, due := none, geom := [], head := [], parts := [], bad := [], plan := none, walk := false, planOpt := false, plan2 := none, checked := 0 }, by decide +kernel, by decide +kernel, by decide +kernel, by decide +kernel, by decide +kernel⟩

/-! ## ScanCommands -/

theorem witness_galCommit_pending : ∃ (s : State) (tok : Nat), (s.Runs) ∧ (setReason (s.m.fresh.wr R.GAL.COMMIT.TOKEN tok).gal.force (snapshot (s.m.fresh.wr R.GAL.COMMIT.TOKEN tok) (tok % 65536)) (galEntryDue (s.m.fresh.wr R.GAL.COMMIT.TOKEN tok)) (galMibDue (s.m.fresh.wr R.GAL.COMMIT.TOKEN tok)) = 0) ∧ (s.m.mc.deadline = false) ∧ (s.m.gal.pend = none) ∧ (((s.m.fresh.wr R.GAL.COMMIT.TOKEN tok).emits ((loadsOf (s.m.fresh.wr R.GAL.COMMIT.TOKEN tok).gal.force (snapshot (s.m.fresh.wr R.GAL.COMMIT.TOKEN tok) (tok % 65536))).map (fun k => Out.start 2 k))).flag R.GAL.COMMIT_STATUS.HELD = false) :=
  ⟨live, 5, by decide +kernel, by decide +kernel, by decide +kernel, by decide +kernel, by decide +kernel⟩

theorem witness_plCommit : ∃ (s : State) (tok : Nat), (s.Runs) ∧ ((s.m.fresh.wr R.GAL.PL_COMMIT.TOKEN tok).rd R.GAL.PL_WH.W ≤ 4096) ∧ ((s.m.fresh.wr R.GAL.PL_COMMIT.TOKEN tok).rd R.GAL.PL_WH.H ≤ 1024) ∧ (s.m.mc.deadline = false) :=
  ⟨live, 5, by decide +kernel, by decide +kernel, by decide +kernel, by decide +kernel⟩

theorem witness_depthLoadDone : ∃ (s : State) (layer : Nat) (q : GSnap), (s.Runs) ∧ (s.m.gal.pend = some q) ∧ (q.load.contains layer = true) :=
  ⟨{ live with m := { live.m with gal := { live.m.gal with pend := some { live.m.gal.force with load := [2] } } } }, 2, { live.m.gal.force with load := [2] }, by decide +kernel, by decide +kernel, by decide +kernel⟩

theorem witness_spanDemand_lantern : ∃ (s : State) (late bad : List Nat), (s.Runs) ∧ (s.m.scan.frame = 1) ∧ (s.m.scan.nextY < (tentry (rasterEntry s.m)).h) ∧ ((demandList s.m).isEmpty = false) ∧ (drivesRays s.m.mode = false) ∧ ((s.m.scan.nextK == 0 && s.m.scan.nextQ == 0) = false) :=
  ⟨{ live with m := { (live.m.wr R.SYS.MODE_STATUS.CURRENT 1) with scan := { live.m.scan with frame := 1, nextQ := 1, masks := List.replicate 12 15 } } }, [], [], by decide +kernel, by decide +kernel, by decide +kernel, by decide +kernel, by decide +kernel, by decide +kernel⟩

theorem witness_spanDemand_rays : ∃ (s : State) (late bad : List Nat), (s.Runs) ∧ (s.m.scan.frame = 1) ∧ (s.m.scan.nextY < (tentry (rasterEntry s.m)).h) ∧ ((demandList s.m).isEmpty = false) ∧ (drivesRays s.m.mode = true) ∧ ((s.m.scan.nextK == 0 && s.m.scan.nextQ == 0) = false) ∧ ((raySpan s.mem s.m.fresh (tentry (rasterEntry s.m.fresh)) s.m.fresh.scan.nextY ((demandList s.m.fresh).getD s.m.fresh.scan.nextK 0) s.m.fresh.scan.nextQ).scan.frame = 1) ∧ ((nextSpan (raySpan s.mem s.m.fresh (tentry (rasterEntry s.m.fresh)) s.m.fresh.scan.nextY ((demandList s.m.fresh).getD s.m.fresh.scan.nextK 0) s.m.fresh.scan.nextQ) (tentry (rasterEntry s.m.fresh)) (demandList s.m.fresh).length).scan.nextY = s.m.fresh.scan.nextY) ∧ (((rayFrame s.m.fresh).isSome && !((List.range 3).map (fun i => s.m.fresh.hel.bundles.find? (fun b => b.line == s.m.fresh.scan.nextY && b.n == 3 * ((demandList s.m.fresh).getD s.m.fresh.scan.nextK 0 * ((tentry (rasterEntry s.m.fresh)).cols / 64) + s.m.fresh.scan.nextQ) + i && b.st == 3))).all (·.isSome)) = false) :=
  ⟨{ live with m := { ((live.m.wr R.SYS.MODE_STATUS.CURRENT 6).wr R.SCAN.STATUS.BUNDLES 12) with scan := { live.m.scan with frame := 1, nextQ := 1, masks := List.replicate 12 15 } } }, [], [], by decide +kernel, by decide +kernel, by decide +kernel, by decide +kernel, by decide +kernel, by decide +kernel, by decide +kernel, by decide +kernel, by decide +kernel⟩

theorem witness_rasterBandEnd : ∃ (s : State), (s.Runs) ∧ (s.m.scan.frame = 1) ∧ (64 * (s.m.scan.mismBand + 1) ≤ s.m.scan.nextY) :=
  ⟨{ live with m := { live.m with scan := { live.m.scan with frame := 1, nextY := 64 } } }, by decide +kernel, by decide +kernel, by decide +kernel⟩

theorem witness_rasterFrameEnd : ∃ (s : State), (s.Runs) ∧ (s.m.scan.frame = 1) ∧ ((tentry (rasterEntry s.m)).h ≤ s.m.scan.nextY) :=
  ⟨{ live with m := { live.m with scan := { live.m.scan with frame := 1, nextY := 100000 } } }, by decide +kernel, by decide +kernel, by decide +kernel⟩

theorem witness_echoLineCheck_match : ∃ (s : State) (k ln crc : Nat) (e : Nat × Nat × Nat), (s.Runs) ∧ (s.m.scan.lineCrcs.find? (fun e => e.1 == k && e.2.1 == ln) = some e) ∧ (s.m.scan.spur.contains k = false) ∧ ((e.2.2 == crc % 2 ^ 32) = true) :=
  ⟨{ live with m := { live.m with scan := { live.m.scan with lineCrcs := [(2, 9, 0x1234)] } } }, 2, 9, 0x1234, (2, 9, 0x1234), by decide +kernel, by decide +kernel, by decide +kernel, by decide +kernel⟩

theorem witness_tapCaptureStart_none : ∃ (s : State), (s.Runs) ∧ (s.m.rd R.GAL.TAP_STATUS.STATE ≠ 1) :=
  ⟨live, by decide +kernel, by decide +kernel⟩

theorem witness_tapCaptureStart : ∃ (s : State), (s.Runs) ∧ (s.m.rd R.GAL.TAP_STATUS.STATE = 1) ∧ (s.m.gal.tap = none) ∧ (s.m.scan.frame = 1) ∧ (s.m.scan.nextY = 0) ∧ (s.m.scan.nextQ = 0) ∧ (s.m.scan.nextK = 0) ∧ (drivesRays s.m.mode = true) ∧ (s.m.scan.frameTick % tapField s.m R.GAL.TAP_CTRL.DIVIDE = 0) ∧ (tapField (s.m.fresh.add R.GAL.TAP_STATUS.SEQ 1) R.GAL.TAP_CTRL.MODE = 0) ∧ (holdsGrant (chimRequest (s.m.fresh.add R.GAL.TAP_STATUS.SEQ 1) C_TAP 0 ((s.m.fresh.add R.GAL.TAP_STATUS.SEQ 1).dv D.tap_tokens)) C_TAP 0 = true) :=
  ⟨{ live with m := { ((live.m.wr R.SYS.MODE_STATUS.CURRENT 6).wr R.GAL.TAP_STATUS.STATE 1).wr R.CHIM.CLASS.QUOTA 100 4 with scan := { live.m.scan with frame := 1 } } }, by decide +kernel, by decide +kernel, by decide +kernel, by decide +kernel, by decide +kernel, by decide +kernel, by decide +kernel, by decide +kernel, by decide +kernel, by decide +kernel, by decide +kernel⟩

theorem witness_tapCaptureStart_skip : ∃ (s : State), (s.Runs) ∧ (s.m.rd R.GAL.TAP_STATUS.STATE = 1) ∧ (s.m.gal.tap = none) ∧ (s.m.scan.frame = 1) ∧ (s.m.scan.nextY = 0) ∧ (s.m.scan.nextQ = 0) ∧ (s.m.scan.nextK = 0) ∧ (drivesRays s.m.mode = true) ∧ (s.m.scan.frameTick % tapField s.m R.GAL.TAP_CTRL.DIVIDE = 0) ∧ (tapField (s.m.fresh.add R.GAL.TAP_STATUS.SEQ 1) R.GAL.TAP_CTRL.MODE = 0) ∧ (holdsGrant (chimRequest (s.m.fresh.add R.GAL.TAP_STATUS.SEQ 1) C_TAP 0 ((s.m.fresh.add R.GAL.TAP_STATUS.SEQ 1).dv D.tap_tokens)) C_TAP 0 = false) :=
  ⟨{ live with m := { ((live.m.wr R.SYS.MODE_STATUS.CURRENT 6).wr R.GAL.TAP_STATUS.STATE 1).wr R.CHIM.CLASS.QUOTA 0 4 with scan := { live.m.scan with frame := 1 } } }, by decide +kernel, by decide +kernel, by decide +kernel, by decide +kernel, by decide +kernel, by decide +kernel, by decide +kernel, by decide +kernel, by decide +kernel, by decide +kernel, by decide +kernel⟩

theorem witness_tapCaptureDone : ∃ (s : State) (full : Bool) (c : Capture), (s.Runs) ∧ (s.m.gal.tap = some c) ∧ (c.fin = 1) :=
  ⟨{ live with m := { live.m with gal := { live.m.gal with tap := some ⟨1, 5, 6, [], 1⟩ } } }, false, ⟨1, 5, 6, [], 1⟩, by decide +kernel, by decide +kernel, by decide +kernel⟩

theorem witness_tapDrain_on : ∃ (s : State), (s.Runs) :=
  ⟨live, by decide +kernel⟩

theorem witness_tapDrain_off : ∃ (s : State), (s.Runs) ∧ (s.m.rd R.GAL.TAP_STATUS.STATE = 1) :=
  ⟨{ live with m := live.m.wr R.GAL.TAP_STATUS.STATE 1 }, by decide +kernel, by decide +kernel⟩

theorem witness_tapForceStop_idle : ∃ (s : State) (late : Bool), (s.Runs) ∧ (s.m.gal.tap = none) :=
  ⟨live, false, by decide +kernel, by decide +kernel⟩

theorem witness_tapForceStop : ∃ (s : State) (c : Capture), (s.Runs) ∧ (s.m.gal.tap = some c) :=
  ⟨{ live with m := { live.m with gal := { live.m.gal with tap := some ⟨1, 5, 6, [], 0⟩ } } }, ⟨1, 5, 6, [], 0⟩, by decide +kernel, by decide +kernel⟩

/-! ## TickCommands -/

theorem witness_commitDeadline : ∃ (s : State), (s.Runs) ∧ (s.m.mc.deadline = false) ∧ ((nextTick s.m - 40000) * 65536 ≤ s.m.tim.now) ∧ (unjudged s.m = []) :=
  ⟨{ live with m := live.m }, by decide +kernel, by decide +kernel, by decide +kernel, by decide +kernel⟩

theorem witness_commitDeadline_passed : ∃ (s : State), (s.Runs) ∧ (s.m.mc.deadline = true) :=
  ⟨{ live with m := { live.m with mc := { live.m.mc with deadline := true } } }, by decide +kernel, by decide +kernel⟩

theorem witness_tick : ∃ (s : State), (s.Runs) :=
  ⟨live, by decide +kernel⟩

/-! ## SensorCommands -/

theorem witness_sensorSample : ∃ (s : State) (readings : List Int), (s.Runs) :=
  ⟨live, [], by decide +kernel⟩

/-! ## The manual's worked examples -/

/-- 04, "coding four red values": the MED predictions of columns 0 to 3. -/
theorem test_med_predictions :
    [medPredict 2000 2000 2000, medPredict 2004 2010 2000, medPredict 2012 2020 2010, medPredict 2015 2030 2020] = [2000, 2010, 2020, 2025] := by
  decide +kernel

/-- The colour table of 04, "two decoding steps". -/
def exFreq : List Nat := [1024, 1024, 768, 512, 384, 256, 128]

/-- 04, "two decoding steps": token 1, and no word is read. -/
theorem test_token_first_step :
    (match getToken (fun _ => 0xBEEF) ⟨[0x00123456, 0x00012345], 0, 10, 100⟩ exFreq with
     | .ok (t, g) => decide (t = 1 ∧ g.st = [0x00048C56, 0x00012345] ∧ g.k = 1 ∧ g.pos = 10)
     | .error _ => false) = true := by decide +kernel

/-- 04, "two decoding steps": token 0, and one word is read. -/
theorem test_token_second_step :
    (match getToken (fun _ => 0xBEEF) ⟨[0x00048C56, 0x00012345], 1, 10, 100⟩ exFreq with
     | .ok (t, g) => decide (t = 0 ∧ g.st = [0x00048C56, 0x4B45BEEF] ∧ g.k = 0 ∧ g.pos = 12)
     | .error _ => false) = true := by decide +kernel

/-- A power-of-two rounding of a length in units of 2^-36 m. -/
def exLen (x p : Nat) : Nat := (x * 2 ^ 36 * 2 + p) / (2 * p)

/-- The panel of 06, "one ray at the largest timing entry". -/
def exPanel (mode : Nat) : OptSet :=
  { model := 1, order := 0, rmode := mode, nx := 10, ny := 10, zone := 1, sp := exLen 40 1000000, lp := exLen 120 1000000,
    gap := exLen 2 1000, l0x := 15 * 4096, l0y := 5 * 4096, e1x := 30 * 4096, e1y := 0, e2x := 0, e2y := 10 * 4096,
    vdist := 3 * 2 ^ 20, viewY := 0, vx0 := -849347, vy0 := -849347, vsx := 188744, vsy := 188744, zx0 := -2 ^ 30, zx1 := 2 ^ 30,
    zy0 := -2 ^ 30, zy1 := 2 ^ 30, near := 10 * 2 ^ 20, far := 10 * 2 ^ 20, lct := 0x1000, rsa := 0x100000, rsb := 0, alpha := 0,
    xform := [0x3F800000, 0, 0, 0, 0, 0x3F800000, 0, 0, 0, 0, 0x3F800000, 0] }

/-- Its lens centre table, one lens, and its residual map, the four nodes around the ray. -/
def exMaps : Mem :=
  let ent (d : Mem) (i j : Nat) : Mem :=
    Mem.write d (0x100000 + 32 + 4 * ((j * 481 + i) * 64 + 34)) (toLE 2 128 ++ toLE 2 (uNat 16 (-64)))
  let d := Mem.write [] 0x1000 (toLE 4 0 ++ toLE 4 0 ++ toLE 4 1536 ++ toLE 4 864 ++ toLE 4 1 ++ toLE 4 1 ++ toLE 8 0 ++
    toLE 2 1024 ++ toLE 2 (uNat 16 (-512)))
  ent (ent (ent (ent d 240 135) 241 135) 240 136) 241 136

/-- The ray of column 46,090 on line 8,645: view, ox, oy in micrometres, tx and ty in units of 10^-6. -/
def exRay (mode : Nat) : Option (Nat × Int × Int × Int × Int) :=
  match inverseBasis (exPanel mode) with
  | none => none
  | some mi =>
    match deriveRay exMaps (exPanel mode) mi [true, true, true] (tentry 0) 46090 8645 with
    | none => none
    | some r => some (r.view, rdiv (r.ox * 1000000) (2 ^ 20), rdiv (r.oy * 1000000) (2 ^ 20),
        rdiv (r.tx * 1000000) (2 ^ 28), rdiv (r.ty * 1000000) (2 ^ 28))

/-- 06, "one ray": origin (0.61 mm, -0.585 mm), tangents 0.0954883 and 0.0372559. -/
theorem test_ray_continuous : (exRay 0).map (fun r => r.2) = some (610, -585, 95488, 37256) := by decide +kernel

/-- 06, "discrete views": view 56, tangents 0.0897967 and 0.030195. -/
theorem test_ray_discrete : exRay 1 = some (56, 610, -585, 89797, 30195) := by decide +kernel

/-- The slab of 06, "intersection": half a metre behind the panel, 1 mm texels, depth step 2 mm. -/
def exSlab : MSlab :=
  { id := 0, pers := 0, fmt := 0, itv := 0, w := 2, h := 2, idx := 0,
    pose := [0xBDCCCCCD, 0x3D4CCCCD, 0xBF000000, 0x3A83126F, 0, 0, 0, 0xBA83126F, 0, 0x3B03126F],
    freq := [], src := 0, tiles := List.replicate 4 ⟨0, 0, 2, 16, 0, 200, true⟩ }

/-- 06, "intersection": u and v, in units of 10^-2 texel, of the plane hit and after the refinement steps, D sampled 100 then 110. -/
def exHit (k : Nat) : Option (Int × Int) :=
  match inverseBasis (exPanel 0), setupSlab (exPanel 0) exSlab with
  | some mi, some p =>
    match deriveRay exMaps (exPanel 0) mi [true, true, true] (tentry 0) 46090 8645 with
    | none => none
    | some r => (planeHit (exPanel 0) r exSlab p).map (fun h =>
        let tx : Int → Int → Texel := fun i _ => .word (if i < 40 then 110 * 16 else 100 * 16)
        let z := refine tx h k ⟨h.u0, h.v0, 0, [], false⟩
        (rdiv (z.u * 100) 65536, rdiv (z.v * 100) 65536))
  | _, _ => none

theorem test_hit_refined : [0, 1, 2].map exHit = [some (5237, 6871), some (3327, 7616), some (3136, 7691)] := by decide +kernel

/-- 07, "a ray through an edge": coverage 512, red 400 left and 800 right, EDGE_X on texel (10, 20). -/
def exEdge (i j : Int) : Texel :=
  .word (texelWord (if i = 10 then 400 else 800) 0 0 512 0 (if i = 10 ∧ j = 20 then 1 else 0))

theorem test_edge_sample :
    (let s := quadSample exEdge (10 * 65536 + 16384) (20 * 65536 + 32768) 0; (s.colour, s.alpha)) = (7200, 32800) := by decide +kernel

/-- 07, "admitting a band": 300 cells see only the wall, 180 see slabs 2, 1 and the wall. -/
theorem test_band_samples :
    sampleSum ⟨List.replicate 300 [⟨0, -300, -300, 16, true⟩] ++
      List.replicate 180 [⟨1, -200, -200, 48, false⟩, ⟨2, -100, -100, 32, false⟩, ⟨0, -300, -300, 16, true⟩], []⟩ = 16957440 := by
  decide +kernel

/-- 13, "one address with eight and with seven channels". -/
def exChannels (v : Nat) : Mach := Mach.init.wr R.DRAM.STATUS.SERVICEABLE v

theorem test_address_eight : (fun p => (p.1, p.2.1)) (dramPlace (exChannels 0xFF) 0x123456780) = (7, 13) := by decide +kernel

/-- R535: the check values of "123456789". -/
theorem test_crc_checks :
    [0, 1, 2, 3].map (fun k => Nat.xor (crcFold k (crcInit k) ("123456789".toUTF8.toList.map (fun b => BitVec.ofNat 8 b.toNat))) (crcFinal k)) =
      [0xE3069283, 0xCBF43926, 0x29B1, 0x995DC9BBDF1939FA] := by decide +kernel

/-- 21, "a Grotto bank retired by its errors": threshold 16, levels after each event. -/
def exBank (l : List Bool) : Nat × Bool :=
  (fun m => (bktLevel m 2 12, isRetired m 2 12)) (l.foldl (fun m e => if e then (bucketAdd m 2 12 4 1 0).2 else bucketLeak m 2) live.m)

theorem test_bank_bucket : (exBank [true, true, false, false, true, false], exBank [true, true, false, false, true, false, true]) =
    ((9, false), (13, false)) := by decide +kernel

theorem test_bank_retired : exBank [true, true, false, false, true, false, true, true] = (17, true) := by decide +kernel

/-! ## The queue -/

/-- On reset the queue is empty and the block idles. -/
theorem test_idle : step State.reset = .next State.reset := rfl

/-- The table gives no row any bits, so no word spells a command. -/
theorem test_no_word : decodeTableWord 32 0xFFFFFFFF = none := rfl

theorem test_front_first (s : State) (c d : Instr) : step { s with pending := [c, d] } = exec c { s with pending := [d] } := rfl


/-! ## WellFormed: terms the checks accept, and for each check one it refuses -/

theorem test_wf_accepts_1 : ([
    .tick,
    .commitDeadline,
    .commitLogicWrite .bed 0 0,
    .registerWrite .bed 0 0,
    .loRegisterRead .bed 0 0,
    .readClearRegister .bed 0,
    .modeRequest .bed 0 0,
    .modeTransitionComplete,
    .thermalAutoResume,
    .datapathFailure,
    .pfwNFall,
    .pfwNRise] : List Instr).all (fun c => c.wf) = true := by decide +kernel

theorem test_wf_accepts_2 : ([
    .dictRead (.slot 0 false),
    .dictWrite (.slot 0 false),
    .readBlock (.slot 0 false),
    .writeBlock (.slot 0 false),
    .store (.slot 0 false),
    .restoreDefault (.slot 0 false),
    .subscribe (.slot 0 false),
    .idpV1Request (.slot 0 false),
    .sessionChallengeRead (.slot 0 false),
    .sessionOpen (.slot 0 false),
    .sessionClose (.slot 0 false),
    .sessionIdleTimeout 0] : List Instr).all (fun c => c.wf) = true := by decide +kernel

theorem test_wf_accepts_3 : ([
    .blockStageTimeout false 0,
    .subscriptionLeaseExpiry 0,
    .remoteRequestTimeout 0,
    .msfHeader (List.replicate 64 0),
    .msfSlabEntry (List.replicate 192 0),
    .msfTileIndex (List.replicate 16 0),
    .msfTilePayload [],
    .msfFrameTrailer [],
    .lateFrameBytes 0 0,
    .frameAdmissionCheck 0,
    .stallTimeout 0,
    .queueFlush] : List Instr).all (fun c => c.wf) = true := by decide +kernel

theorem test_wf_accepts_4 : ([
    .tileRowDemand ⟨0, 0, 0, 0⟩ 0 0,
    .rowCommit 0,
    .backgroundSegmentDone,
    .flowDrain false,
    .flowDrained,
    .flowForceStop false,
    .flowLaneError 0,
    .ctxSnapshot 0,
    .bandAdvance,
    .bandWalkStart 0 false,
    .bandWalkDone 0 [],
    .bundleIssue 0] : List Instr).all (fun c => c.wf) = true := by decide +kernel

theorem test_wf_accepts_5 : ([
    .bundleDone 0 0 [],
    .governorLevelChange 0 0,
    .engineError 0,
    .grottoEccError 0 0 false false,
    .helDrain false,
    .helDrained,
    .helForceStop false,
    .mapVerifyStart 0 0,
    .mapVerifyDone 0,
    .galCommit 0,
    .plCommit 0,
    .depthLoadDone 0] : List Instr).all (fun c => c.wf) = true := by decide +kernel

theorem test_wf_accepts_6 : ([
    .spanDemand [] [],
    .rasterBandEnd,
    .rasterFrameEnd,
    .echoLineCheck 0 0 0 0,
    .tapCaptureStart,
    .tapCaptureDone false,
    .tapDrain false,
    .tapForceStop false,
    .bcStatus 0 false 0 0 0 0,
    .bcLockLost 0 false 0,
    .bcTapReq 0 false 0 0 0,
    .bcEye 0 false 0 0] : List Instr).all (fun c => c.wf) = true := by decide +kernel

theorem test_wf_accepts_7 : ([
    .bcLineCrc 0 false 0 0,
    .trainingSet 0 0 0 0 false,
    .laneLost 0,
    .laneReverseSilence 0,
    .laneNoSignal 0,
    .laneEqTimeout 0,
    .laneTrained 0 false 0 0 0,
    .laneGenChange 0,
    .retrain 0,
    .laneRestore 0,
    .laneLoop 0 0,
    .hello 0 false ⟨0, 0, false, 0, 0, 0, 0, false, []⟩] : List Instr).all (fun c => c.wf) = true := by decide +kernel

theorem test_wf_accepts_8 : ([
    .helloSend,
    .helloTimeout 0,
    .elect 0 false ⟨0, 0, false, 0, 0, 0, 0, false, []⟩,
    .electionSettled,
    .leaderContactLost,
    .coordReport 0 false ⟨0, 0, false, 0, 0, 0, 0, false, []⟩,
    .coordOffset 0 false ⟨0, 0, false, 0, 0, 0, 0, false, []⟩,
    .linkState 0 false ⟨0, 0, false, 0, 0, 0, 0, false, []⟩,
    .linkStateMulticast,
    .dictReq 0 false ⟨0, 0, false, 0, 0, 0, 0, false, []⟩,
    .dictReply 0 false ⟨0, 0, false, 0, 0, 0, 0, false, []⟩,
    .notifyRelay 0 false ⟨0, 0, false, 0, 0, 0, 0, false, []⟩] : List Instr).all (fun c => c.wf) = true := by decide +kernel

theorem test_wf_accepts_9 : ([
    .sceneClaim 0 false ⟨0, 0, false, 0, 0, 0, 0, false, []⟩,
    .sceneGrant 0 false ⟨0, 0, false, 0, 0, 0, 0, false, []⟩,
    .sceneRelease 0 false ⟨0, 0, false, 0, 0, 0, 0, false, []⟩,
    .sceneClaimRevoke,
    .sceneHead 0 false ⟨0, 0, false, 0, 0, 0, 0, false, []⟩,
    .scenePayload 0 false ⟨0, 0, false, 0, 0, 0, 0, false, []⟩,
    .sceneSuppl 0 false ⟨0, 0, false, 0, 0, 0, 0, false, []⟩,
    .sceneEnd 0 false ⟨0, 0, false, 0, 0, 0, 0, false, []⟩,
    .linkAck 0 false 0 false (List.replicate 6 0),
    .linkResendTimeout 0,
    .packetLengthTimeout 0,
    .linkMask 0 false 0] : List Instr).all (fun c => c.wf) = true := by decide +kernel

theorem test_wf_accepts_10 : ([
    .timeUnit 0 false 0 0 0 0,
    .timeUnitSend 0,
    .linkDelayMeasure 0 0 0,
    .fabricMerge,
    .ptpSync 0 0 0 0 none 0 0,
    .ptpFollowUp 0 0 0 0 0,
    .ptpDelayResp 0 0 0 0 0 0,
    .ptpAnnounce 0 [] 0,
    .ptpSignaling 0 0 0 0 0,
    .ptpDelayReq 0 0 0,
    .ptpAnnounceTimeout 0 false,
    .timeUnlocked] : List Instr).all (fun c => c.wf) = true := by decide +kernel

theorem test_wf_accepts_11 : ([
    .rtcSecondLoad,
    .triggerArm 0 0 0 0 0,
    .triggerFire,
    .dramRead 0 0 0 0,
    .dramWrite 0 0 [] false,
    .dramRefresh 0 0,
    .refreshWindowEnd 0,
    .dramTempPoll 0 0 false,
    .pageIdleClose 0 0,
    .dramTracking 0 0 0 0 0 0,
    .dramRetrain,
    .dramTrainingDone 0 0 0 0 0 false] : List Instr).all (fun c => c.wf) = true := by decide +kernel

theorem test_wf_accepts_12 : ([
    .setpointRequest 0,
    .selfRefreshEntry,
    .selfRefreshExit false,
    .remapWalkDone,
    .sqDoorbell 0 [],
    .cqHeadWrite 0 [],
    .fragmentDone 0 0 0 [],
    .hostReadFailed 0 0 0 [],
    .ringDrain false [],
    .ringForceStop false,
    .hostReset false,
    .bar4Access 0 0 []] : List Instr).all (fun c => c.wf) = true := by decide +kernel

theorem test_wf_accepts_13 : ([
    .msixUnmask 0,
    .dmaStart 0 .bed,
    .dmaDescriptorDone 0 [] [],
    .dmaRunDone 0,
    .dmaAbort 0 .bed,
    .dmaForceStop 0 .bed,
    .dmaDrain 0 false .bed,
    .dmaAccessTimeout 0 0,
    .blitGo .bed,
    .blitJobDone,
    .engineAbort 0,
    .engineForceStop 0] : List Instr).all (fun c => c.wf) = true := by decide +kernel

theorem test_wf_accepts_14 : ([
    .engineFlush 0,
    .engineDrain 0 false,
    .engineAccessTimeout 0 0,
    .crcStart 0 .bed,
    .crcValueWrite 0 0,
    .crcScanDone 0,
    .crcScanStop 0 0,
    .deflateGo .bed,
    .deflateJobDone [],
    .chimneyRequest 0 0 0,
    .chimneyRelease 0 0,
    .pausePointReached 0 0] : List Instr).all (fun c => c.wf) = true := by decide +kernel

theorem test_wf_accepts_15 : ([
    .grantInForce 0 0,
    .sensorSample (List.replicate 48 0),
    .stepUp,
    .tempCompensation 0,
    .calRun 0,
    .trackInterval,
    .calRunDone 0 [],
    .calPpsEdge 0,
    .calPpsMissing,
    .vrefMeasure 0,
    .doseCommit,
    .doseReset] : List Instr).all (fun c => c.wf) = true := by decide +kernel

theorem test_wf_accepts_16 : ([
    .vcpExport 0 0 0 [],
    .vcpStore 0 0,
    .vcpRestore 0 0 0,
    .calDrain false,
    .calForceStop 0,
    .imageInstall 0 0 0 0,
    .switch 0 0,
    .trialCommit false,
    .trialPeriodEnd 0 false,
    .rollbackAdvance 0 false,
    .keyEnrol 0 false,
    .keyRevoke 0 false] : List Instr).all (fun c => c.wf) = true := by decide +kernel

theorem test_wf_accepts_17 : ([
    .enrolLock false,
    .regionSet 0 0 0 0,
    .release 0 0 (List.replicate 96 0),
    .releaseChallengeRead,
    .pskWrite (.slot 0 false),
    .checkout [],
    .wdogKick,
    .checkin,
    .quiesced,
    .watchdogExpiry,
    .checkinTimeout,
    .codeRegionCheck 0 false] : List Instr).all (fun c => c.wf) = true := by decide +kernel

theorem test_wf_accepts_18 : ([
    .spareSwap .bed 0 0,
    .vaultRequest .bed 0 0 0 0,
    .vaultRecordCommit,
    .vaultReclaim,
    .vaultCompact,
    .sectorEraseDone false,
    .hoursCommit,
    .vcpAreaRefresh,
    .coreResetRelease,
    .brownout,
    .testReset,
    .lantWakePin 0] : List Instr).all (fun c => c.wf) = true := by decide +kernel

theorem test_wf_accepts_19 : ([
    .rtcAlarm,
    .supplyWake 0,
    .offDelayExpiry,
    .supplyValid,
    .wakeTimeout,
    .wakeRetry,
    .labelUpdate 0,
    .labelWaveformStart,
    .labelFrame,
    .labelWaveformEnd,
    .labelRecovery,
    .labelTempMeasure 0 false] : List Instr).all (fun c => c.wf) = true := by decide +kernel

theorem test_wf_accepts_20 : ([
    .labelDrain false,
    .labelForceStop false,
    .glowLoadDone,
    .bucketLeak 0,
    .unitRestore 0 0,
    .sumpCoalesceClose 0,
    .persistAllowanceRefill,
    .dripStep 0 [],
    .dripPassStart 0,
    .dripDrain false,
    .dripForceStop false,
    .bktSelect 0 0] : List Instr).all (fun c => c.wf) = true := by decide +kernel

theorem test_wf_accepts_21 : ([
    .sumpSelect 0,
    .perfResetAll,
    .counterIncrement false 0 0 false,
    .lantPowerOn,
    .bedrockSramError,
    .pcieLinkUp 0 0,
    .perstNRise,
    .endOfBoot,
    .latchedSetpointApply,
    .flashOperationFailed 0 false,
    .installComplete false] : List Instr).all (fun c => c.wf) = true := by decide +kernel

theorem test_wf_refuses_1 : ([
    .commitLogicWrite .bed 4294967296 0,
    .commitLogicWrite .bed 0 4294967296,
    .registerWrite .bed 4294967296 0,
    .registerWrite .bed 0 4294967296,
    .loRegisterRead .bed 4294967296 0,
    .loRegisterRead .bed 0 18446744073709551616,
    .readClearRegister .bed 4294967296,
    .modeRequest .bed 16 0,
    .modeRequest .bed 0 32,
    .dictRead (.port .bed 65536 0 0 []),
    .dictRead (.port .bed 0 256 0 []),
    .dictRead (.port .bed 0 0 4294967296 [])] : List Instr).all (fun c => !c.wf) = true := by decide +kernel

theorem test_wf_refuses_2 : ([
    .dictRead (.slot 16 false),
    .dictRead (.idp false 4294967296 0 []),
    .dictRead (.idp true 340282366920938463463374607431768211456 0 []),
    .dictRead (.idp false 0 65536 []),
    .dictWrite (.slot 16 false),
    .readBlock (.slot 16 false),
    .writeBlock (.slot 16 false),
    .store (.slot 16 false),
    .restoreDefault (.slot 16 false),
    .subscribe (.slot 16 false),
    .idpV1Request (.slot 16 false),
    .sessionChallengeRead (.slot 16 false)] : List Instr).all (fun c => !c.wf) = true := by decide +kernel

theorem test_wf_refuses_3 : ([
    .sessionOpen (.slot 16 false),
    .sessionClose (.slot 16 false),
    .sessionIdleTimeout 65536,
    .blockStageTimeout false 65536,
    .subscriptionLeaseExpiry 64,
    .remoteRequestTimeout 65536,
    .msfHeader (List.replicate 63 0),
    .msfSlabEntry (List.replicate 191 0),
    .msfTileIndex (List.replicate 15 0),
    .lateFrameBytes 2 0,
    .lateFrameBytes 0 4294967296,
    .frameAdmissionCheck 4294967296] : List Instr).all (fun c => !c.wf) = true := by decide +kernel

theorem test_wf_refuses_4 : ([
    .stallTimeout 2,
    .tileRowDemand ⟨0, 0, 0, 0⟩ 65536 0,
    .tileRowDemand ⟨0, 0, 0, 0⟩ 0 256,
    .tileRowDemand ⟨4294967296, 0, 0, 0⟩ 0 0,
    .tileRowDemand ⟨0, 65536, 0, 0⟩ 0 0,
    .tileRowDemand ⟨0, 0, 4294967296, 0⟩ 0 0,
    .tileRowDemand ⟨0, 0, 0, 256⟩ 0 0,
    .rowCommit 64,
    .flowLaneError 64,
    .ctxSnapshot 262144,
    .bandWalkStart 4294967296 false,
    .bandWalkDone 4294967296 []] : List Instr).all (fun c => !c.wf) = true := by decide +kernel

theorem test_wf_refuses_5 : ([
    .bundleIssue 34,
    .bundleDone 0 0 (List.replicate 65 ⟨0, 0⟩),
    .bundleDone 65536 0 [],
    .bundleDone 0 65536 [],
    .governorLevelChange 34 0,
    .governorLevelChange 0 4294967296,
    .engineError 34,
    .grottoEccError 68 0 false false,
    .grottoEccError 0 524288 false false,
    .mapVerifyStart 3 0,
    .mapVerifyStart 0 18446744073709551616,
    .mapVerifyDone 3] : List Instr).all (fun c => !c.wf) = true := by decide +kernel

theorem test_wf_refuses_6 : ([
    .galCommit 65536,
    .plCommit 65536,
    .depthLoadDone 8,
    .spanDemand [12] [],
    .spanDemand [] [4294967296],
    .echoLineCheck 12 0 0 0,
    .echoLineCheck 0 65536 0 0,
    .echoLineCheck 0 0 4294967296 0,
    .echoLineCheck 0 0 0 256,
    .bcStatus 48 false 0 0 0 0,
    .bcStatus 0 false 16 0 0 0,
    .bcStatus 0 false 0 4 0 0] : List Instr).all (fun c => !c.wf) = true := by decide +kernel

theorem test_wf_refuses_7 : ([
    .bcStatus 0 false 0 0 65536 0,
    .bcStatus 0 false 0 0 0 65536,
    .bcLockLost 48 false 0,
    .bcLockLost 0 false 16,
    .bcTapReq 64 false 0 0 0,
    .bcTapReq 0 false 256 0 0,
    .bcTapReq 0 false 0 256 0,
    .bcTapReq 0 false 0 0 256,
    .bcEye 64 false 0 0,
    .bcEye 0 false 65536 0,
    .bcEye 0 false 0 65536,
    .bcLineCrc 48 false 0 0] : List Instr).all (fun c => !c.wf) = true := by decide +kernel

theorem test_wf_refuses_8 : ([
    .bcLineCrc 0 false 65536 0,
    .bcLineCrc 0 false 0 4294967296,
    .trainingSet 64 0 0 0 false,
    .trainingSet 0 4 0 0 false,
    .trainingSet 0 0 256 0 false,
    .trainingSet 0 0 0 256 false,
    .laneLost 64,
    .laneReverseSilence 64,
    .laneNoSignal 64,
    .laneEqTimeout 64,
    .laneTrained 64 false 0 0 0,
    .laneTrained 0 false 65536 0 0] : List Instr).all (fun c => !c.wf) = true := by decide +kernel

theorem test_wf_refuses_9 : ([
    .laneTrained 0 false 0 65536 0,
    .laneTrained 0 false 0 0 256,
    .laneGenChange 64,
    .retrain 64,
    .laneRestore 64,
    .laneLoop 64 0,
    .laneLoop 0 4,
    .hello 4 false ⟨0, 0, false, 0, 0, 0, 0, false, []⟩,
    .hello 0 false ⟨3, 0, false, 0, 0, 0, 0, false, []⟩,
    .hello 0 false ⟨0, 32, false, 0, 0, 0, 0, false, []⟩,
    .hello 0 false ⟨0, 0, false, 4294967296, 0, 0, 0, false, []⟩,
    .hello 0 false ⟨0, 0, false, 0, 4294967296, 0, 0, false, []⟩] : List Instr).all (fun c => !c.wf) = true := by decide +kernel

theorem test_wf_refuses_10 : ([
    .hello 0 false ⟨0, 0, false, 0, 0, 256, 0, false, []⟩,
    .hello 0 false ⟨0, 0, false, 0, 0, 0, 256, false, []⟩,
    .hello 0 false ⟨0, 0, false, 0, 0, 0, 0, false, (List.replicate 4097 0)⟩,
    .helloTimeout 4,
    .elect 4 false ⟨0, 0, false, 0, 0, 0, 0, false, []⟩,
    .elect 0 false ⟨3, 0, false, 0, 0, 0, 0, false, []⟩,
    .coordReport 4 false ⟨0, 0, false, 0, 0, 0, 0, false, []⟩,
    .coordReport 0 false ⟨3, 0, false, 0, 0, 0, 0, false, []⟩,
    .coordOffset 4 false ⟨0, 0, false, 0, 0, 0, 0, false, []⟩,
    .coordOffset 0 false ⟨3, 0, false, 0, 0, 0, 0, false, []⟩,
    .linkState 4 false ⟨0, 0, false, 0, 0, 0, 0, false, []⟩,
    .linkState 0 false ⟨3, 0, false, 0, 0, 0, 0, false, []⟩] : List Instr).all (fun c => !c.wf) = true := by decide +kernel

theorem test_wf_refuses_11 : ([
    .dictReq 4 false ⟨0, 0, false, 0, 0, 0, 0, false, []⟩,
    .dictReq 0 false ⟨3, 0, false, 0, 0, 0, 0, false, []⟩,
    .dictReply 4 false ⟨0, 0, false, 0, 0, 0, 0, false, []⟩,
    .dictReply 0 false ⟨3, 0, false, 0, 0, 0, 0, false, []⟩,
    .notifyRelay 4 false ⟨0, 0, false, 0, 0, 0, 0, false, []⟩,
    .notifyRelay 0 false ⟨3, 0, false, 0, 0, 0, 0, false, []⟩,
    .sceneClaim 4 false ⟨0, 0, false, 0, 0, 0, 0, false, []⟩,
    .sceneClaim 0 false ⟨3, 0, false, 0, 0, 0, 0, false, []⟩,
    .sceneGrant 4 false ⟨0, 0, false, 0, 0, 0, 0, false, []⟩,
    .sceneGrant 0 false ⟨3, 0, false, 0, 0, 0, 0, false, []⟩,
    .sceneRelease 4 false ⟨0, 0, false, 0, 0, 0, 0, false, []⟩,
    .sceneRelease 0 false ⟨3, 0, false, 0, 0, 0, 0, false, []⟩] : List Instr).all (fun c => !c.wf) = true := by decide +kernel

theorem test_wf_refuses_12 : ([
    .sceneHead 4 false ⟨0, 0, false, 0, 0, 0, 0, false, []⟩,
    .sceneHead 0 false ⟨3, 0, false, 0, 0, 0, 0, false, []⟩,
    .scenePayload 4 false ⟨0, 0, false, 0, 0, 0, 0, false, []⟩,
    .scenePayload 0 false ⟨3, 0, false, 0, 0, 0, 0, false, []⟩,
    .sceneSuppl 4 false ⟨0, 0, false, 0, 0, 0, 0, false, []⟩,
    .sceneSuppl 0 false ⟨3, 0, false, 0, 0, 0, 0, false, []⟩,
    .sceneEnd 4 false ⟨0, 0, false, 0, 0, 0, 0, false, []⟩,
    .sceneEnd 0 false ⟨3, 0, false, 0, 0, 0, 0, false, []⟩,
    .linkAck 0 false 0 false (List.replicate 5 0),
    .linkAck 4 false 0 false (List.replicate 6 0),
    .linkAck 0 false 256 false (List.replicate 6 0),
    .linkResendTimeout 4] : List Instr).all (fun c => !c.wf) = true := by decide +kernel

theorem test_wf_refuses_13 : ([
    .packetLengthTimeout 4,
    .linkMask 4 false 0,
    .linkMask 0 false 16,
    .timeUnit 4 false 0 0 0 0,
    .timeUnit 0 false 256 0 0 0,
    .timeUnit 0 false 0 256 0 0,
    .timeUnit 0 false 0 0 18446744073709551616 0,
    .timeUnit 0 false 0 0 0 18446744073709551616,
    .timeUnitSend 18446744073709551616,
    .linkDelayMeasure 4 0 0,
    .linkDelayMeasure 0 18446744073709551616 0,
    .linkDelayMeasure 0 0 18446744073709551616] : List Instr).all (fun c => !c.wf) = true := by decide +kernel

theorem test_wf_refuses_14 : ([
    .ptpSync 0 0 0 0 (some 39614081257132168796771975168) 0 0,
    .ptpSync 256 0 0 0 none 0 0,
    .ptpSync 0 1208925819614629174706176 0 0 none 0 0,
    .ptpSync 0 0 65536 0 none 0 0,
    .ptpSync 0 0 0 39614081257132168796771975168 none 0 0,
    .ptpSync 0 0 0 (-39614081257132168796771975169) none 0 0,
    .ptpSync 0 0 0 0 none 9223372036854775808 0,
    .ptpSync 0 0 0 0 none (-9223372036854775809) 0,
    .ptpSync 0 0 0 0 none 0 18446744073709551616,
    .ptpFollowUp 256 0 0 0 0,
    .ptpFollowUp 0 1208925819614629174706176 0 0 0,
    .ptpFollowUp 0 0 65536 0 0] : List Instr).all (fun c => !c.wf) = true := by decide +kernel

theorem test_wf_refuses_15 : ([
    .ptpFollowUp 0 0 0 39614081257132168796771975168 0,
    .ptpFollowUp 0 0 0 (-39614081257132168796771975169) 0,
    .ptpFollowUp 0 0 0 0 9223372036854775808,
    .ptpFollowUp 0 0 0 0 (-9223372036854775809),
    .ptpDelayResp 256 0 0 0 0 0,
    .ptpDelayResp 0 1208925819614629174706176 0 0 0 0,
    .ptpDelayResp 0 0 65536 0 0 0,
    .ptpDelayResp 0 0 0 39614081257132168796771975168 0 0,
    .ptpDelayResp 0 0 0 (-39614081257132168796771975169) 0 0,
    .ptpDelayResp 0 0 0 0 9223372036854775808 0,
    .ptpDelayResp 0 0 0 0 (-9223372036854775809) 0,
    .ptpDelayResp 0 0 0 0 0 18446744073709551616] : List Instr).all (fun c => !c.wf) = true := by decide +kernel

theorem test_wf_refuses_16 : ([
    .ptpAnnounce 256 [] 0,
    .ptpAnnounce 0 [] 32768,
    .ptpAnnounce 0 [] (-32769),
    .ptpSignaling 256 0 0 0 0,
    .ptpSignaling 0 4 0 0 0,
    .ptpSignaling 0 0 16 0 0,
    .ptpSignaling 0 0 0 128 0,
    .ptpSignaling 0 0 0 (-129) 0,
    .ptpSignaling 0 0 0 0 4294967296,
    .ptpDelayReq 3 0 0,
    .ptpDelayReq 0 39614081257132168796771975168 0,
    .ptpDelayReq 0 (-39614081257132168796771975169) 0] : List Instr).all (fun c => !c.wf) = true := by decide +kernel

theorem test_wf_refuses_17 : ([
    .ptpDelayReq 0 0 18446744073709551616,
    .ptpAnnounceTimeout 3 false,
    .triggerArm 8 0 0 0 0,
    .triggerArm 0 4294967296 0 0 0,
    .triggerArm 0 0 4294967296 0 0,
    .triggerArm 0 0 0 4294967296 0,
    .triggerArm 0 0 0 0 4294967296,
    .dramRead 256 0 0 0,
    .dramRead 0 18446744073709551616 0 0,
    .dramRead 0 0 4294967296 0,
    .dramRead 0 0 0 3,
    .dramWrite 256 0 [] false] : List Instr).all (fun c => !c.wf) = true := by decide +kernel

theorem test_wf_refuses_18 : ([
    .dramWrite 0 18446744073709551616 [] false,
    .dramRefresh 8 0,
    .dramRefresh 0 16,
    .refreshWindowEnd 8,
    .dramTempPoll 8 0 false,
    .dramTempPoll 0 256 false,
    .pageIdleClose 8 0,
    .pageIdleClose 0 16,
    .dramTracking 8 0 0 0 0 0,
    .dramTracking 0 32768 0 0 0 0,
    .dramTracking 0 (-32769) 0 0 0 0,
    .dramTracking 0 0 65536 0 0 0] : List Instr).all (fun c => !c.wf) = true := by decide +kernel

theorem test_wf_refuses_19 : ([
    .dramTracking 0 0 0 65536 0 0,
    .dramTracking 0 0 0 0 65536 0,
    .dramTracking 0 0 0 0 0 65536,
    .dramTrainingDone 8 0 0 0 0 false,
    .dramTrainingDone 0 65536 0 0 0 false,
    .dramTrainingDone 0 0 65536 0 0 false,
    .dramTrainingDone 0 0 0 65536 0 false,
    .dramTrainingDone 0 0 0 0 65536 false,
    .setpointRequest 256,
    .sqDoorbell 4294967296 [],
    .cqHeadWrite 4294967296 [],
    .fragmentDone 4294967296 0 0 []] : List Instr).all (fun c => !c.wf) = true := by decide +kernel

theorem test_wf_refuses_20 : ([
    .fragmentDone 0 4294967296 0 [],
    .fragmentDone 0 0 4294967296 [],
    .hostReadFailed 4294967296 0 0 [],
    .hostReadFailed 0 4294967296 0 [],
    .hostReadFailed 0 0 4294967296 [],
    .bar4Access 68719476736 0 [],
    .bar4Access 0 4294967296 [],
    .msixUnmask 65,
    .dmaStart 16 .bed,
    .dmaDescriptorDone 16 [] [],
    .dmaRunDone 16,
    .dmaAbort 16 .bed] : List Instr).all (fun c => !c.wf) = true := by decide +kernel

theorem test_wf_refuses_21 : ([
    .dmaForceStop 16 .bed,
    .dmaDrain 16 false .bed,
    .dmaAccessTimeout 16 0,
    .dmaAccessTimeout 0 18446744073709551616,
    .engineAbort 2,
    .engineForceStop 2,
    .engineFlush 2,
    .engineDrain 2 false,
    .engineAccessTimeout 2 0,
    .engineAccessTimeout 0 18446744073709551616,
    .crcStart 4 .bed,
    .crcValueWrite 4 0] : List Instr).all (fun c => !c.wf) = true := by decide +kernel

theorem test_wf_refuses_22 : ([
    .crcValueWrite 0 4294967296,
    .crcScanDone 4,
    .crcScanStop 4 0,
    .crcScanStop 0 18446744073709551616,
    .chimneyRequest 9 0 0,
    .chimneyRequest 0 65536 0,
    .chimneyRequest 0 0 4294967296,
    .chimneyRelease 9 0,
    .chimneyRelease 0 65536,
    .pausePointReached 9 0,
    .pausePointReached 0 65536,
    .grantInForce 9 0] : List Instr).all (fun c => !c.wf) = true := by decide +kernel

theorem test_wf_refuses_23 : ([
    .grantInForce 0 65536,
    .sensorSample (32768 :: List.replicate 47 0),
    .sensorSample (List.replicate 47 0),
    .tempCompensation 32768,
    .tempCompensation (-32769),
    .calRun 256,
    .calRunDone 8 [],
    .calPpsEdge 4294967296,
    .vrefMeasure 65536,
    .vcpExport 18446744073709551616 0 0 [],
    .vcpExport 0 4294967296 0 [],
    .vcpExport 0 0 4294967296 []] : List Instr).all (fun c => !c.wf) = true := by decide +kernel

theorem test_wf_refuses_24 : ([
    .vcpStore 18446744073709551616 0,
    .vcpStore 0 4294967296,
    .vcpRestore 18446744073709551616 0 0,
    .vcpRestore 0 4294967296 0,
    .vcpRestore 0 0 256,
    .calForceStop 256,
    .imageInstall 256 0 0 0,
    .imageInstall 0 2 0 0,
    .imageInstall 0 0 18446744073709551616 0,
    .imageInstall 0 0 0 4294967296,
    .switch 256 0,
    .switch 0 2] : List Instr).all (fun c => !c.wf) = true := by decide +kernel

theorem test_wf_refuses_25 : ([
    .trialPeriodEnd 256 false,
    .rollbackAdvance 256 false,
    .keyEnrol 18446744073709551616 false,
    .keyRevoke 256 false,
    .regionSet 256 0 0 0,
    .regionSet 0 18446744073709551616 0 0,
    .regionSet 0 0 4294967296 0,
    .regionSet 0 0 0 4294967296,
    .release 0 0 (List.replicate 95 0),
    .release 256 0 (List.replicate 96 0),
    .release 0 256 (List.replicate 96 0),
    .pskWrite (.slot 16 false)] : List Instr).all (fun c => !c.wf) = true := by decide +kernel

theorem test_wf_refuses_26 : ([
    .checkout (List.replicate 65537 0),
    .codeRegionCheck 2 false,
    .spareSwap .bed 256 0,
    .spareSwap .bed 0 65536,
    .vaultRequest .bed 256 0 0 0,
    .vaultRequest .bed 0 65536 0 0,
    .vaultRequest .bed 0 0 18446744073709551616 0,
    .vaultRequest .bed 0 0 0 65536,
    .lantWakePin 18446744073709551616,
    .supplyWake 18446744073709551616,
    .labelUpdate 256,
    .labelTempMeasure 32768 false] : List Instr).all (fun c => !c.wf) = true := by decide +kernel

theorem test_wf_refuses_27 : ([
    .labelTempMeasure (-32769) false,
    .bucketLeak 256,
    .unitRestore 256 0,
    .unitRestore 0 65536,
    .sumpCoalesceClose 4294967296,
    .dripStep 3 [],
    .dripPassStart 3,
    .bktSelect 256 0,
    .bktSelect 0 65536,
    .sumpSelect 65536,
    .counterIncrement false 65536 0 false,
    .counterIncrement false 0 18446744073709551616 false] : List Instr).all (fun c => !c.wf) = true := by decide +kernel

theorem test_wf_refuses_28 : ([
    .pcieLinkUp 16 0,
    .pcieLinkUp 0 32,
    .flashOperationFailed 2 false] : List Instr).all (fun c => !c.wf) = true := by decide +kernel


end Sys2Proof.Machine
end

section
/-!
The commands of the host interface and the DMA channels (spec/14_host_interface_and_dma.md): MSI-X messages (R487, R488)
and the SWAP codes of a descriptor (R497).
-/
namespace Sys2Proof.Machine

open Sys2Proof

/-! ## A raise of a vector (R488) -/

theorem Mach.raise_of_open {m : Mach} {v : Nat} (h : m.msixMasked v = false) : m.raise v = m.msixSend v := by
  simp [Mach.raise, h]

theorem Mach.raise_of_masked {m : Mach} {v : Nat} (h : m.msixMasked v = true) :
    m.raise v = { m with msix := { m.msix with pba := setBit m.msix.pba v } } := by
  simp [Mach.raise, h]

/-! ## The unmask of a vector (R488) -/

/-- Vector `v`'s own mask bit cleared. -/
def Mach.clearMask (m : Mach) (v : Nat) : Mach := m.msixSet (4 * v + 3) (clrBit (m.msixWord (4 * v + 3)) 0)

@[simp] theorem Mach.clearMask_pba (m : Mach) (v : Nat) : (m.clearMask v).msix.pba = m.msix.pba := rfl

@[simp] theorem Mach.clearMask_out (m : Mach) (v : Nat) : (m.clearMask v).out = m.out := rfl

theorem msixUnmask_vector (m : Mach) {v : Nat} (h : v < 64) : msixUnmask m v = msixPending (m.clearMask v) v := by
  simp [msixUnmask, h, Mach.clearMask]

/-- With its own mask bit clear, a vector is masked only with the whole function. -/
theorem Mach.clearMask_masked (m : Mach) (v : Nat) : (m.clearMask v).msixMasked v = m.msix.fmask := by
  unfold Mach.msixMasked Mach.clearMask
  rw [msixWord_set, bit_clrBit, Bool.or_false]
  rfl

/-- The words of the message are not the mask's word. -/
theorem Mach.clearMask_word (m : Mach) (v : Nat) {k : Nat} (h : k ≠ 4 * v + 3) : (m.clearMask v).msixWord k = m.msixWord k :=
  msixWord_set_ne m _ _ k h.symm

theorem msixPending_idle {m : Mach} {v : Nat} (h : bit m.msix.pba v = false) : msixPending m v = m := by
  simp [msixPending, h]

theorem msixPending_sends {m : Mach} {v : Nat} (hb : bit m.msix.pba v = true) (hm : m.msixMasked v = false) :
    msixPending m v = Mach.msixSend { m with msix := { m.msix with pba := clrBit m.msix.pba v } } v := by
  simp [msixPending, hb, hm]

/-- MSIX_UNMASK of a vector starts from an empty list of outputs, clears the mask bit and then sends what is pending. -/
theorem exec_msixUnmask_vector {s : State} {v : Nat} (hs : s.Runs) (hv : v < 64) :
    exec (.msixUnmask v) s = .next (s.after (msixPending (s.m.fresh.clearMask v) v)) := by
  rw [← msixUnmask_vector _ hv]
  exact onM_runs hs _

theorem msixPending_clearMask_sends {m : Mach} {v : Nat} (hf : m.msix.fmask = false) (hb : bit m.msix.pba v = true) :
    bit (msixPending (m.clearMask v) v).msix.pba v = false ∧
    (msixPending (m.clearMask v) v).out =
      m.out ++ [.msix v (m.msixWord (4 * v) + 2 ^ 32 * m.msixWord (4 * v + 1)) (m.msixWord (4 * v + 2))] := by
  have hm : (m.clearMask v).msixMasked v = false := (m.clearMask_masked v).trans hf
  have hp : bit (m.clearMask v).msix.pba v = true := by rw [m.clearMask_pba, hb]
  rw [msixPending_sends hp hm, ← m.clearMask_word v (k := 4 * v) (by omega), ← m.clearMask_word v (k := 4 * v + 1) (by omega),
    ← m.clearMask_word v (k := 4 * v + 2) (by omega)]
  exact ⟨bit_clrBit _ _, rfl⟩

/-- Settles O13. A raise is read off its two cases; an unmask clears the mask bit, after which the vector is masked only with the
whole function, so that a pending bit goes out as the one message of the command. -/
theorem vectorMessages : Obligations.VectorMessages := by
  unfold Obligations.VectorMessages
  refine ⟨fun m v hm => ?opened, fun m v hm => ?masked, fun m v hm hb => ?already,
    fun s v hs hv hf hb => ?pending, fun s v hs hv hb => ?idle⟩
  case opened => exact Mach.raise_of_open hm
  case masked =>
    rw [Mach.raise_of_masked hm]
    exact ⟨rfl, bit_setBit _ _⟩
  case already => rw [Mach.raise_of_masked hm, setBit_of_bit _ _ hb]
  case pending => exact ⟨_, exec_msixUnmask_vector hs hv, msixPending_clearMask_sends (m := s.m.fresh) hf hb⟩
  case idle =>
    have hp : bit (s.m.fresh.clearMask v).msix.pba v = false := by rw [Mach.clearMask_pba, Mach.fresh_msix, hb]
    exact ⟨_, exec_msixUnmask_vector hs hv, by rw [msixPending_idle hp, Mach.clearMask_out]; rfl⟩

/-! ## SWAP (R497) -/

/-- Settles O11: each code's equation of `swapUnit` and `swapBytes`, for every four bytes. -/
theorem swapReordersUnits : Obligations.SwapReordersUnits := by
  unfold Obligations.SwapReordersUnits
  intro b0 b1 b2 b3
  exact ⟨rfl, rfl, rfl, rfl, rfl⟩

end Sys2Proof.Machine
end

section
/-!
The pixel formats of the blit engine (spec/15_blit_crc_deflate.md): a pixel word as three colour codes of one width below an alpha
code, and the conversion between formats 0 and 1 (R524).
-/
namespace Sys2Proof.Machine

open Sys2Proof

/-! ## Fields of a word -/

theorem bits_lt (v hi lo : Nat) : bits v hi lo < 2 ^ (hi + 1 - lo) := Nat.mod_lt _ (Nat.two_pow_pos _)

theorem bits_of_lt {x n : Nat} (h : x < 2 ^ (n + 1)) : bits x n 0 = x := by
  simpa [bits] using Nat.mod_eq_of_lt h

theorem bits_lowField {x n : Nat} (h : x < 2 ^ (n + 1)) (r : Nat) : bits (x + 2 ^ (n + 1) * r) n 0 = x := by
  simpa [bits, Nat.add_mul_mod_self_left] using Nat.mod_eq_of_lt h

theorem bits_aboveField {x w : Nat} (h : x < 2 ^ w) (r hi lo : Nat) :
    bits (x + 2 ^ w * r) (w + hi) (w + lo) = bits r hi lo := by
  have hq : (x + 2 ^ w * r) / 2 ^ w = r := by
    rw [Nat.add_mul_div_left _ _ (Nat.two_pow_pos w), Nat.div_eq_of_lt h, Nat.zero_add]
  have hw : w + hi + 1 - (w + lo) = hi + 1 - lo := by omega
  rw [bits, bits, hw, Nat.pow_add, ← Nat.div_div_eq_div_mul, hq]

/-! ## A pixel word -/

/-- Three colour codes of `w` bits, code 0 lowest, below the alpha code. -/
def packPixel (w a : Nat) (c : Nat → Nat) : Nat := c 0 + 2 ^ w * (c 1 + 2 ^ w * (c 2 + 2 ^ w * a))

theorem bits_packPixel_colour {n : Nat} {c : Nat → Nat} (hc : ∀ i, c i < 2 ^ (n + 1)) (a : Nat) {k : Nat} (hk : k < 3) :
    bits (packPixel (n + 1) a c) ((n + 1) * k + n) ((n + 1) * k) = c k := by
  match k, hk with
  | 0, _ =>
    rw [packPixel, Nat.mul_zero, Nat.zero_add]
    exact bits_lowField (hc 0) _
  | 1, _ =>
    rw [packPixel, Nat.mul_one]
    exact (bits_aboveField (hc 0) _ n 0).trans (bits_lowField (hc 1) _)
  | 2, _ =>
    rw [packPixel, Nat.mul_two, Nat.add_assoc]
    exact (bits_aboveField (hc 0) _ (n + 1 + n) (n + 1)).trans
      ((bits_aboveField (hc 1) _ n 0).trans (bits_lowField (hc 2) _))

theorem bits_packPixel_alpha {w n a : Nat} {c : Nat → Nat} (hc : ∀ i, c i < 2 ^ w) (ha : a < 2 ^ (n + 1)) :
    bits (packPixel w a c) (w + (w + (w + n))) (w + (w + w)) = a := by
  rw [packPixel, bits_aboveField (hc 0), bits_aboveField (hc 1)]
  exact (bits_aboveField (hc 2) _ n 0).trans (bits_of_lt ha)

/-! ## Codes rescaled by rdiv (R190) -/

theorem rdiv_natCast (n d : Nat) : rdiv n d = ((2 * n + d) / (2 * d) : Nat) := by
  have hn : ¬ (n : Int) < 0 := by omega
  have hd : ¬ (d : Int) < 0 := by omega
  simp [rdiv, hn, hd]

/-- A code `x` of full scale `d` on the full scale `t`, as the model rounds it. -/
def rescale (x t d : Nat) : Nat := (rdiv (x * t) d).toNat

theorem rescale_eq (x t d : Nat) : rescale x t d = (2 * (x * t) + d) / (2 * d) := by
  rw [rescale, ← Int.natCast_mul, rdiv_natCast, Int.toNat_natCast]

/-- The quotient is not negative, so `toNat` loses nothing. -/
theorem rescale_cast (x t d : Nat) : (rescale x t d : Int) = rdiv (x * t) d := by
  rw [rescale_eq, ← Int.natCast_mul, rdiv_natCast]

theorem rescale_le {x d : Nat} (t : Nat) (hx : x ≤ d) : rescale x t d ≤ t := by
  have hxt : x * t ≤ d * t := Nat.mul_le_mul_right t hx
  rw [rescale_eq]
  rcases Nat.eq_zero_or_pos d with rfl | hd
  · simp
  · have hnext : t.succ * (2 * d) = 2 * (d * t) + 2 * d := by
      rw [Nat.succ_mul, Nat.mul_left_comm, Nat.mul_comm t d]
    refine Nat.le_of_lt_succ ((Nat.div_lt_iff_lt_mul (by omega)).mpr ?_)
    rw [hnext]
    omega

/-! ## Conversion between formats 0 and 1 (R524) -/

/-- An 8-bit colour code widened to 10 bits: its two top bits follow it. -/
def widenCode (b : Nat) : Nat := b * 4 + b / 64

theorem widenCode_eq_shifts {b : Nat} (h : b < 2 ^ 8) : widenCode b = (b <<< 2) ||| (b >>> 6) := by
  have hlow : b >>> 6 < 2 ^ 2 := by rw [Nat.shiftRight_eq_div_pow]; omega
  rw [← Nat.shiftLeft_add_eq_or_of_lt hlow, Nat.shiftLeft_eq, Nat.shiftRight_eq_div_pow]
  rfl

theorem bits_code8_lt (v k : Nat) : bits v (8 * k + 7) (8 * k) < 2 ^ 8 :=
  Nat.lt_of_lt_of_eq (bits_lt _ _ _) (congrArg (2 ^ ·) (by omega))

theorem bits_code10_lt (v k : Nat) : bits v (10 * k + 9) (10 * k) < 2 ^ 10 :=
  Nat.lt_of_lt_of_eq (bits_lt _ _ _) (congrArg (2 ^ ·) (by omega))

/-- Colour code `k` of a format 0 pixel in format 1. -/
def colour01 (v k : Nat) : Nat := widenCode (bits v (8 * k + 7) (8 * k))

/-- Colour code `k` of a format 1 pixel in format 0. -/
def colour10 (v k : Nat) : Nat := rescale (bits v (10 * k + 9) (10 * k)) 255 1023

theorem colour01_lt (v k : Nat) : colour01 v k < 2 ^ 10 := by
  have hb := bits_code8_lt v k
  rw [colour01, widenCode]
  omega

theorem colour10_lt (v k : Nat) : colour10 v k < 2 ^ 8 :=
  Nat.lt_succ_of_le (rescale_le 255 (Nat.le_of_lt_succ (bits_code10_lt v k)))

theorem convPixel_0_1 (v : Nat) : convPixel 0 1 v = packPixel 10 (rescale (bits v 31 24) 3 255) (colour01 v) := by
  have hform : convPixel 0 1 v =
      rescale (bits v 31 24) 3 255 * 2 ^ 30 + colour01 v 2 * 2 ^ 20 + colour01 v 1 * 2 ^ 10 + colour01 v 0 := rfl
  rw [hform, packPixel]
  omega

theorem convPixel_1_0 (v : Nat) : convPixel 1 0 v = packPixel 8 (bits v 31 30 * 85) (colour10 v) := by
  have hform : convPixel 1 0 v =
      bits v 31 30 * 85 * 2 ^ 24 + colour10 v 2 * 2 ^ 16 + colour10 v 1 * 2 ^ 8 + colour10 v 0 := rfl
  rw [hform, packPixel]
  omega

/-- Settles O12. The converted word packs the converted codes, and each of them fits its field, so that reading the field gives the
code back. -/
theorem pixelsConvert : Obligations.PixelsConvert := by
  unfold Obligations.PixelsConvert
  refine ⟨fun v k hk => ?widened, fun v => ?alpha01, fun v k hk => ?narrowed, fun v => ?alpha10⟩
  case widened =>
    rw [convPixel_0_1, bits_packPixel_colour (n := 9) (colour01_lt v) _ hk]
    exact widenCode_eq_shifts (bits_code8_lt v k)
  case alpha01 =>
    have ha : rescale (bits v 31 24) 3 255 < 2 ^ (1 + 1) :=
      Nat.lt_succ_of_le (rescale_le 3 (Nat.le_of_lt_succ (bits_lt v 31 24)))
    rw [convPixel_0_1, bits_packPixel_alpha (w := 10) (n := 1) (colour01_lt v) ha]
    exact rescale_cast _ 3 255
  case narrowed =>
    rw [convPixel_1_0, bits_packPixel_colour (n := 7) (colour10_lt v) _ hk]
    exact rescale_cast _ 255 1023
  case alpha10 =>
    have ha : bits v 31 30 * 85 < 2 ^ (7 + 1) := by
      have hb : bits v 31 30 < 4 := bits_lt v 31 30
      omega
    rw [convPixel_1_0, bits_packPixel_alpha (w := 8) (n := 7) (colour10_lt v) ha]

end Sys2Proof.Machine
end

section
/-!
The ray path's reservation (spec/16_power_and_thermal.md R552): a fixed count, or the Tokens column of R304 for the
entry requested or in force.
-/
namespace Sys2Proof.Machine

open Sys2Proof

/-! ## The Tokens column (R304) -/

/-- The Tokens column of R304, T00 to T23, as the table prints it. -/
def tokensColumn : List Nat :=
  [368, 368, 315, 304, 208, 182, 176, 176, 368, 368, 208, 208, 182, 128, 128, 115, 333, 333, 191, 191, 191, 120, 84, 78]

/-- The printed column agrees with R304's formula, 48 + ceil(320 × Rays / 95,551,488,000), at each row. -/
theorem map_tokens_entryTable : (entryTableA ++ entryTableB ++ entryTableC).map TEntry.tokens = tokensColumn := by
  decide

theorem tentry_tokens {n t : Nat} (h : tokensColumn[n]? = some t) : (tentry n).tokens = t := by
  rw [← map_tokens_entryTable, List.getElem?_map, Option.map_eq_some_iff] at h
  obtain ⟨e, he, rfl⟩ := h
  rw [tentry, List.getD_eq_getElem?_getD, he, Option.getD_some]

/-! ## The reservation by mode (R552) -/

@[simp] theorem reservation_M0 (entry req : Nat) : reservation 0 entry req = 0 := rfl
@[simp] theorem reservation_M1 (entry req : Nat) : reservation 1 entry req = 24 := rfl
@[simp] theorem reservation_M2 (entry req : Nat) : reservation 2 entry req = 24 := rfl
@[simp] theorem reservation_M3 (entry req : Nat) : reservation 3 entry req = 80 := rfl
@[simp] theorem reservation_M4 (entry req : Nat) : reservation 4 entry req = 48 := rfl
@[simp] theorem reservation_M5 (entry req : Nat) : reservation 5 entry req = (tentry req).tokens := rfl
@[simp] theorem reservation_M6 (entry req : Nat) : reservation 6 entry req = (tentry entry).tokens := rfl
@[simp] theorem reservation_M7 (entry req : Nat) : reservation 7 entry req = (tentry entry).tokens := rfl
@[simp] theorem reservation_M8 (entry req : Nat) : reservation 8 entry req = (tentry entry).tokens := rfl
@[simp] theorem reservation_M9 (entry req : Nat) : reservation 9 entry req = (tentry entry).tokens := rfl
@[simp] theorem reservation_M10 (entry req : Nat) : reservation 10 entry req = 368 := rfl
@[simp] theorem reservation_M11 (entry req : Nat) : reservation 11 entry req = 48 := rfl

/-- SHOW, FLAT, CALIBRATE and DEGRADED reserve for the entry in force, whatever is requested. -/
theorem reservation_of_M6_to_M9 {k : Nat} (hk : k ∈ [6, 7, 8, 9]) (entry req : Nat) :
    reservation k entry req = (tentry entry).tokens := by
  revert k
  simp

/-- Settles O14. The fixed counts are read off the mode; in M5 and in M6 to M9 the reservation is the tokens of an entry, which R304's
formula gives as its printed column. -/
theorem reservationOfEachMode : Obligations.ReservationOfEachMode := by
  unfold Obligations.ReservationOfEachMode
  intro entry req
  refine ⟨?beaconGlow, reservation_M3 entry req, ?relayQuarantine, reservation_M10 entry req, reservation_M0 entry req,
    fun t ht => ?requested, fun t k hk ht => ?inForce⟩
  case beaconGlow => simp
  case relayQuarantine => simp
  case requested => exact (reservation_M5 entry req).trans (tentry_tokens ht)
  case inForce => exact (reservation_of_M6_to_M9 hk entry req).trans (tentry_tokens ht)

end Sys2Proof.Machine
end

section
/-!
The image checks (spec/18_firmware_trust_and_live_update.md R609, R610): what each check of `imgCheck` decides, and the check's answer
at the first of them that fails.
-/
namespace Sys2Proof.Machine

open Sys2Proof

/-! ## Fields and zero bytes of a header -/

/-- Byte strings of one length have the same little-endian value only where they are the same. -/
theorem fromLE_inj {a b : Bytes} (h : a.length = b.length) : fromLE a = fromLE b ↔ a = b := by
  induction a generalizing b with
  | nil => simp [List.length_eq_zero_iff.mp h.symm]
  | cons x a ih =>
    cases b with
    | nil => simp at h
    | cons y b =>
      have hx := x.isLt
      have hy := y.isLt
      rw [List.cons.injEq, ← ih (by simpa using h), ← BitVec.toNat_inj, fromLE, fromLE]
      omega

theorem fieldLE_eq_fromLE_iff {b v : Bytes} {o n : Nat} (h : v.length = n) : fieldLE b o n = fromLE v ↔ slice b o n = v :=
  fromLE_inj (by rw [length_slice, h])

/-- Bytes `lo` to `hi` all inside the list are 0 just where each of them reads as 0. -/
theorem zeroBytes_iff {b : Bytes} {lo hi : Nat} (h : hi < b.length) :
    zeroBytes b lo hi = true ↔ ∀ k, lo ≤ k → k ≤ hi → b[k]? = some 0 := by
  simp only [zeroBytes, List.all_eq_true, beq_iff_eq, List.forall_mem_iff_forall_getElem, length_slice, slice_getElem]
  constructor
  · intro hz k hlo hhi
    have hk := hz (k - lo) (by omega)
    have hin : k < b.length := by omega
    rw [Nat.add_sub_cancel' hlo, List.getD_eq_getElem?_getD, List.getElem?_eq_getElem hin, Option.getD_some] at hk
    rw [List.getElem?_eq_getElem hin, hk]
  · intro hz i hi'
    rw [List.getD_eq_getElem?_getD, hz (lo + i) (by omega) (by omega), Option.getD_some]

/-! ## The checks of R610, one by one -/

/-- The format check: magic, format, kind, reserved bytes, and the entry and the extension table within the payload. -/
def ImgFormatted (kind : Nat) (hdr : Bytes) : Prop :=
  slice hdr 0 4 = [0x55, 0x46, 0x57, 0x49] ∧ fieldLE hdr 4 1 = 1 ∧ fieldLE hdr 5 1 = kind ∧
  (∀ k, (28 ≤ k ∧ k < 48) ∨ (288 ≤ k ∧ k < 384) → hdr[k]? = some 0) ∧
  1 ≤ fieldLE hdr 12 4 ∧ fieldLE hdr 12 4 ≤ (if kind = 1 then 98304 else 16776832) ∧ fieldLE hdr 16 4 < fieldLE hdr 12 4 ∧
  (fieldLE hdr 20 4 = 0 ∨ fieldLE hdr 20 4 + 8 * fieldLE hdr 24 4 ≤ fieldLE hdr 12 4)

/-- The hash of the key is the one held for its slot, and the slot is not revoked. -/
def ImgKeyHeld (f : Fuse) (slot : Nat) (hash : Bytes) : Prop :=
  bit f.revoked slot = false ∧
  (if slot < 2 then Config.romKeyHash slot = hash else f.slots.getD (slot - 2) none = some hash)

/-- A customer's slot is allowed only for a MAIN image on a die that is not closed. -/
def ImgKeyAllowed (m : Mach) (kind slot : Nat) : Prop := slot < 2 ∨ (kind = 2 ∧ m.dv D.key_state ≠ 1)

/-- The signature verifies and the payload hash matches. -/
def ImgSigned (hdr pay : Bytes) : Prop :=
  Config.ecdsaOk (slice hdr 48 96) (Config.sha384 (slice hdr 0 192)) (slice hdr 192 96) = true ∧
  Config.sha384 pay = slice hdr 144 48

/-- A MAIN image under a customer's key declares extension entries of the customer's range alone. -/
def ImgEntriesInRange (kind : Nat) (hdr pay : Bytes) : Prop :=
  kind = 2 → 2 ≤ fieldLE hdr 6 1 → ∀ d ∈ imgExt hdr pay, 0xE000 ≤ fieldLE d 0 2 ∧ fieldLE d 0 2 ≤ 0xEFFF

/-- The magic number of R609 is the four characters UFWI. -/
theorem magic_iff (hdr : Bytes) : fieldLE hdr 0 4 = 0x49574655 ↔ slice hdr 0 4 = [0x55, 0x46, 0x57, 0x49] :=
  fieldLE_eq_fromLE_iff (v := [0x55, 0x46, 0x57, 0x49]) rfl

/-- The two reserved spans of R609's header. -/
theorem reserved_iff {hdr : Bytes} (h : hdr.length = 384) :
    zeroBytes hdr 28 47 = true ∧ zeroBytes hdr 288 383 = true ↔
      ∀ k, (28 ≤ k ∧ k < 48) ∨ (288 ≤ k ∧ k < 384) → hdr[k]? = some 0 := by
  rw [zeroBytes_iff (by omega), zeroBytes_iff (by omega)]
  constructor
  · rintro ⟨hlow, hhigh⟩ k (⟨hlo, hhi⟩ | ⟨hlo, hhi⟩)
    · exact hlow k hlo (by omega)
    · exact hhigh k hlo (by omega)
  · intro hz
    exact ⟨fun k hlo hhi => hz k (by omega), fun k hlo hhi => hz k (by omega)⟩

theorem imgFormat_iff {kind : Nat} {hdr : Bytes} (h : hdr.length = 384) : imgFormat kind hdr = true ↔ ImgFormatted kind hdr := by
  simp only [imgFormat, ImgFormatted, ← reserved_iff h, ← magic_iff, Bool.and_eq_true, Bool.or_eq_true, beq_iff_eq,
    decide_eq_true_eq, and_assoc]
  rfl

theorem keyHash_eq_some_iff (f : Fuse) (slot : Nat) (hash : Bytes) : keyHash f slot = some hash ↔ ImgKeyHeld f slot hash := by
  unfold keyHash ImgKeyHeld
  cases bit f.revoked slot with
  | true => simp
  | false => by_cases hs : slot < 2 <;> simp [hs]

theorem imgKeyAllowed_iff {kind : Nat} (hk : kind = 1 ∨ kind = 2) (m : Mach) (slot : Nat) :
    ImgKeyAllowed m kind slot ↔ ¬(2 ≤ slot ∧ (kind = K_STAGE2 ∨ m.dv D.key_state = 1)) := by
  unfold ImgKeyAllowed K_STAGE2
  omega

theorem imgEntriesInRange_iff (kind : Nat) (hdr pay : Bytes) :
    ImgEntriesInRange kind hdr pay ↔ ¬(kind = K_MAIN ∧ 2 ≤ fieldLE hdr 6 1 ∧ !(imgExt hdr pay).all (fun d =>
      decide (0xE000 ≤ fieldLE d 0 2) && decide (fieldLE d 0 2 ≤ 0xEFFF))) := by
  simp [ImgEntriesInRange, K_MAIN]

/-! ## The first failure -/

/-- What R610's order of checks makes the answer be, of six conditions: the code of the first that fails, or none. -/
inductive FirstFailure (Format KeyHeld KeyAllowed Signed NotOld Entries : Prop) : Option Nat → Prop
  | badFormat (h : ¬Format) : FirstFailure Format KeyHeld KeyAllowed Signed NotOld Entries (some IMG_BAD_FORMAT)
  | keyRejected (hf : Format) (h : ¬(KeyHeld ∧ KeyAllowed)) :
      FirstFailure Format KeyHeld KeyAllowed Signed NotOld Entries (some IMG_KEY_REJECTED)
  | badSignature (hf : Format) (hk : KeyHeld ∧ KeyAllowed) (h : ¬Signed) :
      FirstFailure Format KeyHeld KeyAllowed Signed NotOld Entries (some IMG_BAD_SIGNATURE)
  | rollback (hf : Format) (hk : KeyHeld ∧ KeyAllowed) (hs : Signed) (h : ¬NotOld) :
      FirstFailure Format KeyHeld KeyAllowed Signed NotOld Entries (some IMG_ROLLBACK)
  | badEntries (hf : Format) (hk : KeyHeld ∧ KeyAllowed) (hs : Signed) (hn : NotOld) (h : ¬Entries) :
      FirstFailure Format KeyHeld KeyAllowed Signed NotOld Entries (some IMG_BAD_ENTRIES)
  | passed (hf : Format) (hk : KeyHeld ∧ KeyAllowed) (hs : Signed) (hn : NotOld) (he : Entries) :
      FirstFailure Format KeyHeld KeyAllowed Signed NotOld Entries none

/-- The five codes differ, so the answer tells which condition failed first. -/
theorem FirstFailure.answer_iff {Format KeyHeld KeyAllowed Signed NotOld Entries : Prop} {r : Option Nat}
    (h : FirstFailure Format KeyHeld KeyAllowed Signed NotOld Entries r) :
    (r = some IMG_BAD_FORMAT ↔ ¬Format) ∧
    (r = some IMG_KEY_REJECTED ↔ Format ∧ ¬(KeyHeld ∧ KeyAllowed)) ∧
    (r = some IMG_BAD_SIGNATURE ↔ Format ∧ KeyHeld ∧ KeyAllowed ∧ ¬Signed) ∧
    (r = some IMG_ROLLBACK ↔ Format ∧ KeyHeld ∧ KeyAllowed ∧ Signed ∧ ¬NotOld) ∧
    (r = some IMG_BAD_ENTRIES ↔ Format ∧ KeyHeld ∧ KeyAllowed ∧ Signed ∧ NotOld ∧ ¬Entries) ∧
    (r = none ↔ Format ∧ KeyHeld ∧ KeyAllowed ∧ Signed ∧ NotOld ∧ Entries) := by
  simp only [← and_assoc (a := KeyHeld)]
  cases h <;> simp [IMG_BAD_FORMAT, IMG_KEY_REJECTED, IMG_BAD_SIGNATURE, IMG_ROLLBACK, IMG_BAD_ENTRIES, *]

/-- The branches of `imgCheck` are R610's checks, in R610's order. -/
theorem imgCheck_firstFailure (f : Fuse) (m : Mach) {kind : Nat} {hdr : Bytes} (pay : Bytes) (hk : kind = 1 ∨ kind = 2)
    (hl : hdr.length = 384) :
    FirstFailure (ImgFormatted kind hdr) (ImgKeyHeld f (fieldLE hdr 6 1) (Config.sha384 (slice hdr 48 96)))
      (ImgKeyAllowed m kind (fieldLE hdr 6 1)) (ImgSigned hdr pay) (rollCounter m kind ≤ fieldLE hdr 7 1)
      (ImgEntriesInRange kind hdr pay) (imgCheck f m kind hdr pay) := by
  rw [← imgFormat_iff hl, ← keyHash_eq_some_iff, imgKeyAllowed_iff hk, imgEntriesInRange_iff]
  unfold imgCheck ImgSigned
  dsimp only
  split
  · next hbad => exact .badFormat (by simpa using hbad)
  next hgood =>
  have hformat : imgFormat kind hdr = true := by simpa using hgood
  split
  · next hunheld => exact .keyRejected hformat fun h => hunheld h.1
  next hheld =>
  split
  · next hrefused => exact .keyRejected hformat fun h => h.2 hrefused
  next hallowed =>
  have hkey := And.intro (Classical.not_not.mp hheld) hallowed
  split
  · next hforged => exact .badSignature hformat hkey fun h => by simp [h.1] at hforged
  next hverified =>
  split
  · next hchanged => exact .badSignature hformat hkey fun h => hchanged h.2
  next hpayload =>
  have hsigned := And.intro (by simpa using hverified : Config.ecdsaOk _ _ _ = true) (Classical.not_not.mp hpayload)
  split
  · next hold => exact .rollback hformat hkey hsigned (Nat.not_le.mpr hold)
  next hstep =>
  split
  · next hforeign => exact .badEntries hformat hkey hsigned (Nat.not_lt.mp hstep) (Classical.not_not.mpr hforeign)
  next hentries => exact .passed hformat hkey hsigned (Nat.not_lt.mp hstep) hentries

/-- Settles O15. Each check decides its condition of R610, `imgCheck` makes them in R610's order, and its answer tells the first that
fails. -/
theorem imageChecksInOrder : Obligations.ImageChecksInOrder := by
  unfold Obligations.ImageChecksInOrder
  intro f m kind hdr pay hk hl
  exact (imgCheck_firstFailure f m pay hk hl).answer_iff

end Sys2Proof.Machine
end

section
/-!
Which parts of the state a command can reach. Each command's meaning has one of six shapes; the shape says what of DRAM, fuses and queue
stays as it was, whatever the block state.
-/
namespace Sys2Proof.Machine

open Sys2Proof

/-! ## Bedrock's commands store nothing in DRAM (R611, R615) -/

theorem trialCommit_wr (m : Mach) (f : Fuse) (vdd : Bool) : (trialCommit m f vdd).2.wr = [] := by
  unfold trialCommit
  dsimp only
  split <;> rfl

theorem rollbackAdvance_wr (m : Mach) (f : Fuse) (kind : Nat) (vdd : Bool) : (rollbackAdvance m f kind vdd).2.wr = [] := by
  unfold rollbackAdvance
  dsimp only
  split <;> rfl

theorem keyEnrol_wr (d : Mem) (m : Mach) (f : Fuse) (addr : Nat) (vdd : Bool) : (keyEnrol d m f addr vdd).2.wr = [] := by
  unfold keyEnrol
  dsimp only
  split
  · rfl
  · repeat (split; rfl)
    rfl

theorem keyRevoke_wr (m : Mach) (f : Fuse) (slot : Nat) (vdd : Bool) : (keyRevoke m f slot vdd).2.wr = [] := by
  unfold keyRevoke
  dsimp only
  repeat (split; rfl)
  rfl

theorem enrolLock_wr (m : Mach) (f : Fuse) (vdd : Bool) : (enrolLock m f vdd).2.wr = [] := by
  unfold enrolLock
  dsimp only
  repeat (split; rfl)
  rfl

/-! ## The shapes -/

/-- The shape of a command's meaning: how it acts on the whole state, and the lists of Sys2Proof/Safety.lean that have to name it for that. -/
inductive Acts (c : Instr) (s : State) : Prop
  | block (f : Mach → Mach) (e : exec c s = onM s f)
  | reads (f : Mem → Mach → Mach) (e : exec c s = onR s f)
  | stores (hw : writesDram c = true) (f : Mem → Mach → Effect) (e : exec c s = onW s f)
  | lantern (ha : alwaysActs c = true) (f : Mach → Mach) (e : exec c s = onL s f)
  | supply (ha : alwaysActs c = true) (hw : writesDram c = true) (f : Mem → Mach → Effect) (e : exec c s = onLantern s f)
  | bedrock (hf : writesFuse c = true) (f : Mem → Mach → Fuse → Fuse × Effect) (hw : ∀ d m u, (f d m u).2.wr = [])
      (hle : ∀ d m u, Fuse.le u (f d m u).1) (e : exec c s = onF s f)
  | dictionary (g : Fuse → Mach → Mach) (e : exec c s = onD s g)

/-- Every command has one of the shapes, read off its arm of `exec`. -/
theorem exec_acts (c : Instr) (s : State) : Acts c s := by
  cases c with
  | pfwNFall | hostReset | lantPowerOn => exact .supply rfl rfl _ (by unfold exec; rfl)
  | pfwNRise | coreResetRelease | brownout | testReset | lantWakePin | rtcAlarm | supplyWake | offDelayExpiry | supplyValid
  | wakeTimeout | wakeRetry | labelWaveformStart | labelFrame | labelWaveformEnd | labelTempMeasure | perstNRise =>
    exact .lantern rfl _ (by unfold exec; rfl)
  | tick | modeTransitionComplete | msfHeader | msfSlabEntry | msfTileIndex | msfTilePayload | msfFrameTrailer | tapCaptureDone
  | tapForceStop | sceneHead | scenePayload | sceneSuppl | sceneEnd | dramWrite | dramTrainingDone | bar4Access | dmaDescriptorDone
  | dmaAbort | dmaForceStop | dmaAccessTimeout | blitJobDone | engineAbort | engineForceStop | engineAccessTimeout | deflateJobDone
  | vcpExport | vcpStore | vcpRestore | dripStep | endOfBoot | installComplete => exact .stores rfl _ (by unfold exec; rfl)
  | rowCommit | backgroundSegmentDone | bandWalkDone | bundleIssue | bundleDone | mapVerifyDone | plCommit | depthLoadDone | spanDemand
  | sceneGrant | sceneRelease | sceneClaimRevoke | dramRead | crcScanDone | crcScanStop | grantInForce | imageInstall | codeRegionCheck
  | glowLoadDone => exact .reads _ (by unfold exec; rfl)
  | dictRead | dictWrite | readBlock | writeBlock | store | restoreDefault | subscribe | idpV1Request | sessionChallengeRead | sessionOpen
  | sessionClose | dictReq | pskWrite | spareSwap => exact .dictionary _ (by unfold exec; rfl)
  | trialCommit vdd => exact .bedrock rfl _ (fun _ m u => trialCommit_wr m u vdd) (fun _ m u => trialCommit_le m u vdd) (by unfold exec; rfl)
  | rollbackAdvance kind vdd => exact .bedrock rfl _ (fun _ m u => rollbackAdvance_wr m u kind vdd) (fun _ m u => rollbackAdvance_le m u kind vdd) (by unfold exec; rfl)
  | keyEnrol addr vdd => exact .bedrock rfl _ (fun d m u => keyEnrol_wr d m u addr vdd) (fun d m u => keyEnrol_le d m u addr vdd) (by unfold exec; rfl)
  | keyRevoke slot vdd => exact .bedrock rfl _ (fun _ m u => keyRevoke_wr m u slot vdd) (fun _ m u => keyRevoke_le m u slot vdd) (by unfold exec; rfl)
  | enrolLock vdd => exact .bedrock rfl _ (fun _ m u => enrolLock_wr m u vdd) (fun _ m u => enrolLock_le m u vdd) (by unfold exec; rfl)
  | vaultRecordCommit => exact .bedrock rfl _ (fun _ _ _ => rfl) (fun _ m u => recordCommit_le u m) (by unfold exec; rfl)
  | _ => exact .block _ (by unfold exec; rfl)

/-! ## What the shapes give -/

/-- Settles O3: every shape answers a next state with the queue as it was. -/
theorem everyCommandAnswersNext : Obligations.EveryCommandAnswersNext := by
  unfold Obligations.EveryCommandAnswersNext
  intro c s
  cases exec_acts c s with
  | block f e => obtain ⟨m, h⟩ := onM_cases s f; exact ⟨m, s.mem, s.fuse, e.trans h⟩
  | reads f e => obtain ⟨m, h⟩ := onR_cases s f; exact ⟨m, s.mem, s.fuse, e.trans h⟩
  | stores _ f e => obtain ⟨m, d, h, -⟩ := onW_cases s f; exact ⟨m, d, s.fuse, e.trans h⟩
  | lantern _ f e => obtain ⟨m, h⟩ := onL_cases s f; exact ⟨m, s.mem, s.fuse, e.trans h⟩
  | supply _ _ f e => obtain ⟨m, d, h, -⟩ := onLantern_cases s f; exact ⟨m, d, s.fuse, e.trans h⟩
  | bedrock _ f _ _ e => obtain ⟨m, d, h, -⟩ := onF_cases s f; exact ⟨m, d, _, e.trans h⟩
  | dictionary g e => obtain ⟨m, d, h, -⟩ := onF_cases s _; exact ⟨m, d, _, e.trans h⟩

/-- Only the commands that the list of stores names reach DRAM, and what they do there keeps the canonical form. -/
theorem exec_mem {c : Instr} {s t : State} (h : exec c s = .next t) :
    t.mem = s.mem ∨ (writesDram c = true ∧ (s.Inv → t.Inv)) := by
  cases exec_acts c s with
  | block f e => exact .inl (onM_mem f (e ▸ h))
  | reads f e => exact .inl (onR_mem f (e ▸ h))
  | lantern _ f e => exact .inl (onL_mem f (e ▸ h))
  | stores hw f e =>
    obtain ⟨m, d, h', hd⟩ := onW_cases s f
    rw [e, h'] at h
    cases h
    exact .inr ⟨hw, hd⟩
  | supply _ hw f e =>
    obtain ⟨m, d, h', hd⟩ := onLantern_cases s f
    rw [e, h'] at h
    cases h
    exact .inr ⟨hw, hd⟩
  | bedrock _ f hw _ e => exact .inl (onF_mem f hw (e ▸ h))
  | dictionary g e => exact .inl (onF_mem _ (fun _ _ _ => rfl) (e ▸ h))

/-- Only the commands of Bedrock's shape reach a fuse, and what they do there takes nothing back. -/
theorem exec_fuse {c : Instr} {s t : State} (h : exec c s = .next t) :
    t.fuse = s.fuse ∨ (writesFuse c = true ∧ Fuse.le s.fuse t.fuse) := by
  cases exec_acts c s with
  | block f e => obtain ⟨m, h'⟩ := onM_cases s f; rw [e, h'] at h; cases h; exact .inl rfl
  | reads f e => obtain ⟨m, h'⟩ := onR_cases s f; rw [e, h'] at h; cases h; exact .inl rfl
  | lantern _ f e => obtain ⟨m, h'⟩ := onL_cases s f; rw [e, h'] at h; cases h; exact .inl rfl
  | stores _ f e => obtain ⟨m, d, h', -⟩ := onW_cases s f; rw [e, h'] at h; cases h; exact .inl rfl
  | supply _ _ f e => obtain ⟨m, d, h', -⟩ := onLantern_cases s f; rw [e, h'] at h; cases h; exact .inl rfl
  | bedrock hf f _ hle e =>
    obtain ⟨m, d, h', -⟩ := onF_cases s f
    rw [e, h'] at h
    cases h
    refine .inr ⟨hf, ?_⟩
    dsimp only
    split
    · exact Fuse.le_refl _
    · exact hle _ _ _
  | dictionary g e =>
    obtain ⟨m, d, h', -⟩ := onF_cases s (fun _ m f => (f, ⟨g f m, [], false⟩))
    rw [e, onD, h'] at h
    cases h
    exact .inl (ite_self _)

/-- Settles O4. A step is the command at the front of the queue, which keeps the form; an empty queue changes nothing. -/
theorem stepsKeepDramForm : Obligations.StepsKeepDramForm := by
  unfold Obligations.StepsKeepDramForm
  intro s t hs h
  unfold step at h
  split at h
  · cases h; exact hs
  · rcases exec_mem h with he | ⟨-, hkept⟩
    · rw [State.Inv, he]; exact hs
    · exact hkept hs

/-- Settles O5, by the order on fuses that Bedrock's operations keep. -/
theorem fusesOnlyGrow : Obligations.FusesOnlyGrow := by
  unfold Obligations.FusesOnlyGrow
  intro s t h
  unfold step at h
  split at h
  · cases h; exact Fuse.le_refl _
  · rcases exec_fuse h with he | ⟨-, hle⟩
    · rw [he]; exact Fuse.le_refl _
    · exact hle

/-- Settles O6: the shapes of the other commands do not reach the fuses. -/
theorem otherCommandsKeepFuses : Obligations.OtherCommandsKeepFuses := by
  unfold Obligations.OtherCommandsKeepFuses
  intro c s t hc h
  rcases exec_fuse h with he | ⟨hf, -⟩
  · exact he
  · rw [hc] at hf; cases hf

/-- Settles O7: the DRAM contents are the same data, so every byte is. -/
theorem otherCommandsKeepDram : Obligations.OtherCommandsKeepDram := by
  unfold Obligations.OtherCommandsKeepDram
  intro c s t hc h a
  rcases exec_mem h with he | ⟨hw, -⟩
  · rw [he]
  · rw [hc] at hw; cases hw

/-- Settles O9: every shape but those of Lantern and the supplies idles while CORE is off. -/
theorem commandsWhileCoreIsOff : Obligations.CommandsWhileCoreIsOff := by
  unfold Obligations.CommandsWhileCoreIsOff
  intro c s hc hoff
  cases exec_acts c s with
  | block f e => exact e.trans (onW_off hoff _)
  | reads f e => exact e.trans (onW_off hoff _)
  | stores _ f e => exact e.trans (onW_off hoff f)
  | lantern ha | supply ha => rw [hc] at ha; cases ha
  | bedrock _ f _ _ e => exact e.trans (onF_off hoff f)
  | dictionary g e => exact e.trans (onF_off hoff _)

/-- Settles O1: the arm of `step` for a queue that is not empty. -/
theorem stepRunsFrontCommand : Obligations.StepRunsFrontCommand := by
  unfold Obligations.StepRunsFrontCommand
  intro c s rest h
  simp [step, h]

/-- Settles O2: the arm of `step` for the empty queue. -/
theorem emptyQueueIdles : Obligations.EmptyQueueIdles := by
  unfold Obligations.EmptyQueueIdles
  intro s h
  simp [step, h]

/-- Settles O8: a write covers its own addresses alone, and the last write of a list is made last. -/
theorem dramWriteReach : Obligations.DramWriteReach := by
  unfold Obligations.DramWriteReach
  refine ⟨fun s m w a h => Mem.byte_writes_out s.mem w a h, fun s m w a b k h => ?_⟩
  have hlast : (s.afterW m (w ++ [(a, b)])).mem = Mem.write (applyWrites s.mem w) a b := by simp [State.afterW, applyWrites]
  rw [hlast]
  exact Mem.byte_write_in _ a b k h

end Sys2Proof.Machine
end

section
/-!
Small operations: sequence numbers (spec/04_mbaudel_scene_format.md R105), chained performance counters (spec/21_health_faults_and_counters.md
R718, R732), the anti-rollback counters (R616) and the band budget (R13); and the state right after first power (R56, R746).
-/
namespace Sys2Proof.Machine

open Sys2Proof

/-! ## Sequence numbers (R105) -/

/-- The distance from `t` on to `s` in serial arithmetic, as the model computes it, is the difference modulo 2^32. -/
theorem serialDistance_eq {s t : Nat} (ht : t < 2 ^ 32) : (((s + 2 ^ 32 - t) % 2 ^ 32 : Nat) : Int) = ((s : Int) - t) % 2 ^ 32 := by
  omega

theorem later_iff {s t : Nat} (ht : t < 2 ^ 32) :
    later s t = true ↔ 1 ≤ ((s : Int) - t) % 2 ^ 32 ∧ ((s : Int) - t) % 2 ^ 32 ≤ 2 ^ 31 - 1 := by
  rw [← serialDistance_eq ht]
  simp only [later, Bool.and_eq_true, decide_eq_true_eq]
  omega

/-- Settles O18. The two distances between different sequences add up to 2^32, so that at most one is below 2^31. -/
theorem sequencesCompareSerially : Obligations.SequencesCompareSerially := by
  unfold Obligations.SequencesCompareSerially
  intro s t hs ht
  refine ⟨later_iff ht, ?_, fun ⟨hst, hts⟩ => ?_⟩
  · simp [later]
  · rw [later_iff ht] at hst
    rw [later_iff hs] at hts
    omega

/-! ## Chained performance counters (R718, R732) -/

theorem bit_eq_testBit (x n : Nat) : bit x n = x.testBit n := by
  rw [Nat.testBit_eq_decide_div_mod_eq]
  rfl

theorem bit_setBit_of_bit {x k : Nat} (n : Nat) (h : bit x k = true) : bit (setBit x n) k = true := by
  rw [bit_eq_testBit] at h ⊢
  exact testBit_setBit x n k h

theorem bit_mod_two_pow {x k w : Nat} (h : k < w) : bit (x % 2 ^ w) k = bit x k := by
  simp [bit_eq_testBit, Nat.testBit_mod_two_pow, h]

/-- Counter `n`'s overflow is flagged, with its interrupt where it is new. -/
def perfMark (m : Mach) (n : Nat) : Mach :=
  let marked := m.wr R.PERF.OVF.OVF (setBit (m.rd R.PERF.OVF.OVF) n)
  if !bit (m.rd R.PERF.OVF.OVF) n && bit (marked.rd R.PERF.OVF_IRQ_EN.EN) n then marked.raise 15 else marked

/-- Marking an overflow writes the field OVF and no other. -/
theorem perfMark_regs (m : Mach) (n : Nat) : (perfMark m n).regs = (m.wr R.PERF.OVF.OVF (setBit (m.rd R.PERF.OVF.OVF) n)).regs := by
  unfold perfMark
  dsimp only
  split
  · exact Mach.raise_regs _ _
  · rfl

theorem perfMark_rd (m : Mach) (n : Nat) {r : Row} {i : Nat} (h : R.PERF.OVF.OVF.key 0 0 ≠ r.key i 0) :
    (perfMark m n).rd r i = m.rd r i :=
  (Mach.rd_of_regs (perfMark_regs m n) r i 0).trans (Mach.rd_wr_ne _ _ _ _ _ _ _ _ h)

theorem perfMark_chain (m : Mach) (n k : Nat) : (perfMark m n).flag R.PERF.CNT_CTRL.CHAIN k = m.flag R.PERF.CNT_CTRL.CHAIN k := by
  unfold Mach.flag
  rw [perfMark_rd]
  simp only [Row.key, R.PERF.OVF.OVF, R.PERF.CNT_CTRL.CHAIN]
  omega

theorem perfMark_enable (m : Mach) (n k : Nat) : (perfMark m n).flag R.PERF.CNT_CTRL.ENABLE k = m.flag R.PERF.CNT_CTRL.ENABLE k := by
  unfold Mach.flag
  rw [perfMark_rd]
  simp only [Row.key, R.PERF.OVF.OVF, R.PERF.CNT_CTRL.ENABLE]
  omega

theorem perfMark_value (m : Mach) (n : Nat) {k : Nat} (h : k < 32) : perfValue (perfMark m n) k = perfValue m k :=
  (show perfValue (perfMark m n) k = perfValue (m.wr R.PERF.OVF.OVF (setBit (m.rd R.PERF.OVF.OVF) n)) k by
    unfold perfValue; rw [Mach.rd_of_regs (perfMark_regs m n), Mach.rd_of_regs (perfMark_regs m n)]).trans (perfValue_ovf m _ k h)

theorem perfMark_ovf (m : Mach) (n : Nat) : (perfMark m n).rd R.PERF.OVF.OVF = setBit (m.rd R.PERF.OVF.OVF) n % 2 ^ 32 :=
  (Mach.rd_of_regs (perfMark_regs m n) _ 0 0).trans (Mach.rd_wr_same m _ _ 0 0)

/-- A carry marks its counter and, where the next one is chained and enabled, counts there and carries on where that one wraps too. -/
theorem perfCarry_succ (m : Mach) (fuel n : Nat) :
    perfCarry m (fuel + 1) n =
      if n + 1 < 32 ∧ (perfMark m n).flag R.PERF.CNT_CTRL.CHAIN (n + 1) = true ∧ (perfMark m n).flag R.PERF.CNT_CTRL.ENABLE (n + 1) = true then
        (if 2 ^ 48 ≤ perfValue (perfMark m n) (n + 1) + 1 then
          perfCarry (perfSet (perfMark m n) (n + 1) (perfValue (perfMark m n) (n + 1) + 1)) fuel (n + 1)
        else perfSet (perfMark m n) (n + 1) (perfValue (perfMark m n) (n + 1) + 1))
      else perfMark m n := rfl

theorem perfSet_ovf (m : Mach) (n v : Nat) : (perfSet m n v).rd R.PERF.OVF.OVF = m.rd R.PERF.OVF.OVF := by
  unfold perfSet
  rw [Mach.rd_wr_ne, Mach.rd_wr_ne] <;>
    simp only [Row.key, R.PERF.OVF.OVF, R.PERF.CNT_VALUE_LO.VALUE, R.PERF.CNT_VALUE_HI.VALUE] <;> omega

/-- An overflow that is flagged stays flagged through a carry. -/
theorem perfCarry_keeps_ovf {k : Nat} (hk : k < 32) (fuel : Nat) :
    ∀ (m : Mach) (n : Nat), bit (m.rd R.PERF.OVF.OVF) k = true → bit ((perfCarry m fuel n).rd R.PERF.OVF.OVF) k = true := by
  induction fuel with
  | zero => intro m n h; exact h
  | succ fuel ih =>
    intro m n h
    have hmark : bit ((perfMark m n).rd R.PERF.OVF.OVF) k = true := by
      rw [perfMark_ovf, bit_mod_two_pow hk]
      exact bit_setBit_of_bit n h
    rw [perfCarry_succ]
    split
    · split
      · exact ih _ _ (by rw [perfSet_ovf]; exact hmark)
      · rw [perfSet_ovf]; exact hmark
    · exact hmark

theorem perfCarry_flags (m : Mach) (fuel : Nat) {n : Nat} (hn : n < 32) : bit ((perfCarry m (fuel + 1) n).rd R.PERF.OVF.OVF) n = true := by
  have hmark : bit ((perfMark m n).rd R.PERF.OVF.OVF) n = true := by
    rw [perfMark_ovf, bit_mod_two_pow hn]
    exact bit_setBit _ _
  rw [perfCarry_succ]
  split
  · split
    · exact perfCarry_keeps_ovf hn fuel _ _ (by rw [perfSet_ovf]; exact hmark)
    · rw [perfSet_ovf]; exact hmark
  · exact hmark

theorem perfCarry_counts {m : Mach} {n : Nat} (fuel : Nat) (hn : n < 31) (hchain : m.flag R.PERF.CNT_CTRL.CHAIN (n + 1) = true)
    (henable : m.flag R.PERF.CNT_CTRL.ENABLE (n + 1) = true) :
    perfValue (perfCarry m (fuel + 1) n) (n + 1) = (perfValue m (n + 1) + 1) % 2 ^ 48 := by
  rw [perfCarry_succ, if_pos ⟨by omega, by rw [perfMark_chain, hchain], by rw [perfMark_enable, henable]⟩, perfMark_value m n (by omega)]
  split
  · rw [perfCarry_below _ _ _ _ (Nat.le_refl _) (by omega), perfValue_set]
  · exact perfValue_set _ _ _

theorem perfCarry_stops {m : Mach} {n : Nat} (fuel : Nat) (hn : n < 31) (hchain : m.flag R.PERF.CNT_CTRL.CHAIN (n + 1) = false) :
    perfValue (perfCarry m (fuel + 1) n) (n + 1) = perfValue m (n + 1) := by
  rw [perfCarry_succ, if_neg (by rw [perfMark_chain, hchain]; simp), perfMark_value m n (by omega)]

/-- Settles O19. The counter that wraps is marked first, which moves no count; then the next counts where it is chained and enabled. -/
theorem chainedCountersCarry : Obligations.ChainedCountersCarry := by
  unfold Obligations.ChainedCountersCarry
  exact ⟨fun _ fuel _ hn hchain henable _ => perfCarry_counts fuel hn hchain henable,
    fun _ fuel _ hn hchain => perfCarry_stops fuel hn hchain, fun m fuel _ hn => perfCarry_flags m fuel hn⟩

/-! ## The anti-rollback counters (R616) -/

/-- An image that passes has a step at or above the effective counter. -/
theorem rollCounter_le_of_imgCheck {f : Fuse} {m : Mach} {kind : Nat} {hdr pay : Bytes} (h : imgCheck f m kind hdr pay = none) :
    rollCounter m kind ≤ fieldLE hdr 7 1 := by
  refine Nat.le_of_not_lt fun hold => ?_
  unfold imgCheck at h
  simp only [if_pos hold] at h
  repeat (split at h; · cases h)
  cases h

/-- Settles O16. The counters are the two maxima of the definition, and the check of R610 refuses a step below them. -/
theorem effectiveCounter : Obligations.EffectiveCounter := by
  unfold Obligations.EffectiveCounter
  exact ⟨fun m => ⟨rfl, rfl⟩, fun f m kind hdr pay hold h => Nat.not_le.mpr hold (rollCounter_le_of_imgCheck h)⟩

/-! ## The band budget (R13) -/

/-- No entry of the timing table is degenerate. -/
theorem tentry_rate_pos : ∀ n < 24, 0 < 10 * (tentry n).lines * (tentry n).num := by decide

/-- Settles O20: the budget is the quotient rounded down. -/
theorem bandBudget : Obligations.BandBudget := by
  unfold Obligations.BandBudget
  refine ⟨fun n e hn => ?_, rfl, rfl⟩
  rw [TEntry.budget, Nat.mul_assoc _ 64 (tentry n).den]
  exact ⟨Nat.div_mul_le_self _ _, Nat.lt_mul_of_div_lt (Nat.lt_succ_self _) (tentry_rate_pos n hn)⟩

/-! ## The state right after first power (R56, R746) -/

/-- A register file that lists nothing reads every field at its reset value. -/
theorem rd_of_regs_nil {m : Mach} (h : m.regs = []) (r : Row) (i j : Nat) : m.rd r i j = r.reset i j := by
  simp [Mach.rd, h, SMap.get, SMap.look]

/-- Settles O10: nothing is listed at reset, so every field reads what its table gives. -/
theorem resetState : Obligations.ResetState := by
  unfold Obligations.ResetState
  refine ⟨rd_of_regs_nil rfl, rfl, rfl, rfl, rfl, rfl, rfl, rfl, rfl, ?_, rfl, rfl⟩
  simp [State.Runs, State.reset, Mach.init, ModeCtl.init]

end Sys2Proof.Machine
end

section
/-!
How a clause about one command is proved: the arm of `exec` names the function on the block state, and a lemma about that function says what
it answers under the clause's conditions. With it, what a loop over units or registers does.
-/
namespace Sys2Proof.Machine

open Sys2Proof

/-! ## From a function on the block state to the command -/

/-- A command on the block state answers what its function does. -/
theorem exec_block {c : Instr} {s : State} {f : Mach → Mach} {a : Mach} (e : exec c s = onM s f) (hs : s.Runs) (h : f s.m.fresh = a) :
    exec c s = .next (s.after a) := by
  rw [e, onM_runs hs, h]

/-- A command that reads DRAM answers what its function does. -/
theorem exec_reads {c : Instr} {s : State} {f : Mem → Mach → Mach} {a : Mach} (e : exec c s = onR s f) (hs : s.Runs)
    (h : f s.mem s.m.fresh = a) : exec c s = .next (s.after a) := by
  rw [e, onR_runs hs, h]

/-- A command of the Lantern domain or of the supplies acts whether or not CORE runs. -/
theorem exec_lantern {c : Instr} {s : State} {f : Mach → Mach} {a : Mach} (e : exec c s = onL s f) (h : f s.m.fresh = a) :
    exec c s = .next (s.after a) := by
  rw [e, onL_eq, h]

/-- A command that may write DRAM answers the block state and the writes of its effect. -/
theorem exec_stores {c : Instr} {s : State} {f : Mem → Mach → Effect} {a : Mach} {w : List (Nat × List Byte)} (e : exec c s = onW s f)
    (hs : s.Runs) (h : f s.mem s.m.fresh = ⟨a, w, false⟩) : exec c s = .next (s.afterW a w) := by
  rw [e, onW_runs hs, onLantern_eq _ _ (by rw [h]), h]

/-- A dictionary command answers what its function does. -/
theorem exec_dictionary {c : Instr} {s : State} {g : Fuse → Mach → Mach} {a : Mach} (e : exec c s = onD s g) (hs : s.Runs)
    (h : g s.fuse s.m.fresh = a) : exec c s = .next (s.after a) := by
  rw [e, onD]
  exact onF_same hs (by rw [h])

/-! ## Loops -/

/-- What holds before a loop and is kept by each of its turns holds after it. -/
theorem Mach.each_keeps {α : Type} {P : Mach → Prop} {f : Mach → α → Mach} (hf : ∀ m a, P m → P (f m a)) (l : List α) {m : Mach}
    (h : P m) : P (m.each l f) := by
  unfold Mach.each
  induction l generalizing m with
  | nil => exact h
  | cons a l ih => exact ih (hf m a h)

/-- A quantity that every turn but one leaves alone is, after a loop over the numbers below `n`, what that turn makes of it; `Q` is what
the turn needs of the rest of the state. -/
theorem Mach.each_range_at {β : Type} {Q : Mach → Prop} {g : Mach → β} {f : Mach → Nat → Mach} {v : β} {u : Nat} (hQ : ∀ m a, Q m → Q (f m a))
    (hne : ∀ m a, a ≠ u → g (f m a) = g m) {b : β} (hat : ∀ m, Q m → g m = b → g (f m u) = v) {n : Nat} (hu : u < n) {m : Mach}
    (hm : Q m) (hb : g m = b) : g (m.each (List.range n) f) = v := by
  induction n with
  | zero => omega
  | succ n ih =>
    have hlast : m.each (List.range (n + 1)) f = f (m.each (List.range n) f) n := by simp [Mach.each, List.range_succ]
    rw [hlast]
    by_cases h : n = u
    · subst h
      refine hat _ (Mach.each_keeps hQ _ hm) ?_
      have hbelow : ∀ k ≤ n, g (m.each (List.range k) f) = b := by
        intro k hk
        induction k with
        | zero => exact hb
        | succ k ihk =>
          rw [show m.each (List.range (k + 1)) f = f (m.each (List.range k) f) k by simp [Mach.each, List.range_succ],
            hne _ _ (by omega), ihk (by omega)]
      exact hbelow n (Nat.le_refl n)
    · rw [hne _ _ h]
      exact ih (by omega)

/-- A loop that writes entry `i` of a field in turn `i` leaves each entry with what its turn wrote. -/
theorem Mach.rd_each_wr (m : Mach) (r : Row) (v : Nat → Nat) {n i : Nat} (hi : i < n) (hs : r.s1 ≠ 0) :
    (m.each (List.range n) (fun m k => m.wr r (v k) k)).rd r i = v i % 2 ^ r.width := by
  refine Mach.each_range_at (Q := fun _ => True) (g := fun m => m.rd r i) (fun _ _ h => h) (fun m k hk => ?_) (fun m _ _ => ?_) hi trivial rfl
  · refine Mach.rd_wr_ne m r r _ k 0 i 0 (fun h => hk ?_)
    simp only [Row.key, Nat.add_right_cancel_iff] at h
    have := Nat.eq_of_mul_eq_mul_right (by omega) h
    exact Nat.eq_of_mul_eq_mul_right (by omega) (by omega : k * r.s1 = i * r.s1)
  · exact Mach.rd_wr_same m r _ i 0

end Sys2Proof.Machine
end

section
/-!
Buckets, the Sump ledger, Dripstone and the counters (spec/21_health_faults_and_counters.md).
-/
namespace Sys2Proof.Machine

open Sys2Proof

/-! ## Buckets (R698, R702, R728) -/

theorem bktSelect_rd {m : Mach} {kind unit : Nat} (h : unit < kindUnits m kind) :
    (bktSelect m kind unit).rd R.HLTH.BKT_SEL.SNAP_DONE = 1 ∧
    (bktSelect m kind unit).rd R.HLTH.BKT_DATA.LEVEL = bktLevel m kind unit % 2 ^ 16 ∧
    (bktSelect m kind unit).rd R.HLTH.BKT_DATA.STATE = b2n (isRetired m kind unit) := by
  have hu : ∀ a b c, kindUnits (((m.wr R.HLTH.BKT_SEL.KIND a).wr R.HLTH.BKT_SEL.UNIT b).wr R.HLTH.BKT_SEL.SNAP_DONE c) kind = kindUnits m kind :=
    fun _ _ _ => rfl
  have hb : ∀ b, b2n b % 2 ^ R.HLTH.BKT_DATA.STATE.width = b2n b := by decide
  unfold bktSelect
  simp only [hu, h, decide_true, if_true]
  refine ⟨?_, ?_, ?_⟩
  · simp (disch := decide) only [Mach.rd_wr_ne, Mach.rd_wr_same]
    rfl
  · simp (disch := decide) only [Mach.rd_wr_ne, Mach.rd_wr_same]
    rfl
  · rw [Mach.rd_wr_same]
    exact hb _

theorem bktSelect_sameBut (m : Mach) (kind unit : Nat) :
    m.SameBut (bktSelect m kind unit) [R.HLTH.BKT_SEL.KIND.key 0 0, R.HLTH.BKT_SEL.UNIT.key 0 0, R.HLTH.BKT_SEL.SNAP_DONE.key 0 0,
      R.HLTH.BKT_DATA.LEVEL.key 0 0, R.HLTH.BKT_DATA.STATE.key 0 0] :=
  (((((Mach.SameBut.refl m _).wr _ _ 0 0 (by simp)).wr _ _ 0 0 (by simp)).wr _ _ 0 0 (by simp)).wr _ _ 0 0 (by simp)).wr _ _ 0 0 (by simp)

/-- One bucket's turn of a leak. -/
def leakUnit (kind : Nat) (m : Mach) (u : Nat) : Mach :=
  if isRetired m kind u || bktLevel m kind u == 0 then m else setLevel m kind u (bktLevel m kind u - 1)

theorem bucketLeak_eq (m : Mach) (kind : Nat) : bucketLeak m kind = m.each (List.range (kindUnits m kind)) (leakUnit kind) := rfl

theorem isRetired_setLevel (m : Mach) (kind unit k u v : Nat) : isRetired (setLevel m k u v) kind unit = isRetired m kind unit := rfl

theorem bktLevel_setLevel_same (m : Mach) (kind unit v : Nat) : bktLevel (setLevel m kind unit v) kind unit = v :=
  SMap.get_put_same 0 _ _ _

theorem bktLevel_setLevel_ne (m : Mach) (kind v : Nat) {unit u : Nat} (h : u ≠ unit) :
    bktLevel (setLevel m kind u v) kind unit = bktLevel m kind unit :=
  SMap.get_put_ne 0 0 _ _ (by simp only [bktKey]; omega)

theorem leakUnit_keeps {P : Mach → Prop} {kind u : Nat} {m : Mach} (h : ∀ v, P (setLevel m kind u v)) (hm : P m) : P (leakUnit kind m u) := by
  unfold leakUnit
  split
  · exact hm
  · exact h _

theorem leakUnit_at {m : Mach} {kind unit : Nat} (hr : isRetired m kind unit = false) (hl : 0 < bktLevel m kind unit) :
    bktLevel (leakUnit kind m unit) kind unit = bktLevel m kind unit - 1 := by
  have hne : (isRetired m kind unit || bktLevel m kind unit == 0) = false := by simp [hr]; omega
  rw [leakUnit, hne]
  exact bktLevel_setLevel_same _ _ _ _

/-- A unit in service whose bucket is not empty loses 1 (R698). -/
theorem bucketLeak_level {m : Mach} {kind unit : Nat} (hu : unit < kindUnits m kind) (hr : isRetired m kind unit = false)
    (hl : 0 < bktLevel m kind unit) : bktLevel (bucketLeak m kind) kind unit = bktLevel m kind unit - 1 := by
  rw [bucketLeak_eq]
  refine Mach.each_range_at (Q := fun m => isRetired m kind unit = false) (g := fun m => bktLevel m kind unit)
    (fun m u hq => ?_) (fun m u hne => ?_) (fun m hq hb => ?_) hu hr rfl
  · exact leakUnit_keeps (P := fun m => isRetired m kind unit = false) (fun _ => hq) hq
  · exact leakUnit_keeps (P := fun m' => bktLevel m' kind unit = bktLevel m kind unit) (fun _ => bktLevel_setLevel_ne m kind _ hne) rfl
  · rw [leakUnit_at hq (by omega), hb]

/-- A leak moves levels and nothing else. -/
theorem bucketLeak_rest (m : Mach) (kind : Nat) : { bucketLeak m kind with hl := { (bucketLeak m kind).hl with level := m.hl.level } } = m := by
  rw [bucketLeak_eq]
  refine Mach.each_keeps (P := fun m' => { m' with hl := { m'.hl with level := m.hl.level } } = m) (fun m' u h => ?_) _ rfl
  exact leakUnit_keeps (P := fun m' => { m' with hl := { m'.hl with level := m.hl.level } } = m) (fun _ => h) h

theorem unitRestore_unrecorded {m : Mach} {kind unit : Nat} (hr : isRetired m kind unit = true) (hk : 10 ≤ kind ∧ kind ≤ 13) :
    unitRestore m kind unit =
      (DICT_OK, unitRestored { m with hl := { m.hl with retired := SMap.put 0 m.hl.retired (bktKey kind unit) 0 } } kind unit) := by
  simp [unitRestore, hr, hk]

theorem unitRestore_recorded {m : Mach} {kind unit : Nat} (hr : isRetired m kind unit = true)
    (hk : kind = 1 ∨ kind = 2 ∨ kind = 3 ∨ kind = 6) :
    unitRestore m kind unit = (DICT_OK, unitRestored (retireRecord m kind unit 0 UNIT_RESTORED) kind unit) := by
  have hlow : ¬(10 ≤ kind ∧ kind ≤ 13) := by omega
  simp [unitRestore, hr, hk, hlow]

/-! ## The Sump ledger (R704, R705, R728) -/

/-- The eight words of a snapshot's bytes. -/
def sumpWords (m : Mach) (b : Bytes) : Mach := m.each (List.range 8) (fun m i => m.wr R.HLTH.SUMP_DATA.DATA (fieldLE b (4 * i) 4) i)

theorem sumpWords_rd_ne (m : Mach) (b : Bytes) (r : Row) (h : ∀ k, R.HLTH.SUMP_DATA.DATA.key k 0 ≠ r.key 0 0) :
    (sumpWords m b).rd r = m.rd r :=
  Mach.each_keeps (P := fun m' => m'.rd r = m.rd r) (fun m' k hm => (Mach.rd_wr_ne m' _ r _ k 0 0 0 (h k)).trans hm) _ rfl

theorem sumpSelect_eq {m : Mach} {index : Nat} (h : index < 4096) :
    sumpSelect m index = sumpWords ((m.wr R.HLTH.SUMP_SEL.INDEX index).wr R.HLTH.SUMP_SEL.SNAP_DONE 1)
      ((sumpNumber m index).elim [] SumpE.bytes) := by
  have hn : sumpNumber ((m.wr R.HLTH.SUMP_SEL.INDEX index).wr R.HLTH.SUMP_SEL.SNAP_DONE 1) (index % 4096) = sumpNumber m index := by
    rw [Nat.mod_eq_of_lt h]; rfl
  unfold sumpSelect sumpWords
  simp only [hn]
  cases sumpNumber m index <;> rfl

theorem sumpSelect_rd {m : Mach} {index : Nat} (h : index < 4096) :
    (sumpSelect m index).rd R.HLTH.SUMP_SEL.INDEX = index ∧ (sumpSelect m index).rd R.HLTH.SUMP_SEL.SNAP_DONE = 1 ∧
    ∀ i < 8, (sumpSelect m index).rd R.HLTH.SUMP_DATA.DATA i = fieldLE ((sumpNumber m index).elim [] SumpE.bytes) (4 * i) 4 % 2 ^ 32 := by
  rw [sumpSelect_eq h]
  refine ⟨?_, ?_, fun i hi => Mach.rd_each_wr _ _ _ hi (by decide)⟩
  · rw [sumpWords_rd_ne _ _ _ (by simp only [Row.key, R.HLTH.SUMP_DATA.DATA, R.HLTH.SUMP_SEL.INDEX]; omega), Mach.rd_wr_ne _ _ _ _ _ _ _ _ (by decide),
      Mach.rd_wr_same]
    exact Nat.mod_eq_of_lt h
  · rw [sumpWords_rd_ne _ _ _ (by simp only [Row.key, R.HLTH.SUMP_DATA.DATA, R.HLTH.SUMP_SEL.SNAP_DONE]; omega), Mach.rd_wr_same]
    rfl

theorem sumpSelect_sameBut (m : Mach) (index : Nat) :
    m.SameBut (sumpSelect m index) (R.HLTH.SUMP_SEL.INDEX.key 0 0 :: R.HLTH.SUMP_SEL.SNAP_DONE.key 0 0 ::
      (List.range 8).map (fun i => R.HLTH.SUMP_DATA.DATA.key i 0)) := by
  unfold sumpSelect
  refine (((Mach.SameBut.refl m _).wr _ _ 0 0 (by simp)).wr _ _ 0 0 (by simp)).each _ _ fun m i hi h => h.wr _ _ i 0 ?_
  exact List.mem_cons_of_mem _ (List.mem_cons_of_mem _ (List.mem_map_of_mem hi))

/-- A snapshot of the ledger touches registers alone. -/
theorem sumpSelect_rest (m : Mach) (index : Nat) : { sumpSelect m index with regs := m.regs } = m := by
  unfold sumpSelect
  refine Mach.each_keeps (P := fun m' => { m' with regs := m.regs } = m) (fun m' k h => ?_) _ rfl
  exact h

theorem sumpClose_persists {m : Mach} {seq i : Nat} {e : SumpE} (hi : m.hl.sump.findIdx? (fun e => e.seq == seq && e.window) = some i)
    (he : m.hl.sump[i]? = some e) (ha : m.hl.allowance ≠ 0) :
    sumpClose m seq = sumpPersist
      { m with hl := { m.hl with sump := setAt m.hl.sump i { e with window := false }, allowance := m.hl.allowance - 1 } }
      { e with window := false } := by
  simp [sumpClose, hi, he, ha]

theorem sumpClose_unpersisted {m : Mach} {seq i : Nat} {e : SumpE}
    (hi : m.hl.sump.findIdx? (fun e => e.seq == seq && e.window) = some i) (he : m.hl.sump[i]? = some e) (ha : m.hl.allowance = 0) :
    sumpClose m seq = { m with hl := { m.hl with sump := setAt m.hl.sump i { e with window := false, flags := setBit e.flags 6 } } } := by
  simp [sumpClose, hi, he, ha]

/-! ## Dripstone (R707, R711, R712) -/

theorem dripPassStart_begins {m : Mach} {t : Nat} (ht : t < 3) (hp : (dripRec m t).inPass = false) (hr : dripRuns m t = true) :
    dripPassStart m t =
      dripRefresh (chimRequest (dripMod m t (fun d => { d with inPass := true, elapsed := false })) C_SCRUB t (m.dv D.scrub_tokens)) := by
  unfold dripPassStart
  rw [if_neg (by omega), hp, hr]
  rfl

theorem dripPassStart_late {m : Mach} {t : Nat} (ht : t < 3) (hp : (dripRec m t).inPass = true) :
    dripPassStart m t = dripMod ((dripCode (dripCount m 6) DRIP_LATE).ev E.HLTH.DRIP_LATE) t (fun d => { d with elapsed := true }) := by
  unfold dripPassStart
  rw [if_neg (by omega), hp]
  rfl

theorem dripStep_nor {m : Mach} (errs : List (Nat × Nat × Nat)) (hp : (dripRec m 2).inPass = true) (hr : dripRuns m 2 = true)
    (hg : hasGrant m C_SCRUB 2 = true) : dripStep m 2 errs = ⟨dripNor m ((errs.map (fun e => e.2.2)).headD 0), [], false⟩ := by
  simp [dripStep, hp, hr, hg]

theorem dripDrain_stops {m : Mach} (h : m.rd R.HLTH.DRIP_STATUS.STATE = 1) :
    dripDrain m false = dripRefresh (((dripCode ((m.wr R.HLTH.DRIP_CTRL.ENABLE 0).wr R.HLTH.DRIP_STATUS.STATE 3) DRIP_DRAINED).ev
      E.HLTH.DRIP_DRAINED).each (List.range 3) (fun m t => chimRelease m C_SCRUB t)) := by
  have hs : (m.wr R.HLTH.DRIP_CTRL.ENABLE 0).rd R.HLTH.DRIP_STATUS.STATE = 1 := by rw [Mach.rd_wr_ne _ _ _ _ _ _ _ _ (by decide), h]
  simp [dripDrain, b2n, hs]

/-! ## Counters (R714, R732, R739, R740) -/

/-- Every performance counter is set to 0. -/
theorem perfResetAll_value (m : Mach) {n : Nat} (hn : n < 32) : perfValue (m.each (List.range 32) (fun m k => perfSet m k 0)) n = 0 :=
  Mach.each_range_at (Q := fun _ => True) (g := fun m => perfValue m n) (fun _ _ h => h) (fun m k hk => perfValue_set_ne m k n 0 hk)
    (fun m _ _ => perfValue_set m n 0) hn trivial rfl

theorem perfResetAll_rd (m : Mach) {r : Row} {i j : Nat}
    (h : ∀ n < 32, r.key i j ≠ R.PERF.CNT_VALUE_LO.VALUE.key n 0 ∧ r.key i j ≠ R.PERF.CNT_VALUE_HI.VALUE.key n 0) :
    (m.each (List.range 32) (fun m k => perfSet m k 0)).rd r i j = m.rd r i j := by
  refine each_rd _ _ m r i j fun m n hn => ?_
  obtain ⟨hlo, hhi⟩ := h n (List.mem_range.mp hn)
  rw [perfSet, Mach.rd_wr_ne _ _ _ _ _ _ _ _ hhi.symm, Mach.rd_wr_ne _ _ _ _ _ _ _ _ hlo.symm]

theorem perfResetAll_rest (m : Mach) : { m.each (List.range 32) (fun m k => perfSet m k 0) with regs := m.regs } = m := by
  refine Mach.each_keeps (P := fun m' => { m' with regs := m.regs } = m) (fun m' k h => ?_) _ rfl
  exact h

/-- What a crossing gathered and delivers is forgotten there (R739). -/
def pulseTaken (m : Mach) (event : Nat) : Mach :=
  { m with hl := { m.hl with pulse := SMap.del m.hl.pulse event, pulseOv := SMap.del m.hl.pulseOv event } }

theorem counterIncrement_counts {m : Mach} {event amount : Nat} {lost : Bool} (hg : SMap.get 0 m.hl.pulse event ≠ 0)
    (ho : SMap.get 0 m.hl.pulseOv event ≠ 1) :
    counterIncrement m false event amount lost = healthCount (pulseTaken m event) event (SMap.get 0 m.hl.pulse event) := by
  simp [counterIncrement, pulseTaken, hg, ho]

theorem counterIncrement_loses {m : Mach} {event amount : Nat} {lost : Bool} (hg : SMap.get 0 m.hl.pulse event = 0)
    (ho : SMap.get 0 m.hl.pulseOv event = 1) : counterIncrement m false event amount lost = healthLost (pulseTaken m event) event := by
  simp [counterIncrement, pulseTaken, hg, ho]

/-! ## The commands -/

/-- Settles O21, clause by clause from what each command's function does. -/
theorem bucketLedgerCounterCommands : Obligations.BucketLedgerCounterCommands := by
  unfold Obligations.BucketLedgerCounterCommands
  refine ⟨?bktSelect, ?sumpSelect, ?closePersisted, ?closeUnpersisted, ?refill, ?leak, ?restore, ?restoreRecorded, ?passStart, ?passLate,
    ?stepNor, ?drain, ?forceStop, ?perfReset, ?counts, ?loses, ?perf⟩
  case bktSelect =>
    intro s kind unit hs _ hu
    obtain ⟨hdone, hlevel, hstate⟩ := bktSelect_rd (m := s.m.fresh) hu
    exact ⟨_, exec_block rfl hs rfl, hdone, hlevel, hstate, bktSelect_sameBut s.m.fresh kind unit⟩
  case sumpSelect =>
    intro s index hs hi
    obtain ⟨hindex, hdone, hdata⟩ := sumpSelect_rd (m := s.m.fresh) hi
    exact ⟨_, exec_block rfl hs rfl, hindex, hdone, hdata, sumpSelect_sameBut s.m.fresh index, sumpSelect_rest s.m.fresh index⟩
  case closePersisted => exact fun s seq i e hs hi he ha => exec_block rfl hs (sumpClose_persists (m := s.m.fresh) hi he ha)
  case closeUnpersisted => exact fun s seq i e hs hi he ha => exec_block rfl hs (sumpClose_unpersisted (m := s.m.fresh) hi he ha)
  case refill => exact fun s hs hr => exec_block rfl hs (if_neg hr)
  case leak =>
    intro s kind unit hs hu hr hl
    refine ⟨_, exec_block rfl hs rfl, ?_, bucketLeak_rest s.m.fresh kind⟩
    rw [bucketLeak_level (m := s.m.fresh) hu hr hl]
    exact Nat.sub_add_cancel hl
  case restore =>
    exact fun s kind unit hs h10 h13 hr => exec_block rfl hs (by rw [unitRestore_unrecorded (m := s.m.fresh) hr ⟨h10, h13⟩]; rfl)
  case restoreRecorded => exact fun s kind unit hs hk hr => exec_block rfl hs (by rw [unitRestore_recorded (m := s.m.fresh) hr hk])
  case passStart => exact fun s t hs ht hp hr => exec_block rfl hs (dripPassStart_begins (m := s.m.fresh) ht hp hr)
  case passLate => exact fun s t hs ht hp => exec_block rfl hs (dripPassStart_late (m := s.m.fresh) ht hp)
  case stepNor =>
    rintro s _ errs hs rfl hp hr hg
    exact exec_stores rfl hs (dripStep_nor (m := s.m.fresh) errs hp hr hg)
  case drain => exact fun s hs h => exec_block rfl hs (dripDrain_stops (m := s.m.fresh) h)
  case forceStop => exact fun s late hs => exec_block rfl hs rfl
  case perfReset =>
    exact fun s hs => ⟨_, exec_block rfl hs rfl, fun n hn => perfResetAll_value _ hn, fun r i j h => perfResetAll_rd s.m.fresh h,
      perfResetAll_rest s.m.fresh⟩
  case counts =>
    rintro s event amount _ lost hs rfl hg ho
    exact exec_block rfl hs (counterIncrement_counts (m := s.m.fresh) hg ho)
  case loses => exact fun s event amount lost hs hg ho => exec_block rfl hs (counterIncrement_loses (m := s.m.fresh) hg ho)
  case perf => exact fun s event amount hs => exec_block rfl hs rfl

end Sys2Proof.Machine
end

section
/-!
The Lantern domain (spec/20_lantern_and_label.md): the real-time clock, wake sources and supplies, the label, and the glow buffer.
-/
namespace Sys2Proof.Machine

open Sys2Proof

/-! ## The clock and the supplies (R667, R668, R670) -/

theorem rtcSecondLoad_locked {m : Mach} (h : timeState m = T_LOCKED) :
    rtcSecondLoad m = rtcLoad m ((nowNs m / 1000000000).toNat % 2 ^ 48) ((nowNs m / 1000000000).toNat % 2 ^ 48 == m.rtc + 1) :=
  if_pos h

theorem rtcAlarm_ahead {m : Mach} (h : m.rtc < alarmAt m) : rtcAlarm m = rtcLoad m (alarmAt m) true := if_pos h

theorem offDelay_inM0 {m : Mach} (hmode : m.mode = 0) (hpower : m.lant.power = 1) :
    offDelay m = pwren { m with lant := { m.lant with power := 2 } } (!m.flag R.LANT.PWR_CTRL.CORE_OFF)
      (!(m.flag R.LANT.PWR_CTRL.DRAM_OFF && m.dv D.hibernate_dram == 0)) :=
  if_pos ⟨hmode, hpower⟩

theorem wakeTimeout_waiting {m : Mach} (h : m.lant.power = 3) :
    wakeTimeout m = (lantCode ((pwren { m with lant := { m.lant with power := 4 } } false false).addSat R.LANT.WAKE.FAILS 1) WAKE_TIMEOUT).ev
      E.LANT.WAKE_TIMEOUT :=
  if_pos h

/-! ## The label (R672, R678-R684) -/

theorem labelUpdate_begins {m : Mach} {kind : Nat} (hkind : kind ≤ 2) (hmode : labelMode m.mode = true)
    (henable : m.flag R.LANT.LABEL_CTRL.ENABLE = true) (hrun : m.lant.run = none) (hrecover : m.lant.recover = false)
    (htarget : m.lant.targetOk = true) (himage : imageValid m m.lant.target = true)
    (htable : tableValid (waveTable m (bandOf m (labelTemp m))) = true) :
    labelUpdate m kind = (DICT_OK, labelBegin m (if m.flag R.LANT.LABEL_STATUS.FORCE_FULL then 2 else kind) m.lant.target false) := by
  simp [labelUpdate, Nat.not_lt.mpr hkind, hmode, henable, hrun, hrecover, htarget, himage, htable]

/-- Without a valid target a recovery drives image 0 by the clear half (R681). -/
theorem labelRecovery_blank {m : Mach} (hrecover : m.lant.recover = true) (hmode : m.mode = 4 ∨ m.mode = 5) (hrun : m.lant.run = none)
    (henable : m.flag R.LANT.LABEL_CTRL.ENABLE = true) (htarget : m.lant.targetOk = false) :
    labelRecovery m = labelBegin m 3 (imageOf m 0) true := by
  have hm : (m.mode != 4 && m.mode != 5) = false := by
    rcases hmode with h | h <;> simp [h]
  simp [labelRecovery, hrecover, hm, hrun, henable, htarget]

theorem labelStart_ready {m : Mach} {r : LRun} (hrun : m.lant.run = some r) (hok : r.ok = true) (hleave : m.lant.leave = false)
    (hstate : m.rd R.LANT.LABEL_STATUS.STATE = 1) (henable : m.flag R.LANT.LABEL_CTRL.ENABLE = true) :
    labelStart m = (m.wr R.LANT.LABEL_STATUS.STATE 2).emit (.label 1 []) := by
  simp [labelStart, hrun, hok, hleave, hstate, henable]

/-- The number of the phase a run drives next, counted through both halves (R679). -/
def LRun.drives (r : LRun) : Nat := r.phase + r.half * r.phases

/-- In M1 no band slip is judged: a phase's drive goes out, and the run moves on (R679). -/
theorem labelFrame_inM1 {m : Mach} {r : LRun} (hrun : m.lant.run = some r) (hleave : m.lant.leave = false) (hstop : m.lant.stop = false)
    (hdrives : labelDrives m = true) (hsent : r.sent = false) (hmode : m.mode = 1) :
    labelFrame m =
      { (m.emit (.label 0x10 (r.drives :: r.band :: r.frame :: driveData m r))).wr R.LANT.LABEL_STATUS.PHASE r.drives with
        lant := { m.lant with run := some { r.next with slip := r.slip } } } := by
  have hm : ((m.emit (.label 0x10 (r.drives :: r.band :: r.frame :: driveData m r))).wr R.LANT.LABEL_STATUS.PHASE r.drives).mode = 1 := by
    rw [Mach.mode, Mach.rd_wr_ne _ _ _ _ _ _ _ _ (by decide)]
    exact hmode
  unfold labelFrame
  rw [hrun]
  dsimp only
  rw [hleave, hstop, hdrives, hsent]
  simp [show r.phase + r.half * r.phases = r.drives from rfl, hm, hleave, hstop]

theorem labelWaveEnd_sent {m : Mach} {r : LRun} (hrun : m.lant.run = some r) (hdrives : labelDrives m = true) (hsent : r.sent = true)
    (hleave : m.lant.leave = false) (hstop : m.lant.stop = false) : labelWaveEnd m = labelFinish m r := by
  simp [labelWaveEnd, hrun, hdrives, hsent, hleave, hstop]

theorem labelTempMeasure_sensor {m : Mach} {t : Int} (hrun : m.lant.run = none) (hsource : m.dv D.label_temp_source = 0) :
    labelTempMeasure m t false =
      (m.wr R.LANT.LABEL_STATUS.TEMP_FAULT 0).wr R.LANT.LABEL_TEMP.TEMP (uNat 16 (clampI t (-32768) 32767)) := by
  have hs : (m.wr R.LANT.LABEL_STATUS.TEMP_FAULT 0).dv D.label_temp_source = 0 := (Mach.dv_of_dict rfl _).trans hsource
  simp [labelTempMeasure, hrun, b2n, hs]

theorem labelDrain_running {m : Mach} {r : LRun} (hrun : m.lant.run = some r) (hok : r.ok = true) :
    labelDrain m false = (m.wr R.LANT.LABEL_CTRL.ENABLE 0).wr R.LANT.LABEL_STATUS.STATE 3 := by
  simp [labelDrain, hrun, hok, b2n]

/-- Whether the label is driven is seen from the run and from LABEL_STATUS.STATE alone. -/
theorem labelDrives_wr (m : Mach) (r : Row) (v : Nat) (h : r.key 0 0 ≠ R.LANT.LABEL_STATUS.STATE.key 0 0) :
    labelDrives (m.wr r v) = labelDrives m := by
  simp only [labelDrives, Mach.wr_lant, Mach.rd_wr_ne _ _ _ _ _ _ _ _ h]

theorem labelForceStop_driving {m : Mach} {r : LRun} (late : Bool) (hrun : m.lant.run = some r) (hdrives : labelDrives m = true)
    (hsent : r.sent = false) :
    labelForceStop m late =
      { ((m.wr R.LANT.LABEL_CTRL.ENABLE 0).wr R.LANT.LABEL_STATUS.FORCE_FULL 1).wr R.LANT.LABEL_STATUS.STATE 3 with
        lant := { m.lant with stop := true } } := by
  have hd : labelDrives ((m.wr R.LANT.LABEL_CTRL.ENABLE 0).wr R.LANT.LABEL_STATUS.FORCE_FULL 1) = true := by
    rw [labelDrives_wr _ _ _ (by decide), labelDrives_wr _ _ _ (by decide), hdrives]
  simp [labelForceStop, hrun, hsent, hd]

/-! ## The glow buffer (R687) -/

theorem glowLoaded_driving {d : Mem} {m : Mach} (hload : m.lant.load = true) (hlo : 5 ≤ m.mode) (hhi : m.mode ≤ 9) :
    glowLoaded d m = { m with lant := { m.lant with load := false, copy := some ((d.filter (fun e =>
      decide (glowBase m ≤ e.1) && decide (e.1 < glowBase m + 0x200000))).map (fun e => (e.1 - glowBase m, e.2))) } } := by
  simp [glowLoaded, hload, hlo, hhi]

/-! ## The commands -/

/-- Settles O22, clause by clause from what each command's function does. -/
theorem lanternCommands : Obligations.LanternCommands := by
  unfold Obligations.LanternCommands
  refine ⟨?secondLoad, ?wakePin, ?alarm, ?supplyWake, ?offDelay, ?supplyValid, ?wakeTimeout, ?wakeRetry, ?update, ?recovery, ?waveStart,
    ?frame, ?waveEnd, ?temp, ?drain, ?forceStop, ?glow⟩
  case secondLoad => exact fun s hs h => exec_block rfl hs (rtcSecondLoad_locked (m := s.m.fresh) h)
  case wakePin => exact fun s secs => exec_lantern (by unfold exec; rfl) rfl
  case alarm => exact fun s h => exec_lantern (by unfold exec; rfl) (rtcAlarm_ahead (m := s.m.fresh) h)
  case supplyWake => exact fun s secs h => exec_lantern (by unfold exec; rfl) (by simp [h])
  case offDelay => exact fun s hm hp => exec_lantern (by unfold exec; rfl) (offDelay_inM0 (m := s.m.fresh) hm hp)
  case supplyValid => exact fun s h => exec_lantern (by unfold exec; rfl) (if_pos h)
  case wakeTimeout => exact fun s h => exec_lantern (by unfold exec; rfl) (wakeTimeout_waiting (m := s.m.fresh) h)
  case wakeRetry => exact fun s h => exec_lantern (by unfold exec; rfl) (if_pos h)
  case update =>
    intro s kind hs hk hm he hr hc ht hi hw
    exact exec_block rfl hs (by rw [labelUpdate_begins (m := s.m.fresh) hk hm he hr hc ht hi hw]; rfl)
  case recovery => exact fun s hs hc hm hr he ht => exec_block rfl hs (labelRecovery_blank (m := s.m.fresh) hc hm hr he ht)
  case waveStart => exact fun s r hr ho hl hst he => exec_lantern (by unfold exec; rfl) (labelStart_ready (m := s.m.fresh) hr ho hl hst he)
  case frame =>
    exact fun s r hr hl hst hd hn hm => exec_lantern (by unfold exec; rfl) (labelFrame_inM1 (m := s.m.fresh) hr hl hst hd hn hm)
  case waveEnd =>
    exact fun s r hr hd hn hl hst => exec_lantern (by unfold exec; rfl) (labelWaveEnd_sent (m := s.m.fresh) hr hd hn hl hst)
  case temp => exact fun s t hr hsrc => exec_lantern (by unfold exec; rfl) (labelTempMeasure_sensor (m := s.m.fresh) hr hsrc)
  case drain => exact fun s r hs hr ho => exec_block rfl hs (labelDrain_running (m := s.m.fresh) hr ho)
  case forceStop => exact fun s late r hs hr hd hn => exec_block rfl hs (labelForceStop_driving (m := s.m.fresh) late hr hd hn)
  case glow => exact fun s hs hl hlo hhi => exec_reads rfl hs (glowLoaded_driving (d := s.mem) (m := s.m.fresh) hl hlo hhi)

end Sys2Proof.Machine
end

section
/-!
DRAM (spec/13_memory_dram.md): accesses, channels and their trainings, set points, self-refresh and the remap walk.
-/
namespace Sys2Proof.Machine

open Sys2Proof

/-! ## Accesses (R451, R454) -/

/-- An access counted under its master, with the rows it opens (R457, R459). -/
def accessed (m : Mach) (master addr n : Nat) (write : Bool) : Mach := (countAccess m master addr n write).each (lineStarts addr n) dramOpen

theorem memRead_inCap (d : Mem) {m : Mach} {a n : Nat} (h : inCap m a n = true) : memRead d m a n = ⟨d.read a n, false, poisoned m a n⟩ :=
  if_pos h

theorem dramRead_clean (d : Mem) {m : Mach} (master : Nat) {addr len : Nat} (hcap : inCap m addr len = true)
    (hready : chanReady m addr = true) (hpoison : poisoned m addr len = none) :
    dramRead d m master addr len 0 = (accessed m master addr len false).emit (.dram master false false (Mem.read d addr len)) := by
  simp [dramRead, memRead_inCap d hcap, hready, hpoison, accessed]

theorem dramWrite_ready {m : Mach} (master : Nat) {addr : Nat} {data : Bytes} (bad : Bool) (hcap : inCap m addr data.length = true)
    (hready : chanReady m addr = true) :
    dramWrite m master addr data bad = ⟨setPoison (accessed m master addr data.length true) addr data.length bad, [(addr, data)], false⟩ := by
  simp [dramWrite, hcap, hready, accessed]

/-! ## Channels (R458, R461, R462) -/

theorem marginsOk_iff (m : Mach) (ca rd wr vref : Nat) :
    marginsOk m ca rd wr vref = true ↔
      m.dv D.margin_min ≤ ca ∧ m.dv D.margin_min ≤ rd ∧ m.dv D.margin_min ≤ wr ∧ m.dv D.margin_min ≤ vref := by
  simp [marginsOk, and_assoc]

/-- Reporting a channel's margins leaves the limit they are judged by. -/
theorem marginsOk_setMargins (m : Mach) (ch a b c d ca rd wr vref : Nat) :
    marginsOk (setMargins m ch a b c d) ca rd wr vref = marginsOk m ca rd wr vref := rfl

theorem dramTracking_steady {m : Mach} {ch : Nat} (move : Int) {ca rd wr vref : Nat} (hstate : chanState m ch = 2)
    (hmargins : marginsOk m ca rd wr vref = true) :
    dramTracking m ch move ca rd wr vref = setMargins (chanMod m ch (fun c => { c with dq := c.dq + clampI move (-2) 2 })) ch ca rd wr vref := by
  have hm : marginsOk (setMargins (chanMod m ch (fun c => { c with dq := c.dq + clampI move (-2) 2 })) ch ca rd wr vref) ca rd wr vref = true :=
    hmargins
  simp [dramTracking, hstate, hm]

theorem dramRetrain_queues {m : Mach} (h : trainMode m.mode = true) :
    dramRetrain m = m.each ((dramChannels m).filter (fun c => bit (m.rd R.DRAM.CTRL.CH_MASK) c))
      (fun m c => if (chanQueue m c).isEmpty then queueTraining m c [m.rd R.DRAM.STATUS.SP] else m) :=
  if_pos h

/-- The block state after a training of channel `ch` at set point `sp` succeeded (R462). -/
def trained (m : Mach) (ch ca rd wr vref sp : Nat) : Mach :=
  nextTraining (dramCode ((setMargins m ch ca rd wr vref).wr R.DRAM.CH_STATUS.TRAINED_SP
    (setBit ((setMargins m ch ca rd wr vref).rd R.DRAM.CH_STATUS.TRAINED_SP ch) sp) ch) DRAM_TRAINED) ch

theorem dramTrainingDone_trained {m : Mach} {ch ca rd wr vref sp : Nat} {rest : List Nat} (hqueue : chanQueue m ch = sp :: rest)
    (hstate : chanState m ch = 1) (hgrant : m.mode = 3 ∨ stillGranted m C_TRAIN (chanHolder ch) = true)
    (hmargins : marginsOk m ca rd wr vref = true) (hchange : (trained m ch ca rd wr vref sp).dr.change = none) :
    dramTrainingDone m ch ca rd wr vref true = trained m ch ca rd wr vref sp := by
  have hg : (m.mode != 3 && !stillGranted m C_TRAIN (chanHolder ch)) = false := by
    rcases hgrant with h | h <;> simp [h]
  unfold dramTrainingDone
  rw [hqueue]
  dsimp only
  rw [hstate, hg, marginsOk_setMargins, hmargins]
  change (match (trained m ch ca rd wr vref sp).dr.change with | some (new, _) => _ | none => _) = _
  rw [hchange]
  rfl

/-! ## Set points (R464) -/

theorem setpointRequest_trained {m : Mach} {sp : Nat} (hsleep : (dramChannels m).any (fun c => chanState m c == 3) = false)
    (htraining : dramTraining m = false) (hnew : sp ≠ m.rd R.DRAM.STATUS.SP)
    (htrained : (dramChannels m).all (fun c => chanTrained m c sp) = true) : setpointRequest m sp = applySetpoint m sp := by
  unfold setpointRequest
  dsimp only
  rw [hsleep, htraining, htrained, if_neg hnew]
  rfl

/-- The block state once the latched set point is taken up as a change under way (R464). -/
def latchTaken (m : Mach) : Mach :=
  let q := (m.wr R.DRAM.STATUS.PENDING 0).wr R.DRAM.STATUS.PEND_SP 0
  { q with dr := { q.dr with change := some (m.rd R.DRAM.STATUS.PEND_SP, q.rd R.DRAM.STATUS.SP) } }

theorem latchedSetpoint_applies {m : Mach} (hpending : m.flag R.DRAM.STATUS.PENDING = true) (htraining : dramTraining m = true) :
    latchedSetpoint m = (latchTaken m).each (dramChannels (latchTaken m)) (fun q c =>
      if chanState q c == 1 then chanMod q c (fun x => { x with queue := [m.rd R.DRAM.STATUS.PEND_SP], attempt := 1 })
      else if chanTrained q c (m.rd R.DRAM.STATUS.PEND_SP) then q else queueTraining q c [m.rd R.DRAM.STATUS.PEND_SP]) := by
  unfold latchedSetpoint
  rw [hpending, htraining]
  rfl

/-! ## Self-refresh and the remap walk (R465, R469) -/

/-- Every channel in a state. -/
def allChannels (m : Mach) (st : Nat) : Mach := m.each (dramChannels m) (fun m c => m.wr R.DRAM.CH_STATUS.STATE st c)

theorem selfRefreshEntry_dark {m : Mach} (hmode : m.mode = 1 ∨ m.mode = 2) (himm : m.mc.imm = none) :
    selfRefreshEntry m = dramRefresh (chimRelease { allChannels m 3 with dr := { (allChannels m 3).dr with kept := false } } C_TRAIN walkHolder) := by
  have hdark : m.mode = 1 ∨ m.mode = 2 ∨ false = true := hmode.imp_right .inl
  unfold selfRefreshEntry
  rw [himm]
  exact if_pos hdark

theorem selfRefreshExit_active {m : Mach} (hsleep : (dramChannels m).any (fun c => chanState m c == 3) = true)
    (hwalk : (dramRefresh (allChannels m 2)).dr.walk = none)
    (hpending : (dramRefresh (allChannels m 2)).flag R.DRAM.STATUS.PENDING = false) :
    selfRefreshExit m true = dramRefresh (allChannels m 2) := by
  unfold selfRefreshExit
  rw [if_pos hsleep]
  dsimp only
  rw [if_pos rfl, show m.each (dramChannels m) (fun m c => m.wr R.DRAM.CH_STATUS.STATE 2 c) = allChannels m 2 from rfl, hwalk]
  simp [hpending]

/-- The block state after the remap walk has moved every line (R469). -/
def walked (m : Mach) : Mach :=
  dramRefresh (chimRelease ((dramCode (walkReport { m with dr := { m.dr with walk := none, walkOld := 0 } }) REMAP_DONE).ev E.DRAM.REMAP_DONE)
    C_TRAIN walkHolder)

theorem remapWalkDone_walked {m : Mach} {left : Nat} (hwalk : m.dr.walk = some left) (hgrant : stillGranted m C_TRAIN walkHolder = true)
    (hsecond : (walked m).dr.second = []) : remapWalkDone m = walked m := by
  unfold remapWalkDone
  rw [hwalk, hgrant]
  change (match (walked m).dr.second with | [] => _ | c :: rest => _) = _
  rw [hsecond]
  rfl

/-! ## The commands -/

/-- Settles O31, clause by clause from what each command's function does. -/
theorem dramCommands : Obligations.DramCommands := by
  unfold Obligations.DramCommands
  refine ⟨?read, ?write, ?refresh, ?windowEnd, ?tempPoll, ?pageClose, ?tracking, ?retrain, ?setpoint, ?sleep, ?wake, ?walkDone, ?latched,
    ?trainingDone⟩
  case read => exact fun s master addr len hs hc hr hp => exec_reads rfl hs (dramRead_clean s.mem (m := s.m.fresh) master hc hr hp)
  case write => exact fun s master addr data bad hs hc hr => exec_stores rfl hs (dramWrite_ready (m := s.m.fresh) master bad hc hr)
  case refresh => exact fun s ch bank hs => exec_block rfl hs rfl
  case windowEnd => exact fun s ch hs => exec_block rfl hs rfl
  case tempPoll => exact fun s ch rate hs hc => exec_block rfl hs ((if_pos hc).trans rfl)
  case pageClose => exact fun s ch bank hs => exec_block rfl hs rfl
  case tracking =>
    intro s ch move ca rd wr vref hs hst hca hrd hwr hvref
    exact exec_block rfl hs (dramTracking_steady (m := s.m.fresh) move hst ((marginsOk_iff _ _ _ _ _).mpr ⟨hca, hrd, hwr, hvref⟩))
  case retrain => exact fun s hs h => exec_block rfl hs (dramRetrain_queues (m := s.m.fresh) h)
  case setpoint => exact fun s sp hs hsleep ht hn hall => exec_block rfl hs (setpointRequest_trained hsleep ht hn hall)
  case sleep => exact fun s hs hm hi => exec_block rfl hs (selfRefreshEntry_dark (m := s.m.fresh) hm hi)
  case wake => exact fun s hs hsleep hw hp => exec_block rfl hs (selfRefreshExit_active (m := s.m.fresh) hsleep hw hp)
  case walkDone => exact fun s left hs hw hg hsec => exec_block rfl hs (remapWalkDone_walked (m := s.m.fresh) hw hg hsec)
  case latched => exact fun s hs hp ht => exec_block rfl hs (latchedSetpoint_applies (m := s.m.fresh) hp ht)
  case trainingDone =>
    intro s ch ca rd wr vref sp rest hs hq hst hg hca hrd hwr hvref hch hboot
    refine exec_stores rfl hs ?_
    dsimp only
    rw [dramTrainingDone_trained (m := s.m.fresh) hq hst hg ((marginsOk_iff _ _ _ _ _).mpr ⟨hca, hrd, hwr, hvref⟩) hch]
    exact if_neg (ne_true_of_eq_false hboot)

end Sys2Proof.Machine
end

section
/-!
The host interface and the DMA channels (spec/14_host_interface_and_dma.md).
-/
namespace Sys2Proof.Machine

open Sys2Proof

/-! ## Rings (R489-R493) -/

theorem sqDoorbell_inside {m : Mach} {tail : Nat} (descs : List Bytes) (h : tail < m.rd R.HOST.SQ_SIZE.SIZE) :
    sqDoorbell m tail descs = ringFetch descs (m.wr R.HOST.SQ_TAIL.TAIL tail) :=
  if_neg (Nat.not_le.mpr h)

theorem cqHeadWrite_inside {m : Mach} {head : Nat} (descs : List Bytes) (h : head < m.rd R.HOST.CQ_SIZE.SIZE) :
    cqHeadWrite m head descs = ringFetch descs (ringDrained (cqFlush (m.host.wait.length + 1) (m.wr R.HOST.CQ_HEAD.HEAD head))) :=
  if_neg (Nat.not_le.mpr h)

theorem fragmentDone_completes {m : Mach} (seq written dropped : Nat) (descs : List Bytes) (hfrags : m.host.frags.isEmpty = false)
    (hbegun : m.host.begun = true) :
    fragmentDone m seq written dropped descs =
      ringFetch descs (ringComplete (quotaUse m 0 written) (if dropped = 0 then 0 else SCENE_DROPPED) seq written dropped) := by
  unfold fragmentDone
  rw [hfrags, hbegun]
  rfl

theorem hostReadFailed_completes {m : Mach} (seq written dropped : Nat) (descs : List Bytes) (hfrags : m.host.frags.isEmpty = false)
    (hbegun : m.host.begun = true) :
    hostReadFailed m seq written dropped descs =
      ringFetch descs (ringComplete (pathMod (pathStart ((hev ((quotaUse m 0 written).add R.HOST.SCENE_READ_FAILURES.COUNT 1) 225).ev
        E.HOST.READ_FAILED) 0) 0 (fun _ => ⟨none, some (none, false)⟩)) HOST_READ_FAILED seq written dropped) := by
  unfold hostReadFailed
  rw [hfrags, hbegun]
  rfl

theorem ringDrain_runs (m : Mach) (descs : List Bytes) :
    ringDrain m true descs = ringFetch descs ((m.wr R.HOST.RING_CTRL.ENABLE 1).wr R.HOST.RING_STATUS2.STATE 1) := rfl

theorem ringDrain_drains {m : Mach} (descs : List Bytes) (h : m.rd R.HOST.RING_STATUS2.STATE = 1) :
    ringDrain m false descs = ringDrained ((m.wr R.HOST.RING_CTRL.ENABLE 0).wr R.HOST.RING_STATUS2.STATE 2) := by
  have hs : (m.wr R.HOST.RING_CTRL.ENABLE 0).rd R.HOST.RING_STATUS2.STATE = 1 := by rw [Mach.rd_wr_ne _ _ _ _ _ _ _ _ (by decide), h]
  exact if_pos hs

theorem ringForceStop_idle {m : Mach} (late : Bool) (h : (pathOf m 0).rx = none) :
    ringForceStop m late =
      ringCode (((hostMod m (fun h => { h with frags := [], begun := false, wait := [] })).wr R.HOST.RING_CTRL.ENABLE 0).wr
        R.HOST.RING_STATUS2.STATE 3) (if late then ABORT_LATE else ABORTED_BY_DISABLE) := by
  have hp : (pathOf (hostMod m (fun h => { h with frags := [], begun := false, wait := [] })) 0).rx = none := h
  unfold ringForceStop
  dsimp only
  rw [hp]

/-! ## Resets, the link and BAR4 (R474, R478-R485) -/

theorem dmaHostReset_unowned (d : Mem) {m : Mach} (h : (List.range 16).filter (dmaHost m) = []) : dmaHostReset d m = ⟨m, [], false⟩ := by
  unfold dmaHostReset
  rw [h]
  rfl

theorem pcieLinkUp_within {m : Mach} {speed width : Nat} (hmode : pcieMode m.mode = true) (hperst : m.host.perst = true)
    (hmax : speed ≤ m.dv D.link_speed_max) (hlo : 1 ≤ speed) (hhi : speed ≤ 5) (hwidth : [1, 2, 4, 8, 16].contains width = true) :
    pcieLinkUp m speed width =
      (((m.wr R.HOST.LINK.DL_UP 1).wr R.HOST.LINK.SPEED speed).wr R.HOST.LINK.WIDTH width).evIf
        (decide (speed < 3) || decide (width < 8)) E.HOST.LINK_SLOW := by
  have hrefused : (!pcieMode m.mode || !m.host.perst || decide (m.dv D.link_speed_max < speed) || speed == 0 || decide (5 < speed) ||
      !([1, 2, 4, 8, 16].contains width)) = false := by
    rw [hmode, hperst, hwidth]
    simp
    omega
  unfold pcieLinkUp
  rw [hrefused]
  rfl

theorem bar4Access_writes (d : Mem) {m : Mach} {off : Nat} (len : Nat) {data : Bytes} (hup : m.flag R.HOST.LINK.DL_UP = true)
    (hwindow : off + data.length ≤ bar4Bytes m) (hdata : data.isEmpty = false) (hcap : inCap m (bar4Addr m off) data.length = true)
    (hmay : mayAccess m .host (bar4Addr m off) data.length true = true) (hready : chanReady m (bar4Addr m off) = true) :
    bar4Access d m off len data =
      ⟨setPoison (accessed m 0x10 (bar4Addr m off) data.length true) (bar4Addr m off) data.length false, [(bar4Addr m off, data)], false⟩ := by
  have hlen : data.length ≠ 0 := by
    intro h
    rw [List.length_eq_zero_iff.mp h] at hdata
    cases hdata
  have hrefused : (!m.flag R.HOST.LINK.DL_UP || decide (bar4Bytes m < off + data.length) || data.length == 0) = false := by
    rw [hup]
    simp
    exact ⟨hwindow, fun h => hlen (List.length_eq_zero_iff.mpr h)⟩
  unfold bar4Access
  simp only [hdata, Bool.false_eq_true, if_false, hrefused, hcap, Bool.not_true, firewall_of_may m .host 0x10 _ _ true hmay, Bool.not_false,
    if_true]
  exact dramWrite_ready 0x10 false hcap hready

/-! ## The host interface's commands -/

/-- Settles O32, clause by clause from what each command's function does. -/
theorem hostCommands : Obligations.HostCommands := by
  unfold Obligations.HostCommands
  refine ⟨?doorbell, ?cqHead, ?fragment, ?readFailed, ?ringOn, ?ringOff, ?ringStop, ?reset, ?unmask, ?unmaskAll, ?linkUp, ?perst, ?bar4⟩
  case doorbell => exact fun s tail descs hs h => exec_block rfl hs (sqDoorbell_inside (m := s.m.fresh) descs h)
  case cqHead => exact fun s head descs hs h => exec_block rfl hs (cqHeadWrite_inside (m := s.m.fresh) descs h)
  case fragment =>
    exact fun s seq written dropped descs hs hf hb => exec_block rfl hs (fragmentDone_completes (m := s.m.fresh) seq written dropped descs hf hb)
  case readFailed =>
    exact fun s seq written dropped descs hs hf hb => exec_block rfl hs (hostReadFailed_completes (m := s.m.fresh) seq written dropped descs hf hb)
  case ringOn => exact fun s descs hs => exec_block rfl hs (ringDrain_runs s.m.fresh descs)
  case ringOff => exact fun s descs hs h => exec_block rfl hs (ringDrain_drains (m := s.m.fresh) descs h)
  case ringStop => exact fun s late hs h => exec_block rfl hs (ringForceStop_idle (m := s.m.fresh) late h)
  case reset =>
    intro s hs hoff hdma
    have he : exec (.hostReset false) s = onW s fun d m => { dmaHostReset d m with m := (hostBlockReset (dmaHostReset d m).m).ev E.HOST.RESET } := by
      rw [onW_runs hs]
      unfold exec execHostReset onLantern
      simp [hoff]
    exact exec_stores he hs (by rw [dmaHostReset_unowned s.mem (m := s.m.fresh) hdma])
  case unmask => exact fun s v hs hv => exec_block rfl hs (if_pos hv)
  case unmaskAll => exact fun s hs => exec_block rfl hs rfl
  case linkUp =>
    exact fun s speed width hs hm hp hmax hlo hhi hw => exec_block rfl hs (pcieLinkUp_within (m := s.m.fresh) hm hp hmax hlo hhi hw)
  case perst =>
    intro s hm hoff
    have htrains : (pcieMode s.m.mode && !s.m.mc.off) = true := by simp [hm, hoff]
    exact exec_lantern (f := fun m => if pcieMode m.mode && !m.mc.off then
      Mach.emit { m with host := { m.host with perst := true } } (.start 20 0) else { m with host := { m.host with perst := true } })
      (by unfold exec; rfl) (if_pos htrains)
  case bar4 =>
    exact fun s off len data hs hup hwin hd hcap hmay hready =>
      exec_stores rfl hs (bar4Access_writes s.mem (m := s.m.fresh) len hup hwin hd hcap hmay hready)

/-! ## DMA channels (R495-R504) -/

/-- The owner of a channel may write its registers. -/
theorem dmaOwned_owner {m : Mach} {n : Nat} {p : Principal} (h : p = dmaPrincipal m n) : dmaOwned m n p = (true, m) := if_pos h

theorem dmaStart_begins {m : Mach} {n : Nat} (hn : n < 16) (hretired : isRetired m 10 n = false) (hidle : (dmaOf m n).active = false)
    (henable : m.flag R.DMA.CH_CTRL.ENABLE n = true) : dmaStart m n = dmaBegin m n := by
  have h16 : ¬16 ≤ n := by omega
  simp [dmaStart, h16, hretired, hidle, henable]

theorem dmaStart_held {m : Mach} {n : Nat} (hn : n < 16) (hretired : isRetired m 10 n = false) (hactive : (dmaOf m n).active = true)
    (hheld : m.flag R.DMA.CH_STATUS.HELD n = false) : dmaStart m n = m.wr R.DMA.CH_STATUS.HELD 1 n := by
  have h16 : ¬16 ≤ n := by omega
  simp [dmaStart, h16, hretired, hactive, hheld]

theorem dmaCut_between (d : Mem) {m : Mach} {n : Nat} (code : Nat) (h : (dmaOf m n).desc = none) :
    dmaCut d m n code = ⟨dmaEnd m n code, [], false⟩ := by
  unfold dmaCut
  rw [h]

theorem dmaDrain_toPause {m : Mach} {n : Nat} (hactive : (dmaOf m n).active = true) (hstate : m.rd R.DMA.CH_STATUS.STATE n ≠ 4)
    (hbusy : (dmaOf m n).desc.isSome = true ∨ (dmaOf m n).last = true) :
    dmaDrain m n false = dmaRefresh ((m.wr R.DMA.CH_CTRL.ENABLE 0 n).wr R.DMA.CH_STATUS.STATE 3 n) := by
  have hof : dmaOf (m.wr R.DMA.CH_CTRL.ENABLE 0 n) n = dmaOf m n := rfl
  simp [dmaDrain, b2n, hof, hactive, hstate, hbusy]

theorem dmaDrain_goesOn {m : Mach} {n : Nat} (hactive : (dmaOf m n).active = true) (hstate : m.rd R.DMA.CH_STATUS.STATE n = 4) :
    dmaDrain m n true =
      dmaRefresh (chimRequest ((m.wr R.DMA.CH_CTRL.ENABLE 1 n).wr R.DMA.CH_STATUS.STATE 1 n) C_DMA n (m.dv D.dma_tokens)) := by
  have hof : dmaOf (m.wr R.DMA.CH_CTRL.ENABLE 1 n) n = dmaOf m n := rfl
  have hdv : (m.wr R.DMA.CH_CTRL.ENABLE 1 n).dv D.dma_tokens = m.dv D.dma_tokens := rfl
  simp [dmaDrain, b2n, hof, hactive, hstate, hdv]

theorem dmaTimeout_first (d : Mem) {m : Mach} {n : Nat} (a : Nat) (hactive : (dmaOf m n).active = true) (hmoves : dmaMoves m n = true)
    (hfirst : (dmaOf (hev (m.add R.DMA.BUS_TIMEOUTS.COUNT 1) 228) n).tmo = false) :
    dmaTimeout d m n a =
      ⟨(bucketAdd (dmaMod (hev (m.add R.DMA.BUS_TIMEOUTS.COUNT 1) 228) n (fun c => { c with tmo := true })) 10 n 1 BUS_TIMEOUT
        (a % 2 ^ 32)).2, [], false⟩ := by
  simp [dmaTimeout, hactive, hmoves, hfirst]

/-- The elements of a descriptor as they are copied (R496-R498). -/
def descMoves (d : Mem) (m : Mach) (n : Nat) (b data : Bytes) := xfers m (dmaPrincipal m n) d (descXfers b data)

/-- The block state once a descriptor with a source in device memory has moved its bytes: accesses noted, host writes sent, snooped. -/
def descMoved (d : Mem) (m : Mach) (n : Nat) (b data : Bytes) : Mach :=
  let w := (descMoves d m n b data).2
  snoopBytes ((noteWrites (noteReads m (dmaMaster n) [(dSrc b, dLen b)]) (dmaMaster n) (devWrites w)).emits (hostWrites w)) n
    ((w.map (fun q => q.2.2)).foldr (· ++ ·) []) (descDown b)

/-- A channel with a descriptor in progress fetches none. -/
theorem dmaFetch_busy (d : Mem) {m : Mach} {n : Nat} {b : Bytes} (host : Option Bytes) (h : (dmaOf m n).desc = some b) :
    dmaFetch d m n host = m := by
  simp [dmaFetch, h]

theorem dmaDescriptorDone_moves (d : Mem) {m : Mach} {n : Nat} (host : Bytes) {data b : Bytes} (hdesc : (dmaOf m n).desc = some b)
    (hmoves : dmaMoves m n = true) (hsource : bit (dCtrl b) 2 = false) (hstatus : bit (dCtrl b) 5 = false)
    (hok : (descMoves d m n b data).1 = none) :
    dmaDescriptorDone d m n host data =
      ⟨dmaRefresh (dmaFetch (applyWrites d (devWrites (descMoves d m n b data).2)) (descDone (descMoved d m n b data) n b) n none),
        devWrites (descMoves d m n b data).2, false⟩ := by
  unfold dmaDescriptorDone
  simp only [dmaFetch_busy d _ hdesc, hdesc, hmoves, Bool.not_true, Bool.false_eq_true, if_false]
  change (match (descMoves d m n b data).1 with | some e => _ | none => _) = _
  rw [hok]
  simp only [hsource, hstatus, Bool.not_false, if_true]
  rfl

/-! ## The DMA commands -/

/-- Settles O33, clause by clause from what each command's function does. -/
theorem dmaCommands : Obligations.DmaCommands := by
  unfold Obligations.DmaCommands
  refine ⟨?start, ?held, ?runDone, ?abort, ?abortLate, ?forceStop, ?drain, ?goOn, ?timeout, ?descriptor⟩
  case start =>
    intro s n p hs hp hn hr hi he
    exact exec_block rfl hs (by rw [dmaOwned_owner (m := s.m.fresh) hp]; exact dmaStart_begins hn hr hi he)
  case held =>
    intro s n p hs hp hn hr ha hh
    exact exec_block rfl hs (by rw [dmaOwned_owner (m := s.m.fresh) hp]; exact dmaStart_held hn hr ha hh)
  case runDone => exact fun s n hs ha hl => exec_block rfl hs (if_pos (Bool.and_eq_true_iff.mpr ⟨ha, hl⟩))
  case abort =>
    intro s n p hs hp ha hd
    exact exec_stores rfl hs (by rw [dmaOwned_owner (m := s.m.fresh) hp]; exact (if_pos ha).trans (dmaCut_between s.mem DMA_ABORTED hd))
  case abortLate =>
    intro s n p hs hp ha
    exact exec_stores rfl hs (by rw [dmaOwned_owner (m := s.m.fresh) hp]; exact if_neg (ne_true_of_eq_false ha))
  case forceStop =>
    intro s n p hs hp hd
    exact exec_stores rfl hs (by rw [dmaOwned_owner (m := s.m.fresh) hp]; exact dmaCut_between s.mem ABORTED_BY_DISABLE hd)
  case drain =>
    intro s n p hs hp ha hst hb
    exact exec_block rfl hs (by rw [dmaOwned_owner (m := s.m.fresh) hp]; exact dmaDrain_toPause ha hst hb)
  case goOn =>
    intro s n p hs hp ha hst
    exact exec_block rfl hs (by rw [dmaOwned_owner (m := s.m.fresh) hp]; exact dmaDrain_goesOn ha hst)
  case timeout => exact fun s n addr hs ha hm ht => exec_stores rfl hs (dmaTimeout_first s.mem (m := s.m.fresh) addr ha hm ht)
  case descriptor =>
    exact fun s n host data b hs _ hd hm hsrc hst hok =>
      exec_stores rfl hs (dmaDescriptorDone_moves s.mem (m := s.m.fresh) host hd hm hsrc hst hok)

end Sys2Proof.Machine
end

section
/-!
The side engines (spec/15_blit_crc_deflate.md): blit, DEFLATE and the CRC units.
-/
namespace Sys2Proof.Machine

open Sys2Proof

/-! ## Jobs of blit and DEFLATE (R508-R514) -/

/-- A job's parameters taken under the next job number (R510). -/
def jobTaken (m : Mach) (e : Nat) (p : Principal) (img : Bytes) : Mach :=
  sideMod (m.wr (R.BLIT.STATUS.NEXT_JOB.eng e) (m.rd (R.BLIT.STATUS.NEXT_JOB.eng e) + 1)) e
    (fun q => { q with jobs := q.jobs ++ [⟨m.rd (R.BLIT.STATUS.NEXT_JOB.eng e), p, img⟩] })

theorem sideGo_queues {m : Mach} {e : Nat} (p : Principal) {n : Nat} {check : Bytes → Nat} (hretired : isRetired m (11 + 2 * e) 0 = false)
    (hroom : (sideOf m e).jobs.length < 4) (hcheck : check (regBytes m (0x02600010 + e * 0x200000) n) = 0) :
    sideGo m e p n check = (0, sideNext (jobTaken m e p (regBytes m (0x02600010 + e * 0x200000) n)) e) := by
  simp [sideGo, hretired, Nat.not_le.mpr hroom, hcheck, jobTaken]

theorem blitJobDone_writes (d : Mem) {m : Mach} {j : Job} (hjob : runningJob m 0 = some j) (hok : (xfers m j.who d (blitXfers j)).1 = none) :
    blitJobDone d m =
      ⟨sideEnd (snoopBytes (noteWrites (noteReads m (sideMaster 0) ((blitXfers j).foldr (fun q acc => q.rd ++ acc) [])) (sideMaster 0)
        (devWrites (xfers m j.who d (blitXfers j)).2)) 16 (((devWrites (xfers m j.who d (blitXfers j)).2).map (·.2)).foldr (· ++ ·) [])
        (j.up || j.leftward)) 0 JOB_DONE, devWrites (xfers m j.who d (blitXfers j)).2, false⟩ := by
  unfold blitJobDone
  rw [hjob]
  dsimp only
  rw [hok]

/-- The block state once a decompression's bytes are read, written and reported (R527, R531). -/
def inflated (m : Mach) (j : Job) (r : DeflRun) : Mach :=
  resErr ((((snoopBytes (noteWrites (snoopBytes (noteReads m (sideMaster 1) [(j.dSrc, r.inp.length)]) 17 r.inp false) (sideMaster 1)
    [(j.dDst, r.out)]) 18 r.out false).wr R.DEFL.RES_OUT_LEN.LEN r.out.length).wr R.DEFL.RES_IN_USED.USED r.used).wr R.DEFL.RES_CRC.CRC
    (crc32 r.out)) (decide (r.used < j.dSrcLen)) 0

theorem deflateFinish_writes (d : Mem) (m : Mach) {j : Job} {r : DeflRun} (hmode : j.dMode = 1) (hcheck : j.dCheck = false)
    (hfault : r.flt = none) (hcode : r.code = 0) :
    deflateFinish d m j r = ⟨sideEnd (inflated m j r) 1 JOB_DONE, [(j.dDst, r.out)], false⟩ := by
  unfold deflateFinish
  simp only [hmode, hcheck, hfault, hcode, Nat.one_ne_zero, if_false, if_true, Bool.and_false, Bool.false_and, Bool.false_eq_true]
  rfl

theorem deflateDone_decompresses (d : Mem) {m : Mach} (stream : Bytes) {j : Job} (hjob : runningJob m 1 = some j) (hmode : j.dMode = 1) :
    deflateDone d m stream = deflateFinish d m j (inflateJob d m j) := by
  unfold deflateDone
  rw [hjob]
  exact if_pos hmode

/-! ## Stops, drains and timeouts of a job (R513, R514, R540) -/

theorem sideCut_begins (d : Mem) {m : Mach} {e : Nat} (code : Nat) {j : Job} {rest : List Job} (hjobs : (sideOf m e).jobs = j :: rest)
    (hbusy : (sideOf m e).busy = true) (hbegun : (sideOf m e).begun = false) : sideCut d m e code = ⟨sideEnd m e code, [], false⟩ := by
  simp [sideCut, hjobs, hbusy, hbegun]

theorem sideCut_empty (d : Mem) {m : Mach} {e : Nat} (code : Nat) (h : (sideOf m e).jobs = []) : sideCut d m e code = ⟨m, [], false⟩ := by
  unfold sideCut
  rw [h]

theorem engineAbort_side (d : Mem) (m : Mach) {e : Nat} (he : e < 2) :
    engineAbort d m e =
      if (sideOf m e).busy then sideCut d m e JOB_ABORTED else ⟨m.wr (R.BLIT.STATUS.LATE.eng e) 1, [], false⟩ :=
  if_pos he

theorem engineForceStop_idle (d : Mem) {m : Mach} {e : Nat} (he : e < 2) (hjobs : (sideOf m e).jobs = [])
    (hstate : sideState (m.wr (R.BLIT.CTRL.ENABLE.eng e) 0) e ≠ 4) :
    engineForceStop d m e = ⟨(sideSet (m.wr (R.BLIT.CTRL.ENABLE.eng e) 0) e 4).ev (sideEv e E.BLIT.DRAINED E.DEFL.DRAINED), [], false⟩ := by
  have hcut : sideCut d (m.wr (R.BLIT.CTRL.ENABLE.eng e) 0) e ABORTED_BY_DISABLE = ⟨m.wr (R.BLIT.CTRL.ENABLE.eng e) 0, [], false⟩ :=
    sideCut_empty d _ hjobs
  unfold engineForceStop
  rw [if_pos he, hcut]
  exact if_neg hstate

/-- How many jobs a flush keeps: the one that runs (R513). -/
def flushKeeps (m : Mach) (e : Nat) : Nat := if (sideOf m e).busy then 1 else 0

theorem engineFlush_side (m : Mach) {e : Nat} (he : e < 2) :
    engineFlush m e = (sideMod m e (fun q => { q with jobs := q.jobs.take (flushKeeps m e) })).each
      ((sideOf m e).jobs.drop (flushKeeps m e)) (fun m j => jobFinal m e j.num JOB_FLUSHED) :=
  if_neg (Nat.not_le.mpr he)

theorem engineDrain_running {m : Mach} {e : Nat} (he : e < 2) (hstate : sideState (m.wr (R.BLIT.CTRL.ENABLE.eng e) 0) e ≠ 4)
    (hbusy : (sideOf m e).busy = true) : engineDrain m e false = sideSet (m.wr (R.BLIT.CTRL.ENABLE.eng e) 0) e 3 := by
  have hb : (sideOf (m.wr (R.BLIT.CTRL.ENABLE.eng e) 0) e).busy = true := hbusy
  simp [engineDrain, he, b2n, hstate, hb]

theorem engineTimeout_first (d : Mem) {m : Mach} {e : Nat} (a : Nat) (he : e < 2) (hjob : (runningJob m e).isNone = false)
    (hfirst : (sideOf m e).tmo = false) :
    engineTimeout d m e a =
      ⟨(bucketAdd (sideMod m e (fun q => { q with tmo := true })) (11 + 2 * e) 0 1 BUS_TIMEOUT (a % 2 ^ 32)).2, [], false⟩ := by
  unfold engineTimeout
  rw [if_pos he, hjob, hfirst]
  rfl

/-! ## The commands of blit and DEFLATE -/

/-- Settles O34, clause by clause from what each command's function does. -/
theorem sideEngineCommands : Obligations.SideEngineCommands := by
  unfold Obligations.SideEngineCommands
  refine ⟨?blitGo, ?deflateGo, ?blitDone, ?deflateDone, ?abort, ?abortLate, ?forceStop, ?flush, ?drain, ?timeout⟩
  case blitGo =>
    exact fun s p hs hr hj hc => exec_block rfl hs (by rw [sideGo_queues (m := s.m.fresh) (e := 0) p hr hj hc]; rfl)
  case deflateGo =>
    exact fun s p hs hr hj hc => exec_block rfl hs (by rw [sideGo_queues (m := s.m.fresh) (e := 1) p hr hj hc]; rfl)
  case blitDone => exact fun s j hs hj hok => exec_stores rfl hs (blitJobDone_writes s.mem (m := s.m.fresh) hj hok)
  case deflateDone =>
    exact fun s stream j hs hj hm hc hf h0 =>
      exec_stores rfl hs ((deflateDone_decompresses s.mem (m := s.m.fresh) stream hj hm).trans (deflateFinish_writes s.mem _ hm hc hf h0))
  case abort =>
    exact fun s e j rest hs he hj hb hbegun =>
      exec_stores rfl hs ((engineAbort_side s.mem s.m.fresh he).trans ((if_pos hb).trans (sideCut_begins s.mem JOB_ABORTED hj hb hbegun)))
  case abortLate =>
    exact fun s e hs he hb => exec_stores rfl hs ((engineAbort_side s.mem s.m.fresh he).trans (if_neg (ne_true_of_eq_false hb)))
  case forceStop => exact fun s e hs he hj hst => exec_stores rfl hs (engineForceStop_idle s.mem (m := s.m.fresh) he hj hst)
  case flush => exact fun s e hs he => exec_block rfl hs (engineFlush_side s.m.fresh he)
  case drain => exact fun s e hs he hst hb => exec_block rfl hs (engineDrain_running (m := s.m.fresh) he hst hb)
  case timeout => exact fun s e addr hs he hj ht => exec_stores rfl hs (engineTimeout_first s.mem (m := s.m.fresh) addr he hj ht)

/-! ## CRC units (R515, R536-R538) -/

/-- A unit's parameters as START takes them (R515). -/
def crcTaken (m : Mach) (n : Nat) (p : Principal) (snoop : Bool) : Mach :=
  crcMod m n (fun u => { u with who := p, poly := m.rd R.CRC.UNIT_CTRL.POLY n, snoop := snoop, src := m.rd R.CRC.UNIT_CTRL.SNOOP_SRC n, tmo := false })

/-- A unit started: its state is the initial one or the value held, its counts are 0 (R515, R536). -/
def crcLoaded (m : Mach) (n : Nat) (p : Principal) (snoop : Bool) : Mach :=
  let q := crcTaken m n p snoop
  (((crcLoad q n (if q.flag R.CRC.UNIT_CTRL.INIT n then crcInit (m.rd R.CRC.UNIT_CTRL.POLY n) else crcState q n)).wr
    R.CRC.UNIT_BYTES.BYTES 0 n).wr R.CRC.UNIT_STATUS.REVERSED 0 n).wr R.CRC.UNIT_STATUS.LATE 0 n

theorem crcStart_scans {m : Mach} {n : Nat} (p : Principal) (hn : n < 4) (hretired : isRetired m 12 n = false) (hactive : crcActive m n = false)
    (hfeed : m.flag R.CRC.UNIT_CTRL.FEED n = false) (hlen : crcLen m n ≠ 0) (henable : m.flag R.CRC.UNIT_CTRL.ENABLE n = true)
    (hmode : engineMode m.mode = true) :
    crcStart m n p =
      chimRequest ((crcCurSet (crcLoaded m n p false) n (crcBase (crcLoaded m n p false) n)).wr R.CRC.UNIT_STATUS.STATE 1 n) C_CRC n
        ((crcCurSet (crcLoaded m n p false) n (crcBase (crcLoaded m n p false) n)).dv D.crc_tokens) := by
  have hl : (crcLen m n == 0) = false := by simpa using hlen
  unfold crcStart
  simp only [Nat.not_le.mpr hn, hretired, hactive, hfeed, hl, henable, hmode, Bool.false_and, Bool.not_false, Bool.true_and, Bool.not_true,
    Bool.or_self, Bool.false_eq_true, if_false]
  rfl

theorem crcStart_snoops {m : Mach} {n : Nat} (p : Principal) (hn : n < 4) (hretired : isRetired m 12 n = false) (hactive : crcActive m n = false)
    (hfeed : m.flag R.CRC.UNIT_CTRL.FEED n = true) (hsource : m.rd R.CRC.UNIT_CTRL.SNOOP_SRC n < 19)
    (henable : m.flag R.CRC.UNIT_CTRL.ENABLE n = true) (hmode : engineMode m.mode = true) :
    crcStart m n p = (crcLoaded m n p true).wr R.CRC.UNIT_STATUS.STATE 3 n := by
  have hs : decide (19 ≤ m.rd R.CRC.UNIT_CTRL.SNOOP_SRC n) = false := decide_eq_false (Nat.not_le.mpr hsource)
  unfold crcStart
  simp only [Nat.not_le.mpr hn, hretired, hactive, hfeed, hs, henable, hmode, Bool.and_false, Bool.not_true, Bool.false_and, Bool.or_self,
    Bool.false_eq_true, if_false, if_true]
  rfl

/-- The block state once a scan has taken the bytes from its place up to `upto` (R537). -/
def crcScanned (d : Mem) (m : Mach) (n upto : Nat) : Mach :=
  crcCurSet (crcTake (noteReads m (crcMaster n) [(crcCur m n, upto - crcCur m n)]) n (Mem.read d (crcCur m n) (upto - crcCur m n))) n upto

theorem crcScanTo_allowed (d : Mem) {m : Mach} {n upto : Nat} (h : (reach m (crcUnit m n).who (crcCur m n) (upto - crcCur m n) false).2 = none) :
    crcScanTo d m n upto = (true, crcScanned d m n upto) := by
  unfold crcScanTo
  dsimp only
  rw [h]
  rfl

theorem crcScanDone_allowed (d : Mem) {m : Mach} {n : Nat} (hstate : m.rd R.CRC.UNIT_STATUS.STATE n = 2) (hsnoop : (crcUnit m n).snoop = false)
    (h : (reach m (crcUnit m n).who (crcCur m n) (crcBase m n + crcLen m n - crcCur m n) false).2 = none) :
    crcScanDone d m n = crcEnd (crcScanned d m n (crcBase m n + crcLen m n)) n JOB_DONE := by
  simp [crcScanDone, hstate, hsnoop, crcScanTo_allowed d h]

theorem crcScanStop_allowed (d : Mem) {m : Mach} {n upto : Nat} (hstate : m.rd R.CRC.UNIT_STATUS.STATE n = 2)
    (hsnoop : (crcUnit m n).snoop = false) (h : (reach m (crcUnit m n).who (crcCur m n) (upto - crcCur m n) false).2 = none)
    (hstop : m.flag R.CRC.UNIT_CTRL.ENABLE n = false ∨ m.mode = 11) (hpage : upto % 4096 = 0) (hlo : crcCur m n ≤ upto)
    (hhi : upto < crcBase m n + crcLen m n) :
    crcScanStop d m n upto =
      chimRelease ((((crcScanned d m n upto).wr R.CRC.UNIT_STATUS.STATE 4 n).wr R.CRC.UNIT_STATUS.LAST_CODE ENGINE_DRAINED n).ev
        E.CRC.STOPPED n) C_CRC n := by
  have hgo : ¬(m.flag R.CRC.UNIT_CTRL.ENABLE n = true ∧ m.mode ≠ 11) := by
    rintro ⟨hen, hmode⟩
    exact hstop.elim (fun h => by simp [h] at hen) hmode
  have hin : ¬(m.rd R.CRC.UNIT_STATUS.STATE n ≠ 2 ∨ (crcUnit m n).snoop = true ∨ (m.flag R.CRC.UNIT_CTRL.ENABLE n = true ∧ m.mode ≠ 11) ∨
      upto % 4096 ≠ 0 ∨ upto < crcCur m n ∨ crcBase m n + crcLen m n ≤ upto) := by
    simp only [hstate, hsnoop, hgo, hpage, Nat.not_lt.mpr hlo, Nat.not_le.mpr hhi]
    simp
  unfold crcScanStop
  rw [if_neg hin, crcScanTo_allowed d h]
  rfl

/-- Settles O35, clause by clause from what each command's function does. -/
theorem crcCommands : Obligations.CrcCommands := by
  unfold Obligations.CrcCommands
  refine ⟨?scan, ?snoop, ?value, ?scanDone, ?scanStop⟩
  case scan =>
    exact fun s n p hs hn hr ha hf hl he hm => exec_block rfl hs (crcStart_scans (m := s.m.fresh) p hn hr ha hf hl he hm)
  case snoop =>
    exact fun s n p hs hn hr ha hf hsrc he hm => exec_block rfl hs (crcStart_snoops (m := s.m.fresh) p hn hr ha hf hsrc he hm)
  case value => exact fun s n lo hs hn => exec_block rfl hs (if_neg (Nat.not_le.mpr hn))
  case scanDone => exact fun s n hs hst hsn h => exec_reads rfl hs (crcScanDone_allowed s.mem (m := s.m.fresh) hst hsn h)
  case scanStop =>
    exact fun s n upto hs hst hsn h hstop hp hlo hhi =>
      exec_reads rfl hs (crcScanStop_allowed s.mem (m := s.m.fresh) hst hsn h hstop hp hlo hhi)

end Sys2Proof.Machine
end

section
/-!
The thermal monitor and Chimney (spec/16_power_and_thermal.md), calibration and the doses (spec/17_calibration.md).
-/
namespace Sys2Proof.Machine

open Sys2Proof

/-! ## Steps of the thermal monitor (R567) -/

theorem stepUp_due {m : Mach} (hauto : m.dv D.step_up_auto = 1) (hstepped : m.th.stepped.isSome = true) (hmode : drivesRays m.mode = true)
    (hcool : sInt 16 (m.rd R.THRM.STATUS.MAX_TEMP) < limitOf m R.THRM.LIMITS.THROTTLE - 80) (hnone : m.th.stepDue = none) :
    stepUp m = { m with th := { m.th with stepDue := stepUpEntry m } } := by
  unfold stepUp
  rw [hnone]
  exact if_pos ⟨hauto, hstepped, hmode, hcool⟩

theorem stepUp_manual {m : Mach} (hauto : m.dv D.step_up_auto = 0) : stepUp m = m :=
  if_neg fun h => by simp [hauto] at h

/-! ## Chimney's requests and grants (R570-R575) -/

/-- A request at the end of those that wait. -/
def chimQueued (m : Mach) (cls holder tok : Nat) : Mach :=
  { m with ch := { m.ch with waits := m.ch.waits ++ [⟨cls, holder, tok, m.ch.nextArr, 0⟩], nextArr := m.ch.nextArr + 1 } }

theorem chimRequest_new {m : Mach} {cls holder : Nat} (tok : Nat) (hwaits : m.ch.waits.any (fun r => r.cls == cls && r.holder == holder) = false)
    (hgrants : m.ch.grants.any (fun g => g.cls == cls && g.holder == holder) = false) :
    chimRequest m cls holder tok = chimRefresh (markTooLarge (judgeWaiting (chimQueued m cls holder tok) false)) := by
  unfold chimRequest
  rw [hwaits, hgrants]
  rfl

theorem chimRequest_granted {m : Mach} {cls holder : Nat} (tok : Nat)
    (hgrants : m.ch.grants.any (fun g => g.cls == cls && g.holder == holder) = true) : chimRequest m cls holder tok = m :=
  if_pos (by rw [hgrants, Bool.or_true])

theorem grantComes_oldest (d : Mem) {m : Mach} {q : Grant} (hfind : m.ch.grants.find? (fun g => !g.live && !g.ending) = some q) :
    grantComes d m q.cls q.holder =
      holderBegins d (chimRefresh { m with ch := { m.ch with
        grants := m.ch.grants.map (fun h => if h.arr == q.arr then { h with live := true } else h) } }) q.cls q.holder := by
  simp [grantComes, grantInForce, hfind]

/-! ## The commands of the thermal monitor and of Chimney -/

/-- Settles O36, clause by clause from what each command's function does. -/
theorem thermalCommands : Obligations.ThermalCommands := by
  unfold Obligations.ThermalCommands
  refine ⟨?stepUp, ?stepManual, ?compensation, ?request, ?requestGranted, ?release, ?inForce, ?pausePoint⟩
  case stepUp => exact fun s hs ha hst hd hc hn => exec_block rfl hs (stepUp_due (m := s.m.fresh) ha hst hd hc hn)
  case stepManual => exact fun s hs ha => exec_block rfl hs (stepUp_manual (m := s.m.fresh) ha)
  case compensation => exact fun s move hs => exec_block rfl hs rfl
  case request =>
    exact fun s cls holder tok hs hcls hw hg => exec_block rfl hs ((if_pos hcls).trans (chimRequest_new (m := s.m.fresh) tok hw hg))
  case requestGranted =>
    exact fun s cls holder tok hs hcls hg => exec_block rfl hs ((if_pos hcls).trans (chimRequest_granted (m := s.m.fresh) tok hg))
  case release => exact fun s cls holder hs => exec_block rfl hs rfl
  case inForce =>
    rintro s cls holder q hs hfind rfl rfl
    exact exec_reads rfl hs (grantComes_oldest s.mem (m := s.m.fresh) hfind)
  case pausePoint => exact fun s cls holder hs h => exec_block rfl hs (if_pos h)

/-! ## Calibration runs (R596-R601) -/

theorem calRun_enabled {m : Mach} (mask : Nat) (h : calEnabled m = true) : calRun m mask = m.each (bitList 6 mask) calStart :=
  if_pos h

theorem calRun_disabled {m : Mach} (mask : Nat) (h : calEnabled m = false) :
    calRun m mask = { m with cal := { m.cal with waiting := (bitList 6 mask).foldl setBit m.cal.waiting } } :=
  if_neg (ne_true_of_eq_false h)

theorem calRunDone_lanes {m : Mach} (rows : List (List Int)) (hrun : calRunning m 0 = true) (henabled : calEnabled m = true)
    (hgrant : hasGrant m 2 0 = true) : calRunDone m 0 rows = calFinish (calLanes m rows) 0 := by
  have hg : hasGrant m C_CAL 0 = true := hgrant
  simp [calRunDone, hrun, henabled, hg, KIND_LANE]

theorem calRunDone_channels {m : Mach} (rows : List (List Int)) (hrun : calRunning m 1 = true) (henabled : calEnabled m = true)
    (hgrant : hasGrant m 2 1 = true) : calRunDone m 1 rows = calFinish (calChannels m rows) 1 := by
  have hg : hasGrant m C_CAL 1 = true := hgrant
  simp [calRunDone, hrun, henabled, hg, KIND_LANE, KIND_DRAM]

theorem calDrain_stops {m : Mach} (h : m.rd R.CAL.STATUS.STATE = 1) :
    calDrain m false = calCode ((m.wr R.CAL.CTRL.ENABLE 0).wr R.CAL.STATUS.STATE 3) CAL_DRAINED :=
  if_pos ((Mach.rd_wr_ne m R.CAL.CTRL.ENABLE R.CAL.STATUS.STATE 0 0 0 0 0 (by decide)).trans h)

/-- What a forced stop makes of one run. -/
def calCut (late : Nat) (m : Mach) (k : Nat) : Mach :=
  if bit late k then calCode (calFinish m k) ABORT_LATE else (calCode (calStop m k) ABORTED_BY_DISABLE).ev E.CAL.ABORTED

/-- Calibration without goals, disabled and stopped. -/
def calHalted (m : Mach) : Mach :=
  ((({ m with cal := { m.cal with oscGoal := none, sensGoal := List.replicate 48 none } } : Mach).wr R.CAL.CTRL.ENABLE 0).wr R.CAL.STATUS.STATE 3)

theorem calForceStop_eq (m : Mach) (late : Nat) :
    calForceStop m late = calHalted (m.each ((List.range 6).filter (calRunning m)) (calCut late)) := rfl

theorem calForceStop_idle {m : Mach} (late : Nat) (h : (List.range 6).filter (calRunning m) = []) : calForceStop m late = calHalted m := by
  rw [calForceStop_eq, h]
  rfl

theorem calForceStop_one {m : Mach} (late : Nat) {k : Nat} (h : (List.range 6).filter (calRunning m) = [k]) :
    calForceStop m late = calHalted (calCut late m k) := by
  rw [calForceStop_eq, h]
  rfl

/-! ## The references (R602, R603) -/

theorem ppsEdge_first {m : Mach} (cycles : Nat) (h : m.cal.edges = 0) :
    ppsEdge m cycles = { m with cal := { m.cal with edges := 1, cycles := 0 } } :=
  if_pos h

theorem ppsEdge_off {m : Mach} {cycles : Nat} (h : m.cal.edges ≠ 0) (hoff : 1000 < ((cycles : Int) - 10000000).natAbs) :
    ppsEdge m cycles = ppsBad m 1 :=
  (if_neg h).trans (if_pos hoff)

theorem refSet_same {m : Mach} {r : Row} {ok : Bool} (h : m.flag r = ok) : refSet m r ok = m :=
  if_pos (by rw [h]; exact beq_self_eq_true ok)

theorem ppsEdge_counted {m : Mach} {cycles : Nat} (h : m.cal.edges ≠ 0) (hfew : m.cal.edges < 16)
    (hnear : ((cycles : Int) - 10000000).natAbs ≤ 1000) (hok : m.flag R.CAL.REF.PPS_OK = true) :
    ppsEdge m cycles = { m with cal := { m.cal with edges := m.cal.edges + 1, cycles := m.cal.cycles + cycles } } := by
  unfold ppsEdge
  rw [if_neg h, if_neg (Nat.not_lt.mpr hnear), refSet_same hok]
  exact if_pos (by omega)

/-- What a measurement of the reference voltage makes of VREF_OK (R603). -/
def vrefTaken (m : Mach) (mv10 : Nat) (ok : Bool) : Mach :=
  refSet (if ok then m.wr R.CAL.REF.VREF_MV10 mv10 else calCode (m.wr R.CAL.REF.VREF_MV10 mv10) VREF_BAD) R.CAL.REF.VREF_OK ok

/-! ## Doses (R605-R607) -/

theorem doseCommit_serving {m : Mach} (h : fwServes m = true) :
    doseCommit m = agingCompute (doseFeed { m with cal := { m.cal with
      doseGen := (m.cal.doseGen + 1) % 2 ^ 24
      shown := m.cal.dose
      dosePend := m.cal.dosePend ++ doseRecords m ((m.cal.doseGen + 1) % 2 ^ 24) } }) := by
  unfold doseCommit
  rw [h]
  rfl

theorem doseReset_serving {m : Mach} (h : fwServes m = true) : doseReset m = doseCommit { m with cal := { m.cal with dose := [] } } := by
  unfold doseReset
  rw [h]
  rfl

theorem doseReset_refused {m : Mach} (h : fwServes m = false) : doseReset m = m := by
  unfold doseReset
  rw [h]
  rfl

/-! ## The commands of calibration -/

/-- Settles O37, clause by clause from what each command's function does. -/
theorem calibrationCommands : Obligations.CalibrationCommands := by
  unfold Obligations.CalibrationCommands
  refine ⟨?run, ?runWaits, ?track, ?lanes, ?channels, ?ppsFirst, ?ppsOff, ?ppsRegular, ?ppsMissing, ?vrefIn, ?vrefOut, ?drainOff, ?drainOn,
    ?stopIdle, ?stopOne, ?commit, ?reset, ?resetRefused⟩
  case run => exact fun s mask hs h => exec_block rfl hs (calRun_enabled (m := s.m.fresh) mask h)
  case runWaits => exact fun s mask hs h => exec_block rfl hs (calRun_disabled (m := s.m.fresh) mask h)
  case track => exact fun s hs h => exec_block rfl hs (calRun_enabled (m := s.m.fresh) _ h)
  case lanes => exact fun s rows hs hr he hg => exec_block rfl hs (calRunDone_lanes (m := s.m.fresh) rows hr he hg)
  case channels => exact fun s rows hs hr he hg => exec_block rfl hs (calRunDone_channels (m := s.m.fresh) rows hr he hg)
  case ppsFirst => exact fun s cycles hs h => exec_block rfl hs (ppsEdge_first (m := s.m.fresh) cycles h)
  case ppsOff => exact fun s cycles hs h hoff => exec_block rfl hs (ppsEdge_off (m := s.m.fresh) h hoff)
  case ppsRegular => exact fun s cycles hs h hf hn hok => exec_block rfl hs (ppsEdge_counted (m := s.m.fresh) h hf hn hok)
  case ppsMissing => exact fun s hs => exec_block rfl hs rfl
  case vrefIn =>
    exact fun s mv10 hs h =>
      exec_block (f := fun m => vrefTaken m mv10 (decide (((mv10 : Int) - 12000).natAbs ≤ 120))) rfl hs (by rw [decide_eq_true h]; rfl)
  case vrefOut =>
    exact fun s mv10 hs h =>
      exec_block (f := fun m => vrefTaken m mv10 (decide (((mv10 : Int) - 12000).natAbs ≤ 120))) rfl hs
        (by rw [decide_eq_false (Nat.not_le.mpr h)]; rfl)
  case drainOff => exact fun s hs h => exec_block rfl hs (calDrain_stops (m := s.m.fresh) h)
  case drainOn => exact fun s hs => exec_block rfl hs rfl
  case stopIdle => exact fun s late hs h => exec_block rfl hs (calForceStop_idle (m := s.m.fresh) late h)
  case stopOne => exact fun s late k hs h => exec_block rfl hs (calForceStop_one (m := s.m.fresh) late h)
  case commit => exact fun s hs h => exec_block rfl hs (doseCommit_serving (m := s.m.fresh) h)
  case reset => exact fun s hs h => exec_block rfl hs (doseReset_serving (m := s.m.fresh) h)
  case resetRefused => exact fun s hs h => exec_block rfl hs (doseReset_refused (m := s.m.fresh) h)

end Sys2Proof.Machine
end

section
/-!
Bedrock's commands (spec/18_firmware_trust_and_live_update.md): images, keys and fuses, the watchdog, regions, release and handover.
-/
namespace Sys2Proof.Machine

open Sys2Proof

/-- A command on fuses answers the fuses and the block state of its function. -/
theorem exec_fuses {c : Instr} {s : State} {g : Mem → Mach → Fuse → Fuse × Effect} {F : Fuse} {a : Mach} (e : exec c s = onF s g)
    (hs : s.Runs) (h : g s.mem s.m.fresh s.fuse = (F, ⟨a, [], false⟩)) : exec c s = .next { s.after a with fuse := F } := by
  rw [e, onF_eq hs h]

/-- A command on fuses that programs none. -/
theorem exec_unfused {c : Instr} {s : State} {g : Mem → Mach → Fuse → Fuse × Effect} {a : Mach} (e : exec c s = onF s g)
    (hs : s.Runs) (h : g s.mem s.m.fresh s.fuse = (s.fuse, ⟨a, [], false⟩)) : exec c s = .next (s.after a) := by
  rw [e, onF_same hs h]

/-! ## Install and switch (R621, R622, R629) -/

/-- The slot of a kind's committed image. -/
def committedSlot (m : Mach) (kind : Nat) : Nat :=
  if kind = K_STAGE2 then m.rd R.SEC.STATE.BED_COMMITTED else m.rd R.SEC.STATE.FW_COMMITTED

/-- Whether a kind's image is on trial. -/
def onTrial (m : Mach) (kind : Nat) : Bool := if kind = K_STAGE2 then m.flag R.SEC.STATE.TRIAL_BED else m.flag R.SEC.STATE.TRIAL_FW

/-- Whether a switch of a kind is due. -/
def switchDue (m : Mach) (kind : Nat) : Bool := if kind = K_STAGE2 then m.sec.bedDue.isSome else m.sec.fwDue.isSome

/-- An accepted install runs where the image, header `hdr` and payload `pay`, passes R610. -/
def installStarts (m : Mach) (f : Fuse) (kind slot : Nat) (hdr pay : Bytes) : Mach :=
  match imgCheck f m kind hdr pay with
  | some c => secEnd m c
  | none => { secPend m with sec := { m.sec with install := some (kind, slot, hdr, pay) } }

theorem imageInstall_accepted {d : Mem} {m : Mach} (f : Fuse) {kind slot addr len : Nat} {b : Bytes}
    (hb : (memRead d (secGo m 1) addr (Nat.min len 16777216)).data = b) (hkind : kind = K_STAGE2 ∨ kind = K_MAIN)
    (hserves : secServes (secGo m 1) 1 kind = true) (hslot : slot < 2) (hfree : slot ≠ committedSlot (secGo m 1) kind)
    (htrial : onTrial (secGo m 1) kind = false) (hidle : m.sec.install = none) (hdue : switchDue (secGo m 1) kind = false)
    (hlen : 384 + fieldLE (slice b 0 384) 12 4 ≤ len) :
    imageInstall d m f kind slot addr len =
      installStarts (secGo m 1) f kind slot (slice b 0 384)
        (slice b 384 (fieldLE (slice b 0 384) 12 4)) := by
  have hknown : ¬(kind ≠ K_STAGE2 ∧ kind ≠ K_MAIN) := fun h => hkind.elim h.1 h.2
  have hopen : ¬(2 ≤ slot ∨ slot = committedSlot (secGo m 1) kind ∨ onTrial (secGo m 1) kind = true) := by
    rw [htrial]
    rintro (h | h | h)
    · omega
    · exact hfree h
    · exact Bool.false_ne_true h
  have hready : ¬((secGo m 1).sec.install.isSome = true ∨ switchDue (secGo m 1) kind = true) := by
    rw [show (secGo m 1).sec.install = none from hidle, hdue]
    decide
  unfold imageInstall
  dsimp only
  rw [hserves, hb]
  exact (if_neg Bool.false_ne_true).trans ((if_neg hknown).trans ((if_neg hopen).trans ((if_neg hready).trans (if_neg (Nat.not_lt.mpr hlen)))))

/-- The end of an install: `new` stands in the slot (R621). -/
def installEnds (m : Mach) (kind slot : Nat) (new : Slot) : Mach :=
  secVersions { m with sec := { m.sec with install := none, slots := setAt m.sec.slots (slotIdx kind slot) new } }

theorem installComplete_main {m : Mach} {slot : Nat} {hdr pay : Bytes} (h : m.sec.install = some (2, slot, hdr, pay)) :
    installComplete m true =
      ⟨secEnd (installEnds m 2 slot ⟨some (hdr, pay), true, fieldLE hdr 6 1, fieldLE hdr 7 1, fieldLE hdr 8 4⟩) SEC_DONE,
        [(codeBase slot, pay)], false⟩ := by
  unfold installComplete
  rw [h]
  rfl

theorem installComplete_failed {m : Mach} {kind slot : Nat} {hdr pay : Bytes} (h : m.sec.install = some (kind, slot, hdr, pay)) :
    installComplete m false = ⟨secEnd (installEnds m kind slot ⟨none, false, 0, 0, 0⟩) FLASH_FAILED, [], false⟩ := by
  unfold installComplete
  rw [h]
  rfl

/-- Whether an image of a kind is being installed. -/
def installing (m : Mach) (kind : Nat) : Bool :=
  match m.sec.install with
  | some (k, _) => k == kind
  | none => false

/-- The switch of a kind made due (R622, R629): a main switch drains calibration too. -/
def switchSet (m : Mach) (kind slot : Nat) : Mach :=
  if kind = K_STAGE2 then { m with sec := { m.sec with bedDue := some ⟨slot, tickWait m⟩ } }
  else calDrain { m with sec := { m.sec with fwDue := some ⟨slot, tickWait m⟩, quiesced := false } } false

theorem secSwitch_due {m : Mach} (f : Fuse) {kind slot : Nat} (hkind : kind = K_STAGE2 ∨ kind = K_MAIN)
    (hserves : secServes (secGo m 2) 2 kind = true) (hslot : slot < 2) (hidle : m.sec.install = none)
    (hdue : switchDue (secGo m 2) kind = false) (h0 : (secGo m 2).mode ≠ 0) (h3 : (secGo m 2).mode ≠ 3) (h11 : (secGo m 2).mode ≠ 11)
    (hpasses : slotPasses f (secGo m 2) kind slot = true) :
    secSwitch m f kind slot = (dueRefresh (secPend (switchSet (secGo m 2) kind slot))).ev E.SEC.QUIESCE := by
  have hnamed : ¬((!secServes (secGo m 2) 2 kind) = true ∨ (kind ≠ K_STAGE2 ∧ kind ≠ K_MAIN) ∨ 2 ≤ slot) := by
    rw [hserves]
    rintro (h | h | h)
    · exact absurd h (by decide)
    · exact hkind.elim h.1 h.2
    · omega
  have hready : ¬(installing (secGo m 2) kind = true ∨ switchDue (secGo m 2) kind = true) := by
    rw [hdue, installing, show (secGo m 2).sec.install = none from hidle]
    exact fun h => h.elim Bool.false_ne_true Bool.false_ne_true
  have hmay : ¬((secGo m 2).mode = 0 ∨ (secGo m 2).mode = 3 ∨ (secGo m 2).mode = 11 ∨ (!slotPasses f (secGo m 2) kind slot) = true) := by
    rw [hpasses]
    simp [h0, h3, h11]
  exact (if_neg hnamed).trans ((if_neg hready).trans (if_neg hmay))

/-! ## Check-in and trials (R625-R627) -/

/-- Firmware present, the watchdog at 0 (R625, R627). -/
def fwPresent (m : Mach) : Mach := (m.wr R.SEC.STATE.FW_PRESENT 1).wr R.SEC.WDOG.SINCE_KICK_MS 0

/-- Nothing awaited any more, the watchdog's time at 0. -/
def checkedIn (m : Mach) : Mach := { m with sec := { m.sec with await := 0, sinceNs := 0 } }

theorem fwPresent_calState (m : Mach) : (fwPresent m).rd R.CAL.STATUS.STATE = m.rd R.CAL.STATUS.STATE := by
  unfold fwPresent
  simp (disch := decide) only [Mach.rd_wr_ne]

/-- Calibration resumes where it is drained (R624). -/
def calResumes (m : Mach) : Mach := if m.rd R.CAL.STATUS.STATE = 3 then calDrain m true else m

theorem calResumes_keeps {m : Mach} (h : m.rd R.CAL.STATUS.STATE ≠ 3) : calResumes m = m := if_neg h

theorem checkin_accepted {m : Mach} (hcores : m.sec.cores = true) (h0 : m.sec.await ≠ 0) :
    checkin m = calResumes (checkedIn (if m.sec.await = 2 then (fwPresent m).wr R.SEC.STATE.TRIAL_FW 1 else fwPresent m)) :=
  if_neg (by simp [hcores, h0])

theorem checkin_awaited {m : Mach} (hcores : m.sec.cores = true) (h0 : m.sec.await ≠ 0) (h2 : m.sec.await ≠ 2)
    (hcal : m.rd R.CAL.STATUS.STATE ≠ 3) : checkin m = checkedIn (fwPresent m) := by
  rw [checkin_accepted hcores h0, if_neg h2]
  exact calResumes_keeps fun e => hcal ((fwPresent_calState m).symm.trans e)

theorem checkin_trial {m : Mach} (hcores : m.sec.cores = true) (h2 : m.sec.await = 2) (hcal : m.rd R.CAL.STATUS.STATE ≠ 3) :
    checkin m = checkedIn ((fwPresent m).wr R.SEC.STATE.TRIAL_FW 1) := by
  have hkeep := Mach.rd_wr_ne (fwPresent m) R.SEC.STATE.TRIAL_FW R.CAL.STATUS.STATE 1 0 0 0 0 (by decide)
  rw [checkin_accepted hcores (by omega), if_pos h2]
  exact calResumes_keeps fun e => hcal ((fwPresent_calState m).symm.trans (hkeep.symm.trans e))

theorem checkinTimeout_trial {m : Mach} (h : m.sec.await = 2) : checkinTimeout m = secRevert m := if_pos h

theorem checkinTimeout_restart {m : Mach} (h : m.sec.await = 3) :
    checkinTimeout m = bootIntegrity { m with sec := { m.sec with await := 0, cores := false } } 0x6 :=
  (if_neg (by omega)).trans (if_pos h)

theorem trialCommit_main {m : Mach} (f : Fuse) (hserves : secServes (secGo m 3) 3 0 = true)
    (hmain : (secGo m 3).flag R.SEC.STATE.TRIAL_FW = true) (hbed : (secGo m 3).flag R.SEC.STATE.TRIAL_BED = false) :
    trialCommit m f false = (f, ⟨secEnd (commitTrial (secGo m 3) f K_MAIN false) SEC_DONE, [], false⟩) := by
  simp [trialCommit, blowMissing, hserves, hmain, hbed]

theorem codeRegionCheck_unknown (d : Mem) {m : Mach} {slot : Nat} (himg : (secSlot m K_MAIN slot).img = none)
    (hslot : slot = m.rd R.SEC.STATE.FW_SLOT) (hcores : m.sec.cores = true) : codeRegionCheck d m slot true = bootIntegrity m 0x4 := by
  unfold codeRegionCheck
  rw [himg]
  exact if_pos ⟨hslot, hcores, rfl⟩

theorem codeRegionCheck_known (d : Mem) {m : Mach} {slot : Nat} (differs : Bool) {h p : Bytes}
    (himg : (secSlot m K_MAIN slot).img = some (h, p)) (hslot : slot = m.rd R.SEC.STATE.FW_SLOT) (hcores : m.sec.cores = true) :
    codeRegionCheck d m slot differs =
      if Config.sha384 (Mem.read d (codeBase slot) (fieldLE h 12 4)) ≠ slice h 144 48 then bootIntegrity m 0x4 else m := by
  unfold codeRegionCheck
  rw [himg]
  refine ite_congr (propext ?_) (fun _ => rfl) (fun _ => rfl)
  simp only [decide_eq_true_eq]
  exact ⟨fun q => q.2.2, fun q => ⟨hslot, hcores, q⟩⟩

/-! ## The commands of images -/

/-- Settles O38, clause by clause from what each command's function does. -/
theorem imageCommands : Obligations.ImageCommands := by
  unfold Obligations.ImageCommands
  refine ⟨?install, ?complete, ?failed, ?switchMain, ?switchBed, ?checkin, ?checkinTrial, ?timeoutTrial, ?timeoutRestart, ?commit,
    ?periodMain, ?periodBed, ?regionUnknown, ?regionKnown⟩
  case install =>
    exact fun s kind slot addr len hs hk hsv hsl hne ht hi hd hlen =>
      exec_reads rfl hs (imageInstall_accepted (m := s.m.fresh) s.fuse rfl hk hsv hsl hne ht hi hd hlen)
  case complete => exact fun s slot hdr pay hs h => exec_stores rfl hs (installComplete_main (m := s.m.fresh) h)
  case failed => exact fun s kind slot hdr pay hs h => exec_stores rfl hs (installComplete_failed (m := s.m.fresh) h)
  case switchMain =>
    exact fun s slot hs hsv hsl hi hd h0 h3 h11 hp =>
      exec_block rfl hs (secSwitch_due (m := s.m.fresh) s.fuse (.inr rfl) hsv hsl hi (congrArg Option.isSome hd) h0 h3 h11 hp)
  case switchBed =>
    exact fun s slot hs hsv hsl hi hd h0 h3 h11 hp =>
      exec_block rfl hs (secSwitch_due (m := s.m.fresh) s.fuse (.inl rfl) hsv hsl hi (congrArg Option.isSome hd) h0 h3 h11 hp)
  case checkin => exact fun s hs hc h0 h2 hcal => exec_block rfl hs (checkin_awaited (m := s.m.fresh) hc h0 h2 hcal)
  case checkinTrial => exact fun s hs hc h2 hcal => exec_block rfl hs (checkin_trial (m := s.m.fresh) hc h2 hcal)
  case timeoutTrial => exact fun s hs h => exec_block rfl hs (checkinTimeout_trial (m := s.m.fresh) h)
  case timeoutRestart => exact fun s hs h => exec_block rfl hs (checkinTimeout_restart (m := s.m.fresh) h)
  case commit => exact fun s hs hsv hf hb => exec_unfused (g := fun _ m f => trialCommit m f false) rfl hs (trialCommit_main (m := s.m.fresh) s.fuse hsv hf hb)
  case periodMain => exact fun s vdd hs h => exec_block rfl hs (if_pos h)
  case periodBed => exact fun s vdd hs h => exec_block rfl hs (if_pos h)
  case regionUnknown =>
    exact fun s slot hs hi hsl hc => exec_reads rfl hs (codeRegionCheck_unknown s.mem (m := s.m.fresh) hi hsl hc)
  case regionKnown =>
    exact fun s slot differs h p hs hi hsl hc => exec_reads rfl hs (codeRegionCheck_known s.mem (m := s.m.fresh) differs hi hsl hc)

end Sys2Proof.Machine
end

section
/-!
Bedrock's commands that program fuses, its watchdog, regions, release and handover (spec/18_firmware_trust_and_live_update.md).
-/
namespace Sys2Proof.Machine

open Sys2Proof

/-! ## Fuses (R615, R617) -/

/-- The fuses with the bits blown that the mirrors are ahead by (R617). -/
def mirrored (m : Mach) (f : Fuse) : Fuse :=
  { f with
    rollBed := Nat.max f.rollBed (m.rd R.SEC.ROLLBACK.BED_MIRROR)
    rollFw := Nat.max f.rollFw (m.rd R.SEC.ROLLBACK.FW_MIRROR) }

/-- The mailbox busy with `op`, the missing bits blown. -/
def secBlown (m : Mach) (f : Fuse) (op : Nat) : Mach := showFuses (secGo m op) (mirrored (secGo m op) f)

theorem mirrored_slots (m : Mach) (f : Fuse) : (mirrored m f).slots = f.slots := rfl

theorem mirrored_locked (m : Mach) (f : Fuse) : (mirrored m f).locked = f.locked := rfl

theorem blowMissing_vdd (m : Mach) (f : Fuse) (op : Nat) :
    blowMissing (secGo m op) f true = (secBlown m f op, mirrored (secGo m op) f) := rfl

theorem rollbackAdvance_main {m : Mach} (f : Fuse) (hserves : secServes (secGo m 4) 4 K_MAIN = true) :
    rollbackAdvance m f K_MAIN false =
      (f, ⟨rollAdvance (secGo m 4) K_MAIN (secSlot (secGo m 4) K_MAIN ((secGo m 4).rd R.SEC.STATE.FW_COMMITTED)).step false true, [], false⟩) := by
  simp only [rollbackAdvance, blowMissing, hserves, Bool.false_eq_true, if_false]
  rfl

theorem rollbackAdvance_bed {m : Mach} {f : Fuse} (hserves : secServes (secBlown m f 4) 4 K_STAGE2 = true) :
    rollbackAdvance m f K_STAGE2 true =
      (mirrored (secGo m 4) f, ⟨rollAdvance (secBlown m f 4) K_STAGE2
        (secSlot (secBlown m f 4) K_STAGE2 ((secBlown m f 4).rd R.SEC.STATE.BED_COMMITTED)).step true true, [], false⟩) := by
  have hgo : ¬((!secServes (secBlown m f 4) 4 K_STAGE2) = true ∨ (K_STAGE2 ≠ K_STAGE2 ∧ K_STAGE2 ≠ K_MAIN)) := by
    rw [hserves]
    decide
  exact if_neg hgo

/-- Whether the proof holds of the key that KEY_ENROL reads, both in `b`, over this die's identity (R615). -/
def enrolProof (m : Mach) (b : Bytes) : Bool :=
  Config.ecdsaOk (slice b 0 96) (Config.sha384 ([0x55, 0x54, 0x48, 0x4B] ++ m.dbytes D.die_id)) (slice b 96 96)

/-- The fuses with the hash of the key in `b` in slot `n` (R615). -/
def enrolled (f : Fuse) (n : Nat) (b : Bytes) : Fuse := { f with slots := setAt f.slots n (some (Config.sha384 (slice b 0 96))) }

theorem keyEnrol_decides {d : Mem} {m : Mach} {f : Fuse} {addr n : Nat} {b : Bytes} (hb : (memRead d (secBlown m f 5) addr 192).data = b)
    (hserves : secServes (secBlown m f 5) 5 0 = true)
    (hslot : f.slots.findIdx? (·.isNone) = some n) (hkey : m.dv D.key_state ≠ 1) (hopen : f.locked = false)
    (hmode : (secBlown m f 5).mode = 4 ∨ (secBlown m f 5).mode = 5) :
    keyEnrol d m f addr true =
      (if enrolProof (secBlown m f 5) b = true then enrolled (mirrored (secGo m 5) f) n b else mirrored (secGo m 5) f,
       ⟨if enrolProof (secBlown m f 5) b = true then (secEnd (secBlown m f 5) SEC_DONE).ev E.SEC.KEY
         else secEnd (secBlown m f 5) IMG_BAD_SIGNATURE, [], false⟩) := by
  have hmay : ¬((secBlown m f 5).dv D.key_state = 1 ∨ f.locked = true) := by
    rw [hopen, show (secBlown m f 5).dv D.key_state = m.dv D.key_state from Mach.dv_of_dict rfl _]
    exact fun h => h.elim hkey Bool.false_ne_true
  have hm : ¬((secBlown m f 5).mode ≠ 4 ∧ (secBlown m f 5).mode ≠ 5) := fun h => hmode.elim h.1 h.2
  simp only [keyEnrol, blowMissing_vdd, mirrored_slots, hslot, hserves, hb, mirrored_locked, hmay, hm, Bool.not_true, Bool.false_eq_true, if_false]
  unfold enrolProof
  cases Config.ecdsaOk _ _ _ <;> rfl

/-- Whether a slot of the kind would pass R610 with these fuses. -/
def leavesBootable (f : Fuse) (m : Mach) (kind : Nat) : Bool := slotPasses f m kind 0 || slotPasses f m kind 1

/-- The fuses with a slot's revoked bit blown. -/
def revoking (f : Fuse) (slot : Nat) : Fuse := { f with revoked := setBit f.revoked slot }

theorem keyRevoke_bootable {m : Mach} {f : Fuse} {slot : Nat} (hserves : secServes (secBlown m f 6) 6 0 = true) (hslot : slot < 6)
    (hmain : leavesBootable (revoking (mirrored (secGo m 6) f) slot) (secBlown m f 6) K_MAIN = true)
    (hbed : leavesBootable (revoking (mirrored (secGo m 6) f) slot) (secBlown m f 6) K_STAGE2 = true) :
    keyRevoke m f slot true =
      (revoking (mirrored (secGo m 6) f) slot, ⟨(secEnd (secBlown m f 6) SEC_DONE).ev E.SEC.KEY, [], false⟩) := by
  have hgo : ¬((!secServes (secBlown m f 6) 6 0) = true ∨ 6 ≤ slot ∨
      (!leavesBootable (revoking (mirrored (secGo m 6) f) slot) (secBlown m f 6) K_MAIN) = true ∨
      (!leavesBootable (revoking (mirrored (secGo m 6) f) slot) (secBlown m f 6) K_STAGE2) = true) := by
    rw [hserves, hmain, hbed]
    simp [hslot]
  exact if_neg hgo

theorem enrolLock_open {m : Mach} {f : Fuse} (hserves : secServes (secBlown m f 7) 7 0 = true) (hopen : f.locked = false) :
    enrolLock m f true =
      ({ mirrored (secGo m 7) f with locked := true }, ⟨(secEnd (secBlown m f 7) SEC_DONE).ev E.SEC.KEY, [], false⟩) := by
  unfold enrolLock
  change (if (!secServes (secBlown m f 7) 7 0) = true then _ else if f.locked = true then _ else _) = _
  rw [hserves, hopen]
  rfl

/-! ## Regions, release and the watchdog (R619, R627, R631) -/

theorem regionSet_accepted {m : Mach} {n base pages rights : Nat} (hserves : secServes (secGo m 8) 8 0 = true) (hlo : 3 ≤ n) (hhi : n < 32)
    (hrights : bits rights 1 0 = 3) (hapart : overlapsFixed (secGo m 8) (base / 4096 * 4096) (pages % 2 ^ 24 * 4096) = false) :
    regionSet m n base pages rights = secEnd (setRegion (secGo m 8) n base pages rights) SEC_DONE := by
  have hgo : ¬((!secServes (secGo m 8) 8 0) = true ∨ n < 3 ∨ 32 ≤ n ∨ bits rights 1 0 ≠ 3 ∨
      overlapsFixed (secGo m 8) (base / 4096 * 4096) (pages % 2 ^ 24 * 4096) = true) := by
    rw [hserves, hapart]
    simp [hrights, Nat.not_lt.mpr hlo, hhi]
  exact if_neg hgo

theorem regionSet_number (m : Mach) {n : Nat} (base pages rights : Nat) (h : n < 3 ∨ 32 ≤ n) :
    regionSet m n base pages rights = secEnd (secGo m 8) SEC_DENIED :=
  if_pos (.inr (h.elim .inl (fun h => .inr (.inl h))))

theorem watchdogExpiry_trial {m : Mach} (hpresent : m.flag R.SEC.STATE.FW_PRESENT = true)
    (htrial : (hev m 492).flag R.SEC.STATE.TRIAL_FW = true) : watchdogExpiry m = secRevert (hev m 492) := by
  simp [watchdogExpiry, hpresent, htrial]

theorem watchdogExpiry_committed {m : Mach} (hpresent : m.flag R.SEC.STATE.FW_PRESENT = true)
    (htrial : (hev m 492).flag R.SEC.STATE.TRIAL_FW = false) :
    watchdogExpiry m = releaseCores (mapMain (hev m 492) ((hev m 492).rd R.SEC.STATE.FW_COMMITTED)) 3 := by
  simp [watchdogExpiry, hpresent, htrial]

/-- The mailbox busy with a release, the nonce used up (R631). -/
def releaseBegun (m : Mach) : Mach := { secGo m 9 with sec := { (secGo m 9).sec with nonce := none } }

/-- Whether a release token is right for the challenge `c` held since `t` and the key of hash `h` (R631). -/
def releaseProof (m : Mach) (target key t : Nat) (sig c h : Bytes) : Bool :=
  decide ((secGo m 9).rtc < t + 60) && (target == 3 || target == 4) && decide (key < 6) &&
    Config.ecdsaOk (Config.keyOfHash h) (Config.sha384 ([0x55, 0x54, 0x48, 0x52, BitVec.ofNat 8 target] ++ c)) sig

theorem secRelease_toM3 {m : Mach} {f : Fuse} {key t : Nat} (sig : Bytes) {c h : Bytes} (hmode : (releaseBegun m).mode = 11)
    (hnonce : m.sec.nonce = some (c, t)) (hkey : keyHash f key = some h) (himm : m.mc.imm = none) :
    secRelease m f 3 key sig =
      if releaseProof m 3 key t sig c h = true then startImm (secEnd (releaseBegun m) SEC_DONE) 3 0 CAUSE_RELEASE false
      else secEnd (releaseBegun m) RELEASE_BAD := by
  have hn : (secGo m 9).sec.nonce = some (c, t) := hnonce
  have hi : (releaseBegun m).mc.imm.isSome = false := congrArg Option.isSome himm
  unfold secRelease
  dsimp only
  rw [hn, hkey]
  change (if (releaseBegun m).mode ≠ 11 ∨ (!releaseProof m 3 key t sig c h) = true then _ else
    if (releaseBegun m).mc.imm.isSome = true then _ else _) = _
  rw [hi, hmode]
  cases releaseProof m 3 key t sig c h <;> rfl

/-! ## The commands -/

/-- Settles O39, clause by clause from what each command's function does. -/
theorem fuseCommands : Obligations.FuseCommands := by
  unfold Obligations.FuseCommands
  refine ⟨?advanceMain, ?advanceBed, ?enrol, ?revoke, ?lock⟩
  case advanceMain =>
    exact fun s hs h => exec_unfused (g := fun _ m f => rollbackAdvance m f 2 false) rfl hs (rollbackAdvance_main (m := s.m.fresh) s.fuse h)
  case advanceBed =>
    exact fun s hs h => exec_fuses (g := fun _ m f => rollbackAdvance m f 1 true) rfl hs (rollbackAdvance_bed (m := s.m.fresh) (f := s.fuse) h)
  case enrol =>
    exact fun s addr n hs hsv hslot hk ho hm =>
      exec_fuses (g := fun d m f => keyEnrol d m f addr true) rfl hs
        (keyEnrol_decides (m := s.m.fresh) (f := s.fuse) rfl hsv hslot hk ho hm)
  case revoke =>
    exact fun s slot hs hsv hsl hm hb =>
      exec_fuses (g := fun _ m f => keyRevoke m f slot true) rfl hs (keyRevoke_bootable (m := s.m.fresh) (f := s.fuse) hsv hsl hm hb)
  case lock =>
    exact fun s hs hsv ho =>
      exec_fuses (g := fun _ m f => enrolLock m f true) rfl hs (enrolLock_open (m := s.m.fresh) (f := s.fuse) hsv ho)

/-- Settles O40, clause by clause from what each command's function does. -/
theorem bedrockCommands : Obligations.BedrockCommands := by
  unfold Obligations.BedrockCommands
  refine ⟨?kick, ?quiesced, ?expiryTrial, ?expiryCommitted, ?region, ?regionNumber, ?challenge, ?release, ?checkout, ?sram⟩
  case kick => exact fun s hs h => exec_block rfl hs (if_pos h)
  case quiesced => exact fun s hs => exec_block rfl hs rfl
  case expiryTrial => exact fun s hs hp ht => exec_block rfl hs (watchdogExpiry_trial (m := s.m.fresh) hp ht)
  case expiryCommitted => exact fun s hs hp ht => exec_block rfl hs (watchdogExpiry_committed (m := s.m.fresh) hp ht)
  case region =>
    exact fun s n base pages rights hs hsv hlo hhi hr ha => exec_block rfl hs (regionSet_accepted (m := s.m.fresh) hsv hlo hhi hr ha)
  case regionNumber => exact fun s n base pages rights hs h => exec_block rfl hs (regionSet_number s.m.fresh base pages rights h)
  case challenge => exact fun s hs => exec_block rfl hs rfl
  case release =>
    rintro s _ key t sig c hk hs hm hn hkey hi rfl
    exact exec_block rfl hs (secRelease_toM3 (m := s.m.fresh) sig hm hn hkey hi)
  case checkout => exact fun s data hs h => exec_block rfl hs (if_pos h)
  case sram => exact fun s hs => exec_block rfl hs rfl

end Sys2Proof.Machine
end

section
/-!
The Vault (spec/19_vault_persistent_state.md) and the calibration package (spec/17_calibration.md R594-R599).
-/
namespace Sys2Proof.Machine

open Sys2Proof

/-! ## Requests and reclamation (R645-R650, R661) -/

/-- A Vault request taken into the registers, BUSY (R661). -/
def vaultTaken (m : Mach) (typ key addr len : Nat) : Mach :=
  ((((((m.wr R.VAULT.REQ_TYPE.TYPE typ).wr R.VAULT.REQ_KEY.KEY key).wr R.VAULT.REQ_ADDR_LO.ADDR (addr / 16 % 2 ^ 28)).wr
    R.VAULT.REQ_ADDR_HI.ADDR (addr / 2 ^ 32)).wr R.VAULT.REQ_LEN.LEN len).add R.VAULT.REQ_STATUS.SEQ 1).wr R.VAULT.REQ_STATUS.BUSY 1

theorem vaultGo_idle {m : Mach} (p : Principal) (typ key addr len : Nat) (hbusy : m.flag R.VAULT.REQ_STATUS.BUSY = false) :
    vaultGo m p typ key addr len =
      if vaultMay p typ then vaultRequest (vaultTaken m typ key addr len) ⟨typ, key, .dram (addr / 16 * 16 % 2 ^ 36) (Nat.min len 4064), .reg⟩
      else vaultAnswerReg (vaultCode (vaultTaken m typ key addr len) VAULT_DENIED) VAULT_DENIED := by
  unfold vaultGo
  rw [hbusy]
  cases vaultMay p typ <;> rfl

theorem vaultReclaim_short {m : Mach} (hready : vaultState m = 2) (htail : m.vlt.tail ≠ m.vlt.head) (hfree : m.vlt.free < 4) :
    vaultReclaim m = reclaimTail m :=
  if_pos ⟨hready, htail, .inl hfree⟩

theorem vaultCompact_ready {m : Mach} (hready : vaultState m = 2) (htail : m.vlt.tail ≠ m.vlt.head) : vaultCompact m = reclaimTail m :=
  (if_neg (by omega)).trans (if_pos ⟨hready, htail⟩)

/-- A sector just erased (R647). -/
def sectorErased (m : Mach) (n : Nat) : Mach :=
  { m with vlt := { m.vlt with sectors := modAt m.vlt.sectors n (fun q => { q with
    ring := m.vlt.top.1 + 1, erase := if q.valid then q.erase + 1 else m.vlt.top.2 + 1, erasedAt := m.rtc % 2 ^ 32,
    valid := true, erased := true, used := 32, recs := [] }) } }

theorem sectorEraseDone_erased {m : Mach} {n : Nat} {b : Bool} (h : m.vlt.erasing = some (n, b)) (hon : m.vlt.suspended = false) :
    sectorEraseDone m true = tailNext (sectorErased m n) := by
  unfold sectorEraseDone
  rw [h, hon]
  rfl

theorem sectorEraseDone_first {m : Mach} {n : Nat} (h : m.vlt.erasing = some (n, false)) (hon : m.vlt.suspended = false) :
    sectorEraseDone m false = hev (({ m with vlt := { m.vlt with erasing := some (n, true) } } : Mach).add R.VAULT.CNT.COUNT 1 3) 323 := by
  unfold sectorEraseDone
  rw [h, hon]
  rfl

theorem sectorEraseDone_second {m : Mach} {n : Nat} (h : m.vlt.erasing = some (n, true)) (hon : m.vlt.suspended = false) :
    sectorEraseDone m false = tailNext (retireSector m n VAULT_SECTOR_RETIRED) := by
  unfold sectorEraseDone
  rw [h, hon]
  rfl

theorem vcpRefresh_old {m : Mach} {d : Bytes} {r : VRec} (hstored : m.vlt.storedVcp = some d) (hrecord : m.vlt.latest 0xA 0 = some r)
    (hage : m.vlt.oscSec + twoYears ≤ m.rtc) (hidle : m.cal.vcp = none) : vcpRefresh m = vcpWrite m d (fieldLE r.pay 8 4) := by
  unfold vcpRefresh
  rw [hstored, hrecord]
  exact if_pos ⟨hage, by rw [hidle]; rfl⟩

/-- A flash device lost (R653). -/
def deviceLost (m : Mach) (dev : Nat) : Mach :=
  ({ m with vlt := { m.vlt with devOk := clrBit m.vlt.devOk dev } } : Mach).ev E.VAULT.DEVICE_LOST

theorem flashFailed_single {m : Mach} {dev : Nat} (hok : bit m.vlt.devOk dev = true) (hleft : (deviceLost m dev).vlt.devOk ≠ 0) :
    flashFailed m dev false = vaultRefresh (vaultCode (deviceLost m dev) VAULT_SINGLE) := by
  have h : deviceFailed m dev = vaultRefresh (vaultCode (deviceLost m dev) VAULT_SINGLE) := by
    unfold deviceFailed
    rw [hok]
    exact if_pos hleft
  exact h

/-! ## A record is committed (R648, R651) -/

/-- The number of the next record. -/
def nextSeq (m : Mach) : Nat := (m.rd R.VAULT.SEQ.SEQ + 1) % 2 ^ 32

/-- The journal with the open record in it, counted and reported. -/
def recordWritten (m : Mach) (r : VReq) : Mach :=
  (vaultCode (hev ({ m.wr R.VAULT.SEQ.SEQ (nextSeq m) with
    vlt := { m.vlt.append ⟨nextSeq m, r.typ, r.key, commitPayload m r (nextSeq m), false⟩ with
      opened := none, suspended := false, failRun := (0, 0) } }.add R.VAULT.CNT.COUNT 1 0) 320) VAULT_COMMITTED).ev E.VAULT.COMMITTED

/-- What the open record's requester is told. -/
def recordAnswered (f : Fuse) (m : Mach) (r : VReq) : Fuse × Mach := commitAnswer f (recordWritten m r) r (commitPayload m r (nextSeq m))

theorem recordCommit_open (f : Fuse) {m : Mach} {r : VReq} (h : m.vlt.opened = some r) :
    recordCommit f m = ((recordAnswered f m r).1, vaultRefresh (vaultKick (doseFeed (vaultKick (recordAnswered f m r).2)))) := by
  unfold recordCommit
  rw [h]
  rfl

/-- Settles O41, clause by clause from what each command's function does. -/
theorem vaultCommands : Obligations.VaultCommands := by
  unfold Obligations.VaultCommands
  refine ⟨?request, ?denied, ?hours, ?reclaim, ?compact, ?compactBusy, ?erased, ?eraseFirst, ?eraseSecond, ?areaRefresh, ?flash, ?commit⟩
  case request =>
    exact fun s p typ key addr len hs hb hm => exec_block rfl hs ((vaultGo_idle (m := s.m.fresh) p typ key addr len hb).trans (if_pos hm))
  case denied =>
    exact fun s p typ key addr len hs hb hm =>
      exec_block rfl hs ((vaultGo_idle (m := s.m.fresh) p typ key addr len hb).trans (if_neg (ne_true_of_eq_false hm)))
  case hours => exact fun s hs => exec_block rfl hs rfl
  case reclaim => exact fun s hs h2 ht hf => exec_block rfl hs (vaultReclaim_short (m := s.m.fresh) h2 ht hf)
  case compact => exact fun s hs h2 ht => exec_block rfl hs (vaultCompact_ready (m := s.m.fresh) h2 ht)
  case compactBusy => exact fun s hs h3 => exec_block rfl hs (if_pos h3)
  case erased => exact fun s n b hs he hon => exec_block rfl hs (sectorEraseDone_erased (m := s.m.fresh) he hon)
  case eraseFirst => exact fun s n hs he hon => exec_block rfl hs (sectorEraseDone_first (m := s.m.fresh) he hon)
  case eraseSecond => exact fun s n hs he hon => exec_block rfl hs (sectorEraseDone_second (m := s.m.fresh) he hon)
  case areaRefresh => exact fun s d r hs hst hr ha hi => exec_block rfl hs (vcpRefresh_old (m := s.m.fresh) hst hr ha hi)
  case flash =>
    exact fun s dev hs hdev hok hleft =>
      exec_block rfl hs ((if_pos hdev).trans (congrArg storeCheck (flashFailed_single (m := s.m.fresh) hok hleft)))
  case commit =>
    exact fun s r hs h =>
      exec_fuses (g := fun _ m f => ((recordCommit f m).1, ⟨(recordCommit f m).2, [], false⟩)) rfl hs
        (by rw [recordCommit_open s.fuse (m := s.m.fresh) h]; rfl)

/-! ## The calibration package (R594-R599) -/

/-- An operation on the package begun. -/
def vcpBusy (m : Mach) : Mach := (m.wr R.CAL.VCP_STATUS.BUSY 1).wr R.CAL.VCP_STATUS.SKIPPED 0

theorem vcpBegin_runs {m : Mach} (go : Mach → Effect) (hserves : fwServes m = true) (hidle : m.cal.vcp = none) :
    vcpBegin m go = go (vcpBusy m) := by
  unfold vcpBegin
  rw [hserves, hidle]
  rfl

/-- The file that is exported. -/
def vcpExported (m : Mach) (secs : List Bytes) : Bytes := vcpFile (m.dbytes D.die_id) (m.dbytes D.panel_id) (uNat 64 (floorDiv m.tim.now 65536)) secs

theorem vcpExport_eq {f : Fuse} {d : Mem} {m : Mach} (addr cap : Nat) {flags : Nat} {streams : List Bytes} {x : List Bytes × Mach}
    (hx : vcpSections f d (vcpBusy m) (bit flags 0) streams = x) (hserves : fwServes m = true) (hidle : m.cal.vcp = none) :
    vcpExport f d m addr cap flags streams =
      ⟨if cap < (vcpExported x.2 x.1).length then vcpEnd x.2 VCP_TOO_LARGE
        else vcpEnd (devWrite x.2 .fw 1 addr (vcpExported x.2 x.1)).2.2
          (if (devWrite x.2 .fw 1 addr (vcpExported x.2 x.1)).1 then CAL_DONE else VCP_BAD),
       if cap < (vcpExported x.2 x.1).length then [] else (devWrite x.2 .fw 1 addr (vcpExported x.2 x.1)).2.1, false⟩ := by
  have hgo : vcpExport f d m addr cap flags streams = vcpWritten x.2 x.1 addr cap := by
    subst hx
    exact vcpBegin_runs _ hserves hidle
  rw [hgo]
  unfold vcpWritten
  by_cases h : cap < (vcpExported x.2 x.1).length
  · rw [if_pos h, if_pos h]
    exact if_pos h
  · rw [if_neg h, if_neg h]
    exact if_neg h

/-- The package in a file: the length its head gives. -/
def vcpBody (b : Bytes) : Bytes := b.take (fieldLE b 12 4)

theorem vcpStore_inOrder {d : Mem} {m : Mach} {addr len : Nat} {p : Vcp} {x : ReadEnd × Bytes × Mach} (hx : devRead d (vcpBusy m) .fw 1 addr len = x)
    (hserves : fwServes m = true) (hidle : m.cal.vcp = none) (hread : x.1 = .fine) (hparse : vcpParse x.2.1 = some p)
    (hlen : (vcpBody x.2.1).length ≤ vcpMib x.2.2 * 2 ^ 20) :
    vcpStore d m addr len =
      ⟨vcpWrite { x.2.2 with cal := { x.2.2.cal with vcp := some (2, vcpBody x.2.1) } } (vcpBody x.2.1) (crc32c (vcpBody x.2.1)), [], false⟩ := by
  obtain ⟨r, b, m'⟩ := x
  have hgo : ¬(r ≠ .fine ∨ (vcpParse b).isNone = true) := by
    rw [show vcpParse b = some p from hparse]
    exact fun h => h.elim (fun h => h hread) Bool.false_ne_true
  unfold vcpStore
  rw [vcpBegin_runs _ hserves hidle, hx]
  exact (if_neg hgo).trans (if_neg (Nat.not_lt.mpr hlen))

/-- A package's sections applied in file order (R594). -/
def vcpRun (f : Fuse) (d : Mem) (m : Mach) (p : Vcp) : VcpRun := p.secs.foldl (vcpApply f p) ⟨d, [], 0, 0, m⟩

/-- The end of a restore: the skipped sections counted, its code. -/
def vcpRestored (x : VcpRun) : Effect := ⟨vcpEnd (x.m.addSat R.CAL.VCP_STATUS.SKIPPED x.skip) (if x.part = 0 then CAL_DONE else x.part), x.wr, false⟩

theorem vcpRestoreData_inOrder (f : Fuse) (d : Mem) (m : Mach) {b : Bytes} {p : Vcp} (h : vcpParse b = some p) :
    vcpRestoreData f d m b = vcpRestored (vcpRun f d m p) := by
  unfold vcpRestoreData
  rw [h]
  rfl

theorem vcpRestore_dram {f : Fuse} {d : Mem} {m : Mach} {addr len source : Nat} {p : Vcp} {x : ReadEnd × Bytes × Mach}
    (hx : devRead d (vcpBusy m) .fw 1 addr len = x) (hserves : fwServes m = true) (hidle : m.cal.vcp = none) (hsource : source ≠ 1)
    (hread : x.1 = .fine) (hparse : vcpParse x.2.1 = some p) : vcpRestore f d m addr len source = vcpRestored (vcpRun f d x.2.2 p) := by
  obtain ⟨r, b, m'⟩ := x
  unfold vcpRestore
  rw [vcpBegin_runs _ hserves hidle, if_neg hsource, hx]
  exact (if_pos hread).trans (vcpRestoreData_inOrder f d m' hparse)

theorem vcpRestore_stored {f : Fuse} (d : Mem) {m : Mach} (addr len : Nat) {p : Vcp} (hserves : fwServes m = true) (hidle : m.cal.vcp = none)
    (hparse : vcpParse (m.vlt.storedVcp.getD []) = some p) : vcpRestore f d m addr len 1 = vcpRestored (vcpRun f d (vcpBusy m) p) := by
  unfold vcpRestore
  rw [vcpBegin_runs _ hserves hidle, if_pos rfl]
  exact vcpRestoreData_inOrder f d (vcpBusy m) hparse

/-- Settles O42, clause by clause from what each command's function does. -/
theorem packageCommands : Obligations.PackageCommands := by
  unfold Obligations.PackageCommands
  refine ⟨?exportFile, ?store, ?restoreDram, ?restoreStored⟩
  case exportFile =>
    intro s addr cap flags streams hs hfw hi
    generalize hx : vcpSections s.fuse s.mem ((s.m.fresh.wr R.CAL.VCP_STATUS.BUSY 1).wr R.CAL.VCP_STATUS.SKIPPED 0) (bit flags 0) streams = x
    exact exec_stores rfl hs (vcpExport_eq (m := s.m.fresh) addr cap hx hfw hi)
  case store =>
    exact fun s addr len p hs hfw hi hr hp hl => exec_stores rfl hs (vcpStore_inOrder (m := s.m.fresh) rfl hfw hi hr hp hl)
  case restoreDram =>
    exact fun s addr len source p hs hfw hi hsrc hr hp =>
      exec_stores rfl hs (vcpRestore_dram (m := s.m.fresh) rfl hfw hi hsrc hr hp)
  case restoreStored =>
    exact fun s addr len p hs hfw hi hp => exec_stores rfl hs (vcpRestore_stored s.mem (m := s.m.fresh) addr len hfw hi hp)

end Sys2Proof.Machine
end

section
/-!
Scene frames that arrive on the HOST path (spec/04_mbaudel_scene_format.md, spec/05_flowstone_decoder.md).
-/
namespace Sys2Proof.Machine

open Sys2Proof

/-! ## A frame's parts in stream order (R129, R141-R143) -/

/-- The highest sequence noted as a header is taken (R131). -/
def seqNoted (m : Mach) (b : Bytes) : Mach := { m with flow := { m.flow with mark := some (fieldLE b 8 4) } }

/-- A new frame queued at its place (R141). -/
def frameQueued (m : Mach) (b : Bytes) (a : Nat) : Mach :=
  queueRefresh (pathMod (setFrames (seqNoted m b) (m.flow.frames ++ [newFrame (seqNoted m b) 0 a b])) 0 (fun _ => ⟨some (fieldLE b 8 4), none⟩))

theorem headerArrives_queues {m : Mach} {b : Bytes} {a : Nat} (hrx : (pathOf m 0).rx = none) (hsel : pathSelected m 0 = true)
    (hcode : headerCode m b = 0) (hroom : m.flow.frames.length < 64) (hplace : queuePlace (seqNoted m b) (fieldLE b 24 4) = some a) :
    headerArrives m 0 b = (some a, frameQueued m b a) := by
  have hfree : (if 64 ≤ (seqNoted m b).flow.frames.length then none else queuePlace (seqNoted m b) (fieldLE b 24 4)) = some a :=
    (if_neg (Nat.not_le.mpr hroom)).trans hplace
  unfold headerArrives
  rw [hrx]
  dsimp only
  rw [hsel, hcode]
  change (match (if 64 ≤ (seqNoted m b).flow.frames.length then none else queuePlace (seqNoted m b) (fieldLE b 24 4)) with | none => _ | some a => _) = _
  rw [hfree]
  rfl

theorem hostHeader_queues {m : Mach} {b : Bytes} {a : Nat} (hrx : (pathOf m 0).rx = none) (hsel : pathSelected m 0 = true)
    (hcode : headerCode m (slice b 0 64) = 0) (hroom : m.flow.frames.length < 64)
    (hplace : queuePlace (seqNoted m (slice b 0 64)) (fieldLE (slice b 0 64) 24 4) = some a) :
    hostHeader m b = ⟨frameQueued m (slice b 0 64) a, [(a, slice b 0 64)], false⟩ := by
  unfold hostHeader
  dsimp only
  rw [headerArrives_queues hrx hsel hcode hroom hplace]

theorem hostPart_received (d : Mem) {m : Mach} {kind : Nat} {f : Frame} {arrive : Mach → Frame → Bytes → Mach} {b : Bytes} {m' : Mach}
    (hrecv : receiving m 0 kind = some f) (harrive : arrive m f b = m') (hhere : (frameOf m' f.seq).isNone = false) :
    hostPart d m kind b arrive =
      ⟨ingestHead (applyWrites d [(f.addr + f.got, b)]) m' f.seq, [(f.addr + f.got, b)], false⟩ := by
  subst harrive
  unfold hostPart
  rw [hrecv]
  dsimp only
  rw [hhere]
  rfl

theorem judged_good (m : Mach) (f : Frame) {code : Nat} (h : code = 0) : judged m f code = queueRefresh (frameMod m f.seq (fun _ => f)) :=
  if_pos h

/-- What a part's codes come to: the first one that is not 0. -/
theorem firstCode_zero {a b : Nat} (ha : a = 0) (hb : b = 0) : (if a ≠ 0 then a else b) = 0 := by
  simp [ha, hb]

/-- A frame with a slab's table entry taken. -/
def slabTaken (f : Frame) (b : Bytes) : Frame := { f.take b with slabs := f.slabs ++ [slabOf f.seq b] }

theorem slabArrives_inOrder (m : Mach) {f : Frame} {b : Bytes} (hslab : slabCode f b = 0) (htable : tableCode (slabTaken f b) = 0) :
    slabArrives m f b = queueRefresh (frameMod m f.seq (fun _ => slabTaken f b)) :=
  judged_good m (slabTaken f b) (firstCode_zero hslab htable)

theorem tileArrives_inOrder (m : Mach) {f : Frame} {b : Bytes} {sl : MSlab} (hopen : f.openSlab = some sl) (htile : tileCode f sl b = 0)
    (hindex : indexCode ((f.take b).addTile sl.id (tileOf b)) = 0) :
    tileArrives m f b = queueRefresh (frameMod m f.seq (fun _ => (f.take b).addTile sl.id (tileOf b))) := by
  unfold tileArrives
  rw [hopen]
  exact judged_good m _ (firstCode_zero htile hindex)

theorem payloadArrives_inOrder (m : Mach) {f : Frame} {b : Bytes} {id q : Nat} {t : MTile} {sl : MSlab} (hnext : f.nextPayload = some (id, q, t))
    (hslab : f.slab id = some sl) (hgap : zeros b 0 (t.off - f.got) = true) (hlen : (b.drop (t.off - f.got)).length = t.len)
    (hcode : payloadCode (b.drop (t.off - f.got)) sl.itv (f.ver != 2) = 0) :
    payloadArrives m f b = queueRefresh (frameMod m f.seq (fun _ => (f.take b).tileHere id q)) := by
  have hok : ¬((!zeros b 0 (t.off - f.got)) = true ∨ (b.drop (t.off - f.got)).length ≠ t.len) := by simp [hgap, hlen]
  unfold payloadArrives
  rw [hnext]
  dsimp only
  rw [hslab]
  exact judged_good m _ ((if_neg hok).trans hcode)

/-- A frame whose trailer has come and is right. -/
def frameEnded (f : Frame) (b : Bytes) : Frame :=
  { f.take (b.take (f.bytes - 8 - f.got)) with got := f.bytes, tail := true, st := F_COMPLETE }

theorem trailerArrives_right (m : Mach) {f : Frame} {b : Bytes} (hgap : zeros b 0 (f.bytes - 8 - f.got) = true)
    (hlen : (b.drop (f.bytes - 8 - f.got)).length = 8)
    (hcrc : fieldLE (b.drop (f.bytes - 8 - f.got)) 0 4 = Nat.xor (f.take (b.take (f.bytes - 8 - f.got))).crc 0xFFFFFFFF)
    (hend : fieldLE (b.drop (f.bytes - 8 - f.got)) 4 4 = 0x4546534D) :
    trailerArrives m f b = pathMod (queueRefresh (frameMod m f.seq (fun _ => frameEnded f b))) f.path (fun _ => ⟨none, none⟩) := by
  have hok : ¬((!zeros b 0 (f.bytes - 8 - f.got)) = true ∨ (b.drop (f.bytes - 8 - f.got)).length ≠ 8) := by simp [hgap, hlen]
  unfold trailerArrives
  dsimp only
  rw [if_neg hok, if_neg (Classical.not_not.mpr hcrc), if_neg (Classical.not_not.mpr hend)]
  exact congrArg (fun m => pathMod m f.path (fun _ => ⟨none, none⟩)) (judged_good m (frameEnded f b) rfl)

theorem hostTrailer_right {d : Mem} {m m' : Mach} {f : Frame} {b : Bytes} (hrecv : receiving m 0 4 = some f) (harrive : trailerArrives m f b = m')
    (hhere : (frameOf m' f.seq).isNone = false) :
    hostTrailer d m b =
      ⟨ingestStep (applyWrites d [(f.addr + f.got, b)]) (ingestHead (applyWrites d [(f.addr + f.got, b)]) m' f.seq), [(f.addr + f.got, b)], false⟩ := by
  unfold hostTrailer
  rw [hostPart_received d hrecv harrive hhere]

/-- Settles O43, clause by clause from what each command's function does. -/
theorem sceneCommands : Obligations.SceneCommands := by
  unfold Obligations.SceneCommands
  refine ⟨?header, ?slab, ?tile, ?payload, ?trailer⟩
  case header => exact fun s b a hs hrx hsel hc hr hp => exec_stores rfl hs (hostHeader_queues (m := s.m.fresh) hrx hsel hc hr hp)
  case slab =>
    exact fun s b f hs hr hc ht hh => exec_stores rfl hs (hostPart_received s.mem (m := s.m.fresh) hr (slabArrives_inOrder _ hc ht) hh)
  case tile =>
    exact fun s b f sl hs hr ho hc hi hh => exec_stores rfl hs (hostPart_received s.mem (m := s.m.fresh) hr (tileArrives_inOrder _ ho hc hi) hh)
  case payload =>
    exact fun s b f id q t sl hs hr hn hsl hz hl hc hh =>
      exec_stores rfl hs (hostPart_received s.mem (m := s.m.fresh) hr (payloadArrives_inOrder _ hn hsl hz hl hc) hh)
  case trailer =>
    exact fun s b f hs hr hz hl hc he hh => exec_stores rfl hs (hostTrailer_right (m := s.m.fresh) hr (trailerArrives_right _ hz hl hc he) hh)

end Sys2Proof.Machine
end

section
/-!
Flowstone (spec/05_flowstone_decoder.md): demands, decoding, background work, drain and lanes.
-/
namespace Sys2Proof.Machine

open Sys2Proof

/-! ## Reception (R141-R143) -/

/-- Bytes of a dropped frame counted (R143). -/
def lateCounted (m : Mach) (k : Nat) : Mach :=
  (hev ((hev (m.add R.FLOW.LATE_BYTES.COUNT k) 4 k).add R.FLOW.LATE_FRAMES.COUNT 1) 5).ev E.FLOW.LATE_DATA

/-- `k` of the `l` bytes still to come of a dropped frame taken. -/
def lateTaken (m : Mach) (path l k : Nat) : Mach :=
  pathMod (lateCounted m k) path (fun _ => ⟨none, if l ≤ k then none else some (some (l - k), true)⟩)

theorem lateBytes_first {m : Mach} {path k l : Nat} (hdrop : (pathOf m path).drop = some (some l, false)) (hk : k ≠ 0) (hl : k ≤ l) :
    lateBytes m path k = lateTaken m path l k := by
  have hmin : Nat.min l k = k := Nat.min_eq_right hl
  unfold lateBytes
  rw [hdrop]
  refine (if_neg (fun e => hk (hmin.symm.trans e))).trans ?_
  dsimp only
  rw [if_neg Bool.false_ne_true]
  exact congrArg (lateTaken m path l) hmin

theorem stallTimeout_receiving {m : Mach} {path q : Nat} {f : Frame} (hrx : (pathOf m path).rx = some q) (hf : frameOf m q = some f)
    (hst : f.st = F_RECEIVING) : stallTimeout m path = refuseFrame m f FRAME_INCOMPLETE := by
  unfold stallTimeout
  rw [hrx]
  dsimp only
  rw [hf]
  exact if_pos hst

/-! ## Demands (R144-R146) -/

/-- A demand at the end of those outstanding. -/
def demandQueued (m : Mach) (k : RowKey) (band req : Nat) : Mach :=
  { m with flow := { m.flow with demands := m.flow.demands ++ [⟨k, band, req, m.flow.nextArr, none, false⟩], nextArr := m.flow.nextArr + 1 } }

theorem demandRow_absent {m : Mach} {k : RowKey} (band req : Nat) (h : rowAbsent m k = true) : demandRow m k band req = (.empty, m) :=
  if_pos h

theorem demandRow_queues {m : Mach} {k : RowKey} {band req : Nat} {c : Ctx} {m' : Mach} (hm' : needCtx (demandQueued m k band req) k 0 = m')
    (habsent : rowAbsent m k = false) (hrow : growOf m k = none) (hnew : m.flow.demands.any (fun d => d.key == k) = false)
    (hroom : m.flow.demands.length < 4096) (hrun : m.rd R.FLOW.STATUS.STATE = 1) (hctx : ctxOf m' k = some c) :
    demandRow m k band req =
      (.pending, assignLanes (demandRefresh (putCtx m' { c with pinned := true, tick := m'.tickCount % 65536 }))) := by
  have hgo : ¬(4096 ≤ m.flow.demands.length ∨ m.rd R.FLOW.STATUS.STATE ≠ 1) := by omega
  subst hm'
  unfold demandRow
  rw [if_neg (ne_true_of_eq_false habsent), hrow]
  dsimp only
  rw [if_neg (ne_true_of_eq_false hnew), if_neg hgo]
  change (RowAns.pending, assignLanes (demandRefresh (match ctxOf (needCtx (demandQueued m k band req) k 0) k with | some c => _ | none => _))) = _
  rw [hctx]
  rfl

/-! ## Decoding a row (R146, R147) -/

/-- What a lane reads for row `y` of a tile that it decodes from the start of the row's segment, in a version 2 frame. -/
def rowFromStart (d : Mem) (f : Frame) (sl : MSlab) (t : MTile) (y : Nat) : Except Nat (List Nat × SegDec) :=
  let rd := payloadWord d (f.addr + t.off)
  let ent (i : Nat) : Nat := rd (4 * i) + 65536 * rd (4 * i + 2)
  let seg := y / segRows sl.itv
  decodeRow rd ⟨sl.fmt, sl.freq, t.cls, t.dmin, t.dmax⟩
    (segStart rd 4 (ent seg) (if seg + 1 < 64 / segRows sl.itv then ent (seg + 1) else t.len - 4)) none ((y + 1) % segRows sl.itv = 0)

/-- A row decoded: counted, and its demand marked as begun. -/
def rowDecoded (m : Mach) (d : Demand) : Mach :=
  let m := hev (m.add R.FLOW.ROWS_DECODED.COUNT 1) 0
  setDemands m (m.flow.demands.map (fun e => if e.arr == d.arr then { e with re := true } else e))

/-- A context after row `y` in slot `slot`, the decoder at `g` (R148). -/
def ctxAfter (m : Mach) (c : Ctx) (g : SegDec) (slot y : Nat) : Ctx :=
  { c with states := g.st, tick := m.tickCount % 65536, pred := slot, next := y + 1, segEnd := g.fin / 2, pos := g.pos / 2 }

theorem laneDecode_begins {mem : Mem} {m : Mach} (lane : Nat) {d : Demand} {f : Frame} {sl : MSlab} {t : MTile} {c : Ctx} {ws : List Nat}
    {g : SegDec} {slot : Nat} {m1 : Mach} (htile : tileFor m d.key = some (f, sl, t)) (hctx : ctxOf m d.key = some c) (hbad : f.bad = [])
    (hrow : rowToDecode m c d.key.row = (d.key.row, false, true)) (hver : f.ver = 2)
    (hdec : rowFromStart mem f sl t d.key.row = .ok (ws, g)) (hplace : placeRow m d.key ws = some (slot, m1)) :
    laneDecode mem m lane d = demandDone (putCtx (rowDecoded m1 d) (ctxAfter (rowDecoded m1 d) c g slot d.key.row)) d.key := by
  have hv : (f.ver != 2) = false := by simp [hver]
  unfold rowFromStart at hdec
  unfold laneDecode
  rw [htile, hctx]
  dsimp only at hdec ⊢
  rw [hbad, hrow, hv]
  simp only [List.find?_nil, Bool.false_eq_true, if_false]
  rw [hdec]
  dsimp only
  rw [hplace]
  simp [rowDecoded, ctxAfter]

/-! ## The commands of reception, demand and decoding -/

theorem ok_of_toOption {α : Type} {e : Except Nat α} {a : α} (h : e.toOption = some a) : e = .ok a := by
  cases e with
  | error => exact absurd h (by simp [Except.toOption])
  | ok b => exact congrArg Except.ok (Option.some.inj h)

/-- Settles O44, clause by clause from what each command's function does. -/
theorem flowstoneCommands : Obligations.FlowstoneCommands := by
  unfold Obligations.FlowstoneCommands
  refine ⟨?late, ?stall, ?flush, ?demandAbsent, ?demand, ?commit, ?commitRow⟩
  case late => exact fun s path k l hs hd hk hl => exec_block rfl hs (lateBytes_first (m := s.m.fresh) hd hk hl)
  case stall => exact fun s path q f hs hrx hf hst => exec_block rfl hs (stallTimeout_receiving (m := s.m.fresh) hrx hf hst)
  case flush => exact fun s hs => exec_block rfl hs rfl
  case demandAbsent =>
    exact fun s k band req hs h => exec_block rfl hs (by dsimp only; rw [demandRow_absent (m := s.m.fresh) band req h])
  case demand =>
    exact fun s k band req c hs ha hr hn hroom hst hc =>
      exec_block rfl hs (by dsimp only; rw [demandRow_queues (m := s.m.fresh) rfl ha hr hn hroom hst hc]; rfl)
  case commit => exact fun s lane d hs h => exec_reads rfl hs (by rw [show s.m.fresh.flow = s.m.flow from rfl, h])
  case commitRow =>
    intro s lane slot d f sl t c ws g m1 hs hd ht hc hb hr hv hdec hp
    refine exec_reads rfl hs ?_
    rw [show s.m.fresh.flow = s.m.flow from rfl, hd]
    exact laneDecode_begins lane (m := s.m.fresh) ht hc hb hr hv (ok_of_toOption hdec) hp

end Sys2Proof.Machine
end

section
/-!
Flowstone's background work, drain and lanes (spec/05_flowstone_decoder.md R148, R156-R165).
-/
namespace Sys2Proof.Machine

open Sys2Proof

/-! ## Background work (R159-R161) -/

/-- Whether background work may go on: granted, a lane free, a quota, running. -/
structure BackgroundReady (m : Mach) : Prop where
  grant : hasGrant m 1 0 = true
  lane : (lanesFree m).isEmpty = false
  quota : poolQuota m 1 ≠ 0
  runs : m.rd R.FLOW.STATUS.STATE = 1

theorem BackgroundReady.goes {m : Mach} (h : BackgroundReady m) :
    ¬((!hasGrant m C_DECODE 0) = true ∨ (lanesFree m).isEmpty = true ∨ poolQuota m 1 = 0 ∨ m.rd R.FLOW.STATUS.STATE ≠ 1) := by
  rw [show hasGrant m C_DECODE 0 = true from h.grant, h.lane]
  rintro (h1 | h1 | h1 | h1)
  · exact absurd h1 (by decide)
  · exact Bool.false_ne_true h1
  · exact h.quota h1
  · exact h1 h.runs

/-- The retries left once the first is taken. -/
def bgLeft (m : Mach) (l : List (Nat × Nat × Nat × Nat)) : Mach := { m with flow := { m.flow with bg := l } }

theorem backgroundDone_clean {mem : Mem} {m : Mach} (h : BackgroundReady m) {q sl t sg : Nat} {l : List (Nat × Nat × Nat × Nat)} {f : Frame}
    {b : BadSeg} (hbg : m.flow.bg = (q, sl, t, sg) :: l) (hf : frameOf (bgLeft m l) q = some f)
    (hb : f.bad.find? (fun b => b.slab == sl && b.tile == t && b.seg == sg) = some b) (hnew : b.tried = false)
    (hgood : checkSegment mem (bgLeft m l) ⟨q, sl, t, 0⟩ sg = none) :
    backgroundDone mem m = flowLaneEvent (clearBad (bgLeft m l) q sl t sg) b.lane b.code (sl * 2 ^ 24 + t * 2 ^ 6 + b.row) := by
  have hbad : (frameOf (bgLeft m l) q).bind (fun f => f.bad.find? (fun b => b.slab == sl && b.tile == t && b.seg == sg)) = some b := by
    rw [hf]
    exact hb
  unfold backgroundDone
  rw [if_neg h.goes, hbg]
  change (match (frameOf (bgLeft m l) q).bind (fun f => f.bad.find? (fun b => b.slab == sl && b.tile == t && b.seg == sg)) with
    | none => _ | some b => _) = _
  rw [hbad]
  dsimp only
  rw [if_neg (ne_true_of_eq_false hnew)]
  change (match checkSegment mem (bgLeft m l) ⟨q, sl, t, 0⟩ sg with | none => _ | some _ => _) = _
  rw [hgood]
  rfl

theorem backgroundDone_idle {mem : Mem} {m : Mach} (h : BackgroundReady m) (hbg : m.flow.bg = []) (hnext : nextPrecheck m = none) :
    backgroundDone mem m = m := by
  unfold backgroundDone
  rw [if_neg h.goes, hbg]
  dsimp only
  rw [hnext]

/-- One more segment of a frame pre-checked (R160). -/
def segChecked (m : Mach) (q : Nat) : Mach := frameMod m q (fun f => { f with checked := f.checked + 1 })

theorem backgroundDone_bad {mem : Mem} {m : Mach} (h : BackgroundReady m) {q sl t sg row code : Nat} {f : Frame} (hbg : m.flow.bg = [])
    (hnext : nextPrecheck m = some (q, sl, t, sg)) (hf : frameOf (segChecked m q) q = some f)
    (hcheck : checkSegment mem (segChecked m q) ⟨q, sl, t, 0⟩ sg = some (row, code)) :
    backgroundDone mem m = recordBad (segChecked m q) f ⟨q, sl, t, row⟩ sg code ((lanesFree m).headD 0) := by
  unfold backgroundDone
  rw [if_neg h.goes, hbg]
  dsimp only
  rw [hnext]
  change (match frameOf (segChecked m q) q, checkSegment mem (segChecked m q) ⟨q, sl, t, 0⟩ sg with
    | some f, some (row, code) => _ | _, _ => _) = _
  rw [hf, hcheck]
  rfl

/-! ## Drain, stop and lanes (R156, R163-R165) -/

theorem flowDrain_on {m : Mach} (h : (m.wr R.FLOW.CTRL.ENABLE 1).rd R.FLOW.STATUS.STATE ≠ 0) :
    flowDrain m true = assignLanes ((m.wr R.FLOW.CTRL.ENABLE 1).wr R.FLOW.STATUS.STATE 1) :=
  if_neg h

theorem flowDrain_off {m : Mach} (hrays : drivesRays m.mode = false) (hmode : m.mode = 5 ∨ m.mode = 10)
    (hrun : (m.wr R.FLOW.CTRL.ENABLE 0).rd R.FLOW.STATUS.STATE = 1) :
    flowDrain m false = (m.wr R.FLOW.CTRL.ENABLE 0).wr R.FLOW.STATUS.STATE 2 :=
  (if_neg Bool.false_ne_true).trans ((if_neg (ne_true_of_eq_false hrays)).trans ((if_pos hmode).trans (if_pos hrun)))

theorem flowDrain_inUse {m : Mach} (hrays : drivesRays m.mode = true) : flowDrain m false = m.wr R.FLOW.STATUS.LAST_STOP FLOW_IN_USE :=
  (if_neg Bool.false_ne_true).trans (if_pos hrays)

/-- Flowstone stopped by force, the rows its lanes were at dropped (R164). -/
def flowStopped (m : Mach) (late : Bool) : Mach :=
  ((((demandRefresh (setDemands m (m.flow.demands.filter (fun d => d.lane.isNone)))).wr R.FLOW.CTRL.ENABLE 0).wr R.FLOW.STATUS.STATE 3).wr
    R.FLOW.STATUS.LAST_STOP (if late then ABORT_LATE else ABORTED_BY_DISABLE)).ev E.FLOW.DRAINED

theorem flowForceStop_stops {m : Mach} (late : Bool) (hrays : drivesRays m.mode = false) (hmode : m.mode = 5 ∨ m.mode = 10) :
    flowForceStop m late = flowStopped m late :=
  (if_neg (ne_true_of_eq_false hrays)).trans (if_pos hmode)

/-- A context's bytes read out (R148). -/
def ctxShown (m : Mach) (i : Nat) (b : Bytes) : Mach :=
  ((m.wr R.FLOW.CTX_INDEX.INDEX i).wr R.FLOW.CTX_INDEX.SNAP_DONE 1).each (List.range 8)
    (fun m w => m.wr R.FLOW.CTX_DATA.DATA (fieldLE b (4 * w) 4) w)

theorem ctxSnapshot_held {m : Mach} {q : Nat} {c : Ctx} (h : m.flow.ctxs.find? (fun c => c.num == q % 2 ^ 18) = some c) :
    ctxSnapshot m q = ctxShown m (q % 2 ^ 18) c.bytes := by
  unfold ctxSnapshot
  dsimp only
  rw [h]
  rfl

theorem ctxSnapshot_none {m : Mach} {q : Nat} (h : m.flow.ctxs.find? (fun c => c.num == q % 2 ^ 18) = none) :
    ctxSnapshot m q = ctxShown m (q % 2 ^ 18) (List.replicate 32 0) := by
  unfold ctxSnapshot
  dsimp only
  rw [h]
  rfl

/-- Settles O45, clause by clause from what each command's function does. -/
theorem flowstoneControl : Obligations.FlowstoneControl := by
  unfold Obligations.FlowstoneControl
  refine ⟨?clean, ?idle, ?bad, ?drainOn, ?drainOff, ?inUse, ?drained, ?forceStop, ?laneError, ?ctxHeld, ?ctxNone⟩
  case clean =>
    exact fun s q sl t sg l f b hs hg hl hq hr hbg hf hb ht hc =>
      exec_reads rfl hs (backgroundDone_clean (m := s.m.fresh) ⟨hg, hl, hq, hr⟩ hbg hf hb ht hc)
  case idle => exact fun s hs hg hl hq hr hbg hn => exec_reads rfl hs (backgroundDone_idle (m := s.m.fresh) ⟨hg, hl, hq, hr⟩ hbg hn)
  case bad =>
    exact fun s q sl t sg row code f hs hg hl hq hr hbg hn hf hc =>
      exec_reads rfl hs (backgroundDone_bad (m := s.m.fresh) ⟨hg, hl, hq, hr⟩ hbg hn hf hc)
  case drainOn => exact fun s hs h => exec_block rfl hs (flowDrain_on (m := s.m.fresh) h)
  case drainOff => exact fun s hs hd hm hr => exec_block rfl hs (flowDrain_off (m := s.m.fresh) hd hm hr)
  case inUse => exact fun s hs hd => exec_block rfl hs (flowDrain_inUse (m := s.m.fresh) hd)
  case drained => exact fun s hs h2 ha => exec_block rfl hs (if_pos ⟨h2, ha⟩)
  case forceStop => exact fun s late hs hd hm => exec_block rfl hs (flowForceStop_stops (m := s.m.fresh) late hd hm)
  case laneError => exact fun s lane hs hl => exec_block rfl hs (if_pos hl)
  case ctxHeld => exact fun s q c hs h => exec_block rfl hs (ctxSnapshot_held (m := s.m.fresh) h)
  case ctxNone => exact fun s q hs h => exec_block rfl hs (ctxSnapshot_none (m := s.m.fresh) h)

end Sys2Proof.Machine
end

section
/-!
Scene claims and scene frames through Passage (spec/11_passage_fabric.md R400-R406).
-/
namespace Sys2Proof.Machine

open Sys2Proof

/-! ## Claims (R402) -/

theorem takeClaim_first {m : Mach} (c : Claim) (h : m.fab.granted = none) : takeClaim m c = grantClaim m c := by
  unfold takeClaim
  rw [h]

theorem sceneGrant_held (d : Mem) {m : Mach} {b : Bytes} (hclaim : m.fab.claim = some (fieldLE b 4 4)) (hgrant : fieldLE b 0 1 = 0) :
    sceneGrant d m b = ingestStep d (m.wr R.PASS.STATUS.CLAIM_HELD 1) := by
  simp [sceneGrant, hclaim, hgrant]

/-- The own claim of frame `q` given up (R402). -/
def claimLost (m : Mach) (q : Nat) : Mach :=
  (passCode { m.wr R.PASS.STATUS.CLAIM_HELD 0 with fab := { m.fab with claim := none, headOut := false, send := m.fab.send.filter (· != q) } }
    CLAIM_REVOKED).ev E.PASS.CLAIM_REVOKED

theorem sceneGrant_revoked (d : Mem) {m : Mach} {b : Bytes} (hclaim : m.fab.claim = some (fieldLE b 4 4)) (hgrant : fieldLE b 0 1 = 2) :
    sceneGrant d m b = ingestStep d (claimLost m (fieldLE b 4 4)) := by
  unfold sceneGrant
  dsimp only
  rw [if_neg (Classical.not_not.mpr hclaim), hgrant]
  rfl

theorem sceneRelease_holder {m : Mach} {src q : Nat} {c : Claim} (hgranted : m.fab.granted = some c) (hsrc : c.src = src) (hseq : c.seq = q) :
    sceneRelease m src q = nextClaim m := by
  unfold sceneRelease
  rw [hgranted]
  exact if_pos ⟨hsrc, hseq⟩

theorem sceneRevoke_other (d : Mem) {m : Mach} {c : Claim} (hgranted : m.fab.granted = some c) (hother : fabAddr m ≠ some c.src) :
    sceneRevoke d m = ingestStep d (nextClaim (revokeClaim m)) := by
  have hown : (fabAddr m == some c.src) = false := beq_eq_false_iff_ne.mpr hother
  unfold sceneRevoke
  rw [hgranted]
  dsimp only
  rw [hown]
  rfl

/-! ## Frames (R404-R406) -/

/-- A fragment of a frame's head kept, and the pieces it completes taken. -/
def headTaken (m : Mach) (f : Frame) (q o : Nat) (body : Bytes) : Mach :=
  headRun (f.poff / 16 + 1) (frameMod m q (fun f => { f with head := (o, body) :: f.head })) q

/-- The bytes of a head that a SCENE_HEAD carries. -/
def headBody (b : Bytes) : Bytes := b.drop (if fieldLE b 4 4 = 0 then 96 else 16)

theorem sceneHead_receiving (d : Mem) {m : Mach} {b : Bytes} {f g : Frame} (hf : frameOf m (fieldLE b 0 4) = some f) (hpath : f.path = 1)
    (hst : f.st = F_RECEIVING) (hg : frameOf (headTaken m f (fieldLE b 0 4) (fieldLE b 4 4) (headBody b)) (fieldLE b 0 4) = some g)
    (hstage : g.stage < 3) :
    sceneHead d m b =
      ⟨fabJudge (headTaken m f (fieldLE b 0 4) (fieldLE b 4 4) (headBody b)) (fieldLE b 0 4),
       [(f.addr + fieldLE b 4 4, (headBody b).take (f.poff - fieldLE b 4 4))], false⟩ := by
  have hknown : (f.path == 1 && f.st == F_RECEIVING) = true := by simp [hpath, hst]
  unfold headTaken headBody at *
  simp only [sceneHead, hf, hknown, if_true, Bool.not_true, Bool.false_eq_true, if_false, hg, Option.isNone_some, Nat.not_le.mpr hstage,
    List.nil_append]

/-- A part of tile `no` at `o` noted with those of the frame. -/
def partNoted (m : Mach) (f : Frame) (q no o len : Nat) : Mach := frameMod m q (fun g => { g with parts := (no, o, len) :: f.parts })

/-- A part that is new and does not complete its tile is kept: `suppl` says whether it comes as a supplement. -/
theorem scenePart_kept (d : Mem) {m : Mach} {suppl : Bool} {b : Bytes} {f : Frame} {sl : MSlab} {q : Nat} {t : MTile}
    (hf : frameOf m (fieldLE b 0 4) = some f) (htaken : suppl = true ∨ (f.path = 1 ∧ f.st = F_RECEIVING))
    (htile : f.tileAt (fieldLE b 4 4) = some (sl, q, t)) (hhere : t.here = false) (hcls : t.cls ≠ 0)
    (hlen : fieldLE b 8 4 + (b.drop 16).length ≤ t.len)
    (hnew : f.parts.contains (fieldLE b 4 4, fieldLE b 8 4, (b.drop 16).length) = false)
    (hmore : sumN ((((fieldLE b 4 4, fieldLE b 8 4, (b.drop 16).length) :: f.parts).filter (fun z => z.1 == fieldLE b 4 4)).map (fun z => z.2.2)) < t.len)
    (hneed : suppl = true ∨ needsTile m f.geom sl.pose sl q t = true) :
    scenePart d m suppl b =
      ⟨partNoted m f (fieldLE b 0 4) (fieldLE b 4 4) (fieldLE b 8 4) (b.drop 16).length, [(f.addr + t.off + fieldLE b 8 4, b.drop 16)], false⟩ := by
  have hgo : ¬(t.here = true ∨ t.cls = 0 ∨ t.len < fieldLE b 8 4 + (b.drop 16).length ∨
      ((!suppl) = true ∧ (!needsTile m f.geom sl.pose sl q t) = true)) := by
    rintro (h | h | h | ⟨h, h'⟩)
    · exact Bool.false_ne_true (hhere.symm.trans h)
    · exact hcls h
    · omega
    · rcases hneed with hn | hn
      · simp [hn] at h
      · simp [hn] at h'
  unfold scenePart
  dsimp only
  rw [hf]
  dsimp only
  rw [if_pos htaken]
  dsimp only [Option.bind_some]
  rw [htile]
  dsimp only [Option.map_some]
  rw [if_neg hgo, hnew]
  exact if_pos hmore

theorem sceneEnd_right {m : Mach} {b : Bytes} {f : Frame} (hf : frameOf m (fieldLE b 0 4) = some f) (hpath : f.path = 1)
    (hst : f.st = F_RECEIVING) (hmark : fieldLE b 8 4 = 0x4546534D) (hcount : fieldLE b 12 4 = f.tcount)
    (hplain : f.slabs.any (fun q => q.pers != 0) = false) :
    sceneEnd m b =
      ⟨fabJudge (frameMod m (fieldLE b 0 4) (fun f => { f with tail := true })) (fieldLE b 0 4),
       [(f.addr + f.bytes - 8, slice (b.drop 4) 0 8)], false⟩ := by
  have h1 : ¬(f.path ≠ 1 ∨ f.st ≠ F_RECEIVING) := by simp [hpath, hst]
  have h2 : ¬(fieldLE b 8 4 ≠ 0x4546534D ∨ fieldLE b 12 4 ≠ f.tcount) := by simp [hmark, hcount]
  unfold sceneEnd
  dsimp only
  rw [hf]
  dsimp only
  rw [if_neg h1, if_neg h2, hplain]
  rfl

/-- Settles O46, clause by clause from what each command's function does. -/
theorem sceneFabricCommands : Obligations.SceneFabricCommands := by
  unfold Obligations.SceneFabricCommands
  refine ⟨?claim, ?grant, ?grantLost, ?release, ?revoke, ?head, ?payload, ?suppl, ?sceneEnd⟩
  case claim =>
    intro s n p hs hn hu hw hl hm hc hlead hg
    refine exec_block rfl hs ?_
    rw [pktArrive_took s.m.fresh n p hn hu hw hl hm hc]
    exact (if_pos hlead).trans (takeClaim_first _ hg)
  case grant =>
    intro s n p hs hn hu hw hl hm hc hclaim h0
    refine exec_reads rfl hs ?_
    rw [pktArrive_took s.m.fresh n p hn hu hw hl hm hc]
    exact sceneGrant_held s.mem (m := s.m.fresh.took n p) hclaim h0
  case grantLost =>
    intro s n p hs hn hu hw hl hm hc hclaim h2
    refine exec_reads rfl hs ?_
    rw [pktArrive_took s.m.fresh n p hn hu hw hl hm hc]
    exact sceneGrant_revoked s.mem (m := s.m.fresh.took n p) hclaim h2
  case release =>
    intro s n p c hs hn hu hw hl hm hc hlead hg hsrc hseq
    refine exec_reads rfl hs ?_
    rw [pktArrive_took s.m.fresh n p hn hu hw hl hm hc]
    exact (if_pos hlead).trans (congrArg (ingestStep s.mem) (sceneRelease_holder (m := s.m.fresh.took n p) hg hsrc hseq))
  case revoke => exact fun s c hs hg ho => exec_reads rfl hs (sceneRevoke_other s.mem (m := s.m.fresh) hg ho)
  case head =>
    intro s n p f g hs hn hu hw hl hm hc hf hp hst hg hstage
    refine exec_stores rfl hs ?_
    rw [pktArrive_took s.m.fresh n p hn hu hw hl hm hc]
    exact sceneHead_receiving s.mem hf hp hst hg hstage
  case payload =>
    intro s n p f sl q t hs hn hu hw hl hm hc hf hp hst ht hh hcls hlen hnew hmore hneed
    refine exec_stores rfl hs ?_
    rw [pktArrive_took s.m.fresh n p hn hu hw hl hm hc]
    exact scenePart_kept s.mem hf (.inr ⟨hp, hst⟩) ht hh hcls hlen hnew hmore (.inr hneed)
  case suppl =>
    intro s n p f sl q t hs hn hu hw hl hm hc hf ht hh hcls hlen hnew hmore
    refine exec_stores rfl hs ?_
    rw [pktArrive_took s.m.fresh n p hn hu hw hl hm hc]
    exact scenePart_kept s.mem hf (.inl rfl) ht hh hcls hlen hnew hmore (.inl rfl)
  case sceneEnd =>
    intro s n p f hs hn hu hw hl hm hc hf hp hst hmark hcount hpers
    refine exec_stores rfl hs ?_
    rw [pktArrive_took s.m.fresh n p hn hu hw hl hm hc]
    exact sceneEnd_right hf hp hst hmark hcount hpers

end Sys2Proof.Machine
end

section
/-!
Ray rendering (spec/07_helictite_synthesis.md): bundles, the governor, faults, maps, band walks, admission and the lookahead.
-/
namespace Sys2Proof.Machine

open Sys2Proof

/-! ## Bundles (R212, R213, R231, R232) -/

/-- The bundle an engine `x` takes for place `q`. -/
def bundleAt (x : Nat) (q : Eng) : Bundle := ⟨x, q.line, q.n, 1, [], false, 0⟩

/-- A bundle of `x` issued for place `q`: it waits for the rows that are not there. -/
def bundleIssued (mem : Mem) (m : Mach) (x : Nat) (q : Eng) : Mach :=
  let waits := bundleWaits (traceBundle mem m (bundleAt x q) [])
  governorActs (missRows (setBundles m (m.hel.bundles ++ [if waits.isEmpty then bundleAt x q else { bundleAt x q with st := 2 }])) waits) x

theorem bundleIssue_active (mem : Mem) {m : Mach} {e e1 p : Nat} (hpos : (enginesActive m).findIdx? (· == e) = some p)
    (heng : engineFor m e = some e1) (hrun : helRuns m = true) (hline : (engOf m e).line < (tentry m.entry).h)
    (hroom : (bundlesOf m e1).length < 256) :
    bundleIssue mem m e =
      bundleIssued mem (setEng m e (nextPlace (enginesActive m).length p (3 * (tentry m.entry).w / 64) (engOf m e))) e1 (engOf m e) := by
  have hgo : ¬((!helRuns m) = true ∨ (tentry m.entry).h ≤ (engOf m e).line ∨ 256 ≤ (bundlesOf m e1).length) := by
    rw [hrun]
    simp only [Bool.not_true, Bool.false_eq_true, false_or]
    omega
  unfold bundleIssue
  dsimp only
  rw [hpos, heng]
  exact if_neg hgo

/-- A bundle's colours kept, its samples counted against its band's sum (R213, R232). -/
def bundleEnded (m : Mach) (b : Bundle) (line q : Nat) (rays : List RayAcc) : Mach :=
  let m := setBundles m (m.hel.bundles.map (fun z => if z.line == line && z.n == q then
    { b with st := 3, rays := rays.map (fun r => (r.c.toNat, r.a.toNat, r.sub)) } else z))
  governorActs (spendBand m (rayFrame m) (line / 64) (sumN (rays.map (·.n)))) b.eng

theorem bundleDone_whole {mem : Mem} {m : Mach} {line q : Nat} (cuts : List Cut) {b : Bundle}
    (hb : m.hel.bundles.find? (fun b => b.line == line && b.n == q && b.st != 3) = some b) (hlvl : b.lvl = 0)
    (hwaits : bundleWaits (traceBundle mem m b []) = []) (hsub : (traceBundle mem m b []).filter (·.sub) = [])
    (hended : (traceBundle mem m b []).filter (·.ended) = []) :
    bundleDone mem m line q cuts = bundleEnded m b line q (traceBundle mem m b []) := by
  obtain ⟨eng, l, n, st, rays, again, lvl⟩ := b
  obtain rfl : lvl = 0 := hlvl
  simp only [bundleDone, hb, if_true, hwaits, hsub, hended, List.isEmpty_nil, Bool.not_true, Bool.false_eq_true, if_false, List.length_nil]
  rfl

/-- The level that a slack sets (R231). -/
def slackLevel (slack : Nat) : Nat := if 1500 ≤ slack then 0 else if 750 ≤ slack then 1 else 2

/-- An engine's level set, the least slack kept. -/
def slackKept (m : Mach) (e slack : Nat) : Mach :=
  let m := setEng m e { engOf m e with level := slackLevel slack }
  m.wr R.HEL.GOV_SLACK.MIN_SLACK_NS (Nat.min (satN slack 0xFFFF) (m.rd R.HEL.GOV_SLACK.MIN_SLACK_NS))

theorem governorLevel_eq (m : Mach) {e : Nat} (slack : Nat) (h : e < 34) :
    governorLevel m e slack =
      governorActs ((slackKept m e slack).wr R.HEL.STATUS.GOV_LEVEL (maxN ((slackKept m e slack).hel.engs.map (·.level)))) e :=
  if_neg (Nat.not_le.mpr h)

/-! ## Faults (R221, R234) -/

/-- A bundle given to the next engine, to be computed again (R234). -/
def bundleAgain (m : Mach) (e : Nat) (b : Bundle) : Mach :=
  hev ((moveBundles m (fun z => z.line == b.line && z.n == b.n) (engineAfter m e)).add R.HEL.BUNDLES_RECOMPUTED.COUNT 1) 35

theorem engineError_below {m : Mach} {e : Nat} {b : Bundle} {x : Bool × Mach} (hx : bucketAdd (bundleAgain m e b) 1 e 1 0 e = x) (he : e < 34)
    (hold : oldestOf m e = some b) (hbelow : x.1 = false) : engineError m e = x.2 := by
  obtain ⟨crossed, m'⟩ := x
  obtain rfl : crossed = false := hbelow
  unfold bundleAgain at hx
  unfold engineError
  rw [if_neg (Nat.not_le.mpr he), hold]
  dsimp only
  rw [hx]
  rfl

/-- A Grotto error shown (R221). -/
def eccShown (m : Mach) (bank word : Nat) (uncorr : Bool) : Mach :=
  ((m.wr R.GROT.ECC_LAST.UNCORR (b2n uncorr)).wr R.GROT.ECC_LAST.BANK bank).wr R.GROT.ECC_LAST.WORD word

theorem grottoEcc_corrected (m : Mach) {bank word : Nat} (sample : Bool) (hbank : bank < 68) (hword : word < 393216) :
    grottoEcc m bank word false sample = hev (((eccShown m bank word false).add R.GROT.ECC_CORR.COUNT 1).ev E.GROT.ECC_CORR) 38 :=
  if_neg (by omega)

/-- An uncorrected error counted, its row dropped. -/
def rowLost (m : Mach) (bank word : Nat) : Mach :=
  dropRows (hev (((eccShown m bank word true).add R.GROT.ECC_UNCORR.COUNT 1).ev E.GROT.ECC_UNCORR) 39) (fun r => r.slot == bank * 6144 + word / 64)

theorem grottoEcc_row {m : Mach} {bank word : Nat} {x : Bool × Mach} (hx : bucketAdd (rowLost m bank word) 2 bank wUncorr 0 (bank * 2 ^ 19 + word) = x)
    (hbank : bank < 68) (hword : word < 393216) (hbelow : x.1 = false) : grottoEcc m bank word true false = x.2 := by
  obtain ⟨crossed, m'⟩ := x
  obtain rfl : crossed = false := hbelow
  unfold rowLost eccShown at hx
  unfold grottoEcc
  rw [if_neg (by omega)]
  dsimp only [Bool.not_true, Bool.false_eq_true, if_false]
  generalize List.find? _ _ = hit
  cases hit with
  | none =>
    dsimp only
    rw [hx]
    rfl
  | some r =>
    simp only [Bool.false_eq_true, if_false]
    rw [hx]
    rfl

/-! ## Drain and stop (R235, R236) -/

theorem helDrain_on {m : Mach} (h : (m.wr R.HEL.CTRL.ENABLE 1).rd R.HEL.STATUS.STATE ≠ 0) :
    helDrain m true = (m.wr R.HEL.CTRL.ENABLE 1).wr R.HEL.STATUS.STATE 1 :=
  if_neg h

theorem helDrain_off {m : Mach} (hrays : drivesRays m.mode = false) (hmode : m.mode = 5 ∨ m.mode = 10)
    (hrun : (m.wr R.HEL.CTRL.ENABLE 0).rd R.HEL.STATUS.STATE = 1) : helDrain m false = (m.wr R.HEL.CTRL.ENABLE 0).wr R.HEL.STATUS.STATE 2 :=
  (if_neg Bool.false_ne_true).trans ((if_neg (ne_true_of_eq_false hrays)).trans ((if_pos hmode).trans (if_pos hrun)))

theorem helDrain_inUse {m : Mach} (hrays : drivesRays m.mode = true) : helDrain m false = m.wr R.HEL.STATUS.LAST_STOP HEL_IN_USE :=
  (if_neg Bool.false_ne_true).trans (if_pos hrays)

/-- Helictite stopped by force, its bundles dropped (R236). -/
def helStopped (m : Mach) (late : Bool) : Mach :=
  ((((setBundles m []).wr R.HEL.CTRL.ENABLE 0).wr R.HEL.STATUS.STATE 3).wr R.HEL.STATUS.LAST_STOP
    (if late then ABORT_LATE else ABORTED_BY_DISABLE)).ev E.HEL.DRAINED

theorem helForceStop_stops {m : Mach} (late : Bool) (hrays : drivesRays m.mode = false) (hmode : m.mode = 5 ∨ m.mode = 10) :
    helForceStop m late = helStopped m late :=
  (if_neg (ne_true_of_eq_false hrays)).trans (if_pos hmode)

/-! ## Maps and band walks (R200, R225, R331) -/

/-- The base of a map held (R200). -/
def mapHeld (m : Mach) (k base : Nat) : Mach :=
  optWrite (optWrite (calAbandon m KIND_OPTICS) (mapRows k).1 (base / 4096)) (mapRows k).2 (base / 2 ^ 32)

theorem mapStart_eq (m : Mach) {k : Nat} (base : Nat) (h : k < 3) :
    mapStart m k base = setMap (mapHeld m k base) k (if mapBase (mapHeld m k base) k = 0 then 0 else 1) :=
  if_neg (Nat.not_le.mpr h)

/-- A bad map reported, its set dropped. -/
def mapBad (m : Mach) (k : Nat) : Mach := ((optCode (setMap (optDrop m) k 3) OPT_MAP_BAD).ev E.HEL.MAP_BAD).wr R.HEL.OPT_STATUS.HELD 0

theorem mapDone_verified (d : Mem) {m : Mach} {k : Nat} (hk : k < 3) (hmap : m.hel.maps.getD k 0 = 1) :
    mapDone d m k = if mapGood d m (if k = 0 then 0 else 1) (mapBase m k) then setMap m k 2 else mapBad m k :=
  if_neg (by rw [hmap]; omega)

theorem walkStart_complete {m : Mach} {q : Nat} {f : Frame} (hf : frameOf m q = some f) (hwalk : f.walk = false) (hst : f.st = F_COMPLETE)
    (hplan : f.plan = none) (hslot : planSlotFree m = true) :
    walkStart m q false = queueRefresh (frameMod m q (fun f => { f with walk := true, planOpt := false })) := by
  have hgo : ¬(f.walk = true ∨ f.st = F_BASE ∨ (f.st = F_RECEIVING ∧ f.stage < 3) ∨ (!f.plan.isNone) = true ∨ (!planSlotFree m) = true) := by
    rw [hwalk, hst, hplan, hslot]
    simp [F_COMPLETE, F_BASE, F_RECEIVING]
  unfold walkStart
  rw [hf]
  exact if_neg hgo

/-- A frame with the plan its walk found. -/
def planned (plan : List BandPlan) (g : Frame) : Frame :=
  if g.planOpt then { g with walk := false, plan2 := some plan } else { g with walk := false, plan := some plan }

theorem walkDone_plan {d : Mem} {m : Mach} {q : Nat} {plan : List BandPlan} {f : Frame} (hf : frameOf m q = some f) (hwalk : f.walk = true)
    (hver : f.ver ≠ 0x81) (hcovers : planCovers plan (walkBounds d m f f.planOpt) = true) :
    walkDone d m q plan = queueRefresh (frameMod m q (planned plan)) := by
  unfold walkDone
  rw [hf]
  dsimp only
  rw [hwalk, if_neg (by decide), if_neg hver, hcovers]
  rfl

theorem walkDone_flat (d : Mem) {m : Mach} {q : Nat} (plan : List BandPlan) {f : Frame} (hf : frameOf m q = some f) (hwalk : f.walk = true)
    (hver : f.ver = 0x81) :
    walkDone d m q plan = queueRefresh (frameMod m q (fun g => { g with walk := false, plan := some (flatPlan m f) })) := by
  unfold walkDone
  rw [hf]
  dsimp only
  rw [hwalk, if_neg (by decide)]
  exact if_pos hver

/-! ## Admission and the lookahead (R20, R219, R229, R230) -/

theorem admissionCheck_judges {m : Mach} {q : Nat} {f : Frame} (hf : frameOf m q = some f) (hst : f.st ≤ F_COMPLETE)
    (hdue : dueAt f (nextTick m) = true) (hmode : launchMode (modeDue m).1 = true) : admissionCheck m q = admitFrame m f := by
  unfold admissionCheck
  rw [hf]
  exact if_pos ⟨hst, hdue, hmode⟩

theorem admitFrame_receiving {m : Mach} {f : Frame} (hst : f.st = F_RECEIVING) : admitFrame m f = refuseFrame m f FRAME_INCOMPLETE :=
  if_pos hst

theorem admitFrame_admits {m : Mach} {f : Frame} {sl : List MSlab} {x : Nat × Mach} (hx : admitSums m f (modeDue m).2 = x)
    (hst : f.st = F_COMPLETE) (hbase : baseCheck m f = .ok sl) (hkind : kindOk f (modeDue m).1 = true) (hsums : x.1 = 0) :
    admitFrame m f = queueRefresh (frameMod x.2 f.seq (fun g => { g with st := F_ADMITTED, slabs := sl })) := by
  obtain ⟨r, m'⟩ := x
  obtain rfl : r = 0 := hsums
  have hcame : ¬f.st = F_RECEIVING := by rw [hst]; decide
  unfold admitFrame
  dsimp only
  rw [if_neg hcame, hbase]
  dsimp only
  rw [hkind, hx]
  rfl

/-- The rows a frame's plan names for band `k`. -/
def bandRows (m : Mach) (f : Frame) (k : Nat) : List RowKey :=
  match planBand f k with
  | some p => planRows m p
  | none => []

/-- The next band in progress, the rows of the band before released (R219). -/
def bandMoved (m : Mach) (f : Frame) : Mach :=
  let m' := releaseExcept m (bandRows m f (m.hel.band + 1)) (bandRows m f (m.hel.band + 1 - 1))
  { m' with hel := { m'.hel with band := m.hel.band + 1 } }

theorem bandAdvance_done {m : Mach} {f : Frame} (hf : rayFrame m = some f) (hrun : helRuns m = true)
    (hmore : m.hel.band + 1 < (tentry m.entry).bands) (hdone : bandDone m (m.hel.band + 1 - 1) = true) :
    bandAdvance m = recheck (demandBand (bandMoved m f) f (m.hel.band + 2)) f (m.hel.band + 2) := by
  have hgo : ¬((!helRuns m) = true ∨ (tentry m.entry).bands ≤ m.hel.band + 1 ∨ (!bandDone m (m.hel.band + 1 - 1)) = true) := by
    rw [hrun, hdone]
    simp only [Bool.not_true, Bool.false_eq_true, false_or, or_false]
    omega
  unfold bandAdvance
  dsimp only
  rw [hf]
  exact if_neg hgo

/-! ## The commands of ray rendering -/

/-- Settles O47, clause by clause from what each command's function does. -/
theorem rayCommands : Obligations.RayCommands := by
  unfold Obligations.RayCommands
  refine ⟨?issue, ?done, ?governor, ?engineError, ?eccCorrected, ?eccRow, ?drainOn, ?drainOff, ?inUse, ?drained, ?forceStop, ?mapStart,
    ?mapDone, ?walkStart, ?walkPlan, ?walkFlat, ?admission, ?incomplete, ?advance⟩
  case issue => exact fun s e e1 p hs hp he hr hl hb => exec_reads rfl hs (bundleIssue_active s.mem (m := s.m.fresh) hp he hr hl hb)
  case done => exact fun s line q cuts b hs hb hl hw hsub he => exec_reads rfl hs (bundleDone_whole (m := s.m.fresh) cuts hb hl hw hsub he)
  case governor =>
    rintro s e slack _ hs he rfl
    exact exec_block rfl hs (governorLevel_eq s.m.fresh slack he)
  case engineError => exact fun s e b hs he hb hx => exec_block rfl hs (engineError_below (m := s.m.fresh) rfl he hb hx)
  case eccCorrected => exact fun s bank word sample hs hb hw => exec_block rfl hs (grottoEcc_corrected s.m.fresh sample hb hw)
  case eccRow => exact fun s bank word hs hb hw hx => exec_block rfl hs (grottoEcc_row (m := s.m.fresh) rfl hb hw hx)
  case drainOn => exact fun s hs h => exec_block rfl hs (helDrain_on (m := s.m.fresh) h)
  case drainOff => exact fun s hs hd hm hr => exec_block rfl hs (helDrain_off (m := s.m.fresh) hd hm hr)
  case inUse => exact fun s hs hd => exec_block rfl hs (helDrain_inUse (m := s.m.fresh) hd)
  case drained => exact fun s hs h2 ha => exec_block rfl hs (if_pos ⟨h2, ha⟩)
  case forceStop => exact fun s late hs hd hm => exec_block rfl hs (helForceStop_stops (m := s.m.fresh) late hd hm)
  case mapStart =>
    exact fun s k base hs hk => exec_block rfl hs ((if_pos hk).trans (congrArg deferNote (mapStart_eq s.m.fresh base hk)))
  case mapDone => exact fun s k hs hk hm => exec_reads rfl hs (mapDone_verified s.mem (m := s.m.fresh) hk hm)
  case walkStart => exact fun s q f hs hf hw hst hp hsl => exec_block rfl hs (walkStart_complete (m := s.m.fresh) hf hw hst hp hsl)
  case walkPlan => exact fun s q plan f hs hf hw hv hc => exec_reads rfl hs (walkDone_plan (m := s.m.fresh) hf hw hv hc)
  case walkFlat => exact fun s q plan f hs hf hw hv => exec_reads rfl hs (walkDone_flat s.mem (m := s.m.fresh) plan hf hw hv)
  case admission =>
    exact fun s q f sl hs hf hst hd hl hb hk hsum =>
      exec_block rfl hs ((admissionCheck_judges (m := s.m.fresh) hf (Nat.le_of_eq hst) hd hl).trans (admitFrame_admits rfl hst hb hk hsum))
  case incomplete =>
    exact fun s q f hs hf hst hd hl =>
      exec_block rfl hs ((admissionCheck_judges (m := s.m.fresh) hf (by rw [hst]; decide) hd hl).trans (admitFrame_receiving hst))
  case advance => exact fun s f hs hf hr hm hd => exec_block rfl hs (bandAdvance_done (m := s.m.fresh) hf hr hm hd)

end Sys2Proof.Machine
end

section
/-!
Gallery, scan-out, Echo and the view tap (spec/08_gallery_composition.md, spec/09_scanout_and_panel_driving.md).
-/
namespace Sys2Proof.Machine

open Sys2Proof

/-! ## Commits and loads (R257, R260, R274) -/

/-- A commit's token taken. -/
def galToken (m : Mach) (tok : Nat) : Mach := m.wr R.GAL.COMMIT.TOKEN tok

/-- The loads that a set needs asked for (R260). -/
def galLoads (m : Mach) (g : GSnap) : Mach := m.emits ((loadsOf m.gal.force g).map (fun k => Out.start 2 k))

/-- A set with the images it keeps and those it waits for. -/
def galLoading (m : Mach) (g : GSnap) : GSnap := { g with depth := imagesKept m.gal.force g, load := loadsOf m.gal.force g }

/-- A set pending for the coming tick, the one deferred as it was (R257). -/
def galPended (m : Mach) (g : GSnap) : Mach :=
  ({ m with gal := { m.gal with pend := some g, defer := m.gal.defer } } : Mach).wr R.GAL.COMMIT_STATUS.HELD 0

theorem galCommit_pends {m : Mach} {tok : Nat} {g : GSnap} (hg : snapshot (galToken m tok) (tok % 65536) = g)
    (hgood : setReason (galToken m tok).gal.force g (galEntryDue (galToken m tok)) (galMibDue (galToken m tok)) = 0)
    (hopen : m.mc.deadline = false) (hnone : m.gal.pend = none) (hheld : (galLoads (galToken m tok) g).flag R.GAL.COMMIT_STATUS.HELD = false) :
    galCommit m tok =
      (GAL_PENDING, galRefresh (galResult (galPended (galLoads (galToken m tok) g) (galLoading (galToken m tok) g)) GAL_PENDING 0)) := by
  subst hg
  have hwas : (galLoads (galToken m tok) (snapshot (galToken m tok) (tok % 65536))).gal.pend.isSome = false := congrArg Option.isSome hnone
  have hd : (galLoads (galToken m tok) (snapshot (galToken m tok) (tok % 65536))).mc.deadline = false := hopen
  unfold galLoads galToken at *
  unfold galCommit
  dsimp only
  rw [if_neg (Classical.not_not.mpr hgood), hd, hwas, hheld]
  rfl

/-- The protected layer's set: its registers, and its image where it is enabled (R274). -/
def plSet (d : Mem) (m : Mach) (tok : Nat) : PlSnap :=
  ⟨tok % 65536, SMap.keep m.regs plKey,
    if m.rd R.GAL.PL_CTRL.ENABLE = 1 then Mem.read d (m.rd R.GAL.PL_BASE_HI.BASE * 2 ^ 32 + m.rd R.GAL.PL_BASE_LO.BASE)
      (ceilDiv (m.rd R.GAL.PL_WH.W) 2 * m.rd R.GAL.PL_WH.H) else []⟩

/-- The protected layer's set pending. -/
def plPended (m : Mach) (g : PlSnap) : Mach :=
  plRefresh ((({ m with gal := { m.gal with plPend := some g } } : Mach).wr R.GAL.PL_STATUS.RESULT GAL_PENDING).wr R.GAL.PL_STATUS.REASON 0)

theorem plCommit_pends (d : Mem) {m : Mach} {tok : Nat} (hw : (m.wr R.GAL.PL_COMMIT.TOKEN tok).rd R.GAL.PL_WH.W ≤ 4096)
    (hh : (m.wr R.GAL.PL_COMMIT.TOKEN tok).rd R.GAL.PL_WH.H ≤ 1024) (hopen : m.mc.deadline = false) :
    plCommit d m tok = plPended (m.wr R.GAL.PL_COMMIT.TOKEN tok) (plSet d (m.wr R.GAL.PL_COMMIT.TOKEN tok) tok) := by
  have hsize : ¬(4096 < (m.wr R.GAL.PL_COMMIT.TOKEN tok).rd R.GAL.PL_WH.W ∨ 1024 < (m.wr R.GAL.PL_COMMIT.TOKEN tok).rd R.GAL.PL_WH.H) := by omega
  have hd : (m.wr R.GAL.PL_COMMIT.TOKEN tok).mc.deadline = false := hopen
  unfold plCommit
  dsimp only
  rw [if_neg hsize, hd]
  rfl

theorem depthLoaded_due (d : Mem) {m : Mach} {layer : Nat} {q : GSnap} (hpend : m.gal.pend = some q) (hload : q.load.contains layer = true) :
    depthLoaded d m layer = { m with gal := { m.gal with pend := some (loadInto d q layer) } } := by
  unfold depthLoaded
  rw [hpend]
  exact if_pos hload

/-! ## Spans (R318, R327, R685) -/

/-- A span of the raster is due: the frame runs, a line and a bundle are left, and the span is not the first of its line. -/
structure SpanDue (m : Mach) : Prop where
  runs : m.scan.frame = 1
  line : m.scan.nextY < (tentry (rasterEntry m)).h
  bundles : (demandList m).isEmpty = false
  inLine : (m.scan.nextK == 0 && m.scan.nextQ == 0) = false

theorem SpanDue.goes {m : Mach} (h : SpanDue m) :
    ¬(m.scan.frame ≠ 1 ∨ (tentry (rasterEntry m)).h ≤ m.scan.nextY ∨ (demandList m).isEmpty = true) := by
  rw [h.bundles]
  rintro (hf | hl | he)
  · exact hf h.runs
  · exact Nat.not_le.mpr h.line hl
  · exact Bool.false_ne_true he

/-- The bundle whose span is next. -/
def spanBundle (m : Mach) : Nat := (demandList m).getD m.scan.nextK 0

/-- The number of the next span in its line. -/
def spanNumber (m : Mach) : Nat := spanBundle m * ((tentry (rasterEntry m)).cols / 64) + m.scan.nextQ

theorem spanDemand_lantern (d : Mem) {m : Mach} (late bad : List Nat) (h : SpanDue m) (hrays : drivesRays m.mode = false) :
    spanDemand d m late bad =
      nextSpan (sendSpan (glowBad m bad) (tentry (rasterEntry m)) (spanBundle m) m.scan.nextY m.scan.nextQ
        (lanternSpan (glowBad m bad) (64 * spanNumber m) m.scan.nextY)) (tentry (rasterEntry m)) (demandList m).length := by
  unfold spanDemand
  dsimp only
  rw [if_neg h.goes]
  simp only [h.inLine, h.runs, hrays, if_false, Bool.false_eq_true, Bool.false_and, ne_eq, not_true_eq_false]
  rfl

/-- The three bundles of the next span that are DONE. -/
def spanBundles (m : Mach) : List (Option Bundle) :=
  (List.range 3).map (fun i => m.hel.bundles.find? (fun b => b.line == m.scan.nextY && b.n == 3 * spanNumber m + i && b.st == 3))

/-- Their rays, none where no frame is traced. -/
def spanRays (m : Mach) : List (Nat × Nat × Bool) :=
  (spanBundles m).foldr (fun o acc => (match o with | some b => b.rays | none => List.replicate 64 (0, 0, false)) ++ acc) []

/-- The next span's samples as composed (R318). -/
def spanComposed (d : Mem) (m : Mach) := spanOut d m (64 * spanNumber m) m.scan.nextY (spanRays m)

/-- The next span's bundles given up and its samples kept for the line. -/
def spanTaken (d : Mem) (m : Mach) : Mach :=
  { setBundles m (m.hel.bundles.filter (fun b => !(b.line == m.scan.nextY && b.n / 3 == spanNumber m))) with
    gal := { m.gal with line := SMap.ins m.gal.line (spanNumber m) (spanComposed d m) } }

theorem raySpan_composed (d : Mem) {m : Mach} (h : ((rayFrame m).isSome && !(spanBundles m).all (·.isSome)) = false) :
    raySpan d m (tentry (rasterEntry m)) m.scan.nextY (spanBundle m) m.scan.nextQ =
      sendSpan (spanTaken d m) (tentry (rasterEntry m)) (spanBundle m) m.scan.nextY m.scan.nextQ ((spanComposed d m).map (·.post)) :=
  if_neg (ne_true_of_eq_false h)

theorem spanDemand_rays {d : Mem} {m m' : Mach} (late bad : List Nat)
    (hm' : raySpan d m (tentry (rasterEntry m)) m.scan.nextY (spanBundle m) m.scan.nextQ = m') (h : SpanDue m) (hrays : drivesRays m.mode = true)
    (hframe : m'.scan.frame = 1) (hline : (nextSpan m' (tentry (rasterEntry m)) (demandList m).length).scan.nextY = m.scan.nextY) :
    spanDemand d m late bad = nextSpan m' (tentry (rasterEntry m)) (demandList m).length := by
  unfold spanBundle at hm'
  unfold spanDemand
  dsimp only
  rw [if_neg h.goes]
  simp only [h.inLine, h.runs, hrays, if_false, if_true, Bool.false_eq_true, Bool.false_and, ne_eq, not_true_eq_false, hm', hframe, hline]

/-! ## Band, frame and line ends (R315, R334, R354) -/

theorem bandEnd_due {m : Mach} (hframe : m.scan.frame = 1) (hline : 64 * (m.scan.mismBand + 1) ≤ m.scan.nextY) :
    bandEnd m =
      { (m.wr R.SCAN.ECHO_BAND.BAND m.scan.mismBand).wr R.SCAN.ECHO_BAND.COUNT (satN m.scan.mism 0xFFFF) with
        scan := { m.scan with mism := 0, mismBand := m.scan.mismBand + 1 } } :=
  if_neg (by omega)

/-- The frame-end on every lane in use. -/
def frameEnds (m : Mach) : List Out :=
  (demandList m).foldr (fun k acc =>
    (maskLanes m k).map (fun l => Out.lane l 0x11 [m.scan.frameTick % 65536, (tentry (rasterEntry m)).h]) ++ acc) []

/-- The raster dark after its frame-end, a capture at its end (R315). -/
def rasterDark (m : Mach) : Mach :=
  (({ m.emits (frameEnds m) with
    scan := { m.scan with frame := 3 }, gal := { m.gal with tap := m.gal.tap.map (fun c => { c with fin := 1 }) } } : Mach).wr
    R.SCAN.STATUS.DARK 1).wr R.SYS.TICK_STATUS.IN_BLANK 1

theorem frameEnd_due {m : Mach} (hframe : m.scan.frame = 1) (hline : (tentry (rasterEntry m)).h ≤ m.scan.nextY) : frameEnd m = rasterDark m :=
  if_neg (by omega)

/-- The CRCs of lines still to be checked, without one bundle's of one line. -/
def lineChecked (m : Mach) (k ln : Nat) : Mach :=
  { m with scan := { m.scan with lineCrcs := m.scan.lineCrcs.filter (fun z => !(z.1 == k && z.2.1 == ln)) } }

theorem echoCheck_matches {m : Mach} {k ln crc : Nat} {e : Nat × Nat × Nat}
    (hline : m.scan.lineCrcs.find? (fun e => e.1 == k && e.2.1 == ln) = some e) (hspur : m.scan.spur.contains k = false)
    (hcrc : (e.2.2 == crc % 2 ^ 32) = true) :
    echoCheck m k ln crc 0 =
      { hev ((lineChecked m k ln).add R.SCAN.ECHO_LINES_CHECKED.COUNT 1) 97 with
        scan := { (lineChecked m k ln).scan with spur := m.scan.spur.filter (fun z => z != k) } } := by
  have hs : (hev ((lineChecked m k ln).add R.SCAN.ECHO_LINES_CHECKED.COUNT 1) 97).scan = (lineChecked m k ln).scan := by
    rw [hev_scan]
    rfl
  have hnone : bitList 4 0 = [] := by decide
  unfold lineChecked at *
  simp only [echoCheck, hline, hs, hspur, hcrc, hnone, Bool.false_eq_true, if_false, List.map_nil, List.filter_nil, List.isEmpty_nil,
    Bool.not_true, Bool.true_or, Bool.and_self, if_true, Mach.evIf]

/-! ## The view tap (R297-R302) -/

/-- A capture is due: the tap runs with none in hand, at the first span of a frame that it takes. -/
structure TapDue (m : Mach) : Prop where
  runs : m.rd R.GAL.TAP_STATUS.STATE = 1
  free : m.gal.tap = none
  frame : m.scan.frame = 1
  y : m.scan.nextY = 0
  q : m.scan.nextQ = 0
  k : m.scan.nextK = 0
  rays : drivesRays m.mode = true
  divide : m.scan.frameTick % tapField m R.GAL.TAP_CTRL.DIVIDE = 0

theorem TapDue.goes {m : Mach} (h : TapDue m) :
    ¬(m.rd R.GAL.TAP_STATUS.STATE ≠ 1 ∨ m.gal.tap.isSome = true ∨ m.scan.frame ≠ 1 ∨ m.scan.nextY ≠ 0 ∨ m.scan.nextQ ≠ 0 ∨ m.scan.nextK ≠ 0 ∨
      (!drivesRays m.mode) = true ∨ m.scan.frameTick % tapField m R.GAL.TAP_CTRL.DIVIDE ≠ 0) := by
  simp [h.runs, h.free, h.frame, h.y, h.q, h.k, h.rays, h.divide]

theorem tapStart_stopped {m : Mach} (h : m.rd R.GAL.TAP_STATUS.STATE ≠ 1) : tapStart m = m := if_pos (.inl h)

/-- A capture counted. -/
def tapCounted (m : Mach) : Mach := m.add R.GAL.TAP_STATUS.SEQ 1

/-- A capture counted, its tokens asked for. -/
def tapAsked (m : Mach) : Mach := chimRequest (tapCounted m) C_TAP 0 ((tapCounted m).dv D.tap_tokens)

/-- How many buffers the tap goes round. -/
def tapBuffers (m : Mach) : Nat := tapField m R.GAL.TAP_CTRL.COUNT_M1 + 1

/-- A capture begun in the next buffer. -/
def tapBegun (m : Mach) (tick : Nat) : Mach :=
  { m with gal := { m.gal with
    tap := some ⟨m.gal.tapBuf % tapBuffers m, tick, ((currentFrame m).map (·.seq)).getD 0, [], 0⟩
    tapBuf := (m.gal.tapBuf + 1) % tapBuffers m } }

theorem tapStart_due {m : Mach} (h : TapDue m) (hmode : tapField (tapCounted m) R.GAL.TAP_CTRL.MODE = 0) :
    tapStart m =
      if !holdsGrant (tapAsked m) C_TAP 0 then tapSkip (chimRelease (tapAsked m) C_TAP 0) else tapBegun (tapAsked m) m.scan.frameTick := by
  have hm : ¬(tapField (tapCounted m) R.GAL.TAP_CTRL.MODE = 1 ∧ (!((optNow m).rmode == 1 && (optNow m).model == 1)) = true) := by
    rw [hmode]
    exact fun h => absurd h.1 (by decide)
  exact (if_neg h.goes).trans (if_neg hm)

theorem tapDone_whole {m : Mach} (full : Bool) {c : Capture} (hc : m.gal.tap = some c) (hfin : c.fin = 1) :
    tapDone m full =
      ⟨tapDrained (if full then tapCode (tapEnd m c (!full) false).2 TAP_OVERRUN else (tapEnd m c (!full) false).2),
       (tapEnd m c (!full) false).1, false⟩ := by
  have h0 : ¬c.fin = 0 := by omega
  have h1 : (c.fin == 1 && !full) = !full := by simp [hfin]
  have h2 : (c.fin == 2) = false := by simp [hfin]
  unfold tapDone
  rw [hc]
  dsimp only
  rw [if_neg h0, h1, h2]

/-- The tap disabled and stopped. -/
def tapStopped (m : Mach) : Mach := (m.wr R.GAL.TAP_CTRL.ENABLE 0).wr R.GAL.TAP_STATUS.STATE 3

theorem tapForceStop_idle {m : Mach} (late : Bool) (h : m.gal.tap = none) : tapForceStop m late = ⟨tapStopped m, [], false⟩ := by
  unfold tapForceStop
  rw [h]
  rfl

theorem tapForceStop_cut {m : Mach} {c : Capture} (h : m.gal.tap = some c) :
    tapForceStop m false =
      ⟨tapStopped (tapCode (tapEnd m c false (c.fin == 2)).2 ABORTED_BY_DISABLE), (tapEnd m c false (c.fin == 2)).1, false⟩ := by
  unfold tapForceStop
  rw [h]
  rfl

/-! ## The commands of Gallery, scan-out, Echo and the view tap -/

/-- Settles O48, clause by clause from what each command's function does. -/
theorem scanCommands : Obligations.ScanCommands := by
  unfold Obligations.ScanCommands
  refine ⟨?commit, ?plCommit, ?depth, ?spanLantern, ?spanRays, ?bandEnd, ?frameEnd, ?echo, ?tapOff, ?tapGranted, ?tapSkipped, ?tapDone,
    ?drainOn, ?drainOff, ?stopIdle, ?stopCut⟩
  case commit =>
    exact fun s tok hs hr hd hp hh => exec_block rfl hs (congrArg Prod.snd (galCommit_pends (m := s.m.fresh) rfl hr hd hp hh))
  case plCommit => exact fun s tok hs hw hh hd => exec_reads rfl hs (plCommit_pends s.mem (m := s.m.fresh) hw hh hd)
  case depth => exact fun s layer q hs hp hl => exec_reads rfl hs (depthLoaded_due s.mem (m := s.m.fresh) hp hl)
  case spanLantern =>
    exact fun s late bad hs hf hy hb hr hk => exec_reads rfl hs (spanDemand_lantern s.mem (m := s.m.fresh) late bad ⟨hf, hy, hb, hk⟩ hr)
  case spanRays =>
    exact fun s late bad hs hf hy hb hr hk hframe hline htraced =>
      exec_reads rfl hs ((spanDemand_rays (m := s.m.fresh) late bad rfl ⟨hf, hy, hb, hk⟩ hr hframe hline).trans
        (congrArg (fun m => nextSpan m (tentry (rasterEntry s.m.fresh)) (demandList s.m.fresh).length) (raySpan_composed s.mem htraced)))
  case bandEnd => exact fun s hs hf hl => exec_block rfl hs (bandEnd_due (m := s.m.fresh) hf hl)
  case frameEnd => exact fun s hs hf hl => exec_block rfl hs (frameEnd_due (m := s.m.fresh) hf hl)
  case echo => exact fun s k ln crc e hs he hsp hc => exec_block rfl hs (echoCheck_matches (m := s.m.fresh) he hsp hc)
  case tapOff => exact fun s hs h => exec_block rfl hs (tapStart_stopped (m := s.m.fresh) h)
  case tapGranted =>
    exact fun s hs h1 h2 h3 h4 h5 h6 h7 h8 hm hg =>
      exec_block rfl hs ((tapStart_due (m := s.m.fresh) ⟨h1, h2, h3, h4, h5, h6, h7, h8⟩ hm).trans
        (if_neg (ne_true_of_eq_false (congrArg (!·) hg))))
  case tapSkipped =>
    exact fun s hs h1 h2 h3 h4 h5 h6 h7 h8 hm hg =>
      exec_block rfl hs ((tapStart_due (m := s.m.fresh) ⟨h1, h2, h3, h4, h5, h6, h7, h8⟩ hm).trans (if_pos (congrArg (!·) hg)))
  case tapDone => exact fun s full c hs hc hf => exec_stores rfl hs (tapDone_whole (m := s.m.fresh) full hc hf)
  case drainOn => exact fun s hs => exec_block rfl hs rfl
  case drainOff => exact fun s hs h => exec_block rfl hs (if_pos h)
  case stopIdle => exact fun s late hs h => exec_stores rfl hs (tapForceStop_idle (m := s.m.fresh) late h)
  case stopCut => exact fun s c hs h => exec_stores rfl hs (tapForceStop_cut (m := s.m.fresh) h)

end Sys2Proof.Machine
end

section
/-!
The tick and its deadline (spec/01_architecture.md R16, R17), and the sensors (spec/16_power_and_thermal.md R562-R566).
-/
namespace Sys2Proof.Machine

open Sys2Proof

/-! ## COMMIT_DEADLINE and TICK -/

/-- What the deadline fixes for the coming tick, in its order (R17). -/
def deadlineFixed (m : Mach) : Mach :=
  let m := driveDeadline (lanesDeadline (secDeadline (thermDeadline m)))
  let m := galDeadline (optDeadline (blendStep m) (fun f => dueAt f (nextTick m)))
  (({ m with mc := { m.mc with deadline := true } } : Mach).wr R.SYS.TICK_STATUS.COMMIT_OPEN 0).ev E.SYS.DEADLINE

theorem judgeDue_judged {m : Mach} (h : unjudged m = []) : judgeDue m = m := by
  unfold judgeDue
  rw [h]
  rfl

theorem deadlinePass_due {m : Mach} (hdue : (nextTick m - 40000) * 65536 ≤ m.tim.now) (hjudged : unjudged m = []) :
    deadlinePass m = deadlineFixed m := by
  unfold deadlinePass
  dsimp only
  rw [if_neg (Int.not_lt.mpr hdue), judgeDue_judged hjudged, ite_self]
  rfl

theorem commitDeadline_due {m : Mach} (hopen : m.mc.deadline = false) (hdue : (nextTick m - 40000) * 65536 ≤ m.tim.now)
    (hjudged : unjudged m = []) : commitDeadline m = deadlineFixed m :=
  (if_neg (ne_true_of_eq_false hopen)).trans (deadlinePass_due hdue hjudged)

/-- Settles O49, clause by clause from what each command's function does. -/
theorem tickCommands : Obligations.TickCommands := by
  unfold Obligations.TickCommands
  refine ⟨?due, ?passed, ?tick⟩
  case due => exact fun s hs ho hd hj => exec_block rfl hs (commitDeadline_due (m := s.m.fresh) ho hd hj)
  case passed => exact fun s hs h => exec_block rfl hs (if_pos h)
  case tick => exact fun s hs => exec_stores rfl hs rfl

/-! ## SENSOR_SAMPLE -/

/-- Settles O50: the function of the command takes the sample in the order of the statement. -/
theorem sensorCommands : Obligations.SensorCommands := by
  unfold Obligations.SensorCommands
  exact fun s readings hs => exec_block (f := fun m => thermSample m readings) rfl hs rfl

end Sys2Proof.Machine
end

section
/-!
Dictionary requests over IDP, over Passage and at the ports, and the times that run out (spec/03_object_dictionary.md R66-R97;
spec/11_passage_fabric.md R407).
-/
namespace Sys2Proof.Machine

open Sys2Proof

/-! ## What serving a request answers, by its operation (R68, R86) -/

theorem serveHere_read {f : Fuse} {m m' : Mach} {r : Req} {v : Rep} (key : Option (List Byte)) (hop : r.op = 1)
    (h : serveRead f m r = (v, m')) : serveHere f m r key = m'.answer r.org key v := by
  have hl : lacksSession r = false := by simp [lacksSession, hop]
  have e : serve f m r = (some v, m') := by simp [serve, hop, hl, h]
  simp only [serveHere, e, Mach.answer]

theorem serveHere_write {f : Fuse} {m m' : Mach} {r : Req} {v : Rep} (key : Option (List Byte)) (hop : r.op = 2)
    (hl : lacksSession r = false) (h : serveWrite f m r = (v, m')) : serveHere f m r key = m'.answer r.org key v := by
  have e : serve f m r = (some v, m') := by simp [serve, hop, hl, h]
  simp only [serveHere, e, Mach.answer]

theorem serveHere_subscribe {f : Fuse} {m m' : Mach} {r : Req} {v : Rep} {v6 : Bool} {a pt : Nat} {hdr : List Byte}
    (key : Option (List Byte)) (hop : r.op = 7) (ho : r.org = .udp v6 a pt hdr) (hl : lacksSession r = false)
    (h : serveSubscribe f m r = (v, m')) : serveHere f m r key = m'.answer r.org key v := by
  have e : serve f m r = (some v, m') := by simp [serve, hop, ho, hl, h]
  simp only [serveHere, e, Mach.answer]

/-! ## The operations of a client over IDP -/

theorem serveSubscribe_new {f : Fuse} {m : Mach} {r : Req} {e : DEntry} {t : SubTo} {n : Nat} (he : findEntry m r.ix r.sb = .entry e)
    (hg : gate m r (.entry e) false = none) (ht : e.ty ≠ .table) (hl : r.data.length = 6)
    (hlease : 1 ≤ fieldLE r.data 2 2 ∧ fieldLE r.data 2 2 ≤ 3600) (hv : (foundValue f m (.entry e)).1.length ≤ 1008)
    (hto : subTarget r = some t) (hs : subSlot m t r.ix r.sb = (none, some n)) :
    serveSubscribe f m r =
      (Rep.of DICT_OK, setSub m n (some ⟨t, r.ix, r.sb, fieldLE r.data 0 2, 0, (foundValue f m (.entry e)).1, 0⟩)) := by
  obtain ⟨h1, h2⟩ := hlease
  have h0 : ¬ fieldLE r.data 2 2 = 0 := by omega
  simp [serveSubscribe, he, hg, Found.entry?, ht, hl, Nat.not_lt.mpr h2, Nat.not_lt.mpr hv, hto, hs, h0]

theorem serveWrite_sessionClose {f : Fuse} {m : Mach} {r : Req} (hix : r.ix = 0x1101) (hsb : r.sb = 3)
    (hg : gate m r (findEntry m 0x1101 3) true = none) (hl : r.data.length = 2) (h0 : r.sess ≠ 0) (hn : fieldLE r.data 0 2 = r.sess) :
    serveWrite f m r = (Rep.of DICT_OK, sessDrop m r.sess) := by
  have hc : sessClose m r = (Rep.of DICT_OK, sessDrop m r.sess) := by simp [sessClose, hl, h0, hn]
  simp [serveWrite, serveValue, hix, hsb, hg, ← hc]
  rfl

theorem serveRead_challenge {f : Fuse} {m : Mach} {r : Req} (hix : r.ix = 0x1101) (hsb : r.sb = 1)
    (hg : gate m r (findEntry m 0x1101 1) false = none) : serveRead f m r = sessChallenge m := by
  simp [serveRead, hix, hsb, hg]

theorem serveRead_value {f : Fuse} {m : Mach} {r : Req} (hg : gate m r (findEntry m r.ix r.sb) false = none)
    (hne : ¬(r.ix = 0x1101 ∧ r.sb = 1)) (hv : (foundValue f m (findEntry m r.ix r.sb)).1.length ≤ r.max) :
    serveRead f m r =
      (⟨readCode m (findEntry m r.ix r.sb), (foundValue f m (findEntry m r.ix r.sb)).1⟩, (foundValue f m (findEntry m r.ix r.sb)).2) := by
  unfold serveRead
  dsimp only
  rw [hg]
  dsimp only
  rw [if_neg hne, if_neg (Nat.not_lt.mpr hv)]

/-! ## SESSION_OPEN (R88) -/

/-- The key of a session that a pre-shared key and the two nonces give. -/
def sessKey (psk dev cli : List Byte) : List Byte := Config.hmac256 psk ([0x49, 0x44, 0x50, 0x53] ++ dev ++ cli)

/-- The value a client writes to open a session: the slot of its key, the two nonces and the proof. -/
def openBytes (psk : List Byte) (k : Nat) (dev cli : List Byte) : List Byte :=
  toLE 1 k ++ [0, 0, 0] ++ dev ++ cli ++ slice (Config.hmac256 (sessKey psk dev cli) ([0x4F, 0x50, 0x45, 0x4E] ++ dev ++ cli)) 0 16

/-- A session with a key, opened after its nonce is used up. -/
def sessOpened (m : Mach) (k : Nat) (key : List Byte) : Mach :=
  let r := sessNumber m
  { r.2 with dic := { r.2.dic with sess := r.2.dic.sess ++ [⟨r.1, k, key, none, [], [], none⟩] } }

/-- The state without the nonce an attempt has named. -/
def nonceUsed (m : Mach) (dev : List Byte) : Mach := { m with dic := { m.dic with nonces := m.dic.nonces.filter (fun n => n.1 != dev) } }

theorem openBytes_parts {psk dev cli : List Byte} {k : Nat} (hk : k < 4) (hd : dev.length = 16) (hc : cli.length = 16) :
    (openBytes psk k dev cli).length = 52 ∧ fieldLE (openBytes psk k dev cli) 0 1 = k ∧ fieldLE (openBytes psk k dev cli) 1 3 = 0 ∧
    slice (openBytes psk k dev cli) 4 16 = dev ∧ slice (openBytes psk k dev cli) 20 16 = cli ∧
    slice (openBytes psk k dev cli) 36 16 = slice (Config.hmac256 (sessKey psk dev cli) ([0x4F, 0x50, 0x45, 0x4E] ++ dev ++ cli)) 0 16 := by
  unfold openBytes
  generalize hp : slice (Config.hmac256 (sessKey psk dev cli) ([0x4F, 0x50, 0x45, 0x4E] ++ dev ++ cli)) 0 16 = proof
  have hpl : proof.length = 16 := by rw [← hp, length_slice]
  have hlen1 : (toLE 1 k).length = 1 := toLE_length 1 k
  have hhead : toLE 1 k ++ [0, 0, 0] ++ dev ++ cli ++ proof = toLE 1 k ++ ([0, 0, 0] ++ (dev ++ cli ++ proof)) := by simp
  refine ⟨?_, ?_, ?_, ?_, ?_, ?_⟩
  · simp [toLE_length, hd, hc, hpl]
  · rw [hhead, (fieldLE_eq_fromLE_iff hlen1).mpr (slice_prefix _ _ _ hlen1.symm), fromLE_toLE]
    omega
  · rw [hhead, ← List.append_assoc, (fieldLE_eq_fromLE_iff (v := [0, 0, 0]) (n := 3) rfl).mpr (slice_middle _ _ _ _ _ hlen1.symm rfl)]
    rfl
  · rw [List.append_assoc (toLE 1 k ++ [0, 0, 0] ++ dev)]
    exact slice_middle _ _ _ _ _ (by simp [toLE_length]) hd.symm
  · exact slice_middle _ _ _ _ _ (by simp [toLE_length, hd]) hc.symm
  · exact slice_suffix _ _ _ _ (by simp [toLE_length, hd, hc]) hpl.symm

theorem sessOpen_right {m : Mach} {k : Nat} {dev cli : List Byte} (hk : k < 4) (hd : dev.length = 16) (hc : cli.length = 16)
    (hn : m.dic.nonces.any (fun n => n.1 == dev && decide (m.rtc < n.2 + 10)) = true) (hp : fromLE (pskOf m k) ≠ 0)
    (hl : m.dic.sess.length < 8) :
    sessOpen m (openBytes (pskOf m k) k dev cli) =
      (⟨DICT_OK, toLE 2 (sessNumber (nonceUsed m dev)).1⟩, sessOpened (nonceUsed m dev) k (sessKey (pskOf m k) dev cli)) := by
  obtain ⟨e0, e1, e2, e3, e4, e5⟩ := openBytes_parts (psk := pskOf m k) hk hd hc
  unfold sessOpen
  dsimp only
  rw [e0, e1, e2, e3, e4, e5]
  rw [if_neg (by simp), if_neg (by simp), if_neg, if_neg (Nat.not_le.mpr hl)]
  · rfl
  · rintro (h | h | h | h)
    · omega
    · rw [hn] at h; cases h
    · exact hp h
    · exact h rfl

@[simp] theorem dic_idpCount (m : Mach) (d : DKey) : (idpCount m d).dic = m.dic := by simp [idpCount]

@[simp] theorem rtc_idpCount (m : Mach) (d : DKey) : (idpCount m d).rtc = m.rtc := by
  unfold idpCount Mach.rtc
  rw [rd_hev _ _ _ _ _ _ (by decide), rd_hev _ _ _ _ _ _ (by decide)]
  rfl

/-- Counting a received datagram changes no pre-shared key. -/
theorem pskOf_idpRx (m : Mach) (k : Nat) : pskOf (idpCount m D.idp_rx) k = pskOf m k := by
  unfold pskOf
  apply dbytes_idpCount
  split <;> decide

theorem serveWrite_sessionOpen {f : Fuse} {m : Mach} {r : Req} (hix : r.ix = 0x1101) (hsb : r.sb = 2)
    (hg : gate m r (findEntry m 0x1101 2) true = none) : serveWrite f m r = sessOpen m r.data := by
  simp [serveWrite, serveValue, hix, hsb, hg]

theorem serveWrite_entry {f : Fuse} {m : Mach} {r : Req} {e : DEntry} (hix : r.ix ≠ 0x1101) (he : findEntry m r.ix r.sb = .entry e)
    (hg : gate m r (.entry e) true = none) :
    serveWrite f m r = (Rep.of (writeEntry f m r.p e r.data).1, (writeEntry f m r.p e r.data).2) := by
  simp [serveWrite, serveValue, he, hg, hix]

/-! ## A version-1 datagram (R96) -/

theorem idpV1_reads {f : Fuse} {m : Mach} {v6 : Bool} {a pt : Nat} {b : List Byte} (hr : idpRuns m v6 = true) (hv : fieldLE b 0 1 = 1)
    (hop : fieldLE b 1 1 = 1) (hlen : 12 ≤ b.length) (hn : b.length = 12 + fieldLE b 8 2) (h0 : fieldLE b 10 2 = 0)
    (hen : (idpCount m D.idp_rx).dv D.idp_v1_enable = 1) :
    dictCmd 100 anyEntry (.idp v6 a pt b) f m =
      serveHere f (idpCount m D.idp_rx) ⟨.net, 1, fieldLE b 4 2, fieldLE b 6 1, 0, [], false, 0, .udp v6 a pt (slice b 0 12), 1024⟩ none := by
  have hne : b.isEmpty = false := by
    cases b with
    | nil => simp at hlen
    | cons => rfl
  have hk : reqOp m 100 (.idp v6 a pt b) = 100 := by simp [reqOp, hne, hv]
  have hc : ¬((idpCount m D.idp_rx).dv D.idp_v1_enable ≠ 1 ∨ b.length < 12 ∨ b.length ≠ 12 + fieldLE b 8 2 ∨ fieldLE b 10 2 ≠ 0) := by
    omega
  have ha : idpArrive f m v6 a pt b = idpV1 f (idpCount m D.idp_rx) v6 a pt b := by
    simp only [idpArrive, hr, hne, hv, Bool.not_true, Bool.false_eq_true, if_false]
  unfold dictCmd
  dsimp only
  rw [hk, if_pos ⟨.inl rfl, rfl⟩, dictRequest, ha, idpV1, if_neg hc, if_neg (Classical.not_not.mpr hop)]

/-- Settles O26, clause by clause: which request the datagram is, and what serving it answers. -/
theorem dictionaryNetworkCommands : Obligations.DictionaryNetworkCommands := by
  unfold Obligations.DictionaryNetworkCommands
  refine ⟨?subscribe, ?close, ?challenge, ?opening, ?version1⟩
  case subscribe =>
    intro s v6 a pt hdr pay ss e n hs hh hr hss h0 hf hq he hg ht hl hlease hv hslot
    refine exec_dictionary (g := dictCmd 7 anyEntry _) rfl hs ?_
    rw [idp_session hh ⟨rfl, by decide, by decide⟩ rfl hr hss h0 hf hq]
    exact serveHere_subscribe (some ss.key) hh.opcode rfl (by simp [lacksSession, idpReq])
      (serveSubscribe_new he hg ht hl hlease hv rfl hslot)
  case close =>
    intro s v6 a pt hdr pay ss hs hh hr hss h0 hf hq hix hsb hg hl hn
    refine exec_dictionary (g := dictCmd 2 (fun e => e == (0x1101, 3)) _) rfl hs ?_
    rw [idp_session hh ⟨rfl, by decide, by decide⟩ (by simp [hix, hsb]) hr hss h0 hf hq]
    exact serveHere_write (some ss.key) hh.opcode (by simp [lacksSession, idpReq]) (serveWrite_sessionClose hix hsb hg hl h0 hn)
  case challenge =>
    intro s v6 a pt hdr hs hh hr h0 hix hsb hg
    refine exec_dictionary (g := dictCmd 1 (fun e => e == (0x1101, 1)) _) rfl hs ?_
    have e := idp_plain (f := s.fuse) (v6 := v6) (a := a) (pt := pt) (tk := fun e => e == (0x1101, 1)) hh ⟨rfl, by decide, by decide⟩
      (by simp [hix, hsb]) hr h0
    rw [List.append_nil] at e
    rw [e]
    exact serveHere_read none hh.opcode (serveRead_challenge hix hsb hg)
  case opening =>
    intro s v6 a pt hdr k dev cli hs hh hr h0 hix hsb hg hk hd hc hn hp hl
    refine exec_dictionary (g := dictCmd 2 (fun e => e == (0x1101, 2)) _) rfl hs ?_
    rw [idp_plain hh ⟨rfl, by decide, by decide⟩ (by simp [hix, hsb]) hr h0]
    have hopen := sessOpen_right (m := idpCount s.m.fresh D.idp_rx) hk hd hc (by simpa using hn) (by rwa [pskOf_idpRx]) (by simpa using hl)
    rw [pskOf_idpRx] at hopen
    have hw := serveWrite_sessionOpen (f := s.fuse) (r := idpReq v6 a pt hdr (openBytes (pskOf s.m.fresh k) k dev cli) false) hix hsb hg
    refine (serveHere_write none hh.opcode ?_ (hw.trans hopen)).trans ?_
    · simp [lacksSession, idpReq, hix, hsb, hh.opcode]
    · simp only [nonceUsed, dic_idpCount]
      rfl
  case version1 =>
    intro s v6 a pt b hs hr hv hop hlen hn h0 hen hg hne hval
    refine exec_dictionary (g := dictCmd 100 anyEntry _) rfl hs ?_
    rw [idpV1_reads hr hv hop hlen hn h0 hen]
    exact serveHere_read none rfl (serveRead_value hg hne hval)

/-! ## Times that run out (R82, R91, R92, R95) -/

/-- The state in which nobody waits for a tag. -/
def tagFree (m : Mach) (tag : Nat) : Mach := { m with dic := { m.dic with remote := m.dic.remote.filter (fun q => q.tag != tag) } }

theorem remoteTimeout_waiting {m : Mach} {tag : Nat} {r : Remote} (h : m.dic.remote.find? (fun r => r.tag == tag) = some r) :
    remoteTimeout m tag = (tagFree m tag).answer r.org (originKey m r.org) (Rep.of DICT_NODE_TIMEOUT) := by
  unfold remoteTimeout
  rw [h]
  rfl

/-! ## Over Passage (R94, R407) -/

theorem dictReq_served {f : Fuse} {m : Mach} {b : List Byte} (h0 : m.mode ≠ 0) (h3 : m.mode ≠ 3) (hl : 24 ≤ b.length)
    (hv : fieldLE b 8 1 = 2) :
    dictReq f m b = serveHere f m ⟨.net, fieldLE (slice b 8 16) 1 1, fieldLE (slice b 8 16) 6 2, fieldLE (slice b 8 16) 8 1,
      1024 * fieldLE (slice b 8 16) 14 2, slice b 24 (fieldLE b 18 2), bit (fieldLE b 0 1) 0, 0,
      .fabric (fieldLE b 4 2) (fieldLE b 6 2) (slice b 8 16), 1024⟩ none := by
  have hv' : fieldLE (slice b 8 16) 0 1 = 2 := by rw [fieldLE_slice _ _ _ _ _ (by decide)]; exact hv
  unfold dictReq
  dsimp only
  rw [if_neg (by omega), if_neg (Classical.not_not.mpr hv')]

theorem dictReply_waiting {m : Mach} {b : List Byte} {r : Remote} (h : m.dic.remote.find? (fun r => r.tag == fieldLE b 6 2) = some r)
    (ht : 64 ≤ fieldLE b 6 2) :
    dictReply m b = sendReply (tagFree m (fieldLE b 6 2)) r.org (originKey m r.org) (fieldLE b 12 2 % 4096)
      ⟨fieldLE b 17 1, slice b 24 (fieldLE b 18 2)⟩ 0 := by
  unfold dictReply
  dsimp only
  rw [h]
  dsimp only
  rw [if_neg (by omega)]
  rfl

theorem notifyRelay_remote {m : Mach} {b : List Byte} {q : Sub} {v6 : Bool} {a pt node : Nat}
    (h : m.dic.subs.getD (fieldLE b 0 2) none = some q) (ht : q.to_ = .remote v6 a pt node) :
    notifyRelay m b =
      (setSub m (fieldLE b 0 2) (some { q with count := q.count + 1 })).emit (.udp v6 a pt (notifyBytes q node (b.drop 2))) := by
  unfold notifyRelay
  dsimp only
  rw [h]
  dsimp only
  rw [ht]

/-! ## The internal ports (R66) -/

/-- A write at a port that passes its checks takes what writing its entry gives. -/
theorem portRequest_writes {f : Fuse} {m : Mach} {p : Principal} {ix sb : Nat} {data : List Byte} {e : DEntry}
    (hp : p = .bed ∨ (p = .fw ∧ m.sec.cores = true)) (hix : ix ≠ 0x1101) (he : findEntry m ix sb = .entry e)
    (hg : gate m ⟨p, 2, ix, sb, 0, data, true, 0, .port p, 2 ^ 24⟩ (.entry e) true = none) :
    portRequest f m 2 p ix sb 0 data = (writeEntry f m p e data).2.emit (.dict (writeEntry f m p e data).1 []) := by
  unfold portRequest
  rw [if_pos hp]
  exact serveHere_write none rfl (by simp [lacksSession]) (serveWrite_entry hix he hg)

/-- Settles O27, clause by clause from what each command's function does. -/
theorem dictionaryServiceCommands : Obligations.DictionaryServiceCommands := by
  unfold Obligations.DictionaryServiceCommands
  refine ⟨?idle, ?stageSession, ?stageSlot, ?lease, ?remote, ?request, ?reply, ?notify, ?spare⟩
  case idle => exact fun s num hs => exec_block rfl hs rfl
  case stageSession => exact fun s n hs => exec_block rfl hs rfl
  case stageSlot => exact fun s n hs => exec_block rfl hs rfl
  case lease => exact fun s n hs => exec_block rfl hs rfl
  case remote => exact fun s tag r hs h => exec_block rfl hs (remoteTimeout_waiting (m := s.m.fresh) h)
  case request =>
    intro s n p hs hn hu hw hl hm hc h0 h3 hlen hv
    refine exec_dictionary
      (g := fun f m => if (pktArrive m n true p).1 then dictReq f (pktArrive m n true p).2 p.data else (pktArrive m n true p).2)
      (by unfold exec; rfl) hs ?_
    rw [pktArrive_took s.m.fresh n p hn hu hw hl hm hc]
    exact dictReq_served (m := s.m.fresh.took n p) h0 h3 hlen hv
  case reply =>
    intro s n p r hs hn hu hw hl hm hc h ht
    refine exec_block rfl hs ?_
    rw [pktArrive_took s.m.fresh n p hn hu hw hl hm hc]
    exact dictReply_waiting (m := s.m.fresh.took n p) h ht
  case notify =>
    intro s n p q v6 a pt node hs hn hu hw hl hm hc h ht
    refine exec_block rfl hs ?_
    rw [pktArrive_took s.m.fresh n p hn hu hw hl hm hc]
    exact notifyRelay_remote (m := s.m.fresh.took n p) h ht
  case spare =>
    intro s p kind unit e hs hp he hg hw
    refine exec_dictionary (g := fun f m => portRequest f m 2 p 0xB020 1 0 (toLE 2 (kind % 256 * 256 + unit % 256)))
      (by unfold exec; rfl) hs ?_
    rw [← hw]
    exact portRequest_writes (m := s.m.fresh) hp (by decide) he hg

end Sys2Proof.Machine
end

section
/-!
The Passage fabric: neighbours, the election, coordinates, links and time (spec/11_passage_fabric.md R389-R420).
-/
namespace Sys2Proof.Machine

open Sys2Proof

/-! ## Neighbours and the election -/

/-- The state after a HELLO of the right port, before what it says of the leader is heard. -/
def neighbourNoted (m : Mach) (n : Nat) (b : List Byte) : Mach :=
  let m := linkMod ((m.wr R.PASS.LINK_STATUS.MISWIRED 0 n).wr R.PASS.LINK_STATUS.NEIGHBOUR (fieldLE b 18 2 % 4096) n) n
    (fun l => { l with hello := true })
  { m with fab := { m.fab with epochMax := Nat.max m.fab.epochMax (fieldLE b 22 2) } }

theorem hello_rightPort {m : Mach} {n : Nat} {p : Packet} (hn : n < 4) (hu : linkUp m n = true) (hl : p.lseq = (linkRec m n).rxSeq)
    (hp : fieldLE p.data 16 1 = (n + 2) % 4) (hst : fieldLE p.data 17 1 < 3) :
    hello m n true p = heardLeader (neighbourNoted (m.took n p) n p.data) (hDie p.data 24) false := by
  have hled : (fieldLE p.data 17 1 == FS_ASSIGNING || fieldLE p.data 17 1 == FS_JOINED) = false := by
    simp [FS_ASSIGNING, FS_JOINED]
    omega
  have hw : (fieldLE p.data 16 1 != (n + 2) % 4) = false := by simp [hp]
  unfold hello
  rw [pktLocal_took m n p hn hu hl]
  dsimp only
  rw [hled, hw]
  rfl

theorem hello_wrongPort {m : Mach} {n : Nat} {p : Packet} (hn : n < 4) (hu : linkUp m n = true) (hl : p.lseq = (linkRec m n).rxSeq)
    (hp : fieldLE p.data 16 1 ≠ (n + 2) % 4) (hm : m.flag R.PASS.LINK_STATUS.MISWIRED n = false) :
    hello m n true p = passCode ((m.took n p).wr R.PASS.LINK_STATUS.MISWIRED 1 n) LINK_MISWIRED := by
  have hw : (fieldLE p.data 16 1 != (n + 2) % 4) = true := by simp [hp]
  have hm' : (m.took n p).flag R.PASS.LINK_STATUS.MISWIRED n = false := hm
  unfold hello
  rw [pktLocal_took m n p hn hu hl]
  dsimp only
  rw [hw, hm']
  rfl

/-- While the node elects, a lower candidate takes the place of the one it holds and is passed on. -/
theorem heardLeader_lower {m : Mach} {c d : Nat} {led : Bool} (hs : fabState m = FS_ELECTING) (hc : m.fab.cand = some c) (h0 : d ≠ 0)
    (hd : d < c) : heardLeader m d led = sendElect { m with fab := { m.fab with cand := some d } } := by
  unfold heardLeader takeCand
  dsimp only
  rw [if_pos hs, if_neg h0, hc]
  dsimp only
  rw [if_pos (decide_eq_true hd)]

theorem dict_setLeaderNum (m : Mach) (d : Nat) : (setLeaderNum m d).dict = m.dict := each_keep _ _ m (fun x => x.dict) (by simp)

theorem dict_leaderTakes (m : Mach) (c : Nat) : (leaderTakes m c).dict = m.dict := by
  unfold leaderTakes passCode
  split
  · rfl
  · simp [dict_setLeaderNum]

theorem dbytes_of_dict {a b : Mach} (h : a.dict = b.dict) (d : DKey) : a.dbytes d = b.dbytes d := by simp only [Mach.dbytes, h]

/-- The node's number is of its dictionary: neither a new leader nor a register changes it. -/
theorem dieNum_leaderTakes (m : Mach) (c v : Nat) (r : Row) : dieNum ((leaderTakes m c).wr r v) = dieNum m :=
  congrArg fromLE (dbytes_of_dict ((Mach.wr_dict ..).trans (dict_leaderTakes m c)) D.die_id)

theorem electionSettled_elsewhere {m : Mach} {c : Nat} (hc : m.fab.cand = some c) (hs : fabState m = FS_ELECTING) (hd : c ≠ dieNum m) :
    electionSettled m =
      timeEval { ((leaderTakes m c).wr R.PASS.STATUS.STATE FS_ASSIGNING) with
        fab := { ((leaderTakes m c).wr R.PASS.STATUS.STATE FS_ASSIGNING).fab with rel := none } } := by
  have hd' : c ≠ dieNum ((leaderTakes m c).wr R.PASS.STATUS.STATE FS_ASSIGNING) := by rwa [dieNum_leaderTakes]
  unfold electionSettled
  rw [hc]
  dsimp only
  rw [if_neg (Classical.not_not.mpr hs)]
  generalize (leaderTakes m c).wr R.PASS.STATUS.STATE FS_ASSIGNING = x at hd' ⊢
  rw [if_neg hd']

/-! ## Coordinates -/

/-- The leader with a node's report in place of the one before. -/
def reported (m : Mach) (b : List Byte) : Mach :=
  { m with fab := { m.fab with reports :=
      (hDie b 0, fieldLES b 16 1, fieldLES b 17 1, fieldLE b 18 2) :: m.fab.reports.filter (fun q => q.1 != hDie b 0) } }

theorem coordReport_leader {m : Mach} {n : Nat} {p : Packet} (hn : n < 4) (hu : linkUp m n = true) (hl : p.lseq = (linkRec m n).rxSeq)
    (hw : m.flag R.PASS.LINK_STATUS.MISWIRED n = false) (hlead : m.flag R.PASS.STATUS.IS_LEADER = true) :
    coordReport m n true p = timeEval (assignOffset (reported (m.took n p) p.data)) := by
  have hw' : (m.took n p).flag R.PASS.LINK_STATUS.MISWIRED n = false := hw
  have hlead' : (m.took n p).flag R.PASS.STATUS.IS_LEADER = true := hlead
  unfold coordReport
  rw [pktLocal_took m n p hn hu hl]
  dsimp only
  rw [if_neg (by simp [hw']), if_pos hlead']
  rfl

theorem coordReport_onward {m : Mach} {n : Nat} {p : Packet} (hn : n < 4) (hu : linkUp m n = true) (hl : p.lseq = (linkRec m n).rxSeq)
    (hw : m.flag R.PASS.LINK_STATUS.MISWIRED n = false) (hlead : m.flag R.PASS.STATUS.IS_LEADER = false) (hh : 1 < p.hops) :
    coordReport m n true p = routeReport (m.took n p) { p with hops := p.hops - 1 } := by
  have hw' : (m.took n p).flag R.PASS.LINK_STATUS.MISWIRED n = false := hw
  have hlead' : (m.took n p).flag R.PASS.STATUS.IS_LEADER = false := hlead
  unfold coordReport
  rw [pktLocal_took m n p hn hu hl]
  dsimp only
  rw [if_neg (by simp [hw']), if_neg (by simp [hlead']), if_neg (Nat.not_le.mpr hh)]

/-- A multicast packet reaches a node without an address: it is for it, and goes no further as it arrives. -/
theorem pktArrive_unplaced {m : Mach} {n : Nat} {p : Packet} (hn : n < 4) (hu : linkUp m n = true)
    (hw : m.flag R.PASS.LINK_STATUS.MISWIRED n = false) (hl : p.lseq = (linkRec m n).rxSeq) (hc : p.mcast = true)
    (ha : fabAddr m = none) (hh : 1 < p.hops) : pktArrive m n true p = (true, m.took n p) := by
  have ha' : fabAddr (m.took n p) = none := ha
  have hm : forMe (m.took n p) p = true := by unfold forMe; rw [ha']
  have hon : mcastOn (m.took n p) { p with hops := p.hops - 1 } = m.took n p := by unfold mcastOn; rw [ha']
  unfold pktArrive
  rw [if_neg (by simp [hu, hw]; omega), if_neg (by simp [hl])]
  change (forMe (m.took n p) p, if p.mcast || !forMe (m.took n p) p then _ else m.took n p) = _
  rw [if_pos (by rw [hc]; rfl), if_neg (Nat.not_le.mpr hh), if_pos hc, hm]
  exact congrArg _ hon

theorem coordOffset_placed {m : Mach} {n : Nat} {p : Packet} {u v : Int} (hn : n < 4) (hu : linkUp m n = true)
    (hw : m.flag R.PASS.LINK_STATUS.MISWIRED n = false) (hl : p.lseq = (linkRec m n).rxSeq) (hc : p.mcast = true)
    (ha : fabAddr m = none) (hlead : m.flag R.PASS.STATUS.IS_LEADER = false) (hrel : m.fab.rel = some (u, v)) (hh : 1 < p.hops) :
    coordOffset m n true p = timeEval (mcastOn (takeAddress (m.took n p) (u + fieldLES p.data 0 1) (v + fieldLES p.data 1 1)
      ((fieldLES p.data 1 1).toNat * 64 + (fieldLES p.data 0 1).toNat) (fieldLE p.data 2 1) (fieldLE p.data 3 1) (fieldLE p.data 4 8)
      (fieldLE p.data 12 2)) { p with hops := p.hops - 1 }) := by
  have hlead' : (m.took n p).flag R.PASS.STATUS.IS_LEADER = false := hlead
  have hrel' : (m.took n p).fab.rel = some (u, v) := hrel
  unfold coordOffset
  rw [pktArrive_unplaced hn hu hw hl hc ha hh, ha]
  dsimp only
  rw [if_neg (by simp [hlead']), hrel']
  dsimp only
  rw [if_neg (by simp; omega)]

/-! ## Links -/

theorem linkState_leader {m : Mach} {n : Nat} {p : Packet} (hn : n < 4) (hu : linkUp m n = true)
    (hw : m.flag R.PASS.LINK_STATUS.MISWIRED n = false) (hl : p.lseq = (linkRec m n).rxSeq) (hm : forMe m p = true)
    (hc : p.mcast = false) (hlead : m.flag R.PASS.STATUS.IS_LEADER = true) :
    linkState m n true p =
      { (m.took n p) with fab := { (m.took n p).fab with
          map := SMap.put 0 m.fab.map (fieldLE p.data 0 2 % 4096) (fieldLE p.data 2 1), mapDirty := true } } := by
  have hlead' : (m.took n p).flag R.PASS.STATUS.IS_LEADER = true := hlead
  unfold linkState
  rw [pktArrive_took m n p hn hu hw hl hm hc]
  dsimp only
  rw [hc, if_neg (by simp), if_neg (by simp), if_pos hlead']
  rfl

/-- What an acknowledgement up to a packet leaves to be acknowledged. -/
def acked (m : Mach) (n next : Nat) : Mach :=
  linkMod m n (fun l => { l with unacked := (linkRec m n).unacked.dropWhile (fun p => p.lseq != next) })

/-- A link with the credits a partner returns, within their bounds. -/
def credited (credits : List Nat) (l : PLink) : PLink :=
  { l with credits := (List.range 6).map (fun i => Nat.min (l.credits.getD i 0 + credits.getD i 0) (fullCredits.getD i 0)) }

theorem linkAck_next {m : Mach} {n next : Nat} {credits : List Nat} (hn : n < 4) (hu : linkUp m n = true)
    (hx : next = (linkRec m n).txSeq) :
    linkAck m n true next false credits = linkFlush (linkMod (acked m n next) n (credited credits)) n := by
  unfold linkAck
  rw [if_neg (by simp [hu]; omega)]
  dsimp only
  rw [if_pos (decide_eq_true (.inl hx)), if_neg (by simp)]
  rfl

/-! ## Time and the merge of fabrics -/

/-- A time unit as a node outside a joined fabric passes it on: noted, with its link's delay and a free residence. -/
def timePassed (m : Mach) (n seq hops stamp adv : Nat) : Mach :=
  let t := stamp + (linkRec (advance m adv) n).delay
  let r := (unitNote (advance m adv) n seq hops t).draw (2 ^ 32)
  timeOn r.2 (r.2.rd R.PASS.LEADER.TIME_ADDR) seq (hops + 1) (t + r.1)

theorem timeUnit_outside {m : Mach} {n seq hops stamp adv : Nat} (hn : n < 4) (hu : linkUsable m n = true)
    (hs : fabState (timePassed m n seq hops stamp adv) ≠ FS_JOINED) :
    timeUnit m n true seq hops stamp adv = timePassed m n seq hops stamp adv := by
  unfold timeUnit
  rw [if_neg (by simp [hu]; omega)]
  exact if_neg (fun h => hs h.1)

theorem fabricMerge_under {m : Mach} {c : Nat} (h : m.fab.merge = some c) (hc : leaderNum m ≤ c) :
    fabricMerge m = timeEval ((passCode { m with fab := { m.fab with merge := none } } FABRIC_MERGED).ev E.PASS.MERGED) := by
  unfold fabricMerge
  rw [h]
  dsimp only
  rw [if_neg (Nat.not_lt.mpr hc)]

/-- Settles O28, clause by clause from what each command's function does. -/
theorem fabricCommands : Obligations.FabricCommands := by
  unfold Obligations.FabricCommands
  refine ⟨?helloRight, ?helloWrong, ?helloSend, ?helloTimeout, ?elect, ?settled, ?lost, ?reportLeader, ?reportOn, ?offset, ?linkState,
    ?linkMap, ?ack, ?resend, ?lengthTimeout, ?mask, ?timeUnit, ?timeSend, ?delay, ?merge⟩
  case helloRight =>
    exact fun s n p hs hn hu hl hp hst => exec_block rfl hs (hello_rightPort (m := s.m.fresh) hn hu hl hp hst)
  case helloWrong =>
    exact fun s n p hs hn hu hl hp hm => exec_block rfl hs (hello_wrongPort (m := s.m.fresh) hn hu hl hp hm)
  case helloSend => exact fun s hs => exec_block rfl hs rfl
  case helloTimeout => exact fun s n hs => exec_block rfl hs rfl
  case elect =>
    intro s n p c hs hn hu hl hw hst hc h0 hd
    refine exec_block rfl hs ?_
    rw [pktLocal_took s.m.fresh n p hn hu hl]
    refine (if_neg ?_).trans (heardLeader_lower (d := hDie p.data 0) hst hc h0 hd)
    have hw' : (s.m.fresh.took n p).flag R.PASS.LINK_STATUS.MISWIRED n = false := hw
    simp [hw']
  case settled =>
    exact fun s c hs hc hst hd => exec_block rfl hs (electionSettled_elsewhere (m := s.m.fresh) hc hst hd)
  case lost =>
    intro s hs hst hlead
    refine exec_block rfl hs (if_pos ⟨.inl hst, ?_⟩)
    have hlead' : s.m.fresh.flag R.PASS.STATUS.IS_LEADER = false := hlead
    simp [hlead']
  case reportLeader =>
    exact fun s n p hs hn hu hl hw hlead => exec_block rfl hs (coordReport_leader (m := s.m.fresh) hn hu hl hw hlead)
  case reportOn =>
    exact fun s n p hs hn hu hl hw hlead hh => exec_block rfl hs (coordReport_onward (m := s.m.fresh) hn hu hl hw hlead hh)
  case offset =>
    exact fun s n p u v hs hn hu hw hl hc ha hlead hrel hh =>
      exec_block rfl hs (coordOffset_placed (m := s.m.fresh) hn hu hw hl hc ha hlead hrel hh)
  case linkState =>
    exact fun s n p hs hn hu hw hl hm hc hlead => exec_block rfl hs (linkState_leader (m := s.m.fresh) hn hu hw hl hm hc hlead)
  case linkMap => exact fun s hs hlead hd => exec_block rfl hs (if_pos ⟨hlead, hd⟩)
  case ack => exact fun s n next credits hs hn hu hx => exec_block rfl hs (linkAck_next (m := s.m.fresh) hn hu hx)
  case resend => exact fun s n hs hn hu => exec_block rfl hs (if_pos ⟨hn, hu⟩)
  case lengthTimeout => exact fun s n hs hn hu => exec_block rfl hs (if_pos ⟨hn, hu⟩)
  case mask => exact fun s n mask hs => exec_block rfl hs rfl
  case timeUnit =>
    exact fun s n seq hops stamp adv hs hn hu hst => exec_block rfl hs (timeUnit_outside (m := s.m.fresh) hn hu hst)
  case timeSend =>
    intro s adv a hs ha hsrc
    refine exec_block rfl hs ?_
    have ha' : fabAddr s.m.fresh = some a := ha
    rw [ha']
    exact if_pos hsrc
  case delay => exact fun s n round residence hs hn hu => exec_block rfl hs (if_pos ⟨hn, hu⟩)
  case merge => exact fun s c hs h hc => exec_block rfl hs (fabricMerge_under (m := s.m.fresh) h hc)

end Sys2Proof.Machine
end
